-- ==== Sys2Proof/Word.lean ====
section
/-!
DEFINITION. Word.lean: the word types of the ZD-2048 and the one shape in which its arrays are held.
-/

namespace Sys2Proof

/-- A byte of the retained store. -/
abbrev Byte := BitVec 8
/-- A half word: one direct register of the host bus (Table 07-7). -/
abbrev Half := BitVec 16
/-- A parameter word, a signal, a counter (R14, Table 05-3). -/
abbrev Word := BitVec 32
/-- A 64-bit value: easel time, a canvas entry. -/
abbrev DWord := BitVec 64

/-- An array of the device, held sparsely: index and value pairs, indices strictly rising, and no entry equal to what
an unlisted index reads as (see tblGet, tblSet, tblWf in Machine/Ops.lean). -/
abbrev Tbl (α : Type) := List (Nat × α)

/-- The byte array of the retained store as Host.Cell pairs (R911): a Tbl of bytes. -/
abbrev Memory := List (Nat × BitVec 8)

end Sys2Proof
end

