-- ==== Sys2Proof/Syntax.lean ====
section
/-!
DEFINITION. Syntax.lean: the commands of the block (spec/opcode_table.json) and the types of their operands.
-/

namespace Sys2Proof

/-- The power domains, in the bit order of SYS.DOM_AVAIL (Table 01-5). -/
inductive Domain where
  | g | k | c | s | l | m | a | b | z | n | h | x
  deriving DecidableEq, Repr

/-- Bit of a domain in SYS.DOM_AVAIL. -/
def Domain.bit : Domain → Nat
  | .g => 0
  | .k => 1
  | .c => 2
  | .s => 3
  | .l => 4
  | .m => 5
  | .a => 6
  | .b => 7
  | .z => 8
  | .n => 9
  | .h => 10
  | .x => 11

/-- What the guards of the lockstep pair find (Table 03-7): a mismatch of the pair, an uncorrectable SRAM error, a failed ROM
CRC. -/
inductive CoreFault where
  | mismatch | sram | rom
  deriving DecidableEq, Repr

/-- What the end of a Proof step has measured (R1069-R1078): the balls of SND0-SND3 with the driver off (mV), the currents of the 32
relay drivers (uA), energised or at the end of their pulse; which gate balls read back high in their pulse and low after it (6 x
channel + output), the nDFLT pins that are high and the channels that left IDLE during their test; the items that STORE tested and
those that failed with their values; what LINE found by front end. -/
structure ProofMeas where
  snd : List Nat
  rly : List Nat
  gateHigh : BitVec 144
  gateLow : BitVec 144
  nDflt : BitVec 24
  leftIdle : BitVec 24
  tested : Nat
  fails : List (Nat × Half)
  noise : List (Nat × List Word)
  deriving DecidableEq, Repr

/-- The early and late levels of successive teeth, in codes of ZCP.DET_THR (60 dBuV + 0.5 dB x code; R496, Table 09-12). -/
abbrev TeethLevels := List (Int × Int)

/-- How the copies of a zero-crossing frame were combined (R61, R511-R513). -/
inductive Combine where
  | x1 | x4 | x6
  deriving DecidableEq, Repr

/-- What a scan measures at a ball: its voltage, its clamp current in uA, and for FAN_PWM whether it was driven low in its
current limit, and whether it was released throughout a PWM high interval with duty above 0 while below 0.4 V. -/
structure BallScan where
  mv : Int
  clampUa : Nat
  lowLimit : Bool
  releasedLow : Bool
  deriving DecidableEq, Repr

/-- What a STATUS record of the mirror link states of its sender (R1005): role code, tier, status words, outputs on (sounders
0-3, relay drivers 16-31), last frame replayed, self-declared fault, IN_STEP and TLOCK, the CRC and GENERATION of its running
image and the CRC of a staged image that has passed, the result of a forwarded acknowledge, whether a forwarded chunk is
written, a switchover it has triggered (cause, FORCE), a divergence it has found since its last STATUS (frame, item, blame;
R1017, log 123), and its pair time in minor ticks with its slot cycle counts. -/
structure MirrorStatus where
  role : Nat
  tier : Nat
  alarm : Half
  trouble : Half
  outs : BitVec 20
  fault : Bool
  inStep : Bool
  tlock : Bool
  imgCrc : Word
  gen : Word
  staged : Option Word
  ack : BitVec 2
  chunk : Bool
  trig : Option (Nat × Bool)
  div : Option (Nat × Nat × Nat)
  pairTicks : Nat
  cyc : List Nat
  deriving DecidableEq, Repr

/-- What a FORWARD record carries (R1039-R1042): a committed Glaze set (address, value, group) and the decision of a group
(0 landed, else its refusal reason); a decided service request; a chunk; an acknowledge operation with its token. -/
inductive Forward where
  | glaze (set : List (Nat × Word × Nat))
  | decision (group reason : Nat)
  | service (kind : Nat) (ret : Bool) (index : Nat) (tag : Byte) (ans reason : Nat)
  | chunk (sector : Nat) (data : List Word)
  | ack (op : Byte) (token : Byte)
  deriving DecidableEq, Repr

/-- An item of a state transfer (R1020): a parameter, a Pentimento sample, a client record word, a counter of region C, a
signal, a slot's histories and pending output (value, OUT signal), a generator, the state and duty of a drive or fan
channel, the run state, a queued command, a client's route, a tone map (up or down), a hub frame in P1 or P2 of a track. -/
inductive StateItem where
  | param (addr : Nat) (v : Word)
  | sample (addr : Nat) (v : Int)
  | client (id word : Nat) (v : Word)
  | counter (i : Nat) (v : Word)
  | signal (g : Nat) (v : Word)
  | slot (n : Nat) (x1 x2 x3 y1 y2 y3 : Int) (pend : Option (Int × Nat))
  | gen (g : Nat) (p v a : Int)
  | drive (m st : Nat) (duty : Int)
  | fan (f st : Nat) (duty : Int)
  | run (code : Nat)
  | command (id : Nat) (seq : Byte) (code : Nat) (zc : Bool) (cls : Nat) (args : List Word) (sends : Nat)
  | route (id : Nat) (hops : List Nat)
  | toneMap (id : Nat) (down : Bool) (rate : Nat) (codes : List Nat)
  | hubFrame (track : Nat) (p1 : Bool) (typ : BitVec 3) (addr : BitVec 11) (st : BitVec 3)
  deriving DecidableEq, Repr

/-- The commands of the block: one for each row of spec/opcode_table.json, in its order, first those with operands (the compiler
limits the number of a constructor with fields). -/
inductive Instr where
  /-- DOMAIN_SELF_CHECK_DONE (R300): A domain's self-check finishes after its supply is applied, and the domain becomes available if the check passed. -/
  | domainSelfCheckDone (d : Domain) (pass : Bool)
  /-- GESSO_POR (R84): At a power-on reset of domain G, Gesso latches the first valid copy of its record. -/
  | gessoPor (mside p8 x32 : Bool)
  /-- GESSO_SENTINEL_SAMPLE (R51): Gesso samples each enabled sentinel, classifies it into a band and times its dwells. -/
  | gessoSentinelSample (n : Fin 16) (mv : Nat)
  /-- GESSO_ALARM_DWELL_EXPIRY (R55): A sentinel whose samples have stayed in the ALARM band for ADW latches a trip. -/
  | gessoAlarmDwellExpiry (n : Fin 16)
  /-- GESSO_TROUBLE_DWELL_EXPIRY (R56): A sentinel whose samples have stayed in the SHORT or OPEN band for TDW is declared in trouble. -/
  | gessoTroubleDwellExpiry (n : Fin 16)
  /-- GESSO_TROUBLE_CLEAR (R57): A sentinel whose samples have stayed in the NORMAL or ALARM band for TDW has its trouble cleared. -/
  | gessoTroubleClear (n : Fin 16)
  /-- GESSO_ZC_FRAME (R59): Gesso takes an alarm-type zero-crossing frame and accepts it or drops it. -/
  | gessoZcFrame (fe : Fin 3) (slot : Nat) (lv : List (Int × Int))
  /-- GESSO_FIRST_FRAME_EXPIRY (R65): A first frame not confirmed within 6.0 s expires and is counted. -/
  | gessoFirstFrameExpiry (a : Fin 2048)
  /-- HEARTBEAT_ANSWER (R161): The safety core writes the answer to Gesso's challenge, together with its disagreement bit. -/
  | heartbeatAnswer (err : Byte)
  /-- GESSO_SILENCE (R77): SILENCE(mask) silences Gesso's sounder pattern for the trips that are latched. -/
  | gessoSilence (mask : BitVec 19)
  /-- GESSO_RESET (R80): RESET(mask) clears the latched trips that can be cleared. -/
  | gessoReset (mask : BitVec 19)
  /-- GESSO_CHIRP (R905): CHIRP(k) sounds one trouble or Proof chirp on sounder k, or is discarded. -/
  | gessoChirp (k : Fin 4) (proof : Bool)
  /-- GESSO_RECORD_CRC_CHECK (R114): The periodic CRC-32 check of the latched record runs, and a mismatch triggers an automatic RELATCH. -/
  | gessoRecordCrcCheck (mismatch : Bool)
  /-- LOCKSTEP_MISMATCH (R124): A lockstep comparison fails, and both processors halt and restart from ROM. -/
  | lockstepMismatch (fault : CoreFault)
  /-- SAFETY_CORE_RESTART_DONE (R187): The safety core resumes service with the latched alarm set kept in domain K. -/
  | safetyCoreRestartDone (setOk : Bool)
  /-- MONITOR_SAMPLE (R131): The safety core samples its own sentinel monitor. -/
  | monitorSample (n : Fin 16) (mv : Nat)
  /-- SC_SENTINEL_ALARM_LATCH (R132): The monitor's alarm dwell completes and the safety core latches a sentinel alarm. -/
  | scSentinelAlarmLatch (n : Fin 16)
  /-- CRITERION_DWELL_EXPIRY (R141): A detection criterion's dwell or window completes and the criterion becomes true. -/
  | criterionDwellExpiry (j : Fin 256)
  /-- ARB_TIMEOUT (R148): An arbiter result that is missing after ARB_TMO confirms the criterion without plausibility and raises ARB trouble. -/
  | arbTimeout (j : Fin 256)
  /-- MAJOR_FRAME_BOUNDARY (R196): A major-frame boundary occurs every 128 minor ticks. -/
  | majorFrameBoundary (units : Nat) (noise : List (Nat × List Word)) (fbErr : BitVec 20)
  /-- X40_STOP (R1204): The 40.000 MHz crystal stops and the easel counter moves to the 32.768 kHz crystal or to the RC oscillator. -/
  | x40Stop (sub : Nat)
  /-- X40_RESTART (R202): The 40.000 MHz crystal becomes valid again and counting returns to it. -/
  | x40Restart (cycles : Nat)
  /-- DISCIPLINE_COUNT (R205): A window of 32,768 cycles closes and the trim moves toward the deviation measured. -/
  | disciplineCount (n : Nat)
  /-- CALENDAR_SECOND (R206): A calendar second boundary occurs, lengthened or shortened by the trim. -/
  | calendarSecond (cycles : Nat)
  /-- CAL_SET (R209): The host writes TIME.CAL_SET, and the value is held for the next second boundary. -/
  | calSet (v : Word)
  /-- COMPARATOR_EDGE (R217): A track comparator changes level, and an edge that fails the hold is counted as a glitch. -/
  | comparatorEdge (t : Fin 3) (level : Bool) (at_ : Nat)
  /-- TOOTH_CANDIDATE (R212): A comparator level held for 200 µs becomes a tooth candidate. -/
  | toothCandidate (t : Fin 3) (at_ : Nat)
  /-- TOOTH_SYNTHESIS (R218): With no candidate accepted by p + W, the tooth is synthesised at p. -/
  | toothSynthesis (t : Fin 3) (rising : Bool) (at_ : Nat)
  /-- TOOTH_ANCHORED_EVENT (R225): An event anchored to a tooth happens at p plus its offset. -/
  | toothAnchoredEvent (t : Fin 3) (h : Fin 64) (lv : List (Int × Int)) (backE backL : Int)
  /-- COPY (R267): The COPY stroke sets OUT to IN. -/
  | copy (i : Nat)
  /-- SCALE (R267): The SCALE stroke computes a saturated scaled value. -/
  | scale (i : Nat)
  /-- LIMIT (R267): The LIMIT stroke clamps IN between lo and hi. -/
  | limit (i : Nat)
  /-- COMPARE (R267): The COMPARE stroke compares IN with a threshold, with hysteresis. -/
  | compare (i : Nat)
  /-- LOGIC (R267): The LOGIC stroke evaluates an 8-input truth table. -/
  | logic (i : Nat)
  /-- TIMER (R267): The TIMER stroke applies on and off delays counted in runs of the entry. -/
  | timer (i : Nat)
  /-- LOWPASS (R267): The LOWPASS stroke applies a first-order shift filter. -/
  | lowpass (i : Nat)
  /-- MEDIAN (R884): The MEDIAN stroke writes the median of the valid inputs and their count. -/
  | median (i : Nat)
  /-- TABLE8 (R267): The TABLE8 stroke interpolates linearly in an 8-point table. -/
  | table8 (i : Nat)
  /-- SCHED (R267): The SCHED stroke outputs a value from a weekday-minute schedule. -/
  | sched (i : Nat)
  /-- CLIENT_IN (R267): The CLIENT_IN stroke copies a client record's report fields into signals. -/
  | clientIn (i : Nat)
  /-- CLIENT_OUT (R641): The CLIENT_OUT stroke sets the client's command value for the line. -/
  | clientOut (i : Nat)
  /-- FAN_SUP (R863): The FAN_SUP stroke runs a fan channel's target shaping, supervisor and speed loop. -/
  | fanSup (i : Nat)
  /-- DRV_SUP (R823): The DRV_SUP stroke judges a drive channel's command and decides its state transition. -/
  | drvSup (i : Nat)
  /-- RELAY (R891): The RELAY stroke energises or de-energises relay driver 16–31 from the next tick. -/
  | relay (i : Nat)
  /-- HOSTPUB (R408): The HOSTPUB stroke writes a host publication slot. -/
  | hostpub (i : Nat)
  /-- LOG (R1093): The LOG stroke queues a fault log entry with code 0x400 plus its event code. -/
  | log (i : Nat)
  /-- DIGEST (R1007): The DIGEST stroke assembles the SUMMARY record of the previous frame. -/
  | digest (i : Nat)
  /-- CMP2 (R737): The CMP2 stroke evaluates a two-pole two-zero compensator slot. -/
  | cmp2 (i : Nat) (done : Nat)
  /-- CMP3 (R738): The CMP3 stroke evaluates a three-pole three-zero compensator slot. -/
  | cmp3 (i : Nat) (done : Nat)
  /-- PROF (R757): The PROF stroke runs one step of a profile generator. -/
  | prof (i : Nat)
  /-- PENT (R760): The PENT stroke computes its index, writes its correction and may learn. -/
  | pent (i : Nat)
  /-- CONV_START (R670): The CONV_START stroke requests a single conversion or a stream at the next tick. -/
  | convStart (i : Nat)
  /-- CONV_READ (R678): The CONV_READ stroke returns the latest visible result of a channel and its tag. -/
  | convRead (i : Nat)
  /-- CONV_ARB (R714): The CONV_ARB stroke requests a scheduled arbiter re-sample. -/
  | convArb (i : Nat)
  /-- OPENWIRE (R702): The OPENWIRE stroke requests an open-wire test conversion. -/
  | openwire (i : Nat)
  /-- PWM (R790): The PWM stroke sets a drive channel's duty from the next tick. -/
  | pwm (i : Nat)
  /-- SIXSTEP (R798): The SIXSTEP stroke runs six-step commutation on a drive channel. -/
  | sixstep (i : Nat)
  /-- DTC (R816): The DTC stroke sets the torque reference and writes the estimated torque. -/
  | dtc (i : Nat)
  /-- SHUNT (R796): The SHUNT stroke writes the latest phase current codes. -/
  | shunt (i : Nat)
  /-- CMDIN (R820): The CMDIN stroke writes the normalised CMDIN command. -/
  | cmdin (i : Nat) (mv high period : Nat) (edges level : Bool)
  /-- FAN_PWM (R862): The FAN_PWM stroke sets a fan channel's duty directly. -/
  | fanPwm (i : Nat)
  /-- TACH (R859): The TACH stroke writes a fan channel's measured speed. -/
  | tach (i : Nat)
  /-- BB_BEACON (R559): The BB_BEACON stroke assembles the beacon of the period two frames later. -/
  | bbBeacon (i : Nat)
  /-- BB_SLOT (R561): The BB_SLOT stroke reserves contention-free positions for a client's uplink. -/
  | bbSlot (i : Nat)
  /-- BB_RX (R565): The BB_RX stroke moves a client's latest report into its record. -/
  | bbRx (i : Nat)
  /-- BB_TX (R562): The BB_TX stroke reserves downlink positions for a client's queued command. -/
  | bbTx (i : Nat)
  /-- ZC_TX (R508): The ZC_TX stroke queues a client's frame for the next P2 window. -/
  | zcTx (i : Nat)
  /-- ZC_RX (R267): The ZC_RX stroke moves the non-alarm frames received on a track into client records. -/
  | zcRx (i : Nat)
  /-- ST_CNT (R932): The ST_CNT stroke adds to a region C counter, with saturation. -/
  | stCnt (i : Nat)
  /-- ST_LOGQ (R267): The ST_LOGQ stroke writes one queued fault log entry to region D. -/
  | stLogq (i : Nat)
  /-- STROKE_OVERRUN (R279): At the end of the committed window, an unfinished stroke overruns and is held or abandoned. -/
  | strokeOverrun (i : Nat)
  /-- LANE_FAULT (R284): A lane that misses its handshake in two consecutive ticks is faulted. -/
  | laneFault (lane : Fin 8)
  /-- VCORE_VANA_LOSS (R307): VCORE or VANA falls invalid with VMAIN valid, making the domains it feeds unavailable. -/
  | vcoreVanaLoss (core ana : Bool)
  /-- VHOLD_THRESHOLD (R925): VHOLD crosses its charged threshold, changing HOLD_LOW and write-through. -/
  | vholdThreshold (charged : Bool) (mv : Half)
  /-- POWER_STATE_CHOICE (R314): The power manager enters the deepest state that fits within its horizon. -/
  | powerStateChoice (rtc : Option Nat) (at_ : Nat)
  /-- SCHEDULED_EXIT (R315): A scheduled exit from a low-power state starts at the event time less the exit max. -/
  | scheduledExit (at_ : Nat)
  /-- UNSCHEDULED_EXIT (R316): An unscheduled event that needs a removed domain starts an exit. -/
  | unscheduledExit (at_ : Nat)
  /-- SLEEP_REQ_WRITE (R317): A SLEEP_REQ write sets CEIL at the next tick, or is refused with a reason. -/
  | sleepReqWrite (ceil : BitVec 3)
  /-- WAKE_CAUSE_LATCH (R321): A wake cause occurring in SLEEP or VIGIL latches into WAKE_CAUSE. -/
  | wakeCauseLatch (c : Fin 7)
  /-- NRST_ASSERT (R335): nRST is asserted for at least 2 µs and holds every domain except G and K in reset. -/
  | nrstAssert (ns : Nat)
  /-- TIER2_FIRST_BEACON (R364): Tier 2 is reached and the first beacon is sent at an even frame boundary. -/
  | tier2FirstBeacon (back : List Int)
  /-- UNMAPPED_OFFSET_ACCESS (R373): An access at offset 0x30–0x3F reads 0 or has no effect, and is counted. -/
  | unmappedOffsetAccess (write : Bool) (off : Fin 16) (v : Half)
  /-- REGISTER_WRITE (R8): A write to a direct register that has no row of its own acts by its access code. -/
  | registerWrite (off : Fin 48) (v : Half)
  /-- PADDR_WRITE (R382): A write of PADDR sets the parameter address and discards any low half held. -/
  | paddrWrite (v : Half)
  /-- PDATA_LO_WRITE (R380): A write of PDATA_LO holds the low half of a parameter value. -/
  | pdataLoWrite (v : Half)
  /-- PDATA_HI_WRITE (R380): A write of PDATA_HI checks key and range, and writes, stages or refuses the parameter. -/
  | pdataHiWrite (v : Half) (ok : Bool)
  /-- KEY_IN_WRITE (R391): A KEY_IN write starts or continues a key presentation. -/
  | keyInWrite (v : Half)
  /-- KEY_EXPIRY (R394): An accepted key expires 60 s after acceptance. -/
  | keyExpiry (k : Fin 16)
  /-- KEY_LOCK_EXPIRY (R395): A key lock ends when its duration has elapsed. -/
  | keyLockExpiry (k : Fin 16)
  /-- CLIENT_SEL_WRITE (R403): A CLIENT_SEL write that changes the ID clears READY. -/
  | clientSelWrite (v : Half)
  /-- CLIENT_DATA_HI_WRITE (R406): A write pair changes a command word in the window or clears TRACK_CHG. -/
  | clientDataHiWrite (v : Half)
  /-- OP_COMPLETE (R412): A long operation leaves RUNNING as DONE or FAILED. -/
  | opComplete (bad : Bool)
  /-- RESULT_TAIL_WRITE (R415): The host advances RESULT.TAIL, and a stalled outbound operation resumes. -/
  | resultTailWrite (v : BitVec 10)
  /-- HOST_HB_WRITE (R425): A changed HOST_HB value is a host beat. -/
  | hostHbWrite (v : Half)
  /-- GLAZE_PERSIST (R459): The region B record of a landed group becomes durable and PERSIST is set. -/
  | glazePersist (g : Fin 8)
  /-- SVC_REQ_WRITE (R460): A SYS.SVC_REQ write queues a service request or refuses it as FULL. -/
  | svcReqWrite (kind : BitVec 3) (ret : Bool) (index : BitVec 11) (tag : Byte)
  /-- REPEATER_PROBE_PERIOD (R471): One beacon period of repeater probing passes or fails. -/
  | repeaterProbePeriod (lq : Option Byte)
  /-- ZC_FRAME_RECEIVED (R502): The safety core receiver accepts or drops a zero-crossing frame. -/
  | zcFrameReceived (t : Fin 3) (slot : Nat) (lv : List TeethLevels)
  /-- ZC_SLOT_COMBINE (R510): At the end of a slot, the ×6 and ×4 combining hypotheses are tested. -/
  | zcSlotCombine (t : Fin 3) (slot : Nat)
  /-- NOISE_FLOOR_MEASURE (R517): The noise floor is measured on the silent tooth h14. -/
  | noiseFloorMeasure (t : Fin 3) (core gesso : Nat)
  /-- HUB_FRAME_AGED (R522): A hub frame queued longer than TX_AGE is discarded and counted. -/
  | hubFrameAged (t : Fin 3)
  /-- ZC_TX_RETRY (R536): Every 64 slots, a front end with TX_FAULT is retried with a slot mark. -/
  | zcTxRetry (t : Fin 3) (backE backL : Int)
  /-- BEACON_BOUNDARY (R594): A beacon period begins: mask, routes, quarantine and positions are settled and the beacon is sent. -/
  | beaconBoundary (back : List Int) (silentRpt : List Nat)
  /-- REPEATER_WITHDRAWN (R586): A repeater silent for 4 periods is withdrawn and its routes are replaced. -/
  | repeaterWithdrawn (id : Fin 2048)
  /-- BB_TX_RETRY (R602): Every 64th beacon, a front end with TX_FAULT is retried. -/
  | bbTxRetry (t : Fin 3) (back : Int)
  /-- BB_NOISY (R603): NOISY is set or cleared from the 64-period mean of quiet-region noise. -/
  | bbNoisy (t : Fin 3) (level : Byte)
  /-- BB_FRAME_RECEIVED (R569): A broadband frame is decoded and accepted or dropped. -/
  | bbFrameReceived (win p : Nat) (d : Int) (ok : Bool) (bytes : List Byte) (est : List (List Nat)) (lqDn : Byte)
  /-- CLIENT_DROP (R621): A client silent for ADMIT.DROP periods loses its admission. -/
  | clientDrop (id : Fin 2048)
  /-- SUPERV_LOST (R648): With no zero-crossing frame from a client for ZSUP_TMO, SUPERV_LOST is set. -/
  | supervLost (id : Fin 2048)
  /-- CONVERSION_BEGIN (R670): A requested conversion begins on its modulator at the tick boundary. -/
  | conversionBegin (m : Fin 16)
  /-- CONV_RESULT_DELIVERY (R677): A conversion result is delivered to the queue, to LAST and to the safety core. -/
  | convResultDelivery (m : Fin 16) (v : Int) (ref : Nat) (ovl : Option Bool)
  /-- REFERENCE_CHECK (R690): The reference monitor checks the selected reference. -/
  | referenceCheck (m : Fin 16) (good : Bool)
  /-- OPENWIRE_TEST_RESULT (R704): An open-wire test conversion ends and sets or clears OW. -/
  | openwireTestResult (m : Fin 16) (v : Int) (ref : Nat) (ovl : Option Bool)
  /-- STREAM_RESTART (R707): A continuous stream stopped by a test restarts from rest. -/
  | streamRestart (m : Fin 16)
  /-- ARBITER_RESULT (R719): An arbiter result is delivered and checked against TOL and PLAUS. -/
  | arbiterResult (v : Int) (ref : Nat) (ovl : Option Bool)
  /-- DELAY1_OUTPUT (R747): A pending DELAY1 output is written at the start of the slot's next due tick. -/
  | delay1Output (n : Fin 512)
  /-- PENT_TAB_DATA_WRITE (R770): A write of TAB_DATA sets a table sample at the next tick and advances TAB_ADDR. -/
  | pentTabDataWrite (v : Word)
  /-- PENT_WAIT_CLEAR (R766): After L changes of index, WAIT clears and learning resumes. -/
  | pentWaitClear (i : Fin 32)
  /-- PWM_PERIOD_BOUNDARY (R792): At a PWM period boundary, the shunts are held and the sample set is formed. -/
  | pwmPeriodBoundary (m : Fin 24) (k : Nat) (u v w : Int)
  /-- BEMF_SAMPLE (R800): The floating-phase comparator is sampled at P/2. -/
  | bemfSample (m : Fin 24) (k : Nat) (lv : BitVec 3)
  /-- COMMUTATION (R803): The scheduled commutation advances the sector. -/
  | commutation (m : Fin 24)
  /-- BLIND_COMMUTATION (R804): With no crossing by 1.5 × t60, the device commutates blind and counts a miss. -/
  | blindCommutation (m : Fin 24)
  /-- HALL_EDGE (R805): A filtered Hall edge sets the sector and commutates. -/
  | hallEdge (m : Fin 24) (code : BitVec 3) (hold : Nat)
  /-- NDFLT_ASSERT (R847): nDFLTm low for 200 ns turns the channel's gates off and raises DRV_FAULT. -/
  | ndfltAssert (m : Fin 24)
  /-- SPEED_TIMEOUT (R807): With no speed measurement for 250 ms, SPEED reads 0. -/
  | speedTimeout (m : Fin 24)
  /-- CMDIN_STATIC_TIMEOUT (R822): With no CMDIN edge for the static time, the static level applies. -/
  | cmdinStaticTimeout (m : Fin 24) (level : Bool)
  /-- CMDIN_AUTO_DETECT (R821): In AUTO mode, the CMDIN class is detected or replaced after 500 ms. -/
  | cmdinAutoDetect (m : Fin 24) (period : Nat)
  /-- CATCH_END (R831): After 48 ms of catch-spin, the channel takes the action of Table 14-6. -/
  | catchEnd (m : Fin 24)
  /-- BRAKE_EXIT (R833): With no current crossing for the 5 % interval, BRAKE ends as for a motor at rest. -/
  | brakeExit (m : Fin 24)
  /-- BRAKE_TIMEOUT (R834): Four seconds in BRAKE raise REVERSE_HELD and go to HELD. -/
  | brakeTimeout (m : Fin 24)
  /-- ALIGN_END (R824): T_ALIGN expires and the channel goes to RAMP. -/
  | alignEnd (m : Fin 24)
  /-- RAMP_HANDOVER (R839): At F_END with N_VALID valid crossings, the channel enters RUN with handover duty. -/
  | rampHandover (m : Fin 24)
  /-- RAMP_TIMEOUT (R836): T_RAMP + T_HOLD expires and the attempt fails. -/
  | rampTimeout (m : Fin 24)
  /-- KICK_PULSE_END (R835): T_PULSE expires and the channel listens. -/
  | kickPulseEnd (m : Fin 24)
  /-- KICK_LISTEN_END (R836): T_LISTEN expires, giving the next pulse or a failed attempt. -/
  | kickListenEnd (m : Fin 24)
  /-- PAUSE_END (R836): The retry pause ends and the channel goes to CATCH. -/
  | pauseEnd (m : Fin 24)
  /-- RETRY_RESET (R838): After 10 s of RUN, the retry count returns to 0. -/
  | retryReset (m : Fin 24)
  /-- HELD_EXIT (R840): A HELD channel returns to IDLE on a release condition. -/
  | heldExit (m : Fin 24) (nDflt : Bool)
  /-- TACH_EDGE (R858): A qualified falling tach edge is accepted and timed. -/
  | tachEdge (f : Fin 48)
  /-- FAN_START_TIMEOUT (R872): T_START elapses with no tach edge, the attempt fails and the line test runs. -/
  | fanStartTimeout (f : Fin 48)
  /-- FAN_STALL_TIMEOUT (R873): No tach edge for T_STALL in RUN sends the channel to TEST. -/
  | fanStallTimeout (f : Fin 48)
  /-- TACH_LINE_TEST_PHASE (R874): A 1 ms phase of the tach line test ends and the line is sampled. -/
  | tachLineTestPhase (f : Fin 48) (mv : Nat)
  /-- FAN_WAIT_END (R876): After T_RETRY in WAIT, the channel restarts or becomes BLOCKED. -/
  | fanWaitEnd (f : Fin 48)
  /-- FAN_ATTEMPT_RESET (R878): After 60 s of RUN, the attempt count returns to 0. -/
  | fanAttemptReset (f : Fin 48)
  /-- FAN_BLOCKED_EXIT (R879): A BLOCKED channel goes to IDLE on zero target, a run-state change or a host clear. -/
  | fanBlockedExit (f : Fin 48)
  /-- LOAD_FLAG_SET (R897): A load flag condition held for its time sets the flag. -/
  | loadFlagSet (n : Fin 36) (flag : Fin 4) (i : Byte)
  /-- LOAD_FLAG_CLEAR (R897): A load flag clears after its condition has been absent for 1 s. -/
  | loadFlagClear (n : Fin 36) (flag : Fin 4) (i : Byte)
  /-- PROOF_CHIRP_MEASURE (R896): The sounder current is measured 80 ms into a PROOF chirp. -/
  | proofChirpMeasure (k : Fin 4) (ua : Nat)
  /-- MSYNC_I_RISE (R1046): A side B chip restarts its ALARM cycle on a qualifying MSYNC_I edge. -/
  | msyncIRise (lowFor : Nat)
  /-- DCTL_PROGRAM (R922): STORE.DCTL with OP = 1 programs DBUF into a page. -/
  | dctlProgram (page : BitVec 13) (reg : BitVec 2) (ok : Bool)
  /-- DCTL_SHADOW_PROGRAM (R924): STORE.DCTL with OP = 2 copies DBUF into the shadow host rows. -/
  | dctlShadowProgram (page : BitVec 13) (reg : BitVec 2) (ok : Bool)
  /-- DCTL_ERASE (R923): STORE.DCTL with OP = 3 performs a journalled sector erase. -/
  | dctlErase (page : BitVec 13) (reg : BitVec 2)
  /-- DBUF_WRITE (R1209): A write of a STORE.DBUF word takes effect at the write. -/
  | dbufWrite (i : Fin 16) (v : Word)
  /-- REFRESH_SCAN_START (R955): A margin-read refresh scan starts from Proof or after 8 days. -/
  | refreshScanStart (found : List (Nat × Fin 3))
  /-- SECTOR_REFRESH (R953): A weak sector is copied, erased, reprogrammed and verified. -/
  | sectorRefresh (sec : Fin 128)
  /-- STORE_RESTART_REBUILD (R984): At restart, the shadow is rebuilt and the latest dump is replayed. -/
  | storeRestartRebuild (found : List (Nat × Fin 3))
  /-- TORN_SECTOR_REPAIR (R981): A torn sector is erased and recovered by its cause. -/
  | tornSectorRepair (sec : Fin 128)
  /-- INPUT_RECORD (R1006): The standby receives a tick's INPUT record. -/
  | inputRecord (k : Nat) (ws : List Word)
  /-- SUMMARY_RECORD (R1007): The standby receives a frame's SUMMARY record. -/
  | summaryRecord (f : Nat) (digest : Word) (state : List Word) (err : Bool)
  /-- FORWARD_RECORD (R1039): The standby receives a forwarded Glaze set, service request, chunk or acknowledge. -/
  | forwardRecord (x : Forward)
  /-- STATE_RECORD (R1020): The standby receives state-transfer data. -/
  | stateRecord (x : StateItem)
  /-- STATUS_RECORD (R1005): A chip receives the partner's STATUS record. -/
  | statusRecord (m : MirrorStatus)
  /-- RECORD_RESEND (R1003): An unacknowledged record is resent after 20 µs. -/
  | recordResend (seq : Byte)
  /-- MIRROR_HEARTBEAT_LOSS (R1023): The standby finds no record for 256 ticks and takes over or sets LINK_LOSS. -/
  | mirrorHeartbeatLoss (nmactP : Bool)
  /-- MIRROR_SWITCH (R1025): MIRROR_CTL.SWITCH requests a switchover. -/
  | mirrorSwitch (force : Bool)
  /-- TLOCK_SET (R999): Alignment within ±1 µs for 16 frames sets TLOCK. -/
  | tlockSet (phase pull : Int)
  /-- TLOCK_CLEAR (R999): An alignment error above ±5 µs clears TLOCK. -/
  | tlockClear (phase pull : Int)
  /-- SIDE_CONFLICT_RESOLVE (R1052): Two primaries resolve at the next odd boundary by serial number. -/
  | sideConflictResolve (higher nmactP : Bool)
  /-- MIRROR_ROLE_DECISION (R996): At Canvas start, a chip becomes primary or standby by side and nMACT_P. -/
  | mirrorRoleDecision (nmactP : Bool)
  /-- SENTINEL_INJECTION (R1065): The test source pulls an eligible sentinel into ALARM for one sample. -/
  | sentinelInjection (n : Fin 16) (mv : Nat)
  /-- INJECTED_FRAME (R1067): An injected ALARM TEST frame is fed to both receivers. -/
  | injectedFrame (t : Fin 3) (second : Bool)
  /-- HEAD_TIMEOUT (R1080): A head without an answer by HEAD_TMO is marked NO_ANSWER. -/
  | headTimeout (id : Fin 2048)
  /-- PROOF_STEP_END (R1084): A Proof step ends and its results and failed items are recorded. -/
  | proofStepEnd (m : ProofMeas)
  /-- LEGACY_BAD_ADDRESS (R1111): A legacy access with A[6] = 1 reads 0 and sets BUS_ERR. -/
  | legacyBadAddress (write : Bool) (off : Fin 32) (b : Byte)
  /-- LEGACY_LO_WRITE (R1112): A legacy LO or LPD0–LPD2 write stores a byte in the shared write latch. -/
  | legacyLoWrite (off : Fin 32) (b : Byte)
  /-- LEGACY_HI_WRITE (R1113): A legacy HI or LPD3 write combines its byte with the write latch and takes effect. -/
  | legacyHiWrite (off : Fin 32) (b : Byte)
  /-- LEGACY_QUEUE_FULL_WAIT (R1123): A legacy write finding the queue full is held by nWAIT until room appears. -/
  | legacyQueueFullWait (fanSpd : Bool) (b : Byte)
  /-- LEGACY_LO_READ (R1115): A legacy LO or LPD0 read fetches the value and fills the read latch. -/
  | legacyLoRead (off : Fin 32)
  /-- LEGACY_HI_READ (R1116): A legacy HI or LPD1–LPD3 read returns a byte of the read latch. -/
  | legacyHiRead (off : Fin 32)
  /-- LFAN_SPD_WRITE (R1128): An LFAN_SPD write sets a truncated legacy fan target. -/
  | lfanSpdWrite (b : Byte)
  /-- LACK_WRITE (R1125): LACK writes form the two-write acknowledge, which acts as ACK_KEY. -/
  | lackWrite (b : Byte)
  /-- LCL_CMD (R1131): LCL_CMD submits a command to client LCLIENT. -/
  | lclCmd (b : Byte)
  /-- RING_SCAN (R1146): The field ring scans every enabled ball against the fault conditions. -/
  | ringScan (scan : List (Nat × BallScan)) (vana vf : Nat) (tj : Half)
  /-- BALL_STATE_SET (R1147): A condition present for 100 ms sets the ball's state. -/
  | ballStateSet (b : Fin 444) (c : Fin 8)
  /-- BALL_STATE_CLEAR (R1147): A condition absent for 1 s returns the ball to OK. -/
  | ballStateClear (b : Fin 444) (c : Fin 8)
  /-- REVERSE_PROBE (R1151): The ring probes an OPEN sentinel in the reverse direction. -/
  | reverseProbe (n : Fin 16) (mv : Nat)
  /-- VCORE_VANA_RETURN (R303): VCORE or VANA rises to valid after being invalid, giving a power-on reset of the domains it feeds and starting their self-checks. -/
  | vcoreVanaReturn (core ana : Bool)
  /-- VFIELD_VALID_CHANGE (R1179): VFIELD rises to valid or falls to invalid, changing Tier 2 availability and the ring's OVERV threshold. -/
  | vfieldValidChange (ok : Bool) (mv : Half)
  /-- CHIRP_END (R893): The 40 ms TROUBLE chirp or 100 ms PROOF chirp of a sounder ends and the sounder turns off. -/
  | chirpEnd (k : Fin 4)
  /-- RCL_REGISTER_READ (R8): A read of a direct register with RCL fields (PCTL.ERR_CNT, BUSRDY_STAT.HELD, MIRROR_STAT.SWO and DIV) returns the field and clears it. -/
  | rclRegisterRead (off : Fin 48)
  /-- EMERGENCY_SET_CHANGE (R27): At the first major-frame boundary after an alarm is qualified, the Canvas changes to its emergency set and the dispositions are applied. -/
  | emergencySetChange
  /-- COMFORT_SET_RETURN (R29): After the alarms are reset, the Canvas returns to its comfort set and its loops return bumplessly. -/
  | comfortSetReturn
  /-- CANVAS_RUN_IN_END (R258): At the first major-frame boundary at Tier 2, the Canvas leaves run-in for the comfort or the emergency state. -/
  | canvasRunInEnd
  /-- GESSO_ARMED (R117): Gesso becomes armed once its record is latched, and sentinel sampling begins. -/
  | gessoArmed
  /-- GESSO_ZC_DECODE_LIVE (R118): After burst detector calibration, zero-crossing alarm decoding by Gesso becomes live. -/
  | gessoZcDecodeLive
  /-- SC_FAULT_LATCH (R96): After two consecutive challenges unanswered or answered wrongly, Gesso latches SC_FAULT. -/
  | scFaultLatch
  /-- SC_FAULT_CLEAR (R98): After 64 consecutive correct answers, Gesso clears SC_FAULT. -/
  | scFaultClear
  /-- SC_FIRST_ANSWER_TIMEOUT (R164): With no correct answer within 200 ms after the safety core leaves reset, Gesso latches SC_FAULT. -/
  | scFirstAnswerTimeout
  /-- GESSO_RELATCH (R86): A host RELATCH request under the GESSO key relatches the record from region A, or is refused. -/
  | gessoRelatch
  /-- GESSO_RELATCH_DONE (R90): The RELATCH ends, Gesso is armed again and its dwell counters and confirmation records start empty. -/
  | gessoRelatchDone
  /-- GESSO_TROUBLE_CHIRP (R116): Below Tier 1, Gesso sounds the trouble chirp every 60 s while trouble is present. -/
  | gessoTroubleChirp
  /-- SAFE_RECORD_RELOAD (R129): After a RELATCH, the safety core reads the record again and uses it from the next boundary. -/
  | safeRecordReload
  /-- REGION_A_CHECK (R130): Once a second, the safety core checks region A and sets or clears REC_PEND. -/
  | regionACheck
  /-- SNAPSHOT_COMPARE (R93): The safety core reads Gesso's snapshot and compares it with its own view. -/
  | snapshotCompare
  /-- SAFETY_TROUBLE_CHIRP (R169): The safety core sends CHIRP to the trouble sounders while unacknowledged trouble is present. -/
  | safetyTroubleChirp
  /-- ACK_SILENCE (R174): ACK_KEY SILENCE silences every latched alarm on both sides. -/
  | ackSilence
  /-- ACK_RESET (R175): ACK_KEY RESET resets the alarms on both sides that can be cleared and releases the path latches. -/
  | ackReset
  /-- ACK_TROUBLE_ACK (R179): ACK_KEY TROUBLE_ACK marks present trouble acknowledged and ends event causes. -/
  | ackTroubleAck
  /-- MINOR_TICK (R195): A minor tick boundary occurs every 5,000 crystal cycles. -/
  | minorTick
  /-- HYPERFRAME_BOUNDARY (R196): A hyperframe boundary occurs every 64 major frames. -/
  | hyperframeBoundary
  /-- X32_STOP (R1214): The 32.768 kHz crystal stops, X32_OK clears and the calendar freezes. -/
  | x32Stop
  /-- X32_RUN_RESUME (R1214): The 32.768 kHz crystal runs again and the calendar resumes from its frozen value. -/
  | x32RunResume
  /-- X32_OK_RETURN (R49): After 1 s of uninterrupted running, X32_OK returns to 1 and Gesso goes back to the crystal. -/
  | x32OkReturn
  /-- EASEL_LO_READ (R246): A read of TIME.EASEL_LO latches EASEL_HI from the same instant. -/
  | easelLoRead
  /-- VERIFICATION_DONE (R270): Verification of a staged image completes with a pass or a rejection code. -/
  | verificationDone
  /-- CANVAS_SWAP (R272): At an eligible hyperframe boundary, the staged image replaces the running one. -/
  | canvasSwap
  /-- CANVAS_START (R294): After a restart, the Canvas starts in run-in at the major-frame boundary at 400 ms. -/
  | canvasStart
  /-- VMAIN_VALID (R357): VMAIN rises to valid, and the first-second sequence begins from its origin. -/
  | vmainValid
  /-- POWER_FAIL_WARNING (R939): VMAIN stays below PFW for 20 µs, and the shadow flush begins. -/
  | powerFailWarning
  /-- FLUSH_COMPLETE (R329): The shadow flush completes, domains K and N are removed, and the device enters VIGIL or OFF. -/
  | flushComplete
  /-- PFW_RECOVERED (R332): VMAIN returns before brown-out, and the device stays in its state with DIPS advanced. -/
  | pfwRecovered
  /-- BROWN_OUT (R1216): VMAIN falls below brown-out, domains are removed and outputs go to their safe states. -/
  | brownOut
  /-- VBAT_ABSENT (R311): VBAT falls below its absent threshold. -/
  | vbatAbsent
  /-- VBAT_RETURN (R311): VBAT rises above its power-on threshold and is present again. -/
  | vbatReturn
  /-- VBAT_LOW (R1225): VBAT falls below VBAT_LOW, which sets the VBAT_LOW trouble. -/
  | vbatLow
  /-- WAKE_SEQUENCE_END (R1217): The wake sequence ends, CEIL is set to NAP and IRQ WAKE is set. -/
  | wakeSequenceEnd
  /-- WAKE_CAUSE_READ (R348): A read of WAKE_CAUSE returns the causes and clears them. -/
  | wakeCauseRead
  /-- NRST_RELEASE (R362): nRST is released and the restart runs. -/
  | nrstRelease
  /-- NRST_MASK (R338): After 8.0 s of held nRST, the pin is masked and the restart runs. -/
  | nrstMask
  /-- NRST_UNMASK (R342): After nRST has been released for 100 ms, the pin is unmasked. -/
  | nrstUnmask
  /-- BUSRDY (R359): The host interface becomes ready and the held accesses complete. -/
  | busrdy
  /-- BUS_ACCESS_DISCARD (R374): An access with nRD and nWR low together is discarded. -/
  | busAccessDiscard
  /-- NWAIT_TIMEOUT (R372): nWAIT would exceed its bound, so it is released with the read returning 0 or the write discarded. -/
  | nwaitTimeout
  /-- TICK_NOW_READ (R376): A read of TICK_NOW latches FRAME_NOW, HYPER_LO and HYPER_HI. -/
  | tickNowRead
  /-- EVT_DATA_LO_READ (R377): A read of EVT_DATA_LO latches EVT_DATA_HI. -/
  | evtDataLoRead
  /-- OPRES0_READ (R378): A read of OPRES0 latches OPRES1–OPRES3 and clears OPSTAT.PART. -/
  | opres0Read
  /-- STAT_READ (R438): A read of STAT clears BUS_ERR and WAIT_TMO. -/
  | statRead
  /-- PDATA_LO_READ (R379): A read of PDATA_LO fetches the parameter and latches its high half. -/
  | pdataLoRead
  /-- PDATA_HI_READ (R383): A read of PDATA_HI returns the latched half and advances PADDR under AINC. -/
  | pdataHiRead
  /-- IMMEDIATE_PARAM_APPLY (R389): An immediate parameter write takes effect at the next minor tick boundary. -/
  | immediateParamApply
  /-- KEY_CHECK (R393): A complete presentation is checked at the next tick and reported in KEY_STAT. -/
  | keyCheck
  /-- CLIENT_SNAP (R401): CLIENT_CTL.SNAP requests a copy of the selected client record and clears READY. -/
  | clientSnap
  /-- CLIENT_SNAP_COMPLETE (R402): The record copy into the window completes and READY is set. -/
  | clientSnapComplete
  /-- CLIENT_DATA_LO_READ (R404): A read of CLIENT_DATA_LO returns the low half and latches the high half. -/
  | clientDataLoRead
  /-- CLIENT_DATA_HI_READ (R405): A read of CLIENT_DATA_HI returns the latched half and advances the word under AINC. -/
  | clientDataHiRead
  /-- CLIENT_CMD_GO (R407): CMD_GO submits the window's command words to the client and posts the answer. -/
  | clientCmdGo
  /-- STORE_WRITE (R967): The STORE_WRITE long operation programs pages from RESULT.RING. -/
  | storeWrite
  /-- STORE_ERASE (R969): The STORE_ERASE long operation erases a host sector. -/
  | storeErase
  /-- STORE_READ (R971): The STORE_READ long operation writes page records into the ring. -/
  | storeRead
  /-- CANVAS_CHUNK (R970): The CANVAS_CHUNK long operation writes one image chunk into the free slot. -/
  | canvasChunk
  /-- CANVAS_VERIFY (R421): The CANVAS_VERIFY long operation verifies the staged image. -/
  | canvasVerify
  /-- LINE_SURVEY (R592): The LINE_SURVEY long operation listens and writes noise and link records. -/
  | lineSurvey
  /-- PROOF_RUN (R1062): The PROOF_RUN long operation runs the selected Proof steps. -/
  | proofRun
  /-- LOG_EXPORT (R1096): The LOG_EXPORT long operation writes fault log entries into the ring. -/
  | logExport
  /-- CLIENT_QUERY (R662): The CLIENT_QUERY long operation writes summary or record records. -/
  | clientQuery
  /-- KEY_SET (R962): The KEY_SET long operation sets the key of the last accepted presentation. -/
  | keySet
  /-- ABORT (R413): ABORT ends the running operation at the next major-frame boundary. -/
  | abort
  /-- OP_FIRST_WORK (R409): An accepted operation does its first work at the next major-frame boundary. -/
  | opFirstWork
  /-- HOST_SILENCE_DECLARED (R426): With HOST_TMO elapsed since the last beat, the host is declared silent. -/
  | hostSilenceDeclared
  /-- HOST_SILENCE_END (R427): Silence ends at the first major-frame boundary after a beat. -/
  | hostSilenceEnd
  /-- GLAZE_COMMIT (R446): GLAZE_CTL.COMMIT seals the set at the next tick. -/
  | glazeCommit
  /-- GLAZE_DISCARD (R445): GLAZE_CTL.DISCARD empties the set, or withdraws the groups not yet landed. -/
  | glazeDiscard
  /-- GLAZE_APPLY (R447): In the apply window, groups of the sealed set land or are refused. -/
  | glazeApply
  /-- MASK_CHANGE (R549): A landed mask or guard change takes effect at the eighth beacon boundary. -/
  | maskChange
  /-- ROUTE_UPDATE_EFFECT (R568): An announced route change takes effect at the second beacon boundary. -/
  | routeUpdateEffect
  /-- ADMISSION_PHASE_END (R617): After 64 beacon periods, the admission phase ends. -/
  | admissionPhaseEnd
  /-- ADMIT_FORGET (R623): ADMIT.FORGET clears the admission and identity fields of an ID. -/
  | admitForget
  /-- CLIENT_RECORD_UPDATE (R610): At the next tick after an accepted frame, the client's record is updated. -/
  | clientRecordUpdate
  /-- COMMAND_AGED (R634): A queued C2 or C3 command past its age limit is refused AGED. -/
  | commandAged
  /-- ARBITER_RESAMPLE_BEGIN (R714): The arbiter begins a waiting re-sample when it is idle. -/
  | arbiterResampleBegin
  /-- CONV_Q_LO_READ (R700): A read of CONV.Q_LO returns the low word of the entry at Q_TAIL and latches its high word. -/
  | convQLoRead
  /-- CONV_Q_HI_READ (R700): A read of CONV.Q_HI returns the high word and advances Q_TAIL. -/
  | convQHiRead
  /-- PENT_TAB_DATA_READ (R771): A read of TAB_DATA returns a table sample and advances TAB_ADDR. -/
  | pentTabDataRead
  /-- ALARM_PATTERN_INTERVAL (R893): An interval of the temporal-three ALARM pattern ends. -/
  | alarmPatternInterval
  /-- CNT_CLR (R987): STORE.CNT_CLR clears a counter at the next tick. -/
  | cntClr
  /-- SHADOW_WRITEBACK (R933): A queued log entry, parameter record or host page is written back to the array. -/
  | shadowWriteback
  /-- CHECKPOINT (R936): Every CKPT.HOURS the counter image is written to a checkpoint copy. -/
  | checkpoint
  /-- DUMP_CONSUMED (R942): A consumed dump is cleared and its area erased. -/
  | dumpConsumed
  /-- REFRESH_SCAN_DONE (R956): The refresh scan completes. -/
  | refreshScanDone
  /-- MIRROR_LANE_FAIL (R1004): A link lane fails and the direction runs on the other lane. -/
  | mirrorLaneFail
  /-- FRAME_REPLAY (R1009): The standby replays a canvas frame from its digest. -/
  | frameReplay
  /-- DIGEST_COMPARE (R1013): The standby compares its O(f) and state with the SUMMARY. -/
  | digestCompare
  /-- SUMMARY_TIMEOUT (R1014): A SUMMARY not arrived by the end of pair frame f + 2 is a divergence. -/
  | summaryTimeout
  /-- STATE_TRANSFER_START (R1018): A state transfer starts at an eligible pair hyperframe boundary. -/
  | stateTransferStart
  /-- STATE_TRANSFER_DONE (R1021): The transfer's replay comparison passes and IN_STEP is set. -/
  | stateTransferDone
  /-- MIRROR_XFER_REQ (R1018): MIRROR_CTL.XFER_REQ requests a state transfer. -/
  | mirrorXferReq
  /-- SWITCHOVER_B1 (R1032): At B1, the old primary stops outputs and the standby takes the TAKING OVER role. -/
  | switchoverB1
  /-- SWITCHOVER_B2 (R1026): At B2, the new primary drives outputs, sends the beacon and starts its Canvas live. -/
  | switchoverB2
  /-- PROOF_SCHEDULED_START (R1059): A due scheduled Proof run starts once its conditions hold, or is postponed. -/
  | proofScheduledStart
  /-- PROOF_POSTPONE_24H (R1220): A scheduled run postponed over 24 h becomes a trouble cause. -/
  | proofPostpone24h
  /-- PROOF_RUN_END (R1085): A Proof run ends and code 0x0C0 is logged. -/
  | proofRunEnd
  /-- EVT_CFG_APPLY (R1090): A change of EVT.CFG takes effect at the next boundary and clears the counter. -/
  | evtCfgApply
  /-- EVT_CLR (R1107): EVT.CLR_LO or CLR_HI clears counters at the next tick. -/
  | evtClr
  /-- LEGACY_APPLY (R1122): In each apply window, the oldest legacy write is applied. -/
  | legacyApply
  /-- LALARM_READ (R1124): A read of LALARM copies the token into the legacy acknowledge token. -/
  | lalarmRead
  /-- LACK_TIMEOUT (R1127): A second LACK write missing within 1 ms sets ACK_FAIL. -/
  | lackTimeout
  /-- LEGACY_LOG_READ (R1132): LOPCMD LOG_READ exports the 16 newest log entries as bytes. -/
  | legacyLogRead
  /-- LEGACY_PROOF (R1132): LOPCMD PROOF runs Proof with the scheduled mask. -/
  | legacyProof
  /-- CLIENT_SCAN (R1132): LOPCMD CLIENT_SCAN returns one byte of summary per ID 0–255. -/
  | clientScan
  /-- LEGACY_ABORT (R1132): LOPCMD ABORT aborts the running legacy operation. -/
  | legacyAbort
  /-- LOP_DATA_READ (R1133): A read of LOP_DATA returns the next result byte once. -/
  | lopDataRead
  /-- LSTAT_READ (R1135): A read of LSTAT returns and clears its bits. -/
  | lstatRead
  /-- LWAKE_READ (R1117): A read of LWAKE returns WAKE_CAUSE and counts as its read. -/
  | lwakeRead
  /-- VBAT_LOW_RECOVER (R356): VBAT rises back above its VBAT_LOW threshold, for example after the battery is replaced, and the VBAT_LOW trouble ends. -/
  | vbatLowRecover
  deriving DecidableEq, Repr

end Sys2Proof
end

