-- ==== Sys2Proof/Decode.lean ====
section
/-!
DEFINITION. Decode.lean: words that spell a command. The table gives no row any bits (every row's fields list is empty),
so no word spells one.
-/

namespace Sys2Proof

/-- The command a word spells by the bits of spec/opcode_table.json: none, since the table gives no bits. -/
def decodeTableWord (_nbits _w : Nat) : Option Instr := none

end Sys2Proof
end

