-- ==== Sys2Proof/Config.lean ====
section
/-!
DEFINITION. Config.lean: the free values of the model: what the spec leaves open, as constants without a body.
-/

namespace Sys2Proof

/-- A free 32-bit value, one for each count of State.free (log entries name every use). -/
opaque Config.freeWord : Nat → BitVec 32

/-- The control-flow signature of the safety core's last frame (SAFE.FW_TEST, Table 03-9 states no value). -/
opaque Config.signature : Nat → BitVec 32

/-- Gesso's challenge of the n-th snapshot: the spec gives no rule for its value (R95). -/
opaque Config.challenge : Nat → BitVec 8

/-- The combined noise floor of several front ends, and the maximum-ratio combination of their levels with the floors that weigh
them, in codes of ZCP.DET_THR: the spec gives no formula (R516). -/
opaque Config.combineFloor : List Nat → Int
opaque Config.combineLevel : List (Nat × Int) → Int

end Sys2Proof
end

