-- ==== Sys2Proof/Machine/Bits.lean ====
section
/-!
DEFINITION. Bits.lean: sparse arrays, the store's memory, bit fields, checks and fixed-point helpers, and the default
record of Gesso.
-/

namespace Sys2Proof.Machine

/-! ### Sparse arrays -/

/-- What index k of a sparse array reads as; d gives what an unlisted index reads as. -/
def tblGet {α : Type} (d : Nat → α) : Tbl α → Nat → α
  | [], k => d k
  | (j, v) :: r, k => if j = k then v else tblGet d r k

/-- The array with v at index k, in canonical form. -/
def tblSet {α : Type} [DecidableEq α] (d : Nat → α) : Tbl α → Nat → α → Tbl α
  | [], k, v => if v = d k then [] else [(k, v)]
  | (j, w) :: r, k, v =>
    if k < j then (if v = d k then (j, w) :: r else (k, v) :: (j, w) :: r)
    else if k = j then (if v = d k then r else (k, v) :: r)
    else (j, w) :: tblSet d r k v

/-- The canonical form from index lo on: indices strictly rising, no entry equal to what it would read as unlisted. -/
def tblWfFrom {α : Type} [DecidableEq α] (d : Nat → α) : Nat → Tbl α → Bool
  | _, [] => true
  | lo, (k, v) :: r => decide (lo ≤ k) && (!decide (v = d k)) && tblWfFrom d (k + 1) r

/-- The canonical form of a sparse array. -/
def tblWf {α : Type} [DecidableEq α] (d : Nat → α) (t : Tbl α) : Bool := tblWfFrom d 0 t

/-! ### Memory: the array of the retained store -/

/-- An unlisted byte of the array reads as blank, all ones (R944, R967; the content before anything is programmed: log 2). -/
def memBlank : Nat → Byte := fun _ => 0xFF

/-- The byte at an address of the array. -/
def memRead (m : Memory) (a : Nat) : Byte := tblGet memBlank m a

/-- The array with one byte written. -/
def memWrite (m : Memory) (a : Nat) (b : Byte) : Memory := tblSet memBlank m a b

/-- The canonical form of the array. -/
abbrev Memory.wf (m : Memory) : Prop := tblWf memBlank m = true

/-- Little-endian word at byte address a (R915). -/
def memWord (m : Memory) (a : Nat) : Word :=
  memRead m (a + 3) ++ memRead m (a + 2) ++ memRead m (a + 1) ++ memRead m a

/-- n words from byte address a on. -/
def memWords (m : Memory) (a n : Nat) : List Word := (List.range n).map fun i => memWord m (a + 4 * i)

/-- One word written, least significant byte first. -/
def memWriteWord (m : Memory) (a : Nat) (w : Word) : Memory :=
  memWrite (memWrite (memWrite (memWrite m a (w.extractLsb' 0 8)) (a + 1) (w.extractLsb' 8 8)) (a + 2)
    (w.extractLsb' 16 8)) (a + 3) (w.extractLsb' 24 8)

/-- Consecutive words written from byte address a on. -/
def memWriteWords : Memory → Nat → List Word → Memory
  | m, _, [] => m
  | m, a, w :: r => memWriteWords (memWriteWord m a w) (a + 4) r

/-- n bytes from a on made blank (an erase). -/
def memErase (m : Memory) (a n : Nat) : Memory := m.filter fun p => decide (p.1 < a) || decide (a + n ≤ p.1)

/-- First byte of a sector: 64 pages of 64 bytes (Table 16-1). -/
def sectorBase (sec : Nat) : Nat := 4096 * sec

/-! ### Bits and checks -/

/-- A Boolean as one bit of a word. -/
def bit1 (n : Nat) (b : Bool) : BitVec n := if b then 1 else 0

/-- A word with bit i set to b. -/
def setBit {n : Nat} (w : BitVec n) (i : Nat) (b : Bool) : BitVec n :=
  if b then w ||| (BitVec.ofNat n 1 <<< i) else w &&& ~~~(BitVec.ofNat n 1 <<< i)

/-- Field [lo + n - 1 : lo] of a word. -/
def fld {m : Nat} (w : BitVec m) (lo n : Nat) : Nat := (w.toNat >>> lo) % 2 ^ n

/-- A word with value v placed at bit lo. -/
def put (n lo v : Nat) : BitVec n := BitVec.ofNat n v <<< lo

/-- One bit of CRC-32 (Table 05-5: polynomial 0x04C1_1DB7, reflected). -/
def crcBit (c : Word) : Word := if c.getLsbD 0 then (c >>> 1) ^^^ 0xEDB88320 else c >>> 1

/-- One byte of CRC-32. -/
def crcByte (c : Word) (b : Byte) : Word :=
  crcBit (crcBit (crcBit (crcBit (crcBit (crcBit (crcBit (crcBit (c ^^^ b.setWidth 32))))))))

/-- One word of CRC-32, least significant byte first. -/
def crcWord (c w : Word) : Word :=
  crcByte (crcByte (crcByte (crcByte c (w.extractLsb' 0 8)) (w.extractLsb' 8 8)) (w.extractLsb' 16 8))
    (w.extractLsb' 24 8)

/-- CRC-32 over words: initial 0xFFFF_FFFF, final XOR 0xFFFF_FFFF (Table 05-5). -/
def crc32 (ws : List Word) : Word := ~~~ (ws.foldl crcWord 0xFFFFFFFF)

/-- One bit of the frame check: polynomial x^4 + x + 1 (R501). -/
def crc4Bit (c : BitVec 4) (b : Bool) : BitVec 4 :=
  if (c.getLsbD 3) != b then (c <<< 1) ^^^ 0b0011 else c <<< 1

/-- CHK over the 17 bits of TYPE, ADDR and STATE, most significant bit first, initial 0b1111 (R501). -/
def crc4 (w : BitVec 17) : BitVec 4 := (List.range 17).foldl (fun c i => crc4Bit c (w.getLsbD (16 - i))) 0b1111

/-- Signed 32-bit reading of a word. -/
def sgn (w : Word) : Int := w.toInt

/-- Saturation to the signed range of n bits. -/
def satI (n : Nat) (x : Int) : Int :=
  if x > 2 ^ (n - 1) - 1 then 2 ^ (n - 1) - 1 else if x < -(2 ^ (n - 1)) then -(2 ^ (n - 1)) else x

/-- The word that holds a signed value, saturated. -/
def sat32 (x : Int) : Word := BitVec.ofInt 32 (satI 32 x)

/-- A value limited to [lo, hi]; lo wins where the limits cross. -/
def clampI (lo hi x : Int) : Int := if x < lo then lo else if hi < x then hi else x

/-- Arithmetic shift right: rounds toward minus infinity. -/
def asr (x : Int) (k : Nat) : Int := x / (2 ^ k : Int)

/-- Quotient rounded to nearest, halves up (numerator and denominator not negative). -/
def roundDiv (a b : Nat) : Nat := (2 * a + b) / (2 * b)

/-- Add one to a count that saturates at its largest value. -/
def satInc {n : Nat} (c : BitVec n) : BitVec n := if c = BitVec.allOnes n then c else c + 1

/-! ### The default record of Gesso -/

/-- The default record (Table 02-4). -/
def defaultRecord : List Word :=
  List.replicate 16 0x00963208 ++ List.replicate 16 0x271003E8 ++ List.replicate 16 1 ++ List.replicate 19 0xF ++
    [0, 0xF] ++ List.replicate 64 0 ++ [10]

end Sys2Proof.Machine
end

