-- ==== Sys2Proof/Machine/Regs/Gesso.lean ====
section
/-!
DEFINITION. Regs/Gesso.lean: the state of domain G's Gesso (02_gesso.md) and of the output pads beside it.
-/

namespace Sys2Proof.Machine

/-- The bands of Table 02-1. -/
inductive Band where
  | normal | alarm | short | opened
  deriving DecidableEq, Repr

/-- One sentinel as Gesso (or the safety core's monitor) times it: the published band and code (GESSO.SBAND), the
three dwell counters of R55-R57 (ms since the first sample of the run, none outside a run), and the fast sampling of
R53. -/
structure Sentinel where
  /-- a sample has been taken: before it there is no band to hold (R54) -/
  known : Bool
  band : Band
  code : Byte
  alarmRun : Option Nat
  troubleRun : Option Nat
  clearRun : Option Nat
  trouble : Bool
  fast : Bool
  /-- ms since the first NORMAL sample of the run (R53) -/
  normalRun : Option Nat
  /-- easel time of the latest sample (R345) -/
  sampledAt : Nat
  deriving DecidableEq, Repr

/-- A sentinel before its first sample (SBAND reset 0). -/
def Sentinel.blank : Sentinel :=
  { known := false, band := .normal, code := 0, alarmRun := none, troubleRun := none, clearRun := none, trouble := false, fast := false,
    normalRun := none, sampledAt := 0 }

/-- The snapshot that Gesso publishes at a major-frame boundary (R95, Table 02-6). -/
structure Snapshot where
  /-- easel time of the capture -/
  at_ : Nat
  challenge : Byte
  published : Bool
  answered : Bool
  bands : List Band
  codes : List Byte
  trip : BitVec 19
  outCmd : BitVec 20
  outFb : BitVec 20
  /-- the combined command of R72-R75 at the capture, and whether 2 ms have passed since its last change (Table 02-6) -/
  comb : BitVec 20
  settled : Bool
  crc : Word
  /-- how many snapshots have been captured since the last completed RELATCH, this one counted (Table 02-6) -/
  nth : Nat
  deriving DecidableEq, Repr

/-- What a receiver has taken of one address in its latest frame slot (R107, R108): the slot, the lowest front end it came
from, its content (8 x TYPE + STATE), and the confirmation record as it stood before. -/
structure Taken where
  slot : Nat
  fe : Nat
  content : Nat
  before : Option (Nat × Bool)
  deriving DecidableEq, Repr

/-- One received copy kept for combining (R510-R513): slot number, soft values of bits 0-23, the bits decided, which were
decided as full bits, and whether a synthetic tooth was used. -/
structure Copy where
  slot : Nat
  soft : List Int
  bits : BitVec 24
  full : BitVec 24
  syn : Bool
  deriving DecidableEq, Repr

/-- Gesso (Table 02-10 and what R53-R65, R95-R98, R107, R115, R116 imply). -/
structure Gesso where
  /-- the latched record: the images of indices 0x000-0x084 and 0x09E, 134 words -/
  record : List Word
  cfgCrc : Word
  copyDup : Bool
  dflt : Bool
  armed : Bool
  clkRc : Bool
  rlBusy : Bool
  rlResult : BitVec 3
  relatchCnt : Byte
  sen : Tbl Sentinel
  swapped : BitVec 16
  trip : BitVec 19
  /-- the 1 ms sample period in which a trip latched, counted from 1 (R106), and the one in which its condition last came
  (R105) -/
  tripAt : Tbl Nat
  hitAt : Tbl Nat
  silenced : BitVec 19
  lastSrc : BitVec 5
  lastAddr : BitVec 11
  scFault : Bool
  cfgDefault : Bool
  xdis : Bool
  fbMismatch : Bool
  /-- snapshots in a row whose feedback differs from the combined command (Table 02-6) -/
  fbRun : Nat
  clkTrouble : Bool
  cfgLatch : Bool
  outCmd : BitVec 20
  cntAcc : Word
  cntDrop : Word
  cntUnconf : Word
  /-- R64: easel time at which the latest trip-candidate frame of an address ended, and whether it is a first frame
  that still waits for its confirmation (R65) -/
  confirm : Tbl (Option (Nat × Bool))
  /-- R107, R108: what was taken of an address in its last frame slot, of frames alone and of combined ones -/
  taken : Tbl (Option Taken)
  takenComb : Tbl (Option Taken)
  /-- copies of the last six slots of a track, newest first (R510) -/
  copies : Tbl (List Copy)
  /-- Gesso's silent-tooth measurements of the last 8 slots of a front end, newest first, in codes of THR (R515, R517) -/
  noise : Tbl (List Nat)
  zcLive : Bool
  snap : Snapshot
  /-- snapshots captured since the last completed RELATCH -/
  sinceRelatch : Nat
  chalCount : Nat
  badRun : Nat
  goodRun : Nat
  /-- R163: a correct answer has arrived since the safety core left reset -/
  firstAnswer : Bool
  /-- R164: easel time at which the safety core left reset -/
  coreReset : Option Nat
  /-- easel times of automatic RELATCHes (R115) -/
  autoRelatch : List Nat
  /-- easel time of the last trouble chirp below Tier 1 (R116, R42) -/
  lastChirp : Option Nat
  /-- a fall to Tier 0 caused by a domain fault is in force (R42) -/
  tier0Fault : Bool
  porAt : Nat
  deriving DecidableEq, Repr

/-- One sounder driver in domain G (Table 15-4): the alarm commands reach it through Gesso and the path latch. -/
structure Sounder where
  /-- it is sounding ALARM -/
  alarm : Bool
  /-- it turned on while the cycle ran: on at least until this easel time (R895) -/
  minOn : Option Nat
  /-- chirp under way: its end, and whether it is the PROOF chirp -/
  chirpEnd : Option Nat
  chirpProof : Bool
  disc : BitVec 7
  probeI : Half
  probeValid : Bool
  deriving DecidableEq, Repr

/-- A silent sounder. -/
def Sounder.blank : Sounder :=
  { alarm := false, minOn := none, chirpEnd := none, chirpProof := false, disc := 0, probeI := 0, probeValid := false }

/-- The output pads of domain G: the path latch of R156-R158, the safe values of Table 03-2 and the sounders. -/
structure Pads where
  pathSnd : BitVec 4
  pathRly : BitVec 16
  nonAlarm : BitVec 16
  /-- SAFE.SS_RLY as refreshed under R158, 2 bits for each driver -/
  ssRly : BitVec 32
  ssCrly : BitVec 16
  ssFan : BitVec 48
  /-- the safety core path has stopped (R159) -/
  pathStopped : Bool
  /-- commanded level of relay drivers 16-31 at the pad -/
  crly : BitVec 16
  /-- RELAY strokes of this tick, in force from the next (R891): driver 0-15 of the upper sixteen, level -/
  crlyNext : List (Nat × Bool)
  snd : Tbl Sounder
  /-- the running ALARM cycle: its start, none while no sounder sounds ALARM (R894) -/
  cycleStart : Option Nat
  /-- interval of the cycle, 0-5: on, off, on, off, on, off (Table 15-4) -/
  interval : Nat
  /-- time of the last turn-on or turn-off of each driver (relays 0-31, sounder k as 32 + k) -/
  lastSwitch : Tbl Nat
  /-- physical error of the driver feedback, in the bits of OUT_FB: 0 in sound hardware (R898) -/
  fbErr : BitVec 20
  deriving DecidableEq, Repr

end Sys2Proof.Machine
end

