-- ==== Sys2Proof/Machine/Regs/Safety.lean ====
section
/-!
DEFINITION. Regs/Safety.lean: the state of the safety core (03_safety_core_and_alarms.md) and the trouble causes of
domain K (R1221, R1222).
-/

namespace Sys2Proof.Machine

/-- A trouble cause that is present: its code of Table 09-13 (64 x area + index), its source within the code, whether
it is acknowledged (R179) and whether it is an event that TROUBLE_ACK ends (R1221). -/
structure Cause where
  code : Nat
  src : Nat
  acked : Bool
  event : Bool
  deriving DecidableEq, Repr

/-- The run-time state of one criterion (R140-R149, SAFE.DF_STAT). -/
structure Criterion where
  isTrue : Bool
  confirmed : Bool
  invalid : Bool
  implaus : Bool
  unarb : Bool
  /-- results of its channel since the last invalid one, newest first: easel time and code (R141-R143) -/
  hist : List (Nat × Int)
  /-- start of the run of results at or beyond THR (R141, R142) -/
  since : Option Nat
  /-- arbiter request outstanding: its deadline (R145, R148) -/
  arbDue : Option Nat
  deriving DecidableEq, Repr

/-- A criterion before its first result. -/
def Criterion.blank : Criterion :=
  { isTrue := false, confirmed := false, invalid := false, implaus := false, unarb := false, hist := [], since := none,
    arbDue := none }

/-- The safety core (Table 03-9) and the alarm set it keeps in domain K (R187, R1222). -/
structure Safety where
  run : Bool
  /-- the pair has left reset and its first answer is pending (R192) -/
  answeredOnce : Bool
  lockstep : Bool
  fwFail : Bool
  sram : Bool
  recPend : Bool
  lsCnt : Word
  lsTimes : List Nat
  restartAt : Option Nat
  hbLast : Byte
  hbCnt : BitVec 24
  xdisItem : BitVec 3
  xdisIndex : BitVec 5
  xdisCnt : BitVec 24
  /-- the safety core's record for sources 0-18 (R128) and the major frame from which a reload is used (R129) -/
  record : List Word
  recordCrc : Word
  reloadDue : Option Nat
  mon : Tbl Sentinel
  confirm : Tbl (Option (Nat × Bool))
  taken : Tbl (Option Taken)
  takenComb : Tbl (Option Taken)
  /-- last broadband report with a trip state of a client: end time and beacon period (R136) -/
  bbReport : Tbl (Option (Nat × Nat))
  /-- last accepted zero-crossing alarm frame of a client (R137) -/
  zcReport : Tbl (Option Nat)
  crit : Tbl Criterion
  alarms : BitVec 86
  sil : BitVec 86
  unknown : Bool
  /-- the alarm set went with the power of domain K: it fails its CRC (R188) -/
  setLost : Bool
  token : Byte
  /-- tick in which TOKEN last advanced (R185) -/
  tokenTick : Option Nat
  ackRes : BitVec 2
  blocked : Bool
  /-- ACK_KEY write waiting for the next minor tick: word and tick of the write (R171) -/
  ackPending : Option (Half × Nat)
  /-- Gesso trips read in a snapshot that the safety core has not latched (R167) -/
  gessoOnly : BitVec 19
  /-- an alarm is held for the change of set: from a qualification or a Gesso trip read until the acknowledge sequence
  leaves none on either side (R27-R29); the instant it last changed, and its value before that instant -/
  held : Bool
  heldAt : Nat
  heldWas : Bool
  /-- what has still to reach the path latch, before the first answer (R192): 0 nothing, 1 a silence, 2 a reset -/
  pathOwed : Nat
  /-- the trouble causes of domain K (R1222) -/
  causes : List Cause
  core : Bool
  /-- last trouble chirp of R169, R170 -/
  lastChirp : Option Nat
  /-- snapshot last compared, by its challenge count (R91) -/
  lastCmp : Nat
  /-- runs of difference of Table 02-6 by 32 x item + index: snapshots in a row, or for trips and commands the easel time of
  the first one plus 1 -/
  disRun : Tbl Nat
  disNow : List Nat
  /-- easel time of the last change of the output commands (feedback row) -/
  cmdChanged : Nat
  /-- last code sent in a HUB_BCAST frame (R1212) -/
  lastBcast : Option Nat
  fwTest : Word
  deriving DecidableEq, Repr

end Sys2Proof.Machine
end

