-- ==== Sys2Proof/Machine/Regs/Time.lean ====
section
/-!
DEFINITION. Regs/Time.lean: easel time, the calendar and the tooth tracker (04_time_base_and_teeth.md).
-/

namespace Sys2Proof.Machine

/-- What advances the easel counter (R200, R201). -/
inductive EaselSource where
  | x40 | x32 | rc
  deriving DecidableEq, Repr

/-- The four states of a track. -/
inductive TrackState where
  | acq | locked | holdover | lost
  deriving DecidableEq, Repr

/-- A polarity chain: prediction and period in 1/16 sub-tick (R214, R219), and the prediction of its last decided tooth, to
which the events still due on that tooth are anchored (R225). -/
structure Chain where
  p : Int
  per : Int
  last : Int
  deriving DecidableEq, Repr

/-- One track of the tooth tracker (Table 04-4). -/
structure Track where
  st : TrackState
  synLast : Bool
  synRun : Nat
  realRun : Nat
  rising : Chain
  falling : Chain
  /-- the level the comparator holds; none before its first edge -/
  level : Option Bool
  /-- which of the last 64 decided teeth were synthetic, the latest in bit 0 (R226) -/
  synHist : BitVec 64
  /-- an edge that has not yet held 200 us: its time and new level (R212) -/
  edge : Option (Nat × Bool)
  /-- its time is a count of the slow source: it has that resolution already (R201, R236) -/
  edgeSlow : Bool
  /-- latest candidates while unlocked, newest first: time and polarity (R213) -/
  cands : List (Nat × Bool)
  lastTooth : Nat
  lastRise : Int
  everLocked : Bool
  cyc : Word
  cntRej : Word
  cntGlitch : Word
  cntSyn : Word
  cntHold : Word
  freq : Half
  deriving DecidableEq, Repr

/-- A track after power-on reset of domain G. -/
def Track.blank : Track :=
  { st := .acq, synLast := false, synRun := 0, realRun := 0, rising := ⟨0, 0, 0⟩, falling := ⟨0, 0, 0⟩, level := none,
    synHist := 0, edge := none, edgeSlow := false, cands := [], lastTooth := 0, lastRise := 0, everLocked := false, cyc := 0, cntRej := 0,
    cntGlitch := 0, cntSyn := 0, cntHold := 0, freq := 0 }

/-- The time base of domain G. Easel time is a count of 25 ns sub-ticks; its fields are computed (Table 04-1). -/
structure Time where
  easel : Nat
  source : EaselSource
  /-- minor tick of the last major-frame and hyperframe boundary whose work is done (log 67) -/
  frameDone : Option Nat
  hyperDone : Option Nat
  easelHi : Word
  /-- phase of the 45 of 64 pattern and accumulated difference, in 2^-40 sub-tick (R201) -/
  phase64 : Nat
  diff : Int
  calSec : Word
  /-- fraction held while the crystal is stopped, and easel time at which the running second began -/
  calSub : BitVec 15
  secStart : Nat
  calValid : Bool
  calSet : Option Word
  /-- trim in 1/256 of 0.01 ppm (R205) -/
  trim : Int
  /-- correction not yet applied to the calendar, same units x cycles (R206) -/
  calCorr : Int
  /-- cycles in the running calendar second (R206) -/
  secLen : Nat
  x40Ok : Bool
  x32Ok : Bool
  /-- since when the 32.768 kHz crystal has run without interruption (R1214) -/
  x32Since : Option Nat
  /-- it counts as an input of Tier 2: running at the origin, or X32_OK returned (log 10) -/
  x32Run : Bool
  discLock : Bool
  xtalDev : Bool
  x40Fail : Bool
  easelRtc : Bool
  goodRun : Nat
  /-- values of TIME.RTC_TRIM with the easel time from which each held, newest first, back to 64 s ago (R208) -/
  trims : List (Nat × Int)
  /-- easel time at which the running discipline window opened (R204) -/
  winOpen : Option Nat
  /-- a calendar set coincided with the running count (R238) -/
  discardCount : Bool
  tracks : Tbl Track
  phaseL2 : BitVec 12
  phaseL3 : BitVec 12
  deriving DecidableEq, Repr

end Sys2Proof.Machine
end

