-- ==== Sys2Proof/Machine/Regs/Canvas.lean ====
section
/-!
DEFINITION. Regs/Canvas.lean: the Canvas: the running image, its signals and status (05_canvas_contract.md).
-/

namespace Sys2Proof.Machine

/-- Run states (CANVAS.STAT.STATE). -/
inductive RunState where
  | stopped | runIn | comfort | emergency
  deriving DecidableEq, Repr

/-- A canvas image as read from its slot (Table 05-5): the header's fields and the four sections. -/
structure Image where
  generation : Word
  crc : Word
  bb : Bool
  mirror : Bool
  entries : List DWord
  pool : List Word
  disp : List DWord
  init : List DWord
  deriving DecidableEq, Repr

/-- A signal written in this tick (R256, R257): its signal, the lane that wrote it, its value, and for a met ASAP output
its deadline in loop units (R751). -/
structure Fresh where
  sig : Nat
  lane : Nat
  value : Word
  dl : Option Nat
  deriving DecidableEq, Repr

/-- Event work that waits for the reserve of a lane (R248, R253): its lane, its user in the order of Table 05-2 counted from 0 (0
on the lanes with one user), what is left of its cost in the lane's unit, and the join answer (client, code) that it gives when done (R659). -/
structure Work where
  lane : Nat
  user : Nat
  left : Nat
  ack : Option (Nat × Nat)
  deriving DecidableEq, Repr

/-- The Canvas (Table 05-11) and the state its strokes keep. -/
structure Canvas where
  run : RunState
  noImage : Bool
  fallback : Bool
  slot : Bool
  stagedOk : Bool
  swapHeld : Bool
  ovrHigh : Bool
  swapArm : Bool
  allowOld : Bool
  image : Option Image
  stagedGen : Word
  verCode : Byte
  verBusy : Bool
  verSlot : Bool
  /-- frame boundaries that the running verification has passed without a pause (R271) -/
  verFrames : Nat
  verWhere : Word
  ovrCnt : Tbl Word
  ovrLast : Word
  /-- overruns of the running hyperframe and of the one before, by lane (R293) -/
  ovrHyper : Tbl Nat
  /-- largest reserve use in one tick, by lane: of the running hyperframe and of the one before -/
  resMax : Tbl Nat
  resPeak : Tbl Nat
  /-- event work that waits for a reserve, oldest first (R248, R291) -/
  work : List Work
  /-- 1 + the index of the entry that each lane ran last, in the Canvas tick `ranAt` (R264, R266) -/
  ran : Tbl Nat
  ranAt : Nat
  /-- entries that have overrun in that tick (R282, R292) -/
  overran : List Nat
  swapCnt : Word
  laneFlt : BitVec 8
  /-- the signals as they stood at the start of the tick, and the writes of this tick, newest first (R256) -/
  signals : Tbl Word
  fresh : List Fresh
  timers : Tbl (Bool × Nat)
  lowpass : Tbl Int
  /-- outputs held by the emergency disposition, by 4096 x class + index (R260, R34) -/
  held : Tbl Bool
  runInFrames : Nat
  deriving DecidableEq, Repr

end Sys2Proof.Machine
end

