-- ==== Sys2Proof/Machine/Regs/Power.lean ====
section
/-!
DEFINITION. Regs/Power.lean: tiers and domains (01_building_and_tiers.md) and power, reset and wake state
(06_power_reset_and_first_second.md).
-/

namespace Sys2Proof.Machine

/-- Power states (Table 06-3). -/
inductive PowerState where
  | run | doze | nap | sleep | vigil | off
  deriving DecidableEq, Repr

/-- Tier and domain state; domain bits in the order of SYS.DOM_AVAIL (Table 01-5). -/
structure Sys where
  tier : Nat
  /-- power applied to the domain: supplies valid and not removed by the device (R303) -/
  applied : BitVec 12
  /-- self-check passed since power was applied (R300, PWR.DOM_CHK) -/
  checked : BitVec 12
  /-- a self-check has failed since power was applied -/
  failed : BitVec 12
  /-- removed from power by the power manager (R19, R302) -/
  gated : BitVec 12
  /-- tier changes not yet recorded (R40): easel time and value of the entry -/
  tierLog : List (Nat × Word)
  deriving DecidableEq, Repr

/-- Power, reset and wake (Tables 06-8, 06-9). -/
structure Power where
  st : PowerState
  vmain : Bool
  vcore : Bool
  vana : Bool
  vfield : Bool
  vbat : Bool
  pfw : Bool
  holdLow : Bool
  vbatLow : Bool
  vbatAbsent : Bool
  flushing : Bool
  flushStart : Nat
  horizon : BitVec 24
  horizonState : BitVec 3
  busyLim : Bool
  entryCnt : Tbl Word
  wakeTs : Tbl DWord
  rstPor : Bool
  rstNrst : Bool
  rstStuck : Bool
  masked : Bool
  nrstCnt : Half
  dips : Half
  brown : Half
  flushDur : Half
  flushComplete : Bool
  flushValid : Bool
  vhold : Half
  /-- nRST low since this easel time, unmasked (R335, R338); while VMAIN is absent the held timer stands at `nrstHeld` (R344) -/
  nrstLow : Option Nat
  nrstHeld : Nat
  /-- nRST seen released since this easel time while masked (R342) -/
  nrstHigh : Option Nat
  /-- WAKE_CAUSE: cause bits, FIRST, and causes latched since the last read (R325) -/
  wake : BitVec 7
  wakeFirst : BitVec 3
  wakeTimed : BitVec 7
  /-- 1 + easel time at which each cause last latched (R348), by cause -/
  wakeAt : Tbl Nat
  wakeSeq : Bool
  ceil : BitVec 3
  sleepRes : BitVec 3
  /-- SLEEP_REQ write waiting for the next tick (R317) -/
  ceilPending : Option (BitVec 3 × Nat)
  /-- an entry to or exit from SLEEP lasts until this easel time (R321) -/
  movingUntil : Nat
  /-- when the scheduled exit from the state below RUN that is in force starts (R315) -/
  exitAt : Nat
  /-- origin of the running restart (R357, R362) -/
  origin : Nat
  /-- value of log code 0x001 of the running restart -/
  restartKind : BitVec 2
  /-- VMAIN returned after brown-out and the restart waits for the flush (R333) -/
  restartWaits : Bool
  /-- easel time at which VMAIN last became valid (R357) -/
  mainAt : Nat
  /-- an nRST asserted during a flush still has to take effect on domain N (R351) -/
  storeReset : Bool
  /-- domains other than G and K are held in reset by nRST (R335) -/
  inReset : Bool
  /-- the restart has not yet reached Tier 2 (R364), and has not yet sent its first beacon -/
  starting : Bool
  beaconDue : Bool
  busrdy : Bool
  canvasStarted : Option Nat
  deriving DecidableEq, Repr

end Sys2Proof.Machine
end

