-- ==== Sys2Proof/Machine/Regs/Host.lean ====
section
/-!
DEFINITION. Regs/Host.lean: the host interface (07_host_bus.md): direct registers, keys, the client window, the long
operation, the result ring.
-/

namespace Sys2Proof.Machine

/-- OPSTAT.STATE (Table 07-6). -/
inductive OpState where
  | idle | running | done | failed | aborted
  deriving DecidableEq, Repr

/-- The long operation (R409-R421): its code, latched arguments and progress. -/
structure LongOp where
  st : OpState
  code : Nat
  args : List Half
  /-- tick in which it was accepted; its first work is at the next major-frame boundary (R409) -/
  acceptedAt : Nat
  worked : Bool
  paused : Bool
  part : Bool
  cmdRes : BitVec 3
  err : Byte
  abortReq : Bool
  /-- easel time of the ABORT that waits for its boundary (R413, R1205) -/
  abortAt : Nat
  /-- units of work done: pages, records, periods or entries, as the operation's chapter counts them -/
  progress : Nat
  /-- started by the legacy window (R1132) rather than by OPCMD -/
  legacy : Bool
  /-- results and the ones latched by a read of OPRES0 (R378) -/
  res : List Half
  resLatch : List Half
  /-- records that wait for room in the ring: type and words after the header -/
  out : List (Nat × List Word)
  deriving DecidableEq, Repr

/-- One host access (R368): a write of a half word to an offset, or a read of it; for a write that programs a page of the
store, whether its margin verify passes. `par` stands for the accesses of PADDR and PDATA that together read or write one 32-bit
parameter: its address and value (log 133). -/
structure BusAcc where
  write : Bool
  off : Nat
  v : Half
  ok : Bool
  par : Option (Nat × Word) := none
  deriving DecidableEq, Repr

/-- One parameter or region key's lock state (R395-R397, R1207; region keys: R960). -/
structure KeyLock where
  wrong : Nat
  until_ : Nat
  len : Nat
  locks : Half
  deriving DecidableEq, Repr

/-- A key that has never been presented. -/
def KeyLock.blank : KeyLock := { wrong := 0, until_ := 0, len := 0, locks := 0 }

/-- The host interface (Tables 07-7, 07-8). -/
structure HostBus where
  irqOd : Bool
  hbEn : Bool
  busErr : Bool
  waitTmo : Bool
  irqStat : Half
  /-- tick in which each IRQ_STAT bit last set (R424), by bit -/
  irqTick : Tbl Nat
  /-- 1 + easel time at which each last set (R431), by bit -/
  irqAt : Tbl Nat
  irqEn : Half
  held : Bool
  /-- the access that nWAIT holds -/
  heldAcc : Option BusAcc
  /-- easel time at which the access now held began, and the bound of its hold in sub-ticks (R372, Table 07-1) -/
  heldAt : Nat
  heldBound : Nat
  /-- minor tick at whose start a program or erase of STORE.DCTL is done; nWAIT is low until then (R922, R923) -/
  dctlUntil : Option Nat
  tReady : BitVec 12
  frameNow : Half
  hyperLo : Half
  hyperHi : Half
  opArg : Tbl Half
  op : LongOp
  paddr : Half
  lowHeld : Option Half
  hiLatch : Half
  ainc : Bool
  pctlRes : BitVec 3
  errCnt : Byte
  clientSel : Half
  clientLow : Option Half
  clientHi : Half
  window : Tbl Word
  ready : Bool
  cAinc : Bool
  cAns : BitVec 2
  cN : Byte
  /-- SNAP, CMD_GO and TRACK_CHG writes waiting for the next tick: tick of the write (and client) -/
  snapAt : Option Nat
  cmdGoAt : Option Nat
  trackClr : List (Nat × Nat)
  evtSel : Half
  evtHi : Half
  /-- presentation under way: key ID and words so far (R391) -/
  keyIn : Option (Nat × List Half)
  /-- complete presentations waiting for the next tick (R393): ID, 64-bit key, tick -/
  keyDone : List (Nat × DWord × Nat)
  /-- accepted keys: easel time of acceptance (R394) -/
  keyValid : Tbl (Option Nat)
  /-- key of the most recent accepted presentation (R962) -/
  keyLast : Option Nat
  keyRes : BitVec 3
  keyId : BitVec 5
  locks : Tbl KeyLock
  hb : Half
  beatAt : Nat
  /-- a beat has been made since the last frame boundary at which silence was judged (R427) -/
  beatNew : Bool
  /-- easel time of the first beat that has come since (R427, R1205) -/
  beatFirst : Nat
  silent : Bool
  silentCnt : Half
  busErrCnt : Half
  waitCnt : Half
  ring : Tbl Word
  head : BitVec 10
  tail : BitVec 10
  stall : Bool
  recs : Half
  seq : Word
  pub : Tbl Word
  /-- HOSTPUB writes of this tick, read from the next (R408) -/
  pubNext : List (Nat × Word)
  /-- immediate parameter writes waiting for the next tick (R389): tick, address, value -/
  imm : List (Nat × Nat × Word)
  /-- the word last driven on D[15:0], and nWAIT low (R370) -/
  dOut : Half
  nWaitLow : Bool
  deriving DecidableEq, Repr

end Sys2Proof.Machine
end

