-- ==== Sys2Proof/Machine/Regs/Glaze.lean ====
section
/-!
DEFINITION. Regs/Glaze.lean: the Glaze set, its groups and the service queue (08_glaze_and_service_changes.md).
-/

namespace Sys2Proof.Machine

/-- GLAZE_RES[g].STATE. -/
inductive GroupState where
  | empty | waiting | landed | refused
  deriving DecidableEq, Repr

/-- One staged word: parameter address, value, group (R442). -/
structure Staged where
  addr : Nat
  value : Word
  group : Nat
  deriving DecidableEq, Repr

/-- What the device reports for one group (SYS.GLAZE_RES, SYS.GLAZE_TS). -/
structure GroupRes where
  st : GroupState
  persist : Bool
  reason : BitVec 3
  words : BitVec 7
  ts : Word
  deriving DecidableEq, Repr

/-- The reset value of a group's report. -/
def GroupRes.blank : GroupRes := { st := .empty, persist := false, reason := 0, words := 0, ts := 0 }

/-- One queued service request (R460, SYS.SVC_REQ). -/
structure SvcReq where
  kind : Nat
  ret : Bool
  index : Nat
  tag : Byte
  tick : Nat
  deriving DecidableEq, Repr

/-- Glaze and service changes (Tables 08-7, 08-8). -/
structure Glaze where
  set : List Staged
  sealed_ : Bool
  /-- GLAZE_CTL.COMMIT waiting for the next tick: tick of the write (R446) -/
  commitAt : Option Nat
  /-- the sealed set was withdrawn and is reported at the next boundary (R455) -/
  withdrawn : Bool
  landed : Byte
  refused : Byte
  grp : BitVec 3
  res : Tbl GroupRes
  /-- landed groups not yet durable (R459): group and its persistent parameters -/
  persistWait : List (Nat × List Nat)
  /-- the frame boundary whose apply window has closed (R447) -/
  lastWin : Option Nat
  /-- the frame boundary at which the set was sealed: its window takes no group of the set (R447, R1205) -/
  sealedWin : Option Nat
  svc : List SvcReq
  svcTag : Byte
  svcAns : BitVec 2
  svcReason : BitVec 4
  oosDrv : BitVec 24
  oosMod : BitVec 16
  oosPh : BitVec 3
  oosLoop : Tbl Bool
  /-- pair time from which a returned line phase transmits (R466), by phase -/
  phFrom : Tbl Nat
  probeClient : BitVec 11
  probePassed : BitVec 3
  probeActive : Bool
  probePeriods : BitVec 5
  probeTag : Byte
  /-- beacon period of the last probe result (R471) -/
  probeBsn : Option Nat
  deriving DecidableEq, Repr

end Sys2Proof.Machine
end

