-- ==== Sys2Proof/Machine/Regs/Zc.lean ====
section
/-!
DEFINITION. Regs/Zc.lean: the zero-crossing line channel of the hub (09_zero_crossing_line.md).
-/

namespace Sys2Proof.Machine

/-- A hub frame waiting in P1 or P2 of a track (R519-R522). -/
structure HubFrame where
  typ : BitVec 3
  addr : BitVec 11
  st : BitVec 3
  queuedAt : Nat
  /-- copies of the sequence already sent (R520) -/
  sent : Nat
  deriving DecidableEq, Repr

/-- A burst the hub has sent in the running slot: its tooth h, whether it is the late one, the easel time of its start
(R495, R497), and whether its tooth has been synthesised (R226). -/
structure Burst where
  h : Nat
  late : Bool
  start : Nat
  syn : Bool
  deriving DecidableEq, Repr

/-- One track of the channel (Table 09-12). -/
structure ZcTrack where
  q1 : List HubFrame
  q2 : List HubFrame
  /-- hub frame under way: true for P1, and the frame -/
  under : Option (Bool × HubFrame)
  /-- bursts sent in the running slot, oldest first -/
  bursts : List Burst
  /-- the slot the hub has claimed for an injected frame of Proof, and whether its start mark is sent (R1067) -/
  injSlot : Option Nat
  injMarked : Bool
  /-- a claim before the hub's own has been heard in this slot (R506, R531) -/
  heard : Bool
  missRun : Nat
  retryRun : Nat
  slotsSinceRetry : Nat
  txFault : Bool
  noisy : Bool
  /-- the safety core's silent-tooth measurements of the last 8 slots, newest first, in codes of THR (R517) -/
  noise : List Nat
  copies : List Copy
  /-- non-alarm frames that no ZC_RX entry has moved: type, client, STATE (log 31) -/
  rx : List (Nat × Nat × Nat)
  /-- the slot of a frame with an erased bit that combining may still rescue (R499) -/
  dropOwed : Option Nat
  /-- the slot of the last real frame that decoded (R1100) -/
  decodedIn : Option Nat
  /-- a start mark has been heard and the body that it aligns has not ended (R505) -/
  receiving : Bool
  /-- the frame under reception was dropped as the track went to LOST: its levels still come (R529, R534) -/
  cutOff : Bool
  lastRx : BitVec 24
  lastComb : BitVec 2
  lastSb : BitVec 2
  lastSyn : Bool
  lastTs : Word
  cntAcc : Word
  cntDrop : Word
  cntSb : Word
  cntComb : Word
  cntColl : Word
  cntDefer : Word
  cntAband : Word
  cntAged : Word
  deriving DecidableEq, Repr

/-- A track before its first slot. -/
def ZcTrack.blank : ZcTrack :=
  { q1 := [], q2 := [], under := none, bursts := [], injSlot := none, injMarked := false, heard := false, missRun := 0, retryRun := 0, slotsSinceRetry := 0,
    txFault := false, noisy := false, noise := [], copies := [], rx := [], dropOwed := none, decodedIn := none, receiving := false,
    cutOff := false, lastRx := 0, lastComb := 0, lastSb := 0, lastSyn := false, lastTs := 0, cntAcc := 0, cntDrop := 0, cntSb := 0, cntComb := 0,
    cntColl := 0, cntDefer := 0, cntAband := 0, cntAged := 0 }

/-- The zero-crossing channel, and what the safety core keeps of frames by client: the last frame slot in which a
client's frame was taken (R107, R108), and in which its record was updated (R532). -/
structure Zc where
  tracks : Tbl ZcTrack
  taken : Tbl (Option Taken)
  deriving DecidableEq, Repr

end Sys2Proof.Machine
end

