-- ==== Sys2Proof/Machine/Regs/Clients.lean ====
section
/-!
DEFINITION. Regs/Clients.lean: client records, admission and the command queue (11_clients_and_capacity.md).
-/

namespace Sys2Proof.Machine

/-- A host command in the queue (R630-R639): client, sequence number, code, channel, class 1-3, arguments, the major
frame of its decision, and the sends made. -/
structure QCmd where
  id : Nat
  seq : Byte
  code : Nat
  zc : Bool
  cls : Nat
  args : List Word
  frame : Nat
  sends : Nat
  deriving DecidableEq, Repr

/-- A tone map (R553-R557): rate 0 1/2, 1 2/3, 2 5/6, and the modulation codes of 53 groups. -/
structure ToneMap where
  rate : Nat
  codes : List Nat
  deriving DecidableEq, Repr

/-- What the hub keeps of a client beside its record. -/
structure ClientRun where
  /-- beacon periods in a row without an accepted broadband frame (R621), own positions in a row it was silent in -/
  silent : Nat
  ownMiss : Nat
  /-- a run of zero-crossing frames on one track other than ZTRACK (R625) -/
  zCand : Nat
  zRun : Nat
  /-- last accepted zero-crossing frame (R648) -/
  zcAt : Option Nat
  /-- last command sequence number, and the CLIENT_OUT value last sent (R640) -/
  seq : Byte
  cvsSent : Word
  /-- detailed answers that wait for a downlink position: code, answer, count or reason (R642) -/
  details : List (Nat × Nat × Nat)
  /-- beacon periods of overlaps in the last 16, and of the last frame; period and STATE of the report judged last
  (R573-R578) -/
  overlaps : List Nat
  frameBsn : Option Nat
  reportBsn : Option (Nat × Nat)
  /-- a quarantine bit is owed in its next correction entry (R573) -/
  quarMark : Bool
  /-- period in which it last sent a frame itself, its own or a relayed one (R575) -/
  sentBsn : Option Nat
  /-- repeaters of its route, first the one nearest the client; a route not yet in effect and its BSN (R568) -/
  route : List Nat
  nextRoutes : List (List Nat × Nat)
  /-- tone maps: up in force and computed, down in force and reported (R556, R557) -/
  mapUp : Option ToneMap
  mapUpNew : Option ToneMap
  mapDn : Option ToneMap
  mapDnNew : Option ToneMap
  /-- lowest group SNR of the last 8 frames, in 0.5 dB; mean SNR of the last 8 frames -/
  snr : List (List Int)
  mean : List Int
  /-- receive weights by front end of the last 8 frames (R589) -/
  weights : List (List Nat)
  lqDn : Byte
  /-- neighbour entries of its last report -/
  neigh : List (Nat × Nat)
  /-- the most recent report that no BB_RX entry has moved (R565): record writes -/
  report : Option (List (Nat × Word × Word))
  /-- missed relay periods in a row (R586) -/
  relayMiss : Nat
  deriving DecidableEq, Repr

/-- A client after a restart. -/
def ClientRun.blank : ClientRun :=
  { silent := 0, ownMiss := 0, zCand := 0, zRun := 0, zcAt := none, seq := 0, cvsSent := 0, details := [], overlaps := []
    frameBsn := none, sentBsn := none, reportBsn := none, quarMark := false, route := [], nextRoutes := [], mapUp := none
    mapUpNew := none, mapDn := none, mapDnNew := none, snr := [], mean := [], weights := [], lqDn := 0, neigh := [], report := none
    relayMiss := 0 }

/-- What an accepted frame writes into its client's record at the next minor tick (R610): the tick it was accepted in, the client, its
writes (word, mask, value), whether it counts in RX_OK, and the track of a zero-crossing frame (R625). -/
structure ClientUpd where
  tick : Nat
  id : Nat
  writes : List (Nat × Word × Word)
  counts : Bool
  track : Option Nat
  deriving DecidableEq, Repr

/-- Client records, admission and the queue (Tables 11-1, 11-11). -/
structure Clients where
  /-- the records, by 32 x ID + word; ALLOWED and the command words of the window are elsewhere -/
  words : Tbl Word
  run : Tbl ClientRun
  queue : List QCmd
  qMax : Nat
  qPeak : Nat
  level : Nat
  fallRun : Nat
  phaseLeft : Nat
  /-- SERVED join answers of the running beacon period (R361) -/
  served : Nat
  /-- record writes that wait for the next tick (R610) -/
  updates : List ClientUpd
  /-- ADMIT.FORGET waiting for the next tick -/
  forget : Option (Nat × Nat)
  cnt : Tbl Word
  classCnt : Tbl Word
  deriving DecidableEq, Repr

end Sys2Proof.Machine
end

