-- ==== Sys2Proof/Machine/Regs/Bb.lean ====
section
/-!
DEFINITION. Regs/Bb.lean: the broadband line channel of the hub (10_broadband_line.md).
-/

namespace Sys2Proof.Machine

/-- A contention-free position of the slot map (Table 10-5): transmitter and receiver; 0x800 is the hub, 0xFFE
broadcast. -/
structure Position where
  tx : Nat
  rx : Nat
  deriving DecidableEq, Repr

/-- An entry gathered for a beacon (R559, R561, R562): its client, direction, and whether it was carried once. -/
structure SlotEntry where
  id : Nat
  down : Bool
  carried : Bool
  deriving DecidableEq, Repr

/-- An acknowledgement (Table 10-5): client, answer, region; `join` marks the answer to a join. -/
structure Ack where
  id : Nat
  ans : Nat
  c0 : Bool
  join : Bool
  deriving DecidableEq, Repr

/-- A timing correction (R572). -/
structure Corr where
  id : Nat
  edge : Bool
  quar : Bool
  val : Int
  deriving DecidableEq, Repr

/-- A carrier mask with its guard (R543, R549, Table 10-2): preset, the 32 user ranges, guard interval. -/
structure MaskSet where
  pre : Bool
  notch : List Word
  gi : Bool
  deriving DecidableEq, Repr

/-- The content of a MASK frame (R551): a mask identifier with the mask and guard it names. -/
structure MaskFrame where
  id : Byte
  mask : MaskSet
  deriving DecidableEq, Repr

/-- The last beacon sent (Table 10-5). -/
structure Beacon where
  netId : Half
  bsn : Nat
  easel : Nat
  load : Byte
  slots : List Position
  acks : List Ack
  corrs : List Corr
  maps : List (Nat × ToneMap)
  routes : List (Nat × List Nat)
  /-- byte 16 bit [0], byte 17, byte 19: guard and mask identifier in force, periods to a pending change, its guard -/
  gi : Bool
  maskId : Byte
  chg : Nat
  pendGi : Bool
  relays : Nat
  /-- byte 16 bit [1]: hand-over; bytes 352-353 and 354-355 (R1035, R1036) -/
  hand : Bool
  coordinator : Half
  handBsn : Half
  deriving DecidableEq, Repr

/-- A downlink frame (R589, R640, R642, R643): its client, the front ends it goes out on, the CLIENT_OUT value when it carries one, its
detailed answers (code, answer, deferral or reason, and for TIME the calendar seconds), its commands (code, sequence number,
arguments). -/
structure DownFrame where
  id : Nat
  fes : List Nat
  out : Option Word
  details : List (Nat × Nat × Nat × Word)
  cmds : List (Nat × Byte × List Word)
  deriving DecidableEq, Repr

/-- One front end (BB.FE_STAT, R601-R603). -/
structure FrontEnd where
  txFault : Bool
  noisy : Bool
  noise : Byte
  missRun : Nat
  retryRun : Nat
  /-- beacon of the last retry (R602) -/
  retryBsn : Option Nat
  /-- quiet-region noise of the last 64 periods, codes of Table 10-8 -/
  hist : List Nat
  deriving DecidableEq, Repr

def FrontEnd.blank : FrontEnd := { txFault := false, noisy := false, noise := 0, missRun := 0, retryRun := 0, retryBsn := none, hist := [] }

/-- The broadband channel (Table 10-11). -/
structure Bb where
  coord : Bool
  /-- mask and guard in force: PRE, ID, notches, GI; the landed changes that wait, oldest first, with the BSN of the boundary at
  which each takes effect (R549) -/
  pre : Bool
  maskId : Byte
  notch : List Word
  gi : Bool
  pend : List (Nat × MaskSet)
  /-- the last MASK frame sent (R551) -/
  maskSent : Option MaskFrame
  netId : Half
  bsn : Word
  sLast : Nat
  sMax : Nat
  sMaxPrev : Nat
  fe : Tbl FrontEnd
  cnt : Tbl Word
  /-- entries gathered since the last BB_BEACON entry, those it took for the next beacon, and those carried to the head of the
  next period's list (R559, R564) -/
  gather : List SlotEntry
  list : List SlotEntry
  carry : List SlotEntry
  /-- an entry was carried, dropped in the period just ended (R646) -/
  carried : Bool
  dropped : Bool
  acks : List Ack
  corrs : List Corr
  routes : List (Nat × List Nat)
  /-- repeaters in use, ascending (R582) -/
  rpt : List Nat
  /-- repeaters withdrawn while routes through them are still in force (R586) -/
  withdrawn : List Nat
  /-- a BB_BEACON entry has run for the next beacon (R559) -/
  built : Bool
  beacon : Beacon
  /-- downlink frames of the running period -/
  downs : List DownFrame
  deriving DecidableEq, Repr

end Sys2Proof.Machine
end

