-- ==== Sys2Proof/Machine/Regs/Evt.lean ====
section
/-!
DEFINITION. Regs/Evt.lean: the event counters (18_proof_and_counters.md, Table 18-8).
-/

namespace Sys2Proof.Machine

/-- The 64 event counters. -/
structure Evt where
  /-- configurations in force where they differ from the reset value, and changes that wait for the next major-frame
  boundary (R1090) -/
  cfg : Tbl Word
  changed : List Nat
  live : Tbl Word
  snap : Tbl Word
  snapTs : Word
  /-- easel time of the last snapshot (R1089, R1103) -/
  snapAt : Option Nat
  /-- events from outside in the sub-tick of the last snapshot, which it counts too (R1103) -/
  late : Tbl Word
  last : BitVec 6
  /-- EVT.CLR bits that wait for the next tick: tick and mask -/
  clr : List (Nat × DWord)
  deriving DecidableEq, Repr

end Sys2Proof.Machine
end

