-- ==== Sys2Proof/Machine/Regs/Conv.lean ====
section
/-!
DEFINITION. Regs/Conv.lean: the converters of domain A (12_converters.md).
-/

namespace Sys2Proof.Machine

/-- What a conversion is: single, continuous, an open-wire test, an arbiter re-sample. -/
inductive ConvKind where
  | single | cont | test | arbiter
  deriving DecidableEq, Repr

/-- A conversion in progress with the settings it began under: order, OSR and clock (T = 2^log x 15,625 / num
sub-ticks), the boundary it began at, its start-up delay, the results it has delivered, the inputs exchanged, and the
criterion an arbiter re-sample answers; its channel's CONV.CH_CFG and QUE as they stood at its start (R723), and whether its
open-wire current flows. -/
structure Conversion where
  ch : Nat
  kind : ConvKind
  k : Nat
  log : Nat
  num : Nat
  start : Nat
  delay : Nat
  done : Nat
  swapped : Bool
  crit : Option Nat
  cfg : Word
  que : Bool
  ow : Bool
  deriving DecidableEq, Repr

/-- One modulator (CONV.MOD_STAT). -/
structure Modulator where
  conv : Option Conversion
  /-- strokes that begin a conversion at the next boundary, in table order: channel, test or not, and their tick -/
  want : List (Nat × Bool × Nat)
  /-- a stream to restart from rest without a stroke (R707, R723) -/
  restart : Option Nat
  powered : Bool
  /-- returned to service and not yet used: the next conversion has the full start-up delay (R693) -/
  anew : Bool
  /-- the reference buffer has been powered since; none while off -/
  refSince : Option Nat
  lastGood : Bool
  /-- REF_OK has been 0 since; the end of the span of REF_OK = 0 before (R696) -/
  lowSince : Option Nat
  lowUntil : Option Nat
  goodRun : Nat
  badRun : Nat
  refFault : Bool
  /-- end of the recovery window (R687) -/
  recov : Option Nat
  abort : Byte
  ovr : Byte
  deriving DecidableEq, Repr

/-- A modulator powered down. -/
def Modulator.blank : Modulator :=
  { conv := none, want := [], restart := none, powered := false, anew := false, refSince := none, lastGood := false
    lowSince := none, lowUntil := none, goodRun := 0, badRun := 0,    refFault := false, recov := none, abort := 0, ovr := 0 }

/-- A delivered result: code, flags (Table 12-2), sequence number, the easel time from which strokes see it (R678), and
its number on the channel. -/
structure ConvRes where
  code : Int
  flags : Byte
  seq : Half
  vis : Nat
  no : Nat
  deriving DecidableEq, Repr

/-- One channel (CONV.LAST, CONV.CH_STAT). -/
structure ConvCh where
  last : Option ConvRes
  /-- results not older than the newest visible one, newest first -/
  recent : List ConvRes
  /-- latest result with none of OVR, RECOV, REFNS -/
  good : Option Int
  /-- number of the result the last CONV_READ returned -/
  read : Option Nat
  under : Nat
  swapped : Bool
  ow : Bool
  tested : Bool
  swapCnt : Byte
  owCnt : Half
  deriving DecidableEq, Repr

/-- A channel that has delivered nothing. -/
def ConvCh.blank : ConvCh :=
  { last := none, recent := [], good := none, read := none, under := 0, swapped := false, ow := false, tested := false
    swapCnt := 0, owCnt := 0 }

/-- The converters (Table 12-7). -/
structure Conv where
  mods : Tbl Modulator
  chs : Tbl ConvCh
  queue : Tbl DWord
  head : BitVec 10
  tail : BitVec 10
  hiLatch : Word
  seq : Half
  lost : Half
  lostLogged : Bool
  arbDrop : Byte
  arbWait : List (Nat × Option Nat)
  /-- the tick in which each of these was issued (R714) -/
  arbAt : List Nat
  /-- requests of the safety core not yet issued (R715): tick and criterion, in order; requests issued from the reserve of the
  last tick -/
  asks : List (Nat × Nat)
  asked : Nat
  arbCh : BitVec 7
  impl : Half
  deriving DecidableEq, Repr

end Sys2Proof.Machine
end

