-- ==== Sys2Proof/Machine/Regs/Loop.lean ====
section
/-!
DEFINITION. Regs/Loop.lean: the loop engine of domain L (13_loop_engine.md).
-/

namespace Sys2Proof.Machine

/-- A compensator slot: its histories in Q1.31, and a DELAY1 output that waits: value, OUT signal, tick of the
evaluation (R744, R747). -/
structure Slot where
  x1 : Int
  x2 : Int
  x3 : Int
  y1 : Int
  y2 : Int
  y3 : Int
  pend : Option (Int × Nat × Nat)
  deriving DecidableEq, Repr

/-- A slot with a zero history. -/
def Slot.blank : Slot := { x1 := 0, x2 := 0, x3 := 0, y1 := 0, y2 := 0, y3 := 0, pend := none }

/-- A profile generator (R757, PROF.STAT). -/
structure Gen where
  p : Int
  v : Int
  a : Int
  atTgt : Bool
  vlim : Bool
  alim : Bool
  deriving DecidableEq, Repr

def Gen.blank : Gen := { p := 0, v := 0, a := 0, atTgt := false, vlim := false, alim := false }

/-- A Pentimento instance (PENT.STAT): index of its previous step, whether it has stepped since it started or returned,
changes of index that WAIT still needs (R766). -/
structure Pent where
  k : Nat
  started : Bool
  wait : Bool
  left : Nat
  nocal : Bool
  skip : Half
  deriving DecidableEq, Repr

def Pent.blank : Pent := { k := 0, started := false, wait := false, left := 0, nocal := false, skip := 0 }

/-- The loop engine (Tables 13-5 to 13-7). -/
structure Loop where
  cntOvr : Word
  cntMiss : Word
  cntSat : Word
  fOvr : Tbl Bool
  fMiss : Tbl Bool
  fSat : Tbl Bool
  slots : Tbl Slot
  gens : Tbl Gen
  pents : Tbl Pent
  /-- the table store, Q1.23 (R769) -/
  table : Tbl Int
  tabAddr : Half
  deriving DecidableEq, Repr

end Sys2Proof.Machine
end

