-- ==== Sys2Proof/Machine/Regs/Drive.lean ====
section
/-!
DEFINITION. Regs/Drive.lean: the drive channels of domain M (14_motor_drive.md).
-/

namespace Sys2Proof.Machine

/-- Channel states (Table 14-5). -/
inductive DrvState where
  | off | idle | catching | brake | align | ramp | kick | pause | run | held
  deriving DecidableEq, Repr

/-- What the bridge drives: nothing, the low sides shorted, a six-step sector, a voltage vector (R798, R812, R832). -/
inductive Bridge where
  | off | shorted
  | six (sector : Nat)
  | vec (n : Nat)
  deriving DecidableEq, Repr

/-- A transition that a step has decided and that takes effect at the next minor tick boundary (R823): the state, the
handover duty (Q1.31), and for RUN the sector, the 60 degree interval and the crossing it is synchronised to; the flux
start of DTC (binary32). -/
structure DrvNext where
  dst : DrvState
  duty : Int
  sector : Nat
  t60 : Nat
  cross : Option Nat
  psa : Word
  psb : Word
  deriving DecidableEq, Repr

/-- A plain transition. -/
def DrvNext.plain (st : DrvState) : DrvNext :=
  { dst := st, duty := 0, sector := 0, t60 := 0, cross := none, psa := 0, psb := 0 }

/-- The CMDIN measurement of a channel (R818-R822, DCMD.STAT). -/
structure Cmdin where
  /-- detected class in AUTO: 0 analog, 1 duty, 2 frequency, 3 none -/
  det : Nat
  /-- another class shown since an easel time (R821) -/
  cand : Option (Nat × Nat)
  /-- the time since which edges are looked for, and the last edge: its time and the level after it -/
  edgeAt : Nat
  level : Bool
  static : Bool
  fault : Bool
  x : Half
  /-- the value last written by the CMDIN stroke -/
  value : Word
  deriving DecidableEq, Repr

def Cmdin.blank : Cmdin :=
  { det := 3, cand := none, edgeAt := 0, level := false, static := false, fault := false, x := 0, value := 0 }

/-- One drive channel (Tables 14-11, 14-12). -/
structure DrvChan where
  st : DrvState
  next : Option DrvNext
  /-- easel time of the entry to the state -/
  since : Nat
  /-- DRIVE.CFG as latched at the entry to IDLE: WAVE, START, FPWM, POLES, NOTCH, RSH (R844) -/
  cfg : Word
  bridge : Bridge
  /-- since when each phase's low side has had its present part in the bridge (R793) -/
  glAt : List Nat
  /-- command in force, and the commanded and actual direction (true: reverse) -/
  cmd : Word
  rev : Bool
  revAct : Bool
  /-- duty in force, the duty before it (for samples at a boundary), and the demand of the latest PWM stroke: value and
  tick (Q1.31) -/
  duty : Int
  dutyPrev : Int
  demand : Option (Int × Nat)
  sector : Nat
  /-- scheduled commutation and the last one; the 60 degree interval (R803) -/
  comm : Option Nat
  lastComm : Nat
  t60 : Nat
  /-- last valid crossing, the intervals between the last three, a crossing seen in this sector (R801-R803) -/
  lastCross : Option Nat
  ints : List Nat
  crossed : Bool
  /-- the sector has had its crossing, valid or not (R801) -/
  tried : Bool
  misses : Nat
  /-- the last comparator sample, and the levels confirmed by two samples (CATCH, KICK) -/
  raw : Option (Nat × BitVec 3)
  levels : Option (BitVec 3)
  /-- crossings or Hall edges of CATCH, BRAKE and KICK, newest first: time and position, which a forward motion advances -/
  seen : List (Nat × Nat)
  validRun : Nat
  retry : Nat
  pulse : Nat
  listening : Bool
  reverses : Nat
  /-- the start that a listening kick has found; and, as they stood at the start of the tick, that start, the run of valid
  crossings of RAMP and the attempt's failure (R823, Tables 14-7, 14-8) -/
  hit : Option DrvNext
  hitAtTick : Option DrvNext
  validAtTick : Nat
  failedAtTick : Bool
  /-- sample sets, newest first: boundary and three codes (R792-R796) -/
  sets : List (Nat × Int × Int × Int)
  pred : Bool
  predRun : Nat
  ocRun : List Nat
  /-- last zero crossing of a current in BRAKE, the signs of the currents, phases whose GL is released (R832, R833) -/
  curCross : Nat
  curSign : Option (BitVec 3)
  released : BitVec 3
  /-- peaks of the running electrical revolution and of the one before: sectors that involve U, V, W; those that do not -/
  peakIn : List Nat
  peakOut : List Nat
  peakInOld : List Nat
  peakOutOld : List Nat
  steps : Nat
  revs : Nat
  hall : BitVec 3
  /-- flux, torque and torque reference (binary32), hysteresis states, vector in force (R808-R816) -/
  psa : Word
  psb : Word
  torque : Word
  tref : Word
  trefNext : Option (Word × Nat)
  dPsi : Int
  dTq : Int
  vec : Nat
  /-- the vector before it, which applies until 3 us after the boundary (R814) -/
  vecOld : Nat
  /-- flux sector (0: none yet), and the time of its last change or of the last Hall edge (R807) -/
  fluxSec : Nat
  fluxAt : Nat
  speed : Int
  speedAt : Nat
  flt : BitVec 12
  /-- when START_FAIL or REVERSE_HELD was last raised (R881) -/
  failAt : Option Nat
  starts : Half
  failed : Half
  /-- run state at the entry to HELD (R840) -/
  heldRun : RunState
  cmdin : Cmdin
  deriving DecidableEq, Repr

/-- A channel that is OFF. -/
def DrvChan.blank : DrvChan :=
  { st := .off, next := none, since := 0, cfg := 0x14001110, bridge := .off, glAt := [0, 0, 0], cmd := 0, rev := false, revAct := false
    duty := 0, dutyPrev := 0, demand := none, sector := 0, comm := none, lastComm := 0, t60 := 0, lastCross := none
    ints := [], crossed := false, tried := false, misses := 0, raw := none, levels := none, seen := [], validRun := 0, retry := 0
    pulse := 0, listening := false, reverses := 0, hit := none, hitAtTick := none, validAtTick := 0
    failedAtTick := false, sets := [], pred := false, predRun := 0, ocRun := [0, 0, 0]
    curCross := 0, curSign := none, released := 0, peakIn := [0, 0, 0], peakOut := [0, 0, 0], peakInOld := [0, 0, 0]
    peakOutOld := [0, 0, 0], steps := 0, revs := 0, hall := 0, psa := 0, psb := 0, torque := 0, tref := 0
    trefNext := none, dPsi := 1, dTq := 0, vec := 0, vecOld := 0, fluxSec := 0, fluxAt := 0, speed := 0, speedAt := 0, flt := 0, failAt := none
    starts := 0, failed := 0, heldRun := .stopped, cmdin := Cmdin.blank }

/-- The 24 drive channels. -/
structure Drive where
  chans : Tbl DrvChan
  deriving DecidableEq, Repr

end Sys2Proof.Machine
end

