-- ==== Sys2Proof/Machine/Regs/Fan.lean ====
section
/-!
DEFINITION. Regs/Fan.lean: the fan channels and the load diagnostics of relay and sounder drivers
(15_fans_relays_sounders.md).
-/

namespace Sys2Proof.Machine

/-- Fan channel states (Table 15-1). -/
inductive FanState where
  | off | idle | start | run | wait | test | openLoop | blocked
  deriving DecidableEq, Repr

/-- A tach line test (R874): its phase (0 sinking, 1 sourcing, 2 complete), the start of the phase, whether the line was
below 1.0 V at the first sample and above 2.0 V at the second. -/
structure LineTest where
  phase : Nat
  at_ : Nat
  low : Bool
  high : Bool
  deriving DecidableEq, Repr

/-- One fan channel (Table 15-8). Duties are Q1.31; 2^31 is full. -/
structure Fan where
  st : FanState
  next : Option FanState
  since : Nat
  duty : Int
  /-- duties set by steps whose PWM period has not begun, newest first: value and tick of the step (R857) -/
  dutyNext : List (Int × Nat)
  /-- easel time at which the duty commanded last changed (R1176, log 54) -/
  cmdAt : Option Nat
  integ : Int
  /-- the next evaluation of the speed loop is the first after an entry to RUN (R868) -/
  fresh : Bool
  /-- accepted tach edges, newest first (R859) -/
  edges : List Nat
  /-- edges since the entry to OPENLOOP (R877) -/
  openEdges : List Nat
  attempts : Nat
  /-- the line test follows a failed attempt rather than a stall (R875) -/
  afterAttempt : Bool
  test : Option LineTest
  etgt : Nat
  table : Bool
  /-- of a bound motor, the START_FAIL or REVERSE_HELD that the channel's steps have seen (R881) -/
  motorFail : Option Nat
  /-- run state at the entry to BLOCKED (R879) -/
  blockedRun : RunState
  flt : BitVec 3
  starts : Half
  failed : Half
  deriving DecidableEq, Repr

def Fan.blank : Fan :=
  { st := .off, next := none, since := 0, duty := 0, dutyNext := [], cmdAt := none, integ := 0, fresh := false, edges := []
    openEdges := [], attempts := 0, afterAttempt := false, test := none, etgt := 0, table := false, motorFail := none
    blockedRun := .stopped, flt := 0, starts := 0, failed := 0 }

/-- Load diagnostics of the drivers: relays 0-31, sounder k as 32 + k (Table 15-5, Table 15-9). -/
structure LoadDiag where
  /-- NOLOAD, OPEN_ON, OVERLOAD, THERMAL in bits 0-3 -/
  flags : BitVec 4
  current : Byte
  ops : Half
  flt : Half
  deriving DecidableEq, Repr

def LoadDiag.blank : LoadDiag := { flags := 0, current := 0, ops := 0, flt := 0 }

/-- Fans and load diagnostics. -/
structure Fans where
  chans : Tbl Fan
  loads : Tbl LoadDiag
  deriving DecidableEq, Repr

end Sys2Proof.Machine
end

