-- ==== Sys2Proof/Machine/Regs/Store.lean ====
section
/-!
DEFINITION. Regs/Store.lean: the retained store beside its array: the shadow of domain K and the registers of the STORE
bank (16_retained_store.md).
-/

namespace Sys2Proof.Machine

/-- A fault log entry waiting for region D (Table 18-5): its place in the order queued (R933), words 1, 2 and 3. -/
structure LogEntry where
  ord : Nat
  hyper : Word
  word2 : Word
  value : Word
  deriving DecidableEq, Repr

/-- A parameter log record waiting for region B (R917): its place in the order queued, item class, item, value. -/
structure ParRec where
  ord : Nat
  cls : Nat
  item : Nat
  value : Word
  deriving DecidableEq, Repr

/-- A host page waiting in rows 28-31: its place in the order queued, its page of the array (sector x 64 + page), its 16
words. -/
structure HostPage where
  ord : Nat
  page : Nat
  data : List Word
  deriving DecidableEq, Repr

/-- A dump area not yet cleared: its rows not yet durable since the replay, whether the shadow survived it, and the place in
the order of R933 before which things queued came from it (R942). -/
structure Dump where
  area : Bool
  rows : Word
  survived : Bool
  ord : Nat
  deriving DecidableEq, Repr

/-- The retained store beside its array (Table 16-9, Table 16-2). -/
structure Store where
  ready : Bool
  logQ : List LogEntry
  /-- words of the fault log that wait for the STORE reserve (Table 05-1) -/
  logWords : Nat
  logLost : Word
  /-- code 0x3FF is owed to the log (R1095) -/
  lostDue : Bool
  /-- next entry of region D, 0-2,815, and its sequence number (R1091, R1092) -/
  logPos : Nat
  logSeq : Word
  parQ : List ParRec
  parSeq : Word
  /-- active half of the parameter log and its next record, 0-4,095 -/
  half : Bool
  parPos : Nat
  pages : List HostPage
  /-- place of the next queued thing in the order of R933 -/
  ord : Nat
  cnt : Tbl Word
  dirtyCnt : BitVec 16
  ckCopy : Bool
  ckSeq : Word
  ckAt : Nat
  dres : BitVec 4
  ce : Half
  ue : Half
  scan : Bool
  scanRef : Byte
  scanUe : Byte
  scanDone : Bool
  scanTs : Word
  scanAt : Nat
  /-- the running scan belongs to the store step of Proof -/
  scanProof : Bool
  refresh : Word
  /-- torn sectors whose repair has not completed, with the cause of their INTENT -/
  torn : Tbl Nat
  tornSec : Nat
  tornCause : Nat
  tornCnt : Half
  flagTorn : Bool
  dumpUsed : Bool
  dumpPart : Bool
  jrnlFault : Bool
  wear : Bool
  erases : Tbl Word
  /-- active journal sector, its next group, the next record's sequence, the last roll sequence -/
  jAct : Bool
  jPos : Nat
  jSeq : Word
  rollSeq : Word
  /-- flaws of the array by group (512 x sector + group): 1 correctable, 2 uncorrectable, 3 reads differently at the two
  margin levels; sound where unlisted -/
  flaws : Tbl Nat
  /-- sectors whose uncorrectable group is already logged (R946) -/
  ueLogged : Tbl Bool
  /-- the shadow holds its contents: domain K has kept its power -/
  kept : Bool
  /-- dumps not yet cleared, oldest first; and whether the newest is being written by a flush -/
  dumps : List Dump
  dumping : Bool
  /-- target pages of the host pages of the last dump -/
  dumpTags : List Nat
  /-- a host erase has written INTENT and not DONE: its sector -/
  erasing : Option Nat
  /-- keys, by key ID (R398, R964); 0 from the factory -/
  keys : Tbl DWord
  /-- pages used in the key log copies -/
  keyPages : Nat
  deriving DecidableEq, Repr

end Sys2Proof.Machine
end

