-- ==== Sys2Proof/Machine/Regs/Mirror.lean ====
section
/-!
DEFINITION. Regs/Mirror.lean: the mirror pair (17_mirror_pair.md).
-/

namespace Sys2Proof.Machine

/-- MIRROR_STAT.ROLE (Table 17-7). -/
inductive Role where
  | none_ | primary | standby | taking
  deriving DecidableEq, Repr

/-- A SUMMARY record (R1007): its pair frame, the digest O(f), the compensator, profile and Pentimento state (held whole,
log 64), and whether the primary recorded an overrun, a lane fault or an uncorrectable memory error in f. -/
structure Summary where
  frame : Nat
  digest : Word
  state : List Word
  err : Bool
  deriving DecidableEq, Repr

/-- A record of the link not yet acknowledged (R1002, R1003): its type (19 for the FORWARD of an acknowledge operation) and
sequence, and the resends made. -/
structure LinkRec where
  typ : Nat
  seq : Byte
  resends : Nat
  deriving DecidableEq, Repr

/-- The mirror pair (Tables 17-7, 17-8). -/
structure Mirror where
  pair : Bool
  mside : Bool
  role : Role
  linkUp : Bool
  tlock : Bool
  inStep : Bool
  xfer : Bool
  xferReq : Bool
  /-- easel time of the request, which acts at a later boundary (R1018, R1205) -/
  askedAt : Nat
  /-- easel time of the trigger of a switchover, which acts at a later boundary (R1050, R1205, Table 17-5) -/
  trigAt : Nat
  /-- pair frame in which the running transfer began (R1020) -/
  xferStart : Nat
  /-- level of nMACT_P: true is high -/
  nmactP : Bool
  /-- role of the partner as its STATUS states it -/
  pRole : Nat
  pTier : Nat
  pAlarm : Half
  pTrouble : Half
  pFault : Bool
  pToken : Byte
  pImgCrc : Word
  pGen : Word
  pStaged : Option Word
  /-- partner outputs on, as its STATUS states them: bits 0-3 sounders, 4-19 relay drivers 16-31; none while unknown -/
  pOut : Option (BitVec 20)
  swo : Bool
  div : Bool
  ctlRes : BitVec 3
  imgMis : Bool
  sideConf : Bool
  laneFault : Bool
  linkLoss : Bool
  selfFault : Bool
  divFault : Bool
  offset : Int
  zcOff : Tbl Nat
  phase : Half
  pull : Half
  /-- last pair frame replayed in full, and the frame under replay -/
  replayed : Nat
  replaying : Option Nat
  divFrame : Nat
  divBlame : Nat
  divItem : Nat
  swoCause : Nat
  swoForce : Bool
  swoStep : Bool
  swoHyp : Nat
  ackRes : BitVec 2
  cnt : Tbl Word
  /-- INPUT records held, by pair tick (R1006), and the SUMMARY records waiting for comparison -/
  inputs : Tbl (List Word)
  summaries : List Summary
  /-- own O(f) and changed state of the frames replayed, newest first, for the comparison: frame, digest, state, own error -/
  results : List (Nat × Word × List Word × Bool)
  /-- this chip recorded an overrun, a lane fault or an uncorrectable memory error in the current frame (R1015) -/
  errNow : Bool
  /-- easel times of the divergences attributed to this chip (R1017) -/
  divTimes : List Nat
  /-- tick of the last valid record -/
  lastRec : Nat
  /-- records sent and not acknowledged, and the next sequence number -/
  unacked : List LinkRec
  txSeq : Byte
  /-- a switchover has been triggered: cause, FORCE, the standby's IN_STEP; its B1 as pair frame once passed -/
  trig : Option (Nat × Bool × Bool)
  b1 : Option Nat
  /-- beacon periods left of the 64 after a hand-over (R1037; the first 8 carry the hand-over bit, R1035), and BSN [15:0] of
  the last beacon this chip sent before it handed over (R1036) -/
  handLeft : Nat
  handBsn : Half
  /-- items received in the running transfer (R1020), newest first: they take effect together at its end -/
  xferState : List StateItem
  /-- the comparison of the transferred frame 63 has passed (R1021) -/
  xferCheck : Bool
  /-- decisions of the primary for the groups of a forwarded Glaze set: group and reason, 0 where it landed (R1039) -/
  fwdSet : List (Nat × Nat)
  /-- the last SUMMARY built (R1007); OFFSET has been set since the restart (R997); the partner has written the chunk
  forwarded last (R1040) -/
  built : Option Summary
  offSet : Bool
  pChunk : Bool
  deriving DecidableEq, Repr

end Sys2Proof.Machine
end

