-- ==== Sys2Proof/Machine/Regs/Field.lean ====
section
/-!
DEFINITION. Regs/Field.lean: the field ring (20_field_pins_and_electrical.md).
-/

namespace Sys2Proof.Machine

/-- A field ball under diagnosis: its state code (Table 20-2), scans since it was enabled, and by condition code the
consecutive scans in which the condition was present, and absent (R1147); `holds` has the bit of each qualified condition. -/
structure Ball where
  state : Nat
  scans : Nat
  pres : Tbl Nat
  abs_ : Tbl Nat
  holds : BitVec 8
  deriving DecidableEq, Repr

/-- A ball not yet qualified. -/
def Ball.blank : Ball := { state := 7, scans := 0, pres := [], abs_ := [], holds := 0 }

/-- The field ring (Table 20-15). -/
structure Field where
  balls : Tbl Ball
  vfieldMv : Half
  tjNow : Half
  tjPeak : Half
  lastBall : Nat
  lastState : Nat
  cnt : Word
  /-- easel time from which the ring scans (R1182), none while VMAIN is not valid -/
  scanAt : Option Nat
  seen : BitVec 444
  /-- consecutive successful reverse probes, by sentinel (R1152) -/
  probeRun : Tbl Nat
  /-- sentinels whose balls are exchanged at their next sample (R1154) -/
  swapDue : BitVec 16
  /-- easel time at which Gesso was armed (R1150, R1183) -/
  armedAt : Nat
  /-- easel time of the last reverse probe of a sentinel, 0 where there was none (R1150) -/
  probeAt : Tbl Nat
  deriving DecidableEq, Repr

end Sys2Proof.Machine
end

