-- ==== Sys2Proof/Machine/Regs/Proof.lean ====
section
/-!
DEFINITION. Regs/Proof.lean: Proof (18_proof_and_counters.md).
-/

namespace Sys2Proof.Machine

/-- PROOF.STEP_RES: outcome 0 pass, 1 fail, 2 skipped, 3 aborted; items tested and failed. -/
structure StepRes where
  out : Nat
  tested : Nat
  failed : Nat
  deriving DecidableEq, Repr

def StepRes.blank : StepRes := { out := 0, tested := 0, failed := 0 }

/-- Proof (Table 18-7). -/
structure Proof where
  running : Bool
  sched : Bool
  /-- steps selected and not yet ended -/
  mask : Byte
  step : Nat
  /-- the current step has begun: its easel time -/
  stepAt : Option Nat
  /-- a scheduled run is due (R1058), since this easel time; it is postponed (R1059) -/
  due : Option Nat
  /-- the calendar second of the event that came due (R211) -/
  dueT : Nat
  postponed : Bool
  /-- the last scheduled run: easel time of its start, and the calendar second of its event (R211) -/
  ranAt : Option (Nat × Nat)
  pass : Byte
  fail : Byte
  skip : Byte
  lastTs : Word
  runs : Half
  failedRuns : Half
  res : Tbl StepRes
  dur : Tbl Word
  /-- items tested in the current step, and those failed with their measured values -/
  tested : Nat
  fails : List (Nat × Half)
  /-- sentinels under injection: sentinel, and whether the ALARM boundary has passed (R1066) -/
  inj : List (Nat × Bool)
  /-- by front end, the slot of the frame injected last and whether it passed (R1100) -/
  injIn : Tbl (Option (Nat × Bool))
  /-- done in this SAFETY step: sentinel n as n, the frames of front end t as 16 + 2t and 17 + 2t (R1065, R1068) -/
  injDone : List Nat
  /-- heads commanded and not yet answered (R1079) -/
  heads : List Nat
  /-- heads still to be commanded; in CONV the channels still to be re-sampled; in SOUNDER the sounders still to chirp -/
  headsLeft : List Nat
  deriving DecidableEq, Repr

end Sys2Proof.Machine
end

