-- ==== Sys2Proof/Machine/Regs/Legacy.lean ====
section
/-!
DEFINITION. Regs/Legacy.lean: the Plovul P8 compatibility window (19_plovul_window.md).
-/

namespace Sys2Proof.Machine

/-- A queued legacy write with its target as it stood at the write (R1121): a parameter and its value, or a fan channel
and its target in rpm. -/
inductive LegWrite where
  | param (addr : Nat) (value : Word)
  | fan (f rpm : Nat)
  deriving DecidableEq, Repr

/-- The compatibility window (Tables 19-1, 19-3). -/
structure Legacy where
  /-- level of the strap P8MODE, and the mode in force (R1108) -/
  p8 : Bool
  mode : Bool
  /-- write latch by byte position, and whether it has been written since the last HI or LPD3 write (R1114) -/
  wlatch : Word
  wfresh : Bool
  rlatch : Word
  queue : List LegWrite
  /-- a write that nWAIT holds for room in the queue (R1123) -/
  waiting : Option LegWrite
  stat : Byte
  /-- easel time plus 1 at which each LSTAT bit last set (R1135) -/
  statAt : Tbl Nat
  irqEn : Byte
  hb : Byte
  fanSel : Nat
  /-- legacy targets in rpm, by fan channel -/
  fanTgt : Tbl Nat
  client : Byte
  arg : Half
  paddr : Half
  pres : BitVec 3
  opErr : Bool
  opData : List Byte
  lastApply : BitVec 3
  token : Byte
  /-- the first acknowledge write: its easel time, and whether a legacy write has come since (R1125) -/
  ackAt : Option (Nat × Bool)
  /-- the frame whose apply window the queue has had (R1122) -/
  lastFrame : Option Nat
  cntStale : Word
  cntAckfail : Word
  cntApply : Word
  cntRefused : Word
  deriving DecidableEq, Repr

end Sys2Proof.Machine
end

