-- ==== Sys2Proof/Machine/State.lean ====
section
/-!
DEFINITION. State.lean: the state of the block, its reset, and the reasons a command can stop.
-/

namespace Sys2Proof.Machine

/-- No command of the table stops with a fault: every effect the spec gives ends in a next state (safe: there is nothing
to raise). -/
inductive Fault where
  deriving DecidableEq, Repr

/-- The reasons for which a command is refused. -/
inductive Refusal where
  /-- Raised by Dispatch for a command that has no meaning in this model (safe: the run stops). -/
  | notModelled (mnemonic : String)
  deriving DecidableEq, Repr

/-- The state of the ZD-2048: the queue of commands that wait, the free-value counter of the model, the array of the
retained store, the parameters in force, and every register, buffer and mode of the chapters. -/
structure State where
  /-- commands waiting, first in, first out (log 1) -/
  pending : List Instr
  /-- the model's own counter of free values (log 3) -/
  free : Nat
  mem : Memory
  /-- writable parameters in force that differ from their reset value, by address (R14) -/
  params : Tbl Word
  gesso : Gesso
  pads : Pads
  safety : Safety
  time : Time
  canvas : Canvas
  sys : Sys
  power : Power
  host : HostBus
  glaze : Glaze
  zc : Zc
  bb : Bb
  clients : Clients
  evt : Evt
  conv : Conv
  loop : Loop
  drive : Drive
  fans : Fans
  store : Store
  mirror : Mirror
  field : Field
  proof : Proof
  legacy : Legacy
  deriving DecidableEq, Repr

/-- Gesso after a power-on reset of domain G over a blank array (R84, R85, Table 02-10). -/
def resetGesso : Gesso :=
  { record := defaultRecord, cfgCrc := crc32 defaultRecord, copyDup := false, dflt := true, armed := false, clkRc := false, rlBusy := false
    rlResult := 0, relatchCnt := 0, sen := [], swapped := 0, trip := 0, tripAt := [], hitAt := [], silenced := 0, lastSrc := 0x1F, lastAddr := 0
    scFault := false, cfgDefault := true, xdis := false, fbMismatch := false, fbRun := 0, clkTrouble := false, cfgLatch := false
    outCmd := 0, cntAcc := 0, cntDrop := 0, cntUnconf := 0, confirm := [], taken := [], takenComb := [], copies := [], noise := [], zcLive := false
    snap := { at_ := 0, challenge := 0, published := false, answered := false, bands := [], codes := [], trip := 0, outCmd := 0
              outFb := 0, comb := 0, settled := false, crc := 0, nth := 4 }
    sinceRelatch := 4
    chalCount := 0, badRun := 0, goodRun := 0, firstAnswer := false, coreReset := none, autoRelatch := []
    lastChirp := none, tier0Fault := false, porAt := 0 }

def resetPads : Pads :=
  { pathSnd := 0, pathRly := 0, nonAlarm := 0, ssRly := 0, ssCrly := 0, ssFan := 0, pathStopped := false, crly := 0
    crlyNext := []
    snd := [], cycleStart := none, interval := 0, lastSwitch := [], fbErr := 0 }

/-- The safety core before it first leaves reset (Table 03-9). -/
def resetSafety : Safety :=
  { run := false, answeredOnce := false, lockstep := false, fwFail := false, sram := false, recPend := false, lsCnt := 0
    lsTimes := [], restartAt := none, hbLast := 0, hbCnt := 0, xdisItem := 0, xdisIndex := 0, xdisCnt := 0
    record := defaultRecord, recordCrc := crc32 defaultRecord, reloadDue := none, mon := [], confirm := [], taken := []
    takenComb := [], bbReport := [], zcReport := [], crit := [], alarms := 0, sil := 0, unknown := false, setLost := false, token := 0, tokenTick := none
    ackRes := 0, blocked := false, ackPending := none, gessoOnly := 0, held := false, heldAt := 0, heldWas := false
    pathOwed := 0, causes := [], core := false, lastChirp := none
    lastCmp := 0, disRun := [], disNow := [], cmdChanged := 0, lastBcast := none, fwTest := 0 }

/-- The time base after a power-on reset of domain G (R197, Table 04-5). -/
def resetTime : Time :=
  { easel := 0, source := .rc, frameDone := none, hyperDone := none, easelHi := 0, phase64 := 0, diff := 0, calSec := 0, calSub := 0, secStart := 0
    calValid := false, calSet := none, trim := 0, calCorr := 0, secLen := 32768, x40Ok := false, x32Ok := false
    x32Since := none, x32Run := false, discLock := false, xtalDev := false, x40Fail := false, easelRtc := false
    goodRun := 0, trims := [(0, 0)], winOpen := none, discardCount := false, tracks := [], phaseL2 := 0, phaseL3 := 0 }

/-- The Canvas before its start (Table 05-11). -/
def resetCanvas : Canvas :=
  { run := .stopped, noImage := false, fallback := false, slot := false, stagedOk := false, swapHeld := false
    ovrHigh := false, swapArm := false, allowOld := false, image := none, stagedGen := 0, verCode := 0, verFrames := 0, verBusy := false
    verSlot := false, verWhere := 0, ovrCnt := [], ovrLast := 0, ovrHyper := []
    resMax := [], resPeak := [], work := [], ran := [], ranAt := 0, overran := [], swapCnt := 0, laneFlt := 0, signals := [], fresh := [], timers := [], lowpass := [], held := [], runInFrames := 0 }

/-- Domain G is powered and its check has passed (Tables 01-5, 06-9). -/
def resetSys : Sys := { tier := 0, applied := 1, checked := 1, failed := 0, gated := 0, tierLog := [] }

/-- Power after a power-on reset of domain G (Tables 06-8, 06-9). -/
def resetPower : Power :=
  { st := .run, vmain := false, vcore := false, vana := false, vfield := false, vbat := false, pfw := false
    holdLow := true, vbatLow := false, vbatAbsent := false, flushing := false, flushStart := 0, horizon := 0
    horizonState := 0, busyLim := false, entryCnt := [], wakeTs := [], rstPor := true, rstNrst := false, rstStuck := false
    masked := false, nrstCnt := 0, dips := 0, brown := 0, flushDur := 0, flushComplete := false, flushValid := false
    vhold := 0, nrstLow := none, nrstHeld := 0, nrstHigh := none, wake := 0, wakeFirst := 7, wakeTimed := 0, wakeAt := [], wakeSeq := false, ceil := 2
    sleepRes := 0, ceilPending := none, movingUntil := 0, exitAt := 0, origin := 0, restartKind := 0, restartWaits := false
    mainAt := 0, storeReset := false, inReset := false, starting := true, beaconDue := true, busrdy := false, canvasStarted := none }

/-- No long operation. -/
def resetOp : LongOp :=
  { st := .idle, code := 0, args := [], acceptedAt := 0, worked := false, paused := false, part := false, cmdRes := 0
    err := 0, abortReq := false, abortAt := 0, progress := 0, legacy := false, res := [], resLatch := [], out := [] }

/-- The host interface (Tables 07-7, 07-8). -/
def resetHost : HostBus :=
  { irqOd := false, hbEn := true, busErr := false, waitTmo := false, irqStat := 0, irqTick := [], irqAt := [], irqEn := 0x0047
    held := false, heldAcc := none, heldAt := 0, heldBound := 0, dctlUntil := none, tReady := 0, frameNow := 0, hyperLo := 0, hyperHi := 0, opArg := [], op := resetOp, paddr := 0
    lowHeld := none, hiLatch := 0, ainc := false, pctlRes := 0, errCnt := 0, clientSel := 0, clientLow := none
    clientHi := 0, window := [], ready := false, cAinc := false, cAns := 0, cN := 0, snapAt := none, cmdGoAt := none
    trackClr := [], evtSel := 0, evtHi := 0, keyIn := none, keyDone := [], keyValid := [], keyLast := none, keyRes := 0, keyId := 0
    locks := [], hb := 0, beatAt := 0, beatNew := false, beatFirst := 0, silent := false, silentCnt := 0, busErrCnt := 0, waitCnt := 0
    ring := [], head := 0, tail := 0, stall := false, recs := 0, seq := 0, pub := [], pubNext := [], imm := [], dOut := 0
    nWaitLow := false }

/-- Glaze and service (Tables 08-7, 08-8): every unit in service (R489). -/
def resetGlaze : Glaze :=
  { set := [], sealed_ := false, commitAt := none, withdrawn := false, landed := 0, refused := 0, grp := 0, res := []
    persistWait := [], lastWin := none, sealedWin := none, phFrom := [], svc := [], svcTag := 0, svcAns := 0, svcReason := 0, oosDrv := 0, oosMod := 0, oosPh := 0
    oosLoop := [], probeClient := 0, probePassed := 0, probeActive := false, probePeriods := 0, probeTag := 0
    probeBsn := none }

def resetZc : Zc := { tracks := [], taken := [] }

/-- Broadband: direct links in ROBO4, the reset mask and guard in force (Table 10-11, R606). -/
def resetBb : Bb :=
  { coord := false, pre := true, maskId := 0, notch := List.replicate 32 0, gi := true, pend := [], maskSent := none, netId := 1, bsn := 0
    sLast := 0, sMax := 0, sMaxPrev := 0, fe := [], cnt := [], gather := [], list := [], carry := [], carried := false
    dropped := false, acks := [], corrs := [], routes := [], rpt := [], withdrawn := [], built := false, downs := []
    beacon := { netId := 0, gi := false, maskId := 0, pendGi := false, bsn := 0, easel := 0, load := 0, slots := [], acks := [], corrs := [], maps := [], routes := [], chg := 0
                relays := 0, hand := false, coordinator := 0, handBsn := 0 } }

/-- Clients: none admitted, the queue empty (R661, Table 11-11). -/
def resetClients : Clients :=
  { words := [], run := [], queue := [], qMax := 0, qPeak := 0, level := 0, fallRun := 0, phaseLeft := 0, served := 0
    updates := [], forget := none, cnt := [], classCnt := [] }

/-- Event counters: every counter at 0, selecting source 376 (R1105, Table 18-8). -/
def resetEvt : Evt := { cfg := [], changed := [], live := [], snap := [], snapTs := 0, snapAt := none, late := [], last := 0, clr := [] }

/-- Converters at a restart (R734, Table 12-7). -/
def resetConv : Conv :=
  { mods := [], chs := [], queue := [], head := 0, tail := 0, hiLatch := 0, seq := 0, lost := 0, lostLogged := false
    arbDrop := 0, arbWait := [], arbAt := [], asks := [], asked := 0, arbCh := 0, impl := 0 }

/-- The loop engine: zero histories, an empty table store (R769, Tables 13-5 to 13-7). -/
def resetLoop : Loop :=
  { cntOvr := 0, cntMiss := 0, cntSat := 0, fOvr := [], fMiss := [], fSat := [], slots := [], gens := [], pents := []
    table := [], tabAddr := 0 }

/-- Every drive channel is OFF (R853). -/
def resetDrive : Drive := { chans := [] }

/-- Every fan channel is OFF, no load flag set (R910). -/
def resetFans : Fans := { chans := [], loads := [] }

/-- The store before its start-up: nothing queued, the array blank (R987, R964). -/
def resetStore : Store :=
  { ready := false, logQ := [], logWords := 0, logLost := 0, lostDue := false, logPos := 0, logSeq := 0, parQ := [], parSeq := 0
    half := false, parPos := 0, pages := [], ord := 0, cnt := [], dirtyCnt := 0, ckCopy := false, ckSeq := 0, ckAt := 0
    dres := 0, ce := 0, ue := 0, scan := false, scanRef := 0, scanUe := 0, scanDone := false, scanTs := 0, scanAt := 0
    scanProof := false, refresh := 0, torn := [], tornSec := 0, tornCause := 0, tornCnt := 0, flagTorn := false
    dumpUsed := false, dumpPart := false, jrnlFault := false, wear := false, erases := [], jAct := false, jPos := 0
    jSeq := 0, rollSeq := 0, flaws := [], ueLogged := [], kept := false, dumps := [], dumping := false, dumpTags := [], erasing := none
    keys := [], keyPages := 0 }

/-- Single mode, side A, no partner (Tables 17-7, 17-8). -/
def resetMirror : Mirror :=
  { pair := false, mside := false, role := .none_, linkUp := false, tlock := false, inStep := false
    xfer := false, xferReq := false, askedAt := 0, trigAt := 0, xferStart := 0, nmactP := true, pRole := 0, pTier := 0
    pAlarm := 0, pTrouble := 0, pFault := false, pToken := 0, pImgCrc := 0, pGen := 0, pStaged := none, pOut := none
    swo := false, div := false, ctlRes := 0, imgMis := false, sideConf := false, laneFault := false, linkLoss := false
    selfFault := false, divFault := false, offset := 0, zcOff := [], phase := 0, pull := 0, replayed := 0
    replaying := none, divFrame := 0, divBlame := 0, divItem := 0, swoCause := 0, swoForce := false, swoStep := false
    swoHyp := 0, ackRes := 0, cnt := [], inputs := [], summaries := [], results := [], errNow := false, divTimes := []
    lastRec := 0, unacked := [], txSeq := 0, trig := none, b1 := none, handLeft := 0, handBsn := 0xFFFF
    xferState := [], xferCheck := false, fwdSet := [], built := none
    offSet := false, pChunk := false }

/-- Every ball NOT_CHECKED, no scan (R1182, Table 20-15). -/
def resetField : Field :=
  { balls := [], vfieldMv := 0, tjNow := 0, tjPeak := 0, lastBall := 0, lastState := 0, cnt := 0, scanAt := none
    seen := 0, probeRun := [], swapDue := 0, armedAt := 0, probeAt := [] }

/-- No run (R1105, Table 18-7). -/
def resetProof : Proof :=
  { running := false, sched := false, mask := 0, step := 0, stepAt := none, due := none, dueT := 0
    postponed := false, ranAt := none, pass := 0, fail := 0, skip := 0, lastTs := 0, runs := 0, failedRuns := 0, res := [], dur := []
    tested := 0, fails := [], inj := [], injIn := [], injDone := [], heads := [], headsLeft := [] }

/-- The native mode, both latches 0, the queue empty (R1140, Tables 19-1, 19-3). -/
def resetLegacy : Legacy :=
  { p8 := false, mode := false, wlatch := 0, wfresh := false, rlatch := 0, queue := [], waiting := none, stat := 0
    statAt := [], irqEn := 7, hb := 0, fanSel := 0, fanTgt := [], client := 0, arg := 0, paddr := 0, pres := 0, opErr := false
    opData := [], lastApply := 0, token := 0, ackAt := none, lastFrame := none, cntStale := 0, cntAckfail := 0
    cntApply := 0, cntRefused := 0 }

/-- The block right after a power-on reset of domain G over a blank array, with no other supply valid. -/
def State.reset : State :=
  { pending := [], free := 0, mem := [], params := [], gesso := resetGesso, pads := resetPads, safety := resetSafety
    time := resetTime, canvas := resetCanvas, sys := resetSys, power := resetPower, host := resetHost
    glaze := resetGlaze, zc := resetZc, bb := resetBb, clients := resetClients, evt := resetEvt, conv := resetConv
    loop := resetLoop, drive := resetDrive, fans := resetFans, store := resetStore, mirror := resetMirror
    field := resetField, proof := resetProof, legacy := resetLegacy }

end Sys2Proof.Machine
end

