-- ==== Sys2Proof/Machine/ParamTable.lean ====
section
/-!
DEFINITION. ParamTable.lean: the parameter index (22_parameter_index.md): which addresses are defined (Table 22-1), the
writable parameters with their fields, ranges, keys and reset values, and which of them are staged (Table 22-2).
-/

namespace Sys2Proof.Machine

/-- Access of a writable field: RW, WK with the key that guards it (Table 07-3), or W1C. -/
inductive FieldAcc where
  | rw
  | wk (key : Nat)
  | w1c
  deriving DecidableEq, Repr

/-- A writable field: bits [lo + w - 1 : lo], the values its chapter allows (R386). -/
structure PField where
  lo : Nat
  w : Nat
  acc : FieldAcc
  min : Nat
  max : Nat
  deriving DecidableEq, Repr

/-- A writable parameter or array of parameters: its addresses, marking and reset value. -/
structure PRow where
  first : Nat
  last : Nat
  staged : Bool
  reset : Word
  fields : List PField
  deriving DecidableEq, Repr

/-- An RW field without a stated range. -/
def rw (lo w : Nat) : PField := ⟨lo, w, .rw, 0, 2 ^ w - 1⟩
/-- An RW field with the range min to max. -/
def rwR (lo w min max : Nat) : PField := ⟨lo, w, .rw, min, max⟩
/-- A WK field of a key. -/
def wk (key lo w : Nat) : PField := ⟨lo, w, .wk key, 0, 2 ^ w - 1⟩
def wkR (key lo w min max : Nat) : PField := ⟨lo, w, .wk key, min, max⟩
/-- A W1C field. -/
def w1c (lo w : Nat) : PField := ⟨lo, w, .w1c, 0, 2 ^ w - 1⟩

/-- The address of index i of bank b (R14). -/
def parAddr (b i : Nat) : Nat := 2048 * b + i

/-- A staged parameter of bank b, indices i to j. -/
def st (b i j : Nat) (reset : Word) (f : List PField) : PRow := ⟨2048 * b + i, 2048 * b + j, true, reset, f⟩
/-- An immediate parameter. -/
def im (b i j : Nat) (reset : Word) (f : List PField) : PRow := ⟨2048 * b + i, 2048 * b + j, false, reset, f⟩

/-- SYS, TIME, CANVAS, GESSO (Tables 07-8, 08-8, 04-5, 05-11, 02-10). -/
def rowsSys : List PRow :=
  [ st 0 0x010 0x010 30 [rwR 0 12 1 3600],
    im 0 0x030 0x030 0 [wk 0 0 3, wk 0 3 1, wk 0 4 11, wk 0 16 8],
    im 1 0x004 0x004 0 [wk 1 0 32],
    st 1 0x006 0x006 1 [rw 0 1, rw 1 1],
    im 1 0x007 0x007 0 [w1c 5 1],
    st 1 0x008 0x00A 1 [rw 0 1, rw 1 1],
    st 1 0x024 0x024 16 [rwR 0 5 4 31],
    im 2 0x000 0x000 0 [rw 0 1, wk 2 1 1],
    im 3 0x09F 0x09F 0 [wk 3 0 1] ]

/-- SAFE (Table 03-9, R1226). -/
def rowsSafe : List PRow :=
  [ st 4 0x000 0x000 0x5 [wkR 4 0 2 0 2, wk 4 2 4],
    st 4 0x006 0x006 48 [wkR 4 0 8 8 255],
    st 4 0x010 0x01F 0 [wkR 4 0 2 0 2],
    st 4 0x020 0x02F 0 [wk 4 0 1],
    st 4 0x030 0x05F 0 [wk 4 0 1],
    st 4 0x060 0x062 0xF [wk 4 0 20],
    st 4 0x080 0x0BF 0xA [wk 4 0 1, wkR 4 1 2 1 3, wkR 4 3 3 1 4],
    st 4 0x0C0 0x0FF 0xF [wk 4 0 20],
    st 4 0x100 0x1FF 0x00040400 [wkR 4 0 3 0 4, wk 4 3 7, wk 4 10 1, wk 4 16 16],
    st 4 0x200 0x2FF 0 [wk 4 0 24],
    st 4 0x300 0x3FF 0x000103E8 [wkR 4 0 16 1 65535, wk 4 16 16] ]

/-- CONV (Table 12-7, R1227). -/
def rowsConv : List PRow :=
  [ st 5 0x000 0x000 0x00140800 [rw 0 16, rwR 16 10 1 1000],
    st 5 0x001 0x001 (BitVec.ofNat 32 (1 + 2 * 2 + 12 * 16 + 80 * 512 + 2 ^ 20 + 4 * 2 ^ 24))
      [rw 0 1, rwR 1 3 1 5, rwR 4 5 6 16, rwR 9 11 8 2000, rw 20 2, rw 24 8],
    im 5 0x005 0x005 0 [rw 0 10],
    st 5 0x010 0x01F (BitVec.ofNat 32 (80 + 2 ^ 16)) [rwR 0 11 8 2000, rwR 12 2 0 2, rwR 14 2 0 2, rw 16 2],
    st 5 0x080 0x0FF (BitVec.ofNat 32 (3 + 12 * 8 + 256 + 1024)) [rwR 0 3 1 5, rwR 3 5 6 16, rw 8 1, rw 9 1, rw 10 1],
    st 5 0x100 0x17F 1 [rw 0 2, rw 2 1, rw 3 1, rw 4 1, rw 5 1],
    im 5 0x200 0x27F 0 [w1c 0 1] ]

/-- LOOP, PROF, PENT (Tables 13-5 to 13-7). -/
def rowsLoop : List PRow :=
  [ st 6 0x010 0x20F (BitVec.ofNat 32 (256 + 1024 * 512)) [rw 0 7, rw 7 1, rw 8 1, rwR 9 11 1 1024],
    st 6 0x210 0x58F 0 [rw 0 32],
    st 6 0x590 0x60F 0 [rw 0 20],
    st 6 0x610 0x68F 0 [rw 0 15],
    st 6 0x690 0x70F 0x80000000 [rw 0 32],
    st 6 0x710 0x78F 0x7FFFFFFF [rw 0 32],
    im 6 0x790 0x7BF 0 [w1c 0 32],
    st 7 0x000 0x1FF 0x8000 [rwR 0 32 1 4294967295],
    st 7 0x200 0x2FF 0 [rw 0 32],
    st 7 0x300 0x3FF 0x100 [rw 0 24],
    st 8 0x000 0x01F 0 [rwR 0 2 0 2, rw 2 1, rw 3 1, rw 4 11, rw 15 5, rw 20 11],
    st 8 0x020 0x03F 0 [rwR 0 12 0 2048, rw 16 16],
    st 8 0x040 0x05F 0 [rw 0 32],
    st 8 0x060 0x07F 0x7FFFFF [rw 0 23],
    st 8 0x080 0x09F 1 [rwR 0 24 1 16777215],
    im 8 0x0C0 0x0C0 0 [rw 0 16],
    im 8 0x0C1 0x0C1 0 [rw 0 32] ]

/-- DRIVE, DCMD (Tables 14-11, 14-12, Table 14-9). -/
def rowsDrive : List PRow :=
  [ st 9 0x000 0x017 (BitVec.ofNat 32 (2 * 8 + 256 + 4 * 1024 + 20 * 2 ^ 24))
      [rwR 0 2 0 2, rw 2 1, rwR 3 3 0 6, rw 6 1, rw 7 1, rw 8 1, rw 9 1, rwR 10 6 1 63, rw 24 8],
    st 9 0x018 0x02F (BitVec.ofNat 32 (120 + 40 * 4096)) [rwR 0 12 12 1200, rwR 12 9 8 400],
    st 9 0x030 0x047 (BitVec.ofNat 32 (1000 + 10 * 65536 + 20 * 2 ^ 24)) [rwR 0 16 10 6000, rwR 16 8 1 100, rwR 24 8 1 100],
    st 9 0x048 0x05F (BitVec.ofNat 32 (10 * 16 + 3 * 512 + 33 * 65536))
      [rw 0 4, rwR 4 5 0 30, rwR 9 4 1 15, rwR 16 16 1 65535],
    st 9 0x060 0x077 (BitVec.ofNat 32 (0x1000 + 300 * 65536)) [rw 0 16, rwR 16 16 1 65535],
    st 9 0x078 0x08F (BitVec.ofNat 32 (20 + 1000 * 65536)) [rw 0 16, rw 16 16],
    st 9 0x090 0x0A7 (BitVec.ofNat 32 (0x4000 + 6 * 65536 + 500 * 2 ^ 20)) [rw 0 16, rwR 16 4 2 15, rw 20 12],
    st 9 0x0A8 0x0BF (BitVec.ofNat 32 (0x1800 + 0x4000 * 65536)) [rw 0 16, rw 16 16],
    st 9 0x0C0 0x0D7 (BitVec.ofNat 32 (20 + 20 * 256 + 6 * 65536 + 5 * 2 ^ 20 + 5 * 2 ^ 24))
      [rwR 0 8 1 255, rwR 8 8 1 255, rwR 16 4 1 12, rwR 20 3 0 5, rwR 24 8 1 255],
    st 9 0x0D8 0x0EF (BitVec.ofNat 32 (1600 + 800 * 4096 + 8 * 2 ^ 24)) [rwR 0 12 1 2047, rwR 12 12 1 2047, rw 24 8],
    st 9 0x0F0 0x107 0 [rw 0 16, rw 16 16],
    st 9 0x108 0x11F 0 [rw 0 16, rw 16 16],
    st 9 0x120 0x137 0x00040000 [rw 0 16, rw 16 8, rw 24 8],
    im 9 0x150 0x167 0 [w1c 0 12],
    st 10 0x000 0x017 (BitVec.ofNat 32 (3 * 4 + 32 + 20 * 256 + 50 * 65536))
      [rwR 0 2 0 2, rwR 2 3 0 3, rw 5 1, rw 8 8, rw 16 8],
    st 10 0x018 0x02F (BitVec.ofNat 32 (1000 + 10000 * 65536)) [rw 0 16, rw 16 16],
    st 10 0x030 0x047 (BitVec.ofNat 32 (1000 + 9000 * 65536)) [rw 0 16, rw 16 16],
    st 10 0x048 0x05F (BitVec.ofNat 32 (10 + 1000 * 65536)) [rw 0 16, rw 16 16],
    st 10 0x060 0x077 0 [rw 0 32],
    im 10 0x078 0x08F 0 [rw 0 32] ]

/-- FAN, RELAY (Tables 15-8, 15-9). -/
def rowsFan : List PRow :=
  [ st 11 0x000 0x02F 0x7 [rw 0 1, rw 1 1, rw 2 1, rwR 3 5 0 24],
    st 11 0x030 0x05F (BitVec.ofNat 32 (40 + 200 * 256 + 120 * 65536)) [rw 0 8, rwR 8 8 0 200, rwR 16 8 0 200],
    st 11 0x060 0x08F (BitVec.ofNat 32 (3000 + 65535 * 65536)) [rwR 0 16 1 65535, rw 16 16],
    st 11 0x090 0x0BF (BitVec.ofNat 32 (500 + 2000 * 65536)) [rw 0 16, rw 16 16],
    st 11 0x0C0 0x0EF (BitVec.ofNat 32 (30 + 10 * 256 + 3 * 65536 + 10 * 2 ^ 24))
      [rwR 0 8 1 255, rwR 8 8 1 255, rw 16 2, rwR 24 8 1 255],
    st 11 0x0F0 0x11F 0 [rw 0 11],
    im 11 0x150 0x17F 0 [w1c 0 3],
    st 11 0x1E0 0x29F 0 [rw 0 16, rw 16 16],
    st 11 0x2A0 0x41F 0 [rw 0 16, rw 16 16],
    st 12 0x000 0x00F 1 [wk 4 0 1, wkR 4 1 2 0 2, wk 4 3 11],
    st 12 0x010 0x01F 1 [wk 4 0 1],
    st 12 0x060 0x063 1 [rw 0 1] ]

/-- STORE, PWR, MIRROR, PROOF, EVT (Tables 16-9, 06-9, 17-8, 18-7, 18-8). The write key of STORE.DCTL is that of the
region it names: see dctlKey. -/
def rowsStore : List PRow :=
  [ st 13 0x006 0x006 4 [rwR 0 5 2 24],
    im 13 0x00A 0x00A 0 [rw 0 13, rw 13 2, rw 15 2],
    im 13 0x00C 0x01B 0xFFFFFFFF [rw 0 32],
    im 13 0x01C 0x01C 0 [rw 0 12],
    im 13 0x01E 0x01E 0 [wk 0x15 0 12, wk 0x15 31 1],
    im 14 0x017 0x017 1 [w1c 0 3],
    st 15 0x000 0x000 0 [wk 6 0 1, wk 6 2 4, wk 6 6 16],
    st 16 0x000 0x000 (BitVec.ofNat 32 (2 + 600 * 8 + 0xEF * 2 ^ 14 + 2 ^ 31))
      [wkR 7 0 3 0 6, wkR 7 3 11 0 1439, wk 7 14 8, wk 7 31 1],
    st 16 0x001 0x001 (BitVec.ofNat 32 (900 * 16)) [wk 7 0 1, wkR 7 4 12 60 3600],
    st 16 0x002 0x002 2047 [wk 7 0 11],
    st 16 0x003 0x003 0 [wk 7 0 32],
    im 17 0x000 0x03F (BitVec.ofNat 32 (376 + 127 * 2 ^ 23))
      [rwR 0 9 0 383, rwR 9 2 0 2, rw 11 4, rw 15 1, rw 16 7, rw 23 7],
    im 17 0x0C0 0x0C1 0 [rw 0 32] ]

/-- ZCP, BB, ADMIT, FIELD, LEGACY, RESULT (Tables 09-12, 10-11, 11-11, 20-15, 19-4, 07-8). -/
def rowsLine : List PRow :=
  [ st 18 0x000 0x000 (BitVec.ofNat 32 (3 + 60 * 256)) [wk 5 0 1, wk 5 1 1, wkR 5 2 2 0 2, wk 5 4 4, wkR 5 8 8 1 255],
    st 18 0x001 0x001 0x3F [wk 5 0 3, wk 5 3 3],
    st 18 0x002 0x004 20 [rw 0 8],
    st 19 0x000 0x000 0x63 [rw 0 1, rw 1 1, rw 2 1, rw 4 4],
    st 19 0x001 0x001 1 [rw 0 16],
    st 19 0x002 0x004 3 [rw 0 1, rw 1 1, rw 2 1, rwR 4 5 0 30],
    st 19 0x005 0x005 1 [wk 5 0 1],
    st 19 0x006 0x025 0 [wkR 5 0 11 82 1141, wkR 5 11 11 82 1141, wk 5 31 1],
    st 19 0x026 0x026 (BitVec.ofNat 32 (72 + 8 * 256 + 3 * 65536)) [rw 0 8, rw 8 8, rwR 16 2 1 3],
    st 20 0x000 0x000 3 [rw 0 1, rw 1 1],
    st 20 0x002 0x002 (BitVec.ofNat 32 (1875 + 3750 * 65536)) [rwR 0 16 63 65535, rwR 16 16 63 65535],
    st 20 0x004 0x004 9000 [rwR 0 16 900 65535],
    st 20 0x005 0x005 256 [rwR 0 13 16 4096],
    st 20 0x006 0x006 365 [rwR 0 12 0 3650],
    im 20 0x007 0x007 0 [wk 5 0 11, wk 5 31 1],
    st 20 0x008 0x047 0xFFFFFFFF [wk 5 0 32],
    st 21 0x000 0x000 3 [rw 0 1, rw 1 1],
    st 21 0x010 0x01C 0xFFFFFFFF [rw 0 32],
    st 21 0x01D 0x01D 0x0FFFFFFF [rw 0 32],
    im 21 0x060 0x06D 0 [w1c 0 32],
    st 22 0x000 0x000 0xFFFFFFFF [rw 0 32],
    st 22 0x001 0x001 0xFFFF [rw 0 16],
    im 23 0x001 0x001 0 [rw 0 10],
    im 23 0x004 0x403 0 [rw 0 32] ]

/-- Every writable parameter. -/
def pRows : List PRow :=
  rowsSys ++ rowsSafe ++ rowsConv ++ rowsLoop ++ rowsDrive ++ rowsFan ++ rowsStore ++ rowsLine

/-- The row of an address; none where no field is writable. -/
def rowOf (a : Nat) : Option PRow := pRows.find? fun r => decide (r.first ≤ a) && decide (a ≤ r.last)

/-- Defined addresses, first and last (Table 22-1, R1195). -/
def definedRanges : List (Nat × Nat) :=
  [ (0x0000, 0x0002), (0x0010, 0x001A), (0x0020, 0x0045), (0x0800, 0x0824), (0x1000, 0x1021), (0x1800, 0x18A0),
    (0x2000, 0x200D), (0x2010, 0x2062), (0x2070, 0x243F), (0x2800, 0x2807), (0x2810, 0x282F), (0x2880, 0x2A7F),
    (0x3000, 0x3002), (0x3010, 0x37BF), (0x3800, 0x3CFF), (0x4000, 0x40C1), (0x4800, 0x4997), (0x5000, 0x50D7),
    (0x5800, 0x5C1F), (0x6000, 0x606B), (0x6800, 0x68A6), (0x7000, 0x701A), (0x7800, 0x7812), (0x8000, 0x8016),
    (0x8800, 0x88C3), (0x9000, 0x9028), (0x9800, 0x9846), (0xA000, 0xA095), (0xA800, 0xA805), (0xA810, 0xA81D),
    (0xA820, 0xA857), (0xA860, 0xA86D), (0xB000, 0xB006), (0xB800, 0xBD03) ]

/-- Is an address defined (R11, R12, R1195)? -/
def isDefined (a : Nat) : Bool := definedRanges.any fun r => decide (r.1 ≤ a) && decide (a ≤ r.2)

/-- The reset value of a writable parameter. FAN.TBL[f][j] resets to X = 1,500 + 250 j, RPM = 400 j. -/
def parReset (a : Nat) : Word :=
  if 0x5AA0 ≤ a ∧ a ≤ 0x5C1F then
    let j := (a - 0x5AA0) % 8
    BitVec.ofNat 32 (1500 + 250 * j + 400 * j * 65536)
  else match rowOf a with
    | some r => r.reset
    | none => 0

/-- The value in force of a writable parameter (R390). -/
def par (s : State) (a : Nat) : Word := tblGet parReset s.params a

/-- The parameter takes a value. -/
def setPar (a : Nat) (v : Word) (s : State) : State := { s with params := tblSet parReset s.params a v }

/-- The staged parameters and CONV.CH_STAT persist in region B (R1197). -/
def isPersistent (a : Nat) : Bool :=
  match rowOf a with
  | some r => r.staged || (decide (0x2A00 ≤ a) && decide (a ≤ 0x2A7F))
  | none => false

/-- The bits of a row's writable fields. -/
def fieldMask (f : PField) : Word := BitVec.ofNat 32 ((2 ^ f.w - 1) * 2 ^ f.lo)
def rowMask (r : PRow) : Word := r.fields.foldl (fun m f => m ||| fieldMask f) 0

/-- Ranges that are no interval of one field: PENT.LEN.L is 0 or 2-2,048 (Table 13-7), BB.NOTCH.LAST is no less than FIRST
(Table 10-11). -/
def inShape (r : PRow) (v : Word) : Bool :=
  if r.first = parAddr 8 0x020 then fld v 0 12 != 1
  else if r.first = parAddr 19 0x006 then decide (fld v 0 11 ≤ fld v 11 11)
  else true

/-- Every field of a value lies in its range (R386). W1C fields take any value. -/
def inRange (r : PRow) (v : Word) : Bool :=
  inShape r v && r.fields.all fun f => f.acc == .w1c || (decide (f.min ≤ fld v f.lo f.w) && decide (fld v f.lo f.w ≤ f.max))

/-- A value would change a WK field against a reference value: the keys it then needs (R387). -/
def keysNeeded (r : PRow) (old v : Word) : List Nat :=
  r.fields.filterMap fun f =>
    match f.acc with
    | .wk k => if fld old f.lo f.w = fld v f.lo f.w then none else some k
    | _ => none

end Sys2Proof.Machine
end

