-- ==== Sys2Proof/Machine/Ops.lean ====
section
/-!
DEFINITION. Ops.lean: the named operations of the block: sparse arrays, memory, checks, easel time, the Gesso record,
trouble causes, the fault log, broadcasts, tiers, wake causes.
-/

namespace Sys2Proof.Machine

/-- The outcome of a command. -/
abbrev Res := Host.Outcome State Fault Refusal

/-! ### Easel time (Table 04-1) -/

/-- Sub-ticks in a minor tick (R195), a major frame and a hyperframe (R196). -/
def tickLen : Nat := 5000
def frameLen : Nat := 640000
def hyperLen : Nat := 40960000
/-- Sub-ticks in a millisecond and in a second. -/
def ms : Nat := 40000
def sec : Nat := 40000000

/-- Easel time now, in sub-ticks. -/
def now (s : State) : Nat := s.time.easel
/-- Pair time, on which the Canvas, the apply windows, digests and beacons are scheduled: easel time plus MIRROR.OFFSET
minor ticks in a pair, easel time else (R995). -/
def pairTime (s : State) : Nat :=
  if s.mirror.pair then ((now s : Int) + s.mirror.offset * (tickLen : Int)).toNat else now s
/-- Minor ticks completed; frames and hyperframes completed in pair time. -/
def tickNo (s : State) : Nat := now s / tickLen
def frameNo (s : State) : Nat := pairTime s / frameLen
def hyperNo (s : State) : Nat := pairTime s / hyperLen
/-- The fields of easel time. -/
def subOf (e : Nat) : Nat := e % tickLen
def minorOf (e : Nat) : Nat := e / tickLen % 128
def majorOf (e : Nat) : Nat := e / frameLen % 64
def hyperOf (e : Nat) : Nat := e / hyperLen

/-- Easel time as the 64-bit word of Table 04-1. -/
def easelWord (e : Nat) : DWord :=
  BitVec.ofNat 64 (hyperOf e % 2 ^ 38 * 2 ^ 26 + majorOf e * 2 ^ 20 + minorOf e * 2 ^ 13 + subOf e)

/-- Its low word, the TS of many registers. -/
def ts32 (s : State) : Word := (easelWord (now s)).extractLsb' 0 32

/-- Domains other than G act on boundaries: only while the 40.000 MHz crystal advances the counter (R1206). -/
def tickWork (s : State) : Bool := decide (s.time.source = .x40)

/-- At a minor-tick, major-frame, hyperframe or beacon boundary (an even major frame) on which domains other than G act
(R1206). -/
def atTick (s : State) : Bool := tickWork s && now s % tickLen = 0
def atFrame (s : State) : Bool := tickWork s && pairTime s % frameLen = 0
def atHyper (s : State) : Bool := tickWork s && pairTime s % hyperLen = 0
def atBeacon (s : State) : Bool := tickWork s && pairTime s % (2 * frameLen) = 0

/-- The first minor-tick boundary strictly after an event of tick t has come (R1205). -/
def tickPast (s : State) (t : Nat) : Bool := tickWork s && decide (t < tickNo s)

/-- The chip is the standby of a pair. -/
def isStandby (s : State) : Bool := s.mirror.pair && decide (s.mirror.role = .standby)

/-- Start of the canvas tick that runs: pair time, or one frame before it on a standby, which replays (R1009). -/
def canvasTime (s : State) : Nat := if isStandby s then pairTime s - frameLen else pairTime s

/-- The instant sub-tick `at_` of the current minor tick, or now where that has passed: easel time never moves
backward (R198). -/
def instant (s : State) (at_ : Nat) : Nat :=
  max (now s) (now s / tickLen * tickLen + min at_ (tickLen - 1))

/-! ### The easel counter on a slow source (R201) -/

/-- The further sub-tick of 45 of every 64 cycles, spread as evenly as whole cycles allow (R201; log 71). -/
def furtherSub (phase : Nat) : Nat := if (phase * 45 + 45) / 64 > phase * 45 / 64 then 1 else 0

/-- One cycle of 32.768 kHz: 1,220 sub-ticks, one more on 45 of 64 cycles, and one dropped or added whenever the
difference between the nominal and the scaled advance reaches one sub-tick (R201). The difference is accumulated in
units of 2^-40 sub-tick: 1220.703125 x trim / (1 + trim) a cycle. EASEL_RTC shows that the counter has run so. -/
def x32Cycle (t : Time) : Time :=
  let diff := t.diff + t.trim * 1220703125 * 2 ^ 40 / (1000000 * (25600000000 + t.trim))
  let unit : Int := 2 ^ 40
  let drop := decide (unit ≤ diff)
  let add := decide (diff ≤ -unit)
  { t with easel := t.easel + 1220 + furtherSub t.phase64 + (if add then 1 else 0) - (if drop then 1 else 0)
           phase64 := (t.phase64 + 1) % 64
           diff := if drop then diff - unit else if add then diff + unit else diff
           easelRtc := true }

/-- One cycle of the RC oscillator: the nominal advance (R201). -/
def rcCycle (t : Time) : Time :=
  { t with easel := t.easel + 1220 + furtherSub t.phase64, phase64 := (t.phase64 + 1) % 64, easelRtc := true }

/-- One cycle of the source in use while the main crystal is stopped. -/
def slowCycle (t : Time) : Time := if t.source = .rc then rcCycle t else x32Cycle t

/-- n such cycles. -/
def slowCycles : Nat → Time → Time
  | 0, t => t
  | n + 1, t => slowCycles n (slowCycle t)

/-- Cycles until minor tick k is over: five reach the next tick from anywhere. -/
def slowTick (k : Nat) : Nat → Time → Time
  | 0, t => t
  | n + 1, t => if k < t.easel / tickLen then t else slowTick k n (slowCycle t)

/-- The whole cycles, at most n, that end at or before easel time e. -/
def slowUpTo (e : Nat) : Nat → Time → Time
  | 0, t => t
  | n + 1, t => let u := slowCycle t; if u.easel ≤ e then slowUpTo e n u else t

/-- Easel time moved to an instant: by sub-ticks while the 40.000 MHz crystal advances it (R200), by whole cycles of the
source in use else (R201, R1204). In OFF the counter does not run (R1206). -/
def moveTo (s : State) (e : Nat) : State :=
  if s.power.st = .off then s
  else if s.time.source = .x40 then { s with time := { s.time with easel := max e s.time.easel } }
  else { s with time := slowUpTo e ((e - s.time.easel) / 1219 + 1) s.time }

/-- Easel time moved to sub-tick `at_` of the current minor tick. -/
def moveIn (s : State) (at_ : Nat) : State := moveTo s (instant s at_)

/-- A time span has passed since an instant. -/
def passed (s : State) (since span : Nat) : Bool := decide (since + span ≤ now s)

/-! ### Keys -/

/-- Parameter key id is valid: accepted, and not yet 60 s ago (R394). -/
def keyOk (s : State) (id : Nat) : Bool :=
  match tblGet (fun _ => none) s.host.keyValid id with
  | some t => decide (now s < t + 60 * sec)
  | none => false

/-! ### Event counters (R1087, R1088) -/

/-- The configuration of counter c in force. -/
def evtCfg (s : State) (c : Nat) : Word := tblGet (fun _ => parReset 0x8800) s.evt.cfg c

/-- Counter c counts an event of a source now: its source and its gate. -/
def evtCounts (s : State) (src c : Nat) : Bool :=
  let w := evtCfg s c
  let m := minorOf (now s)
  let a := fld w 16 7
  let b := fld w 23 7
  fld w 0 9 == src &&
    match fld w 9 2 with
    | 0 => true
    | 1 => (s.sys.applied &&& ~~~s.sys.gated).getLsbD (fld w 11 4)
    | _ => if a ≤ b then decide (a ≤ m) && decide (m ≤ b) else decide (a ≤ m) || decide (m ≤ b)

/-- n events of a source are added to the counters of a table that count them and that `also` names. -/
def countIn (src n : Nat) (also : Nat → Bool) (s : State) (t : Tbl Word) : Tbl Word :=
  (List.range 64).foldl (fun t c =>
    if evtCounts s src c && also c then tblSet (fun _ => 0) t c (tblGet (fun _ => 0) t c + BitVec.ofNat 32 n) else t) t

/-- An event from outside in the sub-tick of the boundary snapshot: edges, sentinel samples, frames and records received,
bus accesses. The schedule's own work of that boundary comes after the snapshot (R1089, R1103; log 124). -/
def withSnap (src : Nat) (s : State) : Bool :=
  decide (s.evt.snapAt = some (now s)) &&
    (decide (16 ≤ src ∧ src < 63) || decide (176 ≤ src ∧ src < 224) || decide (280 ≤ src ∧ src < 286) || src == 329)

/-- n events of a source of Table 18-4 are counted in every counter that selects it; one in the sub-tick of the snapshot counts
in the frame that ends there (R1087, R1103). -/
def evtN (src n : Nat) (s : State) : State :=
  { s with evt := { s.evt with
      late := if withSnap src s then countIn src n (fun _ => true) s s.evt.late else s.evt.late
      live := countIn src n (fun c => !(withSnap src s && (evtCfg s c).getLsbD 15)) s s.evt.live } }

/-- EVT.SNAP[c]: the capture, and what fell in its sub-tick behind it (R1089, R1103). -/
def snapWord (s : State) (c : Nat) : Word := tblGet (fun _ => 0) s.evt.snap c + tblGet (fun _ => 0) s.evt.late c

/-- One event of a source. -/
def evt (src : Nat) (s : State) : State := evtN src 1 s

/-! ### Event work of the lanes (R248-R254) -/

/-- Event work of a known cost joins those that wait for the reserve of a lane. -/
def useReserve (lane user cost : Nat) (s : State) : State :=
  { s with canvas := { s.canvas with work := s.canvas.work ++ [{ lane := lane, user := user, left := cost, ack := none }] } }

/-- Event work of a cost that the spec does not give: a free value (log 63). -/
def askReserve (lane user : Nat) (ack : Option (Nat × Nat)) (s : State) : State :=
  { s with
    free := s.free + 1
    canvas := { s.canvas with
      work := s.canvas.work ++ [{ lane := lane, user := user, left := (Config.freeWord s.free).toNat, ack := ack }] } }

/-- No work of a user waits on a lane. -/
def reserveFree (s : State) (lane user : Nat) : Bool := !s.canvas.work.any fun w => w.lane == lane && w.user == user

/-! ### The Gesso record (Table 02-10) -/

/-- Number of words of the record before its CRC (R915). -/
def recLen : Nat := 134

/-- Word i of a record. -/
def recWord (r : List Word) (i : Nat) : Word := r.getD i 0
def recT1 (r : List Word) (n : Nat) : Nat := fld (recWord r n) 0 8
def recT2 (r : List Word) (n : Nat) : Nat := fld (recWord r n) 8 8
def recT3 (r : List Word) (n : Nat) : Nat := fld (recWord r n) 16 8
def recAdw (r : List Word) (n : Nat) : Nat := fld (recWord r (16 + n)) 0 16
def recTdw (r : List Word) (n : Nat) : Nat := fld (recWord r (16 + n)) 16 16
def recEn (r : List Word) (n : Nat) : Bool := (recWord r (32 + n)).getLsbD 0
/-- GESSO.OMASK[src], [3:0] sounders, [19:4] relay drivers. -/
def recMask (r : List Word) (src : Nat) : BitVec 20 := (recWord r (48 + src)).setWidth 20
def recRpol (r : List Word) : BitVec 16 := (recWord r 67).setWidth 16
def recZen (r : List Word) : Bool := (recWord r 68).getLsbD 0
def recZph (r : List Word) (fe : Nat) : Bool := (recWord r 68).getLsbD (1 + fe)
def recZmask (r : List Word) (a : Nat) : Bool := (recWord r (69 + a / 32)).getLsbD (a % 32)
/-- GESSO.XCHK_TMO in sub-ticks. -/
def recTmo (r : List Word) : Nat := fld (recWord r 133) 0 6 * sec

/-- The bits of word i of a record that Table 02-10 defines: reserved bits read as 0 (R9). -/
def recBits (i : Nat) : Word :=
  if i < 16 then 0x00FFFFFF else if i < 32 then 0xFFFFFFFF else if i < 48 then 1 else if i < 67 then 0x000FFFFF
  else if i = 67 then 0x0000FFFF else if i = 68 then 0x0000000F else if i < 133 then 0xFFFFFFFF else 0x0000003F

/-- R99: 0 < T1 < T2 < T3 for every enabled sentinel. -/
def recValid (r : List Word) : Bool :=
  (List.range 16).all fun n =>
    !recEn r n || (decide (0 < recT1 r n) && decide (recT1 r n < recT2 r n) && decide (recT2 r n < recT3 r n))

/-- The copy of the record in sector 6 or 7 (R915): its words and stored CRC. -/
def recCopy (m : Memory) (dup : Bool) : List Word := memWords m (sectorBase (if dup then 7 else 6)) recLen
def recCopyCrc (m : Memory) (dup : Bool) : Word := memWord m (sectorBase (if dup then 7 else 6) + 4 * recLen)
/-- A copy is valid when its CRC-32 matches and R99 holds. -/
def recCopyOk (m : Memory) (dup : Bool) : Bool :=
  decide (crc32 (recCopy m dup) = recCopyCrc m dup) && recValid (recCopy m dup)

/-- What R84 and R85 latch: record, CRC, COPY, DEFAULT. -/
def recLatch (m : Memory) : List Word × Word × Bool × Bool :=
  if recCopyOk m false then (recCopy m false, recCopyCrc m false, false, false)
  else if recCopyOk m true then (recCopy m true, recCopyCrc m true, true, false)
  else (defaultRecord, crc32 defaultRecord, false, true)

/-! ### Fault log -/

/-- An entry queued for region D with the time of Table 18-5; the log queue, rows 16-23 of the shadow, holds 512
entries (Table 16-2), whose 4 words the STORE reserve writes (Table 05-1); a further one is lost and counted (R934), and code
0x3FF is owed (R1095). -/
def logAt (e code : Nat) (value : Word) (s : State) : State :=
  if s.store.logQ.length < 512 then
    { s with store := { s.store with
        ord := s.store.ord + 1, logWords := s.store.logWords + 4
        logQ := s.store.logQ ++
        [{ ord := s.store.ord, hyper := BitVec.ofNat 32 (hyperOf e),
           word2 := BitVec.ofNat 32 (e / tickLen % 8192 + code % 2048 * 8192), value := value }] } }
  else evt 302 { s with store := { s.store with logLost := s.store.logLost + 1, lostDue := true } }

/-- A record queued for region B (R917): its class, item and value. -/
def parPush (cls item : Nat) (v : Word) (s : State) : State :=
  { s with store := { s.store with
      ord := s.store.ord + 1, parQ := s.store.parQ ++ [{ ord := s.store.ord, cls := cls, item := item, value := v }] } }

/-- An entry queued now (R1091): its code of Table 18-6 and value. -/
def logPush (code : Nat) (value : Word) (s : State) : State := logAt (now s) code value s

/-! ### Interrupt flags (R422-R424) -/

/-- nIRQ is low: a bit is set in both IRQ_STAT and IRQ_EN (R423), in the legacy mode in both LSTAT and LIRQ_EN (R1118). -/
def irqOut (s : State) : Bool :=
  if s.legacy.mode then decide (s.legacy.stat &&& s.legacy.irqEn ≠ 0) else decide (s.host.irqStat &&& s.host.irqEn ≠ 0)

/-- An assertion of nIRQ against the state before it is counted (source 291). -/
def countIrq (old s : State) : State := if irqOut s && !irqOut old then evt 291 s else s

/-- LSTAT bit b sets in the legacy mode (R1118). -/
def setLstat (b : Nat) (s : State) : State :=
  if s.legacy.mode then countIrq s { s with legacy := { s.legacy with
    stat := setBit s.legacy.stat b true
    statAt := tblSet (fun _ => 0) s.legacy.statAt b (now s + 1) } } else s

/-- IRQ_STAT bit b sets; a new alarm or trouble cause sets its LSTAT bit too. -/
def setIrq (b : Nat) (s0 : State) : State :=
  let s := if b < 2 then setLstat b s0 else s0
  countIrq s { s with host := { s.host with irqStat := setBit s.host.irqStat b true,
                                            irqTick := tblSet (fun _ => 0) s.host.irqTick b (tickNo s + 1)
                                            irqAt := tblSet (fun _ => 0) s.host.irqAt b (now s + 1) } }

/-! ### Wake causes (R321-R326) -/

/-- Causes latch in SLEEP, in entry to or exit from it, and in VIGIL (R321). -/
def wakeLatches (s : State) : Bool :=
  decide (s.power.st = .sleep) || decide (now s < s.power.movingUntil) || decide (s.power.st = .vigil)

/-- Cause c latches: its bit, FIRST while no cause has started a sequence (the return of VMAIN, which alone starts one in VIGIL,
always, R326), and its time on the first latch after a read. A cause that latches in SLEEP starts the wake sequence, one that
latches during an exit makes that exit the sequence (R322, R349). -/
def latchWake (c : Nat) (s : State) : State :=
  if wakeLatches s then
    let starts := !decide (s.power.st = .vigil) || c == 5
    { s with power := { s.power with
        wake := setBit s.power.wake c true
        wakeFirst := if (s.power.wakeFirst = 7 && starts) || (s.power.st = .vigil && c == 5) then BitVec.ofNat 3 c
                     else s.power.wakeFirst
        wakeTimed := setBit s.power.wakeTimed c true
        wakeAt := tblSet (fun _ => 0) s.power.wakeAt c (now s + 1)
        wakeTs := if s.power.wakeTimed.getLsbD c then s.power.wakeTs
                  else tblSet (fun _ => 0) s.power.wakeTs c (easelWord (now s))
        wakeSeq := s.power.wakeSeq || starts
        movingUntil := if s.power.st = .sleep ∧ s.power.wakeSeq = false then max (now s) s.power.movingUntil + 48000
                       else s.power.movingUntil } }
  else s

/-! ### Zero-crossing hub queues (R508, R519) -/

/-- Track t of the zero-crossing channel. -/
def zcTrack (s : State) (t : Nat) : ZcTrack := tblGet (fun _ => ZcTrack.blank) s.zc.tracks t
def setZc (t : Nat) (z : ZcTrack) (s : State) : State :=
  { s with zc := { s.zc with tracks := tblSet (fun _ => ZcTrack.blank) s.zc.tracks t z } }

/-- A frame queued in P1 of one track. -/
def queueP1 (t : Nat) (f : HubFrame) (s : State) : State :=
  setZc t { zcTrack s t with q1 := (zcTrack s t).q1 ++ [f] } s
/-- A frame queued in P2 of one track. -/
def queueP2 (t : Nat) (f : HubFrame) (s : State) : State :=
  setZc t { zcTrack s t with q2 := (zcTrack s t).q2 ++ [f] } s

/-- A HUB_BCAST frame with a cause code, on all three tracks at Tier 1 and above (R168, R519, R541). -/
def hubBcast (code : Nat) (s : State) : State :=
  if 1 ≤ s.sys.tier then
    let f : HubFrame := { typ := 4, addr := BitVec.ofNat 11 code, st := BitVec.ofNat 3 s.sys.tier,
                          queuedAt := now s, sent := 0 }
    queueP1 2 f (queueP1 1 f (queueP1 0 f s))
  else s

/-! ### Trouble causes (R168, R179, R1220-R1222) -/

/-- Cause codes whose appearance another code of Table 18-6 records (R1220): tier, safety core, converters, drives,
fans, load flags, line faults, RST_STUCK, store, host silence, mirror, Proof steps, clients. -/
def hasOwnLog (code : Nat) : Bool :=
  let area := code / 64; let i := code % 64
  area == 1 || area == 4 || area == 5 || area == 6 || area == 7 || area == 9 || area == 10 || area == 11 ||
    (area == 12 && i < 16) || (area == 13 && i == 5) || (area == 14 && i < 2) || area == 15 ||
    (area == 16 && (i == 2 || i == 5)) || (area == 18 && i < 8) || area == 19

/-- Unacknowledged trouble is present (TROUBLE_STAT.UNACK). -/
def unacked (s : State) : Bool := s.safety.causes.any fun c => !c.acked

/-- The conditions of the safety core's trouble chirp: SAFE.CTL.CHIRP 1 below Tier 2 while supervised or with a silent host
(R169), 2 whatever the tier and the host (R170). -/
def chirpCond (s : State) : Bool :=
  let mode := fld (par s (parAddr 4 0)) 0 2
  s.safety.run && unacked s && (mode == 2 || mode == 1 && (decide (s.sys.tier = 1) || s.host.silent))

/-- An episode of the trouble chirp ends with its conditions: the next one begins with a chirp of its own (R169). -/
def chirpSettle (s : State) : State :=
  if chirpCond s then s else { s with safety := { s.safety with lastChirp := none } }

/-- Is a cause code present (from any source)? -/
def codePresent (cs : List Cause) (code : Nat) : Bool := cs.any fun c => c.code == code

/-- A source makes its cause code present. The first source of a code sends one HUB_BCAST (R168), sets IRQ_STAT.TROUBLE,
latches the TROUBLE wake cause and is logged under 0x0F0 where no other code records it (R1220). -/
def raiseCause (code src : Nat) (event : Bool) (s : State) : State :=
  if s.safety.causes.any (fun c => c.code == code && c.src == src) then
    { s with safety := { s.safety with causes := s.safety.causes.map fun c =>
        if c.code == code && c.src == src && event then { c with acked := false } else c } }
  else
    let fresh := !codePresent s.safety.causes code
    let s1 : State := { s with safety := { s.safety with
      causes := s.safety.causes ++ [{ code := code, src := src, acked := false, event := event }] } }
    if fresh then
      let s2 := evt 348 (latchWake 4 (setIrq 1 (hubBcast code s1)))
      if hasOwnLog code then s2 else logPush 0x0F0 (BitVec.ofNat 32 (code % 65536 + 65536)) s2
    else s1

/-- A source stops making its cause code present. When the last source of the code goes it is logged (R1220), and when
the last present cause goes, one HUB_BCAST with code 0 is sent (R541). -/
def dropCause (code src : Nat) (s : State) : State :=
  if s.safety.causes.any (fun c => c.code == code && c.src == src && !c.event) then
    let cs := s.safety.causes.filter fun c => !(c.code == code && c.src == src)
    let s1 : State := { s with safety := { s.safety with causes := cs } }
    let s2 := if codePresent cs code || hasOwnLog code then s1
              else logPush 0x0F0 (BitVec.ofNat 32 (code % 65536)) s1
    chirpSettle (if cs.isEmpty then hubBcast 0 s2 else s2)
  else s

/-- A source's cause set to a condition. -/
def setCause (code src : Nat) (present : Bool) (s : State) : State :=
  if present then raiseCause code src false s else dropCause code src s

/-! ### Domains and tiers (R18-R21, R39-R42, R1212) -/

/-- The domains whose supplies are valid; G has its own (Table 06-1). -/
def fedDomains (vmain vcore vana : Bool) : BitVec 12 :=
  0x001 ||| (if vmain then 0x602 else 0) ||| (if vcore then 0x01C else 0) |||
    (if vmain && vcore then 0x820 else 0) ||| (if vcore && vana then 0x1C0 else 0)

/-- The domains that VHOLD feeds during a flush: K and N (Table 06-1, R308). -/
def heldUp (s : State) : BitVec 12 := if s.power.flushing then 0x202 else 0

/-- The domains that hold a latched fault attributed to them (R18): S by SC_FAULT, LOCKSTEP or FW_FAIL; the lanes'
domains (R284); any domain whose self-check failed. -/
def domFault (s : State) : BitVec 12 :=
  setBit (setBit (setBit (setBit (setBit (setBit (setBit (0 : BitVec 12)
    3 (s.gesso.scFault || s.safety.lockstep || s.safety.fwFail))
    2 (s.canvas.laneFlt.getLsbD 0 || s.canvas.laneFlt.getLsbD 1))
    4 (s.canvas.laneFlt.getLsbD 2))
    6 (s.canvas.laneFlt.getLsbD 3))
    5 (s.canvas.laneFlt.getLsbD 4))
    7 (s.canvas.laneFlt.getLsbD 5))
    8 (s.canvas.laneFlt.getLsbD 6) |||
  setBit (0 : BitVec 12) 9 (s.canvas.laneFlt.getLsbD 7)

/-- SYS.DOM_AVAIL (R18, R19, R21): power applied, self-check passed, no fault; X also while unpowered in single mode,
once the mirror mode has been read from the store (Table 01-5 gives 0x0001 at reset; log 75). A domain gated by the
power manager stays available. -/
def domAvail (s : State) : BitVec 12 :=
  let a := s.sys.applied &&& s.sys.checked &&& ~~~(domFault s)
  if s.mirror.pair || !s.store.ready || s.sys.applied.getLsbD 11 then a else a ||| 0x800

/-- A mains phase is present on a front end while its track is locked or in holdover (log 9). -/
def phaseOn (s : State) (t : Nat) : Bool :=
  let st := (tblGet (fun _ => Track.blank) s.time.tracks t).st
  decide (st = .locked) || decide (st = .holdover)

/-- The inputs of Tier 0 (Table 01-1): VBAT or VMAIN, and a sentinel input in use or a mains phase on a front end. -/
def tier0Inputs (s : State) : Bool :=
  (s.power.vbat || s.power.vmain) &&
    ((List.range 16).any (recEn s.gesso.record) || phaseOn s 0 || phaseOn s 1 || phaseOn s 2)

/-- The highest tier whose domains, supplies and inputs are available (R20, Table 01-1). -/
def tierOf (s : State) : Nat :=
  let a := domAvail s
  let t1 := tier0Inputs s && decide (a &&& 0x30B = 0x30B) && s.power.vmain && s.power.vcore && s.power.vana && s.time.x40Ok
  let t2 := t1 && decide (a = 0xFFF) && s.power.vbat && s.power.vfield && s.time.x32Run &&
    phaseOn s 0 && phaseOn s 1 && phaseOn s 2 && !s.power.starting
  if t2 then 2 else if t1 then 1 else 0

/-- The lowest-numbered domain of a set. -/
def lowestDom (d : BitVec 12) : Option Nat := (List.range 12).find? fun i => d.getLsbD i

/-- Gesso's trouble chirp is owed: below Tier 1, at most once in 60 s (R42, R116). -/
def chirpDue (s : State) : Bool :=
  match s.gesso.lastChirp with
  | none => true
  | some t => passed s t (60 * sec)

/-- The cause codes present, without repeats, ascending (R1212). -/
def presentCodes (s : State) : List Nat := (List.range 1280).filter fun c => codePresent s.safety.causes c

/-- Tier t taken and the change, with the domains that changed, logged, or kept until N is available (R39, R40). -/
def tierTaken (old s : State) (t : Nat) : State :=
  let v : Word := BitVec.ofNat 32 (s.sys.tier + 4 * t + (domAvail old ^^^ domAvail s).toNat * 65536)
  let s0 : State := { s with sys := { s.sys with tier := t } }
  if (domAvail s).getLsbD 9 then logPush 0x002 v s0
  else { s0 with sys := { s0.sys with tierLog := s0.sys.tierLog ++ [(now s, v)] } }

/-- The domain a fall names: the lowest that was lost; where none was (a supply or an input), the spec leaves it open. -/
def fallDomain (lost : BitVec 12) (free : Nat) : Nat :=
  match lowestDom lost with
  | some i => i
  | none => (Config.freeWord free).toNat % 12

/-- A fall is broadcast and becomes a trouble cause until Tier 2 (R41, R1221). -/
def tierFell (lost : BitVec 12) (s : State) : State :=
  let i := fallDomain lost s.free
  let s1 : State := { s with free := s.free + 1 }
  if codePresent s1.safety.causes (64 + i) then hubBcast (64 + i) s1 else raiseCause (64 + i) 0 false s1

/-- The cause of a fall in tier (area 1 of Table 09-13). -/
def fallCause (c : Cause) : Bool := decide (64 ≤ c.code) && decide (c.code < 76)

/-- Tier 2 ends the causes of falls (R1221). -/
def fallsEnd (after : Nat) (s : State) : Bool := after == 2 && s.safety.causes.any fallCause
def endFalls (after : Nat) (s : State) : State :=
  if fallsEnd after s then
    { s with safety := { s.safety with causes := s.safety.causes.filter fun c => !fallCause c } }
  else s

/-- A rise: Tier 2 ends the causes of falls (R1221), and the end of the last cause sends code 0 (R541); a rise from Tier 0
sends the codes still present, or code 0 unless the last frame sent carried it (R1212; where no frame was ever sent, code
0 is sent, log 72). -/
def tierRose (before after : Nat) (s : State) : State :=
  let s1 := endFalls after s
  if before = 0 then
    match presentCodes s1 with
    | [] => if s1.safety.lastBcast = some 0 then s1 else hubBcast 0 s1
    | l => l.foldl (fun st c => hubBcast c st) s1
  else if fallsEnd after s && s1.safety.causes.isEmpty then hubBcast 0 s1 else s1

/-- Gesso holds that Tier 0 was reached by a domain fault. -/
def setTier0Fault (b : Bool) (s : State) : State := { s with gesso := { s.gesso with tier0Fault := b } }

/-- The tier decided anew after a change, against the state before it (R20). A fall to Tier 0 in which a domain was lost while
VMAIN is present counts as one because of a domain fault, also where VCORE or VANA failed (R42, R43; log 73). -/
def retier (old s : State) : State :=
  let t := tierOf s
  if t = s.sys.tier then s
  else
    let lost := domAvail old &&& ~~~(domAvail s)
    let s1 := tierTaken old s t
    if t < s.sys.tier then
      let s2 := tierFell lost s1
      chirpSettle (if t = 0 && s.power.vmain && decide (lost ≠ 0) then setTier0Fault true s2 else s2)
    else chirpSettle (tierRose s.sys.tier t (setTier0Fault false s1))

/-- Tier changes kept while N was unavailable are recorded when it is available again (R40). -/
def flushTierLog (s : State) : State :=
  if (domAvail s).getLsbD 9 then
    let s1 := s.sys.tierLog.foldl (fun st (e : Nat × Word) => logAt e.1 2 e.2 st) s
    { s1 with sys := { s1.sys with tierLog := [] } }
  else s

end Sys2Proof.Machine
end

