-- ==== Sys2Proof/Machine/Outputs.lean ====
section
/-!
DEFINITION. Outputs.lean: how the two command inputs of each sounder and safe-state relay driver combine in domain G
(R69-R75, R156-R160, R893-R895, R898), and the chirp.
-/

namespace Sys2Proof.Machine

/-- What Gesso's latched trips command: sounders of unsilenced trips in [3:0], relay drivers of any latched trip in
[19:4] (R69, R71). -/
def gessoWants (s : State) : BitVec 20 :=
  (List.range 19).foldl (fun w i =>
    if s.gesso.trip.getLsbD i then
      w ||| (recMask s.gesso.record i &&& 0xFFFF0) |||
        (if s.gesso.silenced.getLsbD i then 0 else recMask s.gesso.record i &&& 0xF)
    else w) 0

/-- Relay driver n (0-15) is commanded to its alarm state by either input (R72). -/
def rlyAlarm (s : State) (n : Nat) : Bool := s.gesso.outCmd.getLsbD (4 + n) || s.pads.pathRly.getLsbD n

/-- The energised level of relay driver n (0-15): alarm state by RPOL (R70), else the safety core path's non-alarm
command (R73), else the safe state once that path has stopped (Table 03-2); de-energised until Gesso is armed (R120). -/
def rlyOn (s : State) (n : Nat) : Bool :=
  if s.gesso.armed || s.gesso.rlBusy then
    if rlyAlarm s n then (recRpol s.gesso.record).getLsbD n
    else if s.pads.pathStopped then
      match fld s.pads.ssRly (2 * n) 2 with
      | 0 => s.pads.nonAlarm.getLsbD n
      | 2 => (recRpol s.gesso.record).getLsbD n
      | _ => false
    else s.pads.nonAlarm.getLsbD n
  else false

/-- The chip drives the Canvas outputs: in single mode, or as the primary of a pair (Table 17-1). -/
def drivesCanvas (s : State) : Bool := !s.mirror.pair || decide (s.mirror.role = .primary)

/-- The level of any of the 32 relay drivers; drivers 16-31 are de-energised on a chip that does not drive the Canvas
outputs (R991, R1011). -/
def relayOn (s : State) (n : Nat) : Bool :=
  if n < 16 then rlyOn s n else drivesCanvas s && s.pads.crly.getLsbD (n - 16)

/-- A sounder of domain G. -/
def sounder (s : State) (k : Nat) : Sounder := tblGet (fun _ => Sounder.blank) s.pads.snd k
def setSounder (k : Nat) (d : Sounder) (s : State) : State :=
  { s with pads := { s.pads with snd := tblSet (fun _ => Sounder.blank) s.pads.snd k d } }

/-- The ALARM cycle is in an on-interval (Table 15-4: intervals 0, 2 and 4). -/
def cycleOn (s : State) : Bool := s.pads.cycleStart.isSome && s.pads.interval % 2 == 0

/-- The level of MSYNC_O: high in the on-intervals of this chip's ALARM pattern (R1045). -/
def msyncOut (s : State) : Bool := cycleOn s

/-- nMACT is driven low: in a pair, while the chip is primary and its Canvas runs; it goes high as soon as that ends (R993; log 86). -/
def macLow (s : State) : Bool := s.mirror.pair && decide (s.mirror.role = .primary) && decide (s.canvas.run ≠ .stopped)

/-- Sounder k is on: ALARM in an on-interval or in its first 0.5 s (R895), or a chirp under way. -/
def sndOn (s : State) (k : Nat) : Bool :=
  let d := sounder s k
  (d.alarm && (cycleOn s || (match d.minOn with | some t => decide (now s < t) | none => false))) || d.chirpEnd.isSome

/-- Either command input commands the alarm pattern on sounder k (R74); silent until Gesso is armed (R120). -/
def sndCmd (s : State) (k : Nat) : Bool :=
  (s.gesso.armed || s.gesso.rlBusy) && (s.gesso.outCmd.getLsbD k || s.pads.pathSnd.getLsbD k)

/-- The combined command of R72-R75, as sounders on and relay drivers energised. -/
def combinedCmd (s : State) : BitVec 20 :=
  (List.range 20).foldl (fun w i => setBit w i (if i < 4 then sndOn s i else rlyOn s (i - 4))) (0 : BitVec 20)

/-- Driver feedback (R898) in the bits of OUT_FB. -/
def driverFb (s : State) : BitVec 20 := combinedCmd s ^^^ s.pads.fbErr

/-- Sounder k follows its command: the first sounder starts the ALARM cycle (R894), a later one turns on at once for at
least 0.5 s (R895), a chirp ends (R113), a PROOF chirp leaves its probe invalid (R906); the last one to stop ends the
cycle. -/
def sounderFollow (k : Nat) (s : State) : State :=
  let d := sounder s k
  if sndCmd s k && !d.alarm then
    let probe := d.probeValid && !(d.chirpEnd.isSome && d.chirpProof)
    if s.pads.cycleStart.isNone then
      let s1 := setSounder k { d with alarm := true, minOn := none, chirpEnd := none, probeValid := probe } s
      evt (256 + k) { s1 with pads := { s1.pads with cycleStart := some (now s), interval := 0 } }
    else
      setSounder k { d with alarm := true, minOn := some (now s + 500 * ms), chirpEnd := none, probeValid := probe } s
  else if !sndCmd s k && d.alarm then
    let s1 := setSounder k { d with alarm := false, minOn := none } s
    if (List.range 4).any fun j => (sounder s1 j).alarm then s1
    else { s1 with pads := { s1.pads with cycleStart := none, interval := 0 } }
  else s

/-- RELAY.CNT[n].OPS counts a switching operation. -/
def countRelayOp (i : Nat) (s : State) : State :=
  let d := tblGet (fun _ => LoadDiag.blank) s.fans.loads i
  { s with fans := { s.fans with loads := tblSet (fun _ => LoadDiag.blank) s.fans.loads i { d with ops := d.ops + 1 } } }

/-- The instant of every driver that turned on or off is noted (relays 0-31, sounder k as 32 + k). -/
def noteSwitches (old s : State) : State :=
  let t := (List.range 36).foldl (fun (t : Tbl Nat) i =>
    let a := if i < 32 then relayOn old i else sndOn old (i - 32)
    let b := if i < 32 then relayOn s i else sndOn s (i - 32)
    if a = b then t else tblSet (fun _ => 0) t i (now s)) s.pads.lastSwitch
  let s1 : State := { s with pads := { s.pads with lastSwitch := t } }
  (List.range 32).foldl (fun st i => if relayOn old i = relayOn s i then st else evt (224 + i) (countRelayOp i st)) s1

/-- Gesso's command is formed anew from its trips (held during RELATCH, R89), and every sounder follows. -/
def refreshOut (s : State) : State :=
  let cmd := if s.gesso.rlBusy then s.gesso.outCmd else gessoWants s
  let s1 : State := { s with gesso := { s.gesso with outCmd := cmd } }
  let s2 := sounderFollow 3 (sounderFollow 2 (sounderFollow 1 (sounderFollow 0 s1)))
  let s3 := noteSwitches s s2
  if s3.gesso.outCmd = s.gesso.outCmd then s3
  else { s3 with safety := { s3.safety with cmdChanged := now s } }

/-- Gesso has been armed: before, every output is silent and de-energised (R120); a RELATCH holds them (R89). -/
def outputsLive (s : State) : Bool := s.gesso.armed || s.gesso.rlBusy

/-- A chirp on sounder k (Table 15-4: TROUBLE 40 ms, PROOF 100 ms). It is discarded and counted, saturating, while the
sounder chirps or sounds ALARM (R905), and is not accepted while an unsilenced trip names it (Table 02-3). There is none
before Gesso is armed (R120). -/
def chirp (k : Nat) (proof : Bool) (s : State) : State :=
  let d := sounder s k
  if !outputsLive s then s
  else if d.alarm || d.chirpEnd.isSome || s.gesso.outCmd.getLsbD k then setSounder k { d with disc := satInc d.disc } s
  else
    let e := now s + (if proof then 100 else 40) * ms
    evt (260 + k) (noteSwitches s (setSounder k { d with chirpEnd := some e, chirpProof := proof } s))

/-- A trouble chirp on each sounder of a mask. -/
def chirpMask (m : BitVec 4) (s : State) : State :=
  (List.range 4).foldl (fun st k => if m.getLsbD k then chirp k false st else st) s

/-- Gesso's own trouble chirp below Tier 1, at most once in 60 s, on every sounder that no unsilenced trip names
(R42, R116; log 11). -/
def gessoChirp (s : State) : State :=
  if s.sys.tier = 0 && chirpDue s && outputsLive s then
    let s1 : State := { s with gesso := { s.gesso with lastChirp := some (now s) } }
    (List.range 4).foldl (fun st k => if st.gesso.outCmd.getLsbD k then st else chirp k false st) s1
  else s

/-- Any trouble of Table 02-9 other than a dropped or unconfirmed frame; the table lists neither XDIS nor CFG_LATCH (R116). -/
def gessoTrouble (s : State) : Bool :=
  (List.range 16).any (fun n => (tblGet (fun _ => Sentinel.blank) s.gesso.sen n).trouble) || s.gesso.scFault ||
    s.gesso.cfgDefault || s.gesso.fbMismatch || s.gesso.clkTrouble

/-- The safety core path stops (R159): its non-alarm commands give way to the safe states of Table 03-2; alarm
commands held in the path latch continue. -/
def stopPath (s : State) : State :=
  noteSwitches s { s with pads := { s.pads with pathStopped := true } }

/-- Relay drivers 16-31 take their safe state when the Canvas or domain C or M stops: de-energise or hold
(SAFE.SS_CRLY as held in the pads). -/
def crlySafe (s : State) : State :=
  noteSwitches s { s with pads := { s.pads with crly := s.pads.crly &&& s.pads.ssCrly } }

/-- The tier decided anew (R20); a fall to Tier 0 by a domain fault sounds Gesso's chirp at the fall (R42, R43). -/
def tierChange (old s : State) : State :=
  let s1 := retier old s
  if s1.gesso.tier0Fault && !old.gesso.tier0Fault then gessoChirp s1 else s1

/-- A command has its effect: the next state. The block operates at the highest tier whose domains and inputs are available
(R20), so a change of them that the effect made decides the tier anew. -/
def finish (old s : State) : Res := .next (if tierOf s = s.sys.tier then s else tierChange old s)

end Sys2Proof.Machine
end

