-- ==== Sys2Proof/Machine/ClientRec.lean ====
section
/-!
DEFINITION. ClientRec.lean: words and fields of client records (Table 11-1).
-/

namespace Sys2Proof.Machine

/-! ### Records (Table 11-1) -/

/-- A blank record: word 0 holds the ID. -/
def cBlank (k : Nat) : Word := if k % 32 = 0 then BitVec.ofNat 32 (k / 32) else 0

/-- Word w of the record of a client. -/
def cWord (s : State) (id w : Nat) : Word := tblGet cBlank s.clients.words (32 * id + w)

/-- The bits of word w that are kept in region B (Table 11-1). -/
def keptMask (w : Nat) : Word :=
  match w with
  | 0 => 0x00FF6000
  | 1 | 2 | 22 => 0xFFFFFFFF
  | 9 => 0x0000FFFF
  | _ => 0

/-- The bits of a mask in word w take those of v, without a record in region B. -/
def putC (id w : Nat) (mask v : Word) (s : State) : State :=
  { s with clients := { s.clients with
      words := tblSet cBlank s.clients.words (32 * id + w) ((cWord s id w &&& ~~~mask) ||| (v &&& mask)) } }

/-- The bits of a mask in word w take those of v; a change of a kept field is queued for region B (R609, R917). -/
def setC (id w : Nat) (mask v : Word) (s : State) : State :=
  let s1 := putC id w mask v s
  if cWord s id w &&& keptMask w = cWord s1 id w &&& keptMask w then s1
  else parPush 1 (32 * id + w) (cWord s1 id w &&& keptMask w) s1

/-- Field [lo + n - 1 : lo] of word w, read and written. -/
def cFld (s : State) (id w lo n : Nat) : Nat := fld (cWord s id w) lo n
def setCF (id w lo n v : Nat) (s : State) : State :=
  setC id w (BitVec.ofNat 32 ((2 ^ n - 1) * 2 ^ lo)) (BitVec.ofNat 32 (v * 2 ^ lo)) s
/-- A field that counts and wraps. -/
def incCF (id w lo n : Nat) (s : State) : State := setCF id w lo n ((cFld s id w lo n + 1) % 2 ^ n) s

end Sys2Proof.Machine
end

