-- ==== Sys2Proof/Machine/ProofOps.lean ====
section
/-!
DEFINITION. ProofOps.lean: what alarms, head answers and the calendar do to a Proof run (18_proof_and_counters.md).
-/

namespace Sys2Proof.Machine

/-- R1098, R1099: an alarm that latches during a run withdraws every stimulus; the interrupted step is repeated from its
start when the run resumes. -/
def proofPauseOnAlarm (s : State) : State :=
  if s.proof.running then
    { s with proof := { s.proof with inj := [], injIn := [], injDone := [], stepAt := none, tested := 0, fails := [], heads := [], headsLeft := [] } }
  else s

/-- A real frame decodes in a slot of front end t: a frame injected in it is abandoned, to be sent again (R1100). -/
def proofAbandonFrame (t slot : Nat) (s : State) : State :=
  match tblGet (fun _ => none) s.proof.injIn t with
  | some (k, pass) =>
    if k = slot then
      { s with proof := { s.proof with
        injIn := tblSet (fun _ => none) s.proof.injIn t none, tested := s.proof.tested - 1
        injDone := s.proof.injDone.erase (if s.proof.injDone.contains (17 + 2 * t) then 17 + 2 * t else 16 + 2 * t)
        fails := if pass then s.proof.fails else s.proof.fails.erase (t, 0) } }
    else s
  | none => s

/-- PROOF.STAT.PAUSED: the run is paused under R414. -/
def proofPaused (s : State) : Bool := s.proof.running && s.host.op.paused

/-- The number of the running run: PROOF.RUNS.RUNS as it will be at its end (log 38). -/
def runNo (s : State) : Half := s.proof.runs + 1

/-- Word w23 of a head (Table 18-2): outcome and trouble code. -/
def markHead (id out code : Nat) (s : State) : State :=
  setC id 23 0xFFFFFF03 (BitVec.ofNat 32 (out + code % 256 * 256 + (runNo s).toNat * 65536)) s

/-- The answer of a head while the HEADS step waits for it (R1080, R1082, R1101): it passes with a TEST state and trouble
code 0; it fails with another code or a TROUBLE frame. -/
def proofHeadAnswer (id : Nat) (ok : Bool) (code : Nat) (s : State) : State :=
  if s.proof.running && s.proof.step == 7 && s.proof.heads.contains id then
    let s1 := markHead id (if ok then 1 else 2) code s
    { s1 with proof := { s1.proof with
        heads := s1.proof.heads.filter fun i => i != id
        fails := if ok then s1.proof.fails else s1.proof.fails ++ [(id, BitVec.ofNat 16 code)] } }
  else s

/-- The run ends: code 0x0C0, RUNS and FAILED (R1085). -/
def proofClose (aborted : Bool) (s : State) : State :=
  let p := s.proof
  let v := p.pass.toNat + 256 * p.fail.toNat + 65536 * p.skip.toNat + (if p.sched then 2 ^ 24 else 0) +
    (if aborted then 2 ^ 25 else 0)
  logPush 0x0C0 (BitVec.ofNat 32 v) { s with proof := { p with
    running := false, sched := false, mask := 0, stepAt := none, inj := [], injIn := [], injDone := [], heads := [], headsLeft := []
    runs := p.runs + 1, failedRuns := if p.fail = 0 then p.failedRuns else p.failedRuns + 1 } }

/-- The scheduled second of the week, Monday 00:00 = 0 (R1058, Table 18-7). -/
def schedSecond (s : State) : Nat :=
  fld (par s (parAddr 16 0)) 0 3 * 86400 + fld (par s (parAddr 16 0)) 3 11 * 60

/-- The last scheduled calendar second at or before t; calendar second 0 is a Saturday. -/
def lastSched (s : State) (t : Nat) : Option Nat :=
  let back := (t + 5 * 86400 + 604800 - schedSecond s) % 604800
  if back ≤ t then some (t - back) else none

/-- The calendar goes from one second to another (R210, R211, R1058): a scheduled event passed over comes due; one that
has run within the 24 h before it would recur is not repeated by a step backward (log 129). -/
def proofCalendar (old new : Nat) (s : State) : State :=
  if s.proof.due.isSome || !(par s (parAddr 16 0)).getLsbD 31 then s
  else match lastSched s new with
    | some t =>
      let again := match s.proof.ranAt with
        | some (e, c) => decide (t ≤ c) && decide (now s < e + 86400 * sec)
        | none => false
      if (old < t ∨ new < old ∧ t = new) ∧ again = false then
        { s with proof := { s.proof with due := some (now s), dueT := t } }
      else s
    | none => s

end Sys2Proof.Machine
end

