-- ==== Sys2Proof/Machine/MirrorOps.lean ====
section
/-!
DEFINITION. MirrorOps.lean: status, counters, self-declared faults, triggers and divergences of the mirror pair, and a
write of MIRROR_CTL (17_mirror_pair.md).
-/

namespace Sys2Proof.Machine

/-- MIRROR.CNT_DIV ... CNT_RESEND: 0 divergences, 1 transfers, 2 switchovers, 3 heartbeat losses, 4 resends, each with its
event source of Table 18-4. -/
def cntMirror (i : Nat) (s : State) : State :=
  evt (([331, 332, 333, 334, 330] : List Nat).getD i 330) { s with mirror := { s.mirror with
    cnt := tblSet (fun _ => (0 : Word)) s.mirror.cnt i (tblGet (fun _ => (0 : Word)) s.mirror.cnt i + 1) } }

/-- The code of a role (Table 17-7). -/
def roleCode : Role → Nat
  | .none_ => 0
  | .primary => 1
  | .standby => 2
  | .taking => 3

/-- The partner is seen on the link or by nMACT_P. -/
def partnerSeen (s : State) : Bool := s.mirror.pair && (s.mirror.linkUp || !s.mirror.nmactP)

/-- MIRROR_STAT (Table 17-7). -/
def mirrorStat (s : State) : Half :=
  let m := s.mirror
  put 16 0 (roleCode m.role) ||| put 16 2 m.mside.toNat ||| put 16 3 m.linkUp.toNat ||| put 16 4 m.tlock.toNat |||
    put 16 5 m.inStep.toNat ||| put 16 6 m.xfer.toNat ||| put 16 7 (partnerSeen s).toNat ||| put 16 8 (m.pTier % 4) |||
    put 16 10 (m.pAlarm.getLsbD 0).toNat ||| put 16 11 (m.pAlarm.getLsbD 5).toNat |||
    put 16 12 (m.pTrouble.getLsbD 0).toNat ||| put 16 13 m.pFault.toNat ||| put 16 14 m.swo.toNat ||| put 16 15 m.div.toNat

/-- A change of MIRROR_STAT sets IRQ_STAT.MIRROR (Table 07-7). -/
def mirrorNote (old s : State) : State := if mirrorStat old = mirrorStat s then s else setIrq 9 s

/-- A record goes out on the link; it is unacknowledged until the next minor tick (R1002, R1003). -/
def mirrorTx (typ : Nat) (s : State) : State :=
  evt 328 { s with mirror := { s.mirror with
    txSeq := s.mirror.txSeq + 1
    unacked := s.mirror.unacked ++ [{ typ := typ, seq := s.mirror.txSeq, resends := 0 }] } }

/-- A switchover trigger (Table 17-4): the first one counts (R1050), and a running transfer ends (R1049). -/
def mirrorTrigger (cause : Nat) (force : Bool) (s : State) : State :=
  if s.mirror.trig.isSome then s
  else mirrorNote s { s with mirror := { s.mirror with
    trig := some (cause, force, s.mirror.inStep), trigAt := now s, xfer := false, xferState := [], xferCheck := false } }

/-- A chip's self-declared fault: of a primary by Table 17-4, of either chip by DIV_FAULT (R1017). -/
def selfFaultNow (s : State) : Bool :=
  s.mirror.pair && (s.mirror.divFault || (decide (s.mirror.role = .primary) &&
    (decide (s.canvas.run = .stopped) || decide (s.canvas.laneFlt ≠ 0) || decide (s.sys.tier < 2))))

/-- The self-declared fault judged; that of a primary whose standby is IN_STEP triggers a switchover (R1024). -/
def mirrorSelfFault (s : State) : State :=
  let f := selfFaultNow s
  let s1 : State := { s with mirror := { s.mirror with selfFault := f } }
  if f && decide (s.mirror.role = .primary) && s.mirror.inStep then mirrorTrigger 2 false s1 else s1

/-- An accepted acknowledge operation of a primary goes to the partner (R1042); without the link it is not delivered. -/
def mirrorForwardAck (_op : Nat) (s : State) : State :=
  if s.mirror.pair && decide (s.mirror.role = .primary) then
    if s.mirror.linkUp then mirrorTx 19 { s with mirror := { s.mirror with ackRes := 0 } }
    else { s with mirror := { s.mirror with ackRes := 3 } }
  else s

/-- A primary forwards what it has committed (R1039, R1040). -/
def mirrorForward (s : State) : State :=
  if s.mirror.pair && decide (s.mirror.role = .primary) && s.mirror.linkUp then mirrorTx 3 s else s

/-- A state transfer is requested (R1018). -/
def askTransfer (s : State) : State :=
  if s.mirror.xferReq then s else { s with mirror := { s.mirror with xferReq := true, askedAt := now s } }

/-- A divergence in pair frame f (R1016, R1017): item 1 output digest, 2 state, 3 SUMMARY late, 4 INPUT incomplete; blame
0 unattributed, 1 primary, 2 standby. -/
def mirrorDiverge (f item blame : Nat) (s : State) : State :=
  let mine := (blame == 1 && decide (s.mirror.role = .primary)) || (blame == 2 && decide (s.mirror.role = .standby))
  let times := if mine then now s :: s.mirror.divTimes.filter fun t => decide (now s < t + 86400 * sec) else s.mirror.divTimes
  let fault := s.mirror.divFault || decide (3 ≤ times.length)
  let s1 := cntMirror 0 (logPush 0x090 (BitVec.ofNat 32 (2 + item * 256)) <| askTransfer { s with mirror := { s.mirror with
    div := true, inStep := false, divFrame := f, divItem := item, divBlame := blame, divTimes := times
    divFault := fault, xferCheck := false } })
  mirrorNote s (if fault then raiseCause (1024 + 2) 0 false s1 else s1)

/-- MIRROR_CTL.RES. -/
def mirrorRes (n : Nat) (s : State) : State := { s with mirror := { s.mirror with ctlRes := BitVec.ofNat 3 n } }

/-- A write of MIRROR_CTL (R1018, R1025, Table 17-7): SWITCH in bit 0, FORCE in bit 1, XFER_REQ in bit 2. -/
def mirrorCtl (v : Half) (s : State) : State :=
  if !v.getLsbD 0 && !v.getLsbD 2 then s
  else if !keyOk s 6 then mirrorRes 2 (evt 284 s)
  else if !partnerSeen s then mirrorRes 4 s
  else if s.mirror.role ≠ .primary ∧ s.mirror.role ≠ .standby then mirrorRes 5 s
  else if v.getLsbD 0 && !v.getLsbD 1 && !(s.mirror.inStep && s.mirror.tlock) then mirrorRes 3 s
  else
    let s1 : State := if v.getLsbD 2 then askTransfer s else s
    mirrorRes 1 (if v.getLsbD 0 then mirrorTrigger 3 (v.getLsbD 1) s1 else s1)

end Sys2Proof.Machine
end

