-- ==== Sys2Proof/Machine/ZcBits.lean ====
section
/-!
DEFINITION. ZcBits.lean: what both decoders of the zero-crossing channel share: frames, bits of bursts, combining, the copies
of one slot, and the confirmation of alarm frames (R59-R65, R107, R108, R496-R502, R505, R510-R514).
-/

namespace Sys2Proof.Machine

/-! ### Zero-crossing frames (Table 09-3, R500-R502) -/

/-- The fields of a 24-bit frame, bit 0 of the frame in bit 23: PRE 3, TYPE 3, ADDR 11, STATE 3, CHK 4. -/
def framePre (w : BitVec 24) : Nat := fld w 21 3
def frameType (w : BitVec 24) : Nat := fld w 18 3
def frameAddr (w : BitVec 24) : Nat := fld w 7 11
def frameState (w : BitVec 24) : Nat := fld w 4 3
def frameChk (w : BitVec 24) : BitVec 4 := w.setWidth 4

/-- PRE is one of its three codes 0b101, 0b110 and 0b011, and CHK matches (R502). -/
def frameOk (w : BitVec 24) : Bool :=
  (framePre w == 5 || framePre w == 6 || framePre w == 3) && decide (frameChk w = crc4 (w.extractLsb' 4 17))

/-- The frame of given fields, with its CHK. -/
def makeFrame (pre : BitVec 3) (typ : BitVec 3) (addr : BitVec 11) (st : BitVec 3) : BitVec 24 :=
  pre ++ typ ++ addr ++ st ++ crc4 (typ ++ addr ++ st)

/-- The class of an alarm state (Tables 02-2, 09-5): 0 FIRE, 1 HEAT, 2 GAS; none for any other state. -/
def classOf : Nat → Option Nat
  | 1 => some 0
  | 2 => some 1
  | 3 => some 2
  | _ => none

/-! ### Bits and frames (R496-R502) -/

/-- The class of a tooth (Table 09-1). -/
inductive ToothClass where
  | early | late | both | none
  deriving DecidableEq, Repr

/-- A tooth's class from its early and late levels and the threshold, all in codes of ZCP.DET_THR (60 dBuV + 0.5 dB). -/
def classify (th : Int) (lv : Int × Int) : ToothClass :=
  match decide (th ≤ lv.1), decide (th ≤ lv.2) with
  | true, false => .early
  | false, true => .late
  | true, true => .both
  | false, false => .none

/-- A bit from the classes of its two teeth (Table 09-2): its value and whether it is full; none where erased. -/
def decideBit : ToothClass → ToothClass → Option (Bool × Bool)
  | .early, .late => some (true, true)
  | .late, .early => some (false, true)
  | .early, .early => none
  | .late, .late => none
  | .early, _ => some (true, false)
  | .late, _ => some (false, false)
  | _, .late => some (true, false)
  | _, .early => some (false, false)
  | _, _ => none

/-- The soft value of a bit, in 0.5 dB: each difference limited to 31 dB. -/
def softBit (a b : Int × Int) : Int := clampI (-62) 62 (a.1 - a.2) + clampI (-62) 62 (b.2 - b.1)

/-- The levels of tooth k of a body. -/
def lvAt (lv : List (Int × Int)) (k : Nat) : Int × Int := lv.getD k (0, 0)

/-- The decided bits of a body of 48 teeth, bit 0 first. -/
def decideBits (th : Int) (lv : List (Int × Int)) : List (Option (Bool × Bool)) :=
  (List.range 24).map fun i => decideBit (classify th (lvAt lv (2 * i))) (classify th (lvAt lv (2 * i + 1)))

/-- 24 bits as a word, bit 0 in [23]. -/
def packBits (l : List Bool) : BitVec 24 :=
  (List.range 24).foldl (fun w i => setBit w (23 - i) (l.getD i false)) (0 : BitVec 24)

/-- The decided bits of a body, an erased one as 0; which of them are full; how many are single-burst bits. -/
def bodyBits (d : List (Option (Bool × Bool))) : BitVec 24 :=
  packBits (d.map fun b => match b with | some (v, _) => v | none => false)
def bodyFull (d : List (Option (Bool × Bool))) : BitVec 24 :=
  packBits (d.map fun b => match b with | some (_, f) => f | none => false)
def bodySingles (d : List (Option (Bool × Bool))) : Nat :=
  (d.filter fun b => match b with | some (_, f) => !f | none => false).length

/-! ### Combining (R510-R514) -/

/-- What a decoder makes of the body of a frame: the copy kept for combining, whether a bit is erased, how many bits are
single-burst, and how many teeth carry a double burst. -/
structure Reading where
  copy : Copy
  erased : Bool
  singles : Nat
  colls : Nat
  deriving DecidableEq, Repr

/-- The 48 teeth of a body read with a threshold; `syn` says that a synthetic tooth was used (R530). -/
def readBody (th : Int) (slot : Nat) (syn : Bool) (body : List (Int × Int)) : Reading :=
  let d := decideBits th body
  { copy := { slot := slot, bits := bodyBits d, full := bodyFull d, syn := syn
              soft := (List.range 24).map fun i => softBit (lvAt body (2 * i)) (lvAt body (2 * i + 1)) }
    erased := d.any fun b => b.isNone
    singles := bodySingles d
    colls := ((List.range 48).filter fun k => decide (classify th (lvAt body k) = .both)).length }

/-- A receiver aligns a frame only by a start mark, a double burst on the tooth before the body (R505). -/
def startMark (th : Int) (lv : List (Int × Int)) : Bool := decide (classify th (lvAt lv 0) = .both)

/-- No bit of TYPE is erased: the type of the frame is known. -/
def typeRead (th : Int) (lv : List (Int × Int)) : Bool :=
  ((decideBits th (lv.drop 1)).drop 3 |>.take 3).all fun b => b.isSome

/-- A frame is accepted alone (R502): no erased bit, a sound PRE and CHK, no more than 2 single-burst bits, a TYPE in use. -/
def readingOk (r : Reading) : Bool :=
  !r.erased && frameOk r.copy.bits && decide (r.singles ≤ 2) && frameType r.copy.bits != 7

/-- The copies a hypothesis takes: this slot the last, the n - 1 slots before it the others, first copy first. -/
def hypCopies (cs : List Copy) (slot n : Nat) : Option (List Copy) :=
  let l := (List.range n).filterMap fun i =>
    if n ≤ slot + 1 then cs.find? fun c => c.slot == slot - (n - 1 - i) else none
  if l.length = n then some l else none

/-- The PRE sum of one copy, its signs by the code it should carry: 0b110 with more to follow, 0b011 for the last. -/
def preSum (c : Copy) (last : Bool) (k : Nat) : Int :=
  let one := if last then k != 0 else k != 2
  let v := c.soft.getD k 0
  if one then v else -v

/-- One hypothesis tested (R511-R513): the combined frame, its single-burst bits, and whether a synthetic tooth was used. -/
def tryHyp (cs : List Copy) (slot n : Nat) : Option (BitVec 24 × Nat × Bool) :=
  match hypCopies cs slot n with
  | none => none
  | some cs =>
    let idx := List.range n
    let copy (i : Nat) : Copy := cs.getD i { slot := 0, soft := [], bits := 0, full := 0, syn := false }
    let own (i : Nat) : Int :=
      preSum (copy i) (i + 1 == n) 0 + preSum (copy i) (i + 1 == n) 1 + preSum (copy i) (i + 1 == n) 2
    let sum (k : Nat) : Int := (idx.map fun i =>
      if k < 3 then preSum (copy i) (i + 1 == n) k else (copy i).soft.getD k 0).foldl (· + ·) 0
    let singles := ((List.range 24).filter fun k =>
      decide (2 * (cs.filter fun c => c.full.getLsbD (23 - k)).length < n)).length
    let bits := packBits ((List.range 24).map fun k => if k < 3 then k != 0 else decide (0 < sum k))
    if (idx.all fun i => decide (0 < own i)) && ((List.range 3).all fun k => decide (0 < sum k)) &&
        ((List.range 24).all fun k => decide (k < 3) || decide (sum k ≠ 0)) && frameOk bits && decide (singles ≤ 2) then
      some (bits, singles, cs.any fun c => c.syn)
    else none

/-- The combined frame of a slot: the first hypothesis that passes, N = 6 and then N = 4 (R510, R514). -/
def combineSlot (cs : List Copy) (slot : Nat) : Option (BitVec 24 × Nat × Bool × Combine) :=
  match tryHyp cs slot 6 with
  | some (b, n, y) => some (b, n, y, .x6)
  | none => (tryHyp cs slot 4).map fun r => (r.1, r.2.1, r.2.2, .x4)

/-- A copy kept with those of the slots before it. -/
def keepCopy (c : Copy) (cs : List Copy) : List Copy := (c :: cs).take 6

/-! ### Noise floors (R517, R539) -/

/-- The floor of a decoder: the first of fewer than 8 measurements, else the mean of the last 8. -/
def noiseFloor (l : List Nat) : Nat :=
  if l.length < 8 then l.getLast?.getD 0 else (l.foldl (· + ·) 0) / 8

/-- The least code that is no lower than the floor: a level in whole codes reaches the floor plus 10 dB where it reaches this code
plus 20. -/
def noiseTh (l : List Nat) : Nat :=
  if l.length < 8 then l.getLast?.getD 0 else (l.foldl (· + ·) 0 + 7) / 8

/-- Gesso's silent-tooth measurements of front end fe. -/
def gessoNoise (s : State) (fe : Nat) : List Nat := tblGet (fun _ => []) s.gesso.noise fe

/-- A synthetic tooth is among the 49 that carried the start mark and the body that just ended on track t (R226, R530). -/
def synUsed (s : State) (t : Nat) : Bool :=
  decide ((tblGet (fun _ => Track.blank) s.time.tracks t).synHist.setWidth 49 ≠ 0)

/-! ### One frame a slot, and confirmation (R61, R65, R107, R108) -/

/-- What an accepted frame is to what was taken of its address in its slot: the first; a further copy, which counts with it;
or one of other content from a lower-numbered front end, which takes its place. -/
inductive SlotCopy where
  | first
  | again (e : Taken)
  | instead (e : Taken)
  /-- its own kind's first, beside a copy of the other kind with the same content from another front end: each counts (R532) -/
  | beside (e : Taken)
  /-- it gives way to a frame of the other kind and of other content from a lower-numbered front end -/
  | dropped
  deriving DecidableEq, Repr

/-- R107, R108: among frames of one kind, alone or combined. -/
def slotCopy (t : Tbl (Option Taken)) (a slot fe content : Nat) : SlotCopy :=
  match tblGet (fun _ => none) t a with
  | some e => if e.slot ≠ slot then .first
              else if fe < e.fe ∧ e.content ≠ content then .instead e
              else .again { e with fe := min e.fe fe }
  | none => .first

/-- R107, R108 across both kinds: of a frame alone and a combined one of an address and slot with different content from
different front ends, the one from the lowest-numbered front end is taken. Of one content each counts (R532). -/
def slotKinds (own other : Tbl (Option Taken)) (a slot fe content : Nat) : SlotCopy :=
  match slotCopy own a slot fe content, tblGet (fun _ => none) other a with
  | .first, some o =>
    if o.slot ≠ slot ∨ o.fe = fe then .first
    else if o.content = content then .beside o
    else if fe < o.fe then .instead o
    else .dropped
  | c, _ => c

/-- What was taken in the running slots, with the confirmation records before it emptied (R90, R129). -/
def takenAnew (t : Tbl (Option Taken)) : Tbl (Option Taken) :=
  t.map fun p => (p.1, p.2.map fun e => { e with before := none })

/-- The confirmation record that a frame ending at an instant finds: none once 6.0 s have passed (R61, R65). -/
def confirmAlive (at_ : Nat) (c : Option (Nat × Bool)) : Option (Nat × Bool) :=
  c.filter fun p => decide (at_ ≤ p.1 + 6 * sec)

/-- 1 where the record is of a first frame that was not confirmed within 6.0 s (R65). -/
def confirmLapsed (at_ : Nat) (c : Option (Nat × Bool)) : Nat :=
  match c with
  | some (t, true) => if at_ ≤ t + 6 * sec then 0 else 1
  | _ => 0

end Sys2Proof.Machine
end

