-- ==== Sys2Proof/Machine/Alarm.lean ====
section
/-!
DEFINITION. Alarm.lean: what Gesso and the safety core share: bands and dwells, alarm frames, latching of trips and
alarms, the path latch, silence and reset (R54-R82, R127-R138, R155-R158, R171-R185).
-/

namespace Sys2Proof.Machine

/-! ### Bands and dwells -/

/-- Position of a band from low to high voltage. -/
def Band.rank : Band → Nat
  | .short => 0
  | .alarm => 1
  | .normal => 2
  | .opened => 3

/-- The band at a position. -/
def bandAt : Nat → Band
  | 0 => .short
  | 1 => .alarm
  | 2 => .normal
  | _ => .opened

/-- The code of a band (Table 02-1). -/
def Band.code : Band → Nat
  | .normal => 0
  | .alarm => 1
  | .short => 2
  | .opened => 3

/-- How many of the three thresholds satisfy a test. -/
def countTh (r : List Word) (n : Nat) (p : Nat → Bool) : Nat :=
  (if p (12 * recT1 r n) then 1 else 0) + (if p (12 * recT2 r n) then 1 else 0) + (if p (12 * recT3 r n) then 1 else 0)

/-- The band after a sample of mv millivolts (Table 02-1, 12 mV a code): it changes only once the voltage has passed
the threshold between the two bands by at least 12 mV (R54); the first sample takes the band of its voltage. -/
def nextBand (r : List Word) (n mv : Nat) (d : Sentinel) : Band :=
  if d.known then
    let up := countTh r n fun t => decide (t + 12 ≤ mv)
    let down := countTh r n fun t => decide (t < mv + 12)
    if d.band.rank < up then bandAt up else if down < d.band.rank then bandAt down else d.band
  else bandAt (countTh r n fun t => decide (t ≤ mv))

/-- A sample's band and threshold code. -/
def sampleBand (r : List Word) (n mv : Nat) (d : Sentinel) : Sentinel :=
  { d with known := true, band := nextBand r n mv d, code := BitVec.ofNat 8 (min (mv / 12) 255) }

/-- A dwell counter: it starts at the first sample of its run and starts again whenever a sample leaves it. -/
def runOn (c : Option Nat) (inRun : Bool) (span : Nat) : Option Nat :=
  if inRun then (match c with | some t => some (t + span) | none => some 0) else none

/-- A NORMAL sample lies in the run that ends the fast sampling of VIGIL, timed from its first sample (R53). -/
def fastOver (c : Option Nat) : Bool := match c with | some t => decide (1000 ≤ t) | none => false

/-- The three dwell counters after a sample (R55-R57); a disabled sentinel times nothing and shows no trouble (R58). -/
def timeBands (en : Bool) (span : Nat) (d : Sentinel) : Sentinel :=
  let tr := decide (d.band = .short) || decide (d.band = .opened)
  if en then { d with alarmRun := runOn d.alarmRun (decide (d.band = .alarm)) span
                      troubleRun := runOn d.troubleRun tr span
                      clearRun := runOn d.clearRun (!tr) span }
  else { d with alarmRun := none, troubleRun := none, clearRun := none, trouble := false }

/-- A dwell of `ms` milliseconds has been completed. -/
def dwellDone (c : Option Nat) (dwell : Nat) : Bool :=
  match c with
  | some t => decide (dwell ≤ t)
  | none => false

/-- What a start keeps of the monitors: the trouble that is declared, until R57 clears it. -/
def troubleOnly (mon : Tbl Sentinel) : Tbl Sentinel :=
  mon.filterMap fun p => if p.2.trouble then some (p.1, { Sentinel.blank with trouble := true }) else none

/-! ### Latching -/

/-- A trip of a source latches in Gesso: TRIP, LAST_TRIP; unsilenced, so it sounds its sounders (R78, R106); its outputs
act (R69, R71); an ALARM wake cause latches; a Proof run pauses (R1098). A source already latched stays as it is, and only
the period of its latest condition is noted (R105). -/
def latchTrip (src addr : Nat) (s0 : State) : State :=
  let s : State := { s0 with gesso := { s0.gesso with hitAt := tblSet (fun _ => 0) s0.gesso.hitAt src (now s0 / ms + 1) } }
  if s.gesso.trip.getLsbD src then s
  else
    let s1 : State := { s with gesso := { s.gesso with
      trip := setBit s.gesso.trip src true
      tripAt := tblSet (fun _ => 0) s.gesso.tripAt src (now s / ms + 1), silenced := setBit s.gesso.silenced src false,
      lastSrc := BitVec.ofNat 5 src, lastAddr := BitVec.ofNat 11 addr } }
    proofPauseOnAlarm (latchWake 3 (refreshOut s1))

/-- The mask of a safety core source (Table 03-1), in the layout of GESSO.OMASK. -/
def coreMask (s : State) (src : Nat) : BitVec 20 :=
  if src < 19 then recMask s.safety.record src
  else if src < 22 then (par s (parAddr 4 (0x060 + (src - 19)))).setWidth 20
  else (par s (parAddr 4 (0x0C0 + (src - 22)))).setWidth 20

/-- The union of the masks of the sources of a set. -/
def masksOf (s : State) (a : BitVec 86) : BitVec 20 :=
  (List.range 86).foldl (fun w i => if a.getLsbD i then w ||| coreMask s i else w) 0

/-- The safety core's commands in force at the path latch, and every driver that follows them. -/
def pathTakes (snd : BitVec 4) (rly : BitVec 16) (s : State) : State :=
  let s1 : State := { s with pads := { s.pads with pathSnd := snd, pathRly := rly } }
  let s2 := noteSwitches s (refreshOut s1)
  if snd = s.pads.pathSnd ∧ rly = s.pads.pathRly then s2
  else { s2 with safety := { s2.safety with cmdChanged := now s } }

/-- The safety core may write the path latch: it has answered once since its start (R192) and its path has not stopped. -/
def pathWrites (s : State) : Bool := s.safety.answeredOnce && s.safety.run && !s.pads.pathStopped

/-- The safety core writes its alarm commands into the path latch (R155-R157): the sounders of latched, unsilenced alarms and
the relay drivers of latched ones are added, and none is released here. -/
def writePath (s : State) : State :=
  if pathWrites s then
    pathTakes (s.pads.pathSnd ||| (masksOf s (s.safety.alarms &&& ~~~s.safety.sil)).setWidth 4)
      (s.pads.pathRly ||| (masksOf s s.safety.alarms).extractLsb' 4 16) s
  else s

/-- The acknowledge sequence reaches the path latch: every command that no latched alarm names is released (R157; a sounder
command also where its alarms are silenced, R174). Before the first answer it waits for that answer (R192). The latch of an
unknown alarm set is kept (R188): `rly` says that RESET releases it. -/
def releasePath (rly : Bool) (s : State) : State :=
  if pathWrites s then
    pathTakes ((masksOf s (s.safety.alarms &&& ~~~s.safety.sil)).setWidth 4)
      (if rly then (masksOf s s.safety.alarms).extractLsb' 4 16 else s.pads.pathRly)
      { s with safety := { s.safety with pathOwed := 0 } }
  else { s with safety := { s.safety with pathOwed := max s.safety.pathOwed (if rly then 2 else 1) } }

/-- The alarm held for the change of set goes to a value (R27-R29): the instant is noted, since a boundary at that same
instant does not count as after it (R1205). -/
def setHeld (b : Bool) (s : State) : State :=
  if b = s.safety.held then s
  else { s with safety := { s.safety with
    held := b, heldAt := now s, heldWas := if s.safety.heldAt = now s then s.safety.heldWas else s.safety.held } }

/-- The safety core latches an alarm of a source (a latch on Gesso's side alone leaves the token, log 74): the token advances, once for all latches of one minor tick (R185);
its outputs act (R155, R156); a Gesso-only indication of the same source ends; a source already latched stays. -/
def latchAlarm (src addr : Nat) (s : State) : State :=
  if s.safety.alarms.getLsbD src then s
  else
    let s1 : State := { s with safety := { s.safety with
      alarms := setBit s.safety.alarms src true
      sil := setBit s.safety.sil src false
      gessoOnly := if src < 19 then setBit s.safety.gessoOnly src false else s.safety.gessoOnly
      token := if s.safety.tokenTick = some (tickNo s) then s.safety.token else s.safety.token + 1
      tokenTick := some (tickNo s) } }
    let s2 := setHeld true <| evt 347 <| logPush 0x010 (BitVec.ofNat 32 (src + addr * 256)) (setIrq 0 s1)
    proofPauseOnAlarm (latchWake 3 (writePath (askReserve 1 0 none (askReserve 0 0 none s2))))

/-! ### Silence and reset -/

/-- The sources that a table places in the running 1 ms sample period, which begins on whole milliseconds of easel time for
every source alike (log 128). -/
def inPeriod (t : Tbl Nat) (s : State) : BitVec 19 :=
  (List.range 19).foldl (fun w i => setBit w i (tblGet (fun _ => 0) t i == now s / ms + 1)) (0 : BitVec 19)

/-- The trips that latched in the running sample period: a SILENCE in it comes before them (R106). -/
def justTripped (s : State) : BitVec 19 := inPeriod s.gesso.tripAt s

/-- The sources whose trip came, or came again, in the running sample period: a RESET in it leaves them (R105). -/
def justHit (s : State) : BitVec 19 := inPeriod s.gesso.hitAt s

/-- Gesso's SILENCE(mask): the named trips latched now are silenced (R77, R106); relay drivers stay (R79). -/
def gessoSilence (mask : BitVec 19) (s : State) : State :=
  refreshOut { s with gesso := { s.gesso with
    silenced := s.gesso.silenced ||| (s.gesso.trip &&& mask &&& ~~~justTripped s) } }

/-- Which trips a RESET can clear: sentinels in the NORMAL band or disabled (R80), every class (R81). -/
def resettable (s : State) : BitVec 19 :=
  (List.range 19).foldl (fun w i =>
    setBit w i (16 ≤ i || decide ((tblGet (fun _ => Sentinel.blank) s.gesso.sen i).band = .normal) ||
      !recEn s.gesso.record i)) (0 : BitVec 19)

/-- Gesso's RESET(mask) (R80-R82). A trip of this same sample period stands (R105). -/
def gessoResetTrips (mask : BitVec 19) (s : State) : State :=
  let t := s.gesso.trip &&& ~~~(mask &&& resettable s &&& ~~~justHit s)
  refreshOut { s with gesso := { s.gesso with trip := t, silenced := s.gesso.silenced &&& t } }

/-- An alarm is latched on either side (ALARM_STAT.ANY). -/
def anyAlarm (s : State) : Bool := decide (s.safety.alarms ≠ 0) || decide (s.gesso.trip ≠ 0)

/-- The safety core holds an alarm, its own or a Gesso trip it has read (R27, R28), until the acknowledge sequence has reset
it (R29). -/
def coreHolds (s : State) : Bool := s.safety.held

/-- It held one strictly before now: what a boundary at this instant acts on (R1205). -/
def heldBefore (s : State) : Bool := if s.safety.heldAt < now s then s.safety.held else s.safety.heldWas

end Sys2Proof.Machine
end

