-- ==== Sys2Proof/Machine/ClientOps.lean ====
section
/-!
DEFINITION. ClientOps.lean: what the channels and the Canvas do to client records and the command queue
(11_clients_and_capacity.md).
-/

namespace Sys2Proof.Machine

/-- What the hub keeps beside the record. -/
def cRun (s : State) (id : Nat) : ClientRun := tblGet (fun _ => ClientRun.blank) s.clients.run id
def setRun (id : Nat) (r : ClientRun) (s : State) : State :=
  { s with clients := { s.clients with run := tblSet (fun _ => ClientRun.blank) s.clients.run id r } }

/-- Admitted (w0 [12]), allowed (ADMIT.ALLOW), in quarantine (w3 [5]). -/
def admitted (s : State) (id : Nat) : Bool := (cWord s id 0).getLsbD 12
def allowed (s : State) (id : Nat) : Bool := (par s (parAddr 20 (8 + id / 32))).getLsbD (id % 32)
def quarantined (s : State) (id : Nat) : Bool := (cWord s id 3).getLsbD 5

/-- A record word as it is read: ALLOWED is the copy of the ADMIT.ALLOW bit. -/
def recordWord (s : State) (id w : Nat) : Word :=
  if w = 0 then setBit (cWord s id 0) 11 (allowed s id) else cWord s id w

/-- The IDs of admitted clients, ascending. -/
def admittedIds (s : State) : List Nat :=
  (s.clients.words.filter fun e => e.1 % 32 == 0 && e.2.getLsbD 12).map fun e => e.1 / 32

/-- ADMIT.CNT_JOIN ... CNT_FAILED: 0 joins, 1 admissions, 2 out of window, 3 deferrals, 4 refusals, 5 aged, 6 displaced,
7 admissions lost, 8 duplicates, 9 failed. -/
def cntAdmit (i : Nat) (s : State) : State :=
  { s with clients := { s.clients with cnt := tblSet (fun _ => 0) s.clients.cnt i (tblGet (fun _ => 0) s.clients.cnt i + 1) } }

/-- An answer in a class (R627): 0 SERVED, 1 DEFERRED, 2 REFUSED. Served items count in ADMIT.CLASS_CNT. -/
def classAnswer (cls ans : Nat) (s : State) : State :=
  evt (360 + 3 * cls + ans) (if ans = 0 then
    { s with clients := { s.clients with
        classCnt := tblSet (fun _ => 0) s.clients.classCnt cls (tblGet (fun _ => 0) s.clients.classCnt cls + 1) } }
  else s)

/-- The window of ID's joins: BSN mod 64 (R613). -/
def joinWindow (id : Nat) : Nat := (37 * (id % 64) + id / 64) % 64

/-! ### Client trouble (R651, area 19) -/

/-- A trouble source of a client: 0 LINK_LOST, 1 SUPERV_LOST, 2 EOL_WARN, 3 EOL_DUE, 4 DUP, 5 trouble code. -/
def clientCause (id kind : Nat) (present : Bool) (s : State) : State :=
  setCause (1216 + id / 32) (8 * id + kind) present s

/-- A change of a client's trouble is logged under code 0x070. -/
def logClient (id : Nat) (s : State) : State :=
  logPush 0x070 (BitVec.ofNat 32 (id + cFld s id 8 0 4 * 4096 + cFld s id 3 0 8 * 65536)) s

/-- A w3 trouble flag (bit 3 LINK_LOST, 4 SUPERV_LOST, 6 EOL_WARN, 7 EOL_DUE, 8 DUP) takes a value. -/
def setClientFlag (id bit : Nat) (v : Bool) (s : State) : State :=
  if (cWord s id 3).getLsbD bit = v then s
  else
    let kind := match bit with | 3 => 0 | 4 => 1 | 6 => 2 | 7 => 3 | _ => 4
    logClient id (clientCause id kind v (setCF id 3 bit 1 v.toNat s))

/-- A trouble code of a client (w8 [3:0]). -/
def setClientTrouble (id code : Nat) (s : State) : State :=
  if cFld s id 8 0 4 = code then s
  else logClient id (clientCause id 5 (code != 0) (setCF id 8 0 4 code s))

/-- End of life near and reached (R649, R650): from the reported days and, with a valid calendar, from FIRST. -/
def eolCheck (id : Nat) (s : State) : State :=
  let life := cFld s id 9 0 16
  let days := cFld s id 8 16 16
  let first := (cWord s id 22).toNat
  if life = 0 ∧ days = 0 then s
  else
    let warn := decide (life ≤ days + fld (par s (parAddr 20 6)) 0 12)
    let due := decide (life ≤ days) ||
      (s.time.calValid && first != 0 && decide (life ≤ (s.time.calSec.toNat - first) / 86400))
    setClientFlag id 7 due (setClientFlag id 6 warn s)

/-! ### Admission -/

/-- A client becomes admitted by a SERVED join answer (R612): route direct, link in ROBO4, out of quarantine (R616);
FIRST is set at the first admission once the calendar is valid. -/
def admitClient (id : Nat) (s : State) : State :=
  let r := cRun s id
  let s1 := setRun id { r with silent := 0, overlaps := [], route := [], nextRoutes := [], mapUp := none, mapUpNew := none
                               mapDn := none, mapDnNew := none, snr := [], mean := [], weights := [] } s
  let s2 := setCF id 3 5 1 0 (setCF id 0 12 1 1 s1)
  let s3 := incCF id 19 0 16 (setCF id 6 16 2 1 (setCF id 6 18 2 0 (setCF id 6 20 11 0 (setCF id 7 0 11 0 s2))))
  let s4 := if cWord s3 id 22 = 0 ∧ s3.time.calValid then setC id 22 0xFFFFFFFF s3.time.calSec s3 else s3
  evt 76 (cntAdmit 1 (classAnswer 1 0 s4))

/-- SYS.SVC_RES (Table 08-8). -/
def svcResWord (s : State) : Word :=
  put 32 0 s.glaze.svcTag.toNat ||| put 32 8 s.glaze.svcAns.toNat ||| put 32 10 s.glaze.svcReason.toNat |||
    put 32 16 s.glaze.svc.length

/-- The report of a request: its tag, answer and reason. -/
def svcReport (tag : Byte) (ans reason : Nat) (s : State) : State :=
  { s with glaze := { s.glaze with svcTag := tag, svcAns := BitVec.ofNat 2 ans, svcReason := BitVec.ofNat 4 reason } }

/-- A decided request is recorded (R487). -/
def svcDone (tag : Byte) (ans reason : Nat) (s : State) : State :=
  let s1 := svcReport tag ans reason s
  evt 288 (logPush 0x023 (svcResWord s1) s1)

/-- A client loses its admission (R621, R622, R660): a repeater under probing is refused with NOCLIENT (R486), and no
longer relays; entries for it take no position. -/
def loseAdmission (id : Nat) (s : State) : State :=
  if admitted s id then
    let probed := s.glaze.probeActive && decide (s.glaze.probeClient.toNat = id)
    let s1 := setCF id 6 16 2 0 (setCF id 0 15 1 0 (setCF id 0 12 1 0 s))
    let s2 := setRun id { cRun s1 id with route := [], nextRoutes := [] } s1
    let s3 := cntAdmit 7 { s2 with
      bb := { s2.bb with rpt := s2.bb.rpt.filter fun i => i != id, acks := s2.bb.acks.filter fun a => !(a.join && a.id == id) }
      canvas := { s2.canvas with work := s2.canvas.work.filter fun w => match w.ack with | some (i, _) => i != id | none => true }
      glaze := { s2.glaze with probeActive := s2.glaze.probeActive && !probed } }
    if probed then svcDone s3.glaze.probeTag 3 3 s3 else s3
  else s

/-! ### Host commands in the queue (R630-R639) -/

/-- The class of a command code (Table 11-5); none where the code is undefined. -/
def cmdClass (code : Nat) : Option Nat :=
  match code with
  | 0 | 1 | 5 | 8 => some 1
  | 2 | 3 | 4 => some 2
  | 6 | 7 => some 3
  | _ => none

/-- HUB_CMD STATE of a command code. -/
def cmdZcState (code : Nat) : Option Nat :=
  match code with
  | 0 => some 0
  | 1 => some 1
  | 2 => some 2
  | 8 => some 7
  | _ => none

/-- w28 and w29 of a client after a change: answer, count or reason, delivery state. -/
def setW28 (id ans n dlv : Nat) (seq : Byte) (s : State) : State :=
  setC id 29 0xFFFFFFFF (ts32 s)
    (setC id 28 0xFF07FF03 (BitVec.ofNat 32 (ans + n * 256 + dlv * 65536 + seq.toNat * 2 ^ 24)) s)

/-- A queued command is refused (R638): DLV 4, its reason in w28, IRQ_STAT.CLIENT. -/
def refuseQueued (reason : Nat) (q : QCmd) (s : State) : State :=
  let s1 := setIrq 10 (setW28 q.id 2 reason 4 q.seq { s with clients := { s.clients with
    queue := s.clients.queue.filter fun e => !decide (e = q) } })
  let s2 := cntAdmit (if reason = 3 then 5 else if reason = 5 then 6 else 4) s1
  evt 295 (evt (360 + 3 * q.cls + 2) s2)

/-- Every queued command that satisfies a test is refused. -/
def refuseAll (reason : Nat) (p : QCmd → Bool) (s : State) : State :=
  (s.clients.queue.filter p).foldl (fun st q => refuseQueued reason q st) s

/-- R635, R657: at the change to the emergency run state every queued C3 command is refused as EMERGENCY. -/
def refuseC3 (s : State) : State := refuseAll 6 (fun q => q.cls == 3) s

/-- R634: commands of classes 2 and 3 whose age limit, counted from the instant of their decision, has passed before this boundary
(R1205) are refused as AGED. -/
def ageCommands (s : State) : State :=
  let w := par s (parAddr 20 2)
  refuseAll 3 (fun q => q.sends == 0 && ((q.cls == 2 && decide (q.frame + fld w 0 16 < frameNo s)) ||
    (q.cls == 3 && decide (q.frame + fld w 16 16 < frameNo s)))) s

/-- The commands of a client in the order they are sent: C1, C2 (not in the emergency run state, R636), C3, oldest first
(R633). -/
def cmdsFor (s : State) (id : Nat) (zc : Bool) : List QCmd :=
  let l := s.clients.queue.filter fun q => q.id == id && q.zc == zc
  (l.filter fun q => q.cls == 1) ++
    (if s.canvas.run = .emergency then [] else l.filter fun q => q.cls == 2) ++ (l.filter fun q => q.cls == 3)

/-- A command is sent once (R639): DLV 2; a RELEASE takes effect on the admission (R622). -/
def cmdSent (q : QCmd) (s : State) : State :=
  let s1 : State := { s with clients := { s.clients with queue := s.clients.queue.map fun e =>
    if e = q then { e with sends := e.sends + 1 } else e } }
  let s2 := setW28 q.id (cFld s1 q.id 28 0 2) (cFld s1 q.id 28 8 8) 2 q.seq s1
  if q.sends = 0 then classAnswer q.cls 0 s2 else s2

/-- The sequence number a report acknowledges (R639): the command is done with; DLV 3. A RELEASE ends the admission. -/
def cmdAcked (id : Nat) (seq : Byte) (s : State) : State :=
  (s.clients.queue.filter fun q => q.id == id && q.seq == seq && decide (0 < q.sends)).foldl (fun st q =>
    let s1 : State := { st with clients := { st.clients with queue := st.clients.queue.filter fun e => !decide (e = q) } }
    let s2 := setW28 id (cFld s1 id 28 0 2) (cFld s1 id 28 8 8) 3 seq s1
    if q.code = 8 then loseAdmission id s2 else s2) s

/-- Commands sent three times without acknowledgement fail (R639): DLV 5. -/
def failUnacked (id : Nat) (s : State) : State :=
  (s.clients.queue.filter fun q => q.id == id && decide (3 ≤ q.sends)).foldl (fun st q =>
    let s1 : State := { st with clients := { st.clients with queue := st.clients.queue.filter fun e => !decide (e = q) } }
    cntAdmit 9 (setW28 id (cFld s1 id 28 0 2) (cFld s1 id 28 8 8) 5 q.seq s1)) s

/-! ### Zero-crossing frames and records (R624-R626, R648) -/

/-- The bits of the record that a frame writes wait for the next tick (R610). -/
def queueUpdate (id : Nat) (ws : List (Nat × Word × Word)) (counts : Bool) (track : Option Nat) (s : State) : State :=
  { s with clients := { s.clients with updates := s.clients.updates ++
      [{ tick := tickNo s, id := id, writes := ws, counts := counts, track := track }] } }

/-- ZTRACK follows 3 frames in a row on another track (R625); the first frame of all sets it. -/
def trackSeen (id t : Nat) (s : State) : State :=
  let cur := cFld s id 0 16 2
  let r := cRun s id
  if cur = t + 1 then setRun id { r with zRun := 0 } s
  else if cur = 0 then setRun id { r with zRun := 0 } (setCF id 0 16 2 (t + 1) s)
  else
    let n := if r.zCand = t + 1 then r.zRun + 1 else 1
    if 3 ≤ n then setCF id 3 9 1 1 (setCF id 0 16 2 (t + 1) (setRun id { r with zCand := t + 1, zRun := 0 } s))
    else setRun id { r with zCand := t + 1, zRun := n } s

/-- What a zero-crossing frame writes into its sender's record: state, trouble or supervision code (Tables 09-4, 11-3). -/
def zcContent (typ st : Nat) : List (Nat × Word × Word) :=
  match typ with
  | 0 => if st ≤ 5 then [(3, 7, BitVec.ofNat 32 st)] else []
  | 1 => (8, 0xF, BitVec.ofNat 32 st) :: (if st = 0 then [] else [(3, 7, 6)])
  | 2 => [(8, 0x70, BitVec.ofNat 32 (st * 16))]
  | _ => []

/-- What every accepted zero-crossing frame writes: T_ZC, and SUPERV_LOST cleared (R648). -/
def zcSeen (s : State) : List (Nat × Word × Word) := [(5, 0xFFFFFFFF, ts32 s), (3, 0x10, 0)]

/-- An accepted zero-crossing frame of a client: its time and track, and for an ALARM frame its state, reach the record at
the next tick (R610, R625, R648); a non-alarm frame waits for ZC_RX (Table 05-8; log 31). -/
def zcRecord (t typ id st : Nat) (s : State) : State :=
  let s1 := setRun id { cRun s id with zcAt := some (now s) } s
  if typ = 0 then queueUpdate id (zcSeen s ++ zcContent typ st) false (some t) s1
  else
    let z := zcTrack s1 t
    queueUpdate id (zcSeen s) false (some t) (setZc t { z with rx := z.rx ++ [(typ, id, st)] } s1)

/-- One record write; a trouble code, LINK_LOST and SUPERV_LOST go through their trouble causes, and a repeater out of service stays
so. -/
def recordWrite (id : Nat) (s : State) (w : Nat × Word × Word) : State :=
  let s1 := if w.1 = 8 ∧ w.2.1.getLsbD 0 then setClientTrouble id (fld w.2.2 0 4) s else s
  let s2 := if w.1 = 3 ∧ w.2.1.getLsbD 3 then setClientFlag id 3 (w.2.2.getLsbD 3) s1 else s1
  let s3 := if w.1 = 3 ∧ w.2.1.getLsbD 4 then setClientFlag id 4 (w.2.2.getLsbD 4) s2 else s2
  setC id w.1 w.2.1 w.2.2 s3

/-- What an accepted frame writes reaches the record (R610, R625). -/
def applyUpdate (u : ClientUpd) (s : State) : State :=
  let s1 := u.writes.foldl (recordWrite u.id) s
  let s2 := if u.counts then incCF u.id 18 0 16 s1 else s1
  match u.track with
  | some t => trackSeen u.id t s2
  | none => s2

/-- HUB_ANS to a zero-crossing JOIN (R519, R626): SERVED or REFUSED by ADMIT.ALLOW, on the track recorded for the client, or on
that of its frame where none is. -/
def zcJoinAnswer (t id : Nat) (s : State) : State :=
  let ok := allowed s id
  let z := cFld s id 0 16 2
  classAnswer 1 (if ok then 0 else 2) (queueP2 (if z = 0 then t else z - 1)
    { typ := 6, addr := BitVec.ofNat 11 id, st := if ok then 0 else 2, queuedAt := now s, sent := 0 } s)

end Sys2Proof.Machine
end

