-- ==== Sys2Proof/Machine/CalendarOps.lean ====
section
/-!
DEFINITION. CalendarOps.lean: what a new calendar second makes due (R210, R211, R650, R1058).
-/

namespace Sys2Proof.Machine

/-- The clients that were ever admitted with a valid calendar: FIRST is not 0. -/
def firstIds (s : State) : List Nat := (s.clients.words.filter fun e => e.1 % 32 == 22).map fun e => e.1 / 32

/-- The calendar goes from one second to another: the scheduled Proof, and EOL_DUE by age. -/
def calendarMoved (old new : Nat) (s : State) : State :=
  let s1 := proofCalendar old new s
  if s1.time.calValid then (firstIds s1).foldl (fun st i => eolCheck i st) s1 else s1

end Sys2Proof.Machine
end

