-- ==== Sys2Proof/Machine/Gesso.lean ====
section
/-!
DEFINITION. Gesso.lean: the commands of Gesso, the hard-wired safety layer (02_gesso.md), and of the tiers' domain
self-check (R300).
-/

namespace Sys2Proof.Machine

/-! ### Sentinels (R51-R58) -/

/-- Gesso's view of sentinel n. -/
def gSen (s : State) (n : Nat) : Sentinel := tblGet (fun _ => Sentinel.blank) s.gesso.sen n
def setSen (n : Nat) (d : Sentinel) (s : State) : State :=
  { s with gesso := { s.gesso with sen := tblSet (fun _ => Sentinel.blank) s.gesso.sen n d } }

/-- An exchange of sentinel n's balls that a reverse probe has called for takes effect at a sample boundary, ahead of that
sample's band (R1154, R1180). -/
def swapTakes (n : Nat) (s : State) : State :=
  if s.field.swapDue.getLsbD n then { s with
    field := { s.field with swapDue := setBit s.field.swapDue n false }
    gesso := { s.gesso with swapped := setBit s.gesso.swapped n (!s.gesso.swapped.getLsbD n) } }
  else s

/-- R51: a sample of sentinel n at a pair voltage in mV. In VIGIL a quiet sentinel is sampled every 1,000 ms (R52), one
outside NORMAL, its last sample before VIGIL included, every 1 ms until 1,000 ms in NORMAL (R53). A disabled sentinel is sampled and published, and times
nothing (R58). No sample is taken while Gesso is unarmed. -/
def gessoSample (n : Nat) (mv : Nat) (s' : State) : State :=
  if s'.gesso.armed then
    let s := swapTakes n s'
    let d := gSen s n
    let vigil := decide (s.power.st = .vigil)
    let span := if vigil && !d.fast then 1000 else 1
    let d1 := sampleBand s.gesso.record n mv d
    let d2 := timeBands (recEn s.gesso.record n) span d1
    let normal := runOn d.normalRun (decide (d1.band = .normal)) span
    let d3 : Sentinel := { d2 with
      fast := if d1.band = .normal then vigil && d.fast && !fastOver normal else true
      normalRun := if vigil then normal else none
      sampledAt := now s }
    let s0 := setSen n d3 s
    let s1 := if d.trouble && !d3.trouble then dropCause (128 + n) 0 s0 else s0
    if d.known && decide (d1.band ≠ d.band) then evt (16 + n) s1 else s1
  else s'

/-- GESSO_SENTINEL_SAMPLE. -/
def execGessoSentinelSample (n : Fin 16) (mv : Nat) (s : State) : Res := finish s (gessoSample n.val mv s)

/-- GESSO_ALARM_DWELL_EXPIRY (R55, R58, R119): every sample has been ALARM for ADW. -/
def execGessoAlarmDwellExpiry (n : Fin 16) (s : State) : Res :=
  let d := gSen s n.val
  finish s (if s.gesso.armed && recEn s.gesso.record n.val && dwellDone d.alarmRun (recAdw s.gesso.record n.val) &&
            !s.gesso.trip.getLsbD n.val then
           latchTrip n.val 0 s
         else s)

/-- GESSO_TROUBLE_DWELL_EXPIRY (R56): SHORT or OPEN for TDW. -/
def execGessoTroubleDwellExpiry (n : Fin 16) (s : State) : Res :=
  let d := gSen s n.val
  finish s (if s.gesso.armed && recEn s.gesso.record n.val && dwellDone d.troubleRun (recTdw s.gesso.record n.val) &&
            !d.trouble then
           gessoChirp (raiseCause (128 + n.val) 0 false (setSen n.val { d with trouble := true } s))
         else s)

/-- GESSO_TROUBLE_CLEAR (R57): NORMAL or ALARM for TDW. -/
def execGessoTroubleClear (n : Fin 16) (s : State) : Res :=
  let d := gSen s n.val
  finish s (if dwellDone d.clearRun (recTdw s.gesso.record n.val) && d.trouble then
           dropCause (128 + n.val) 0 (setSen n.val { d with trouble := false } s)
         else s)

/-! ### Power-on reset and arming -/

/-- The sentinel's excitation is applied (Table 02-5): always but in VIGIL, there for 200 us before each sample, which comes 1 s
after the one before, or 1 ms in fast sampling (R52, R53, R345). -/
def senExcited (s : State) (n : Nat) : Bool :=
  if s.power.st = .vigil then
    let due := (gSen s n).sampledAt + (if (gSen s n).fast then 1 else 1000) * ms
    s.gesso.armed && decide (due ≤ now s + 8000)
  else s.gesso.armed || s.gesso.rlBusy

/-- GESSO_ARMED (R117): armed at most 2 ms after power-on reset; sampling and dwells begin, tracks are in ACQ. Gesso runs from
its RC oscillator until the crystal has run for 1 s (R49), and shows CLK where no crystal runs (R47, Table 02-9). -/
def execGessoArmed (s : State) : Res :=
  finish s (if s.gesso.armed || s.gesso.rlBusy then s
         else
           let stopped := s.time.x32Since.isNone
           let s1 := refreshOut { s with
             gesso := { s.gesso with armed := true, clkRc := !s.time.x32Ok, clkTrouble := stopped }
             field := { s.field with armedAt := now s, probeAt := [], probeRun := [], swapDue := 0 } }
           let s2 := setCause (192 + 4) 0 stopped (setCause (192 + 1) 0 s1.gesso.cfgDefault s1)
           if gessoTrouble s2 then gessoChirp s2 else s2)

/-- GESSO_ZC_DECODE_LIVE (R118): burst detectors are calibrated once a front end that the record enables carries a phase. -/
def execGessoZcDecodeLive (s : State) : Res :=
  finish s (if s.gesso.armed && recZen s.gesso.record &&
        (List.range 3).any (fun fe => recZph s.gesso.record fe && phaseOn s fe) then
           { s with gesso := { s.gesso with zcLive := true } }
         else s)

/-! ### Alarm frames (R59-R68, R107, R108, R228, R505, R510-R515) -/

/-- What Gesso has taken of an address in a slot, of frames alone or of combined ones. -/
def gessoTakes (a : Nat) (comb : Bool) (e : Taken) (s : State) : State :=
  if comb then { s with gesso := { s.gesso with takenComb := tblSet (fun _ => none) s.gesso.takenComb a (some e) } }
  else { s with gesso := { s.gesso with taken := tblSet (fun _ => none) s.gesso.taken a (some e) } }

/-- An accepted frame of an address has its effect on the confirmation record `before` (R61-R66): a frame of another state or
from a masked address none; a lone frame trips its class with a live record, and is a first frame without one; a combined
frame trips at once. -/
def gessoHeeds (slot fe : Nat) (bits : BitVec 24) (comb : Bool) (before : Option (Nat × Bool)) (s : State) : State :=
  let a := frameAddr bits
  let alive := confirmAlive (now s) before
  let s1 := gessoTakes a comb { slot := slot, fe := fe, content := frameState bits, before := alive } s
  let keep (c : Option (Nat × Bool)) (n : Nat) : State := { s1 with gesso := { s1.gesso with
    confirm := tblSet (fun _ => none) s1.gesso.confirm a c, cntUnconf := s1.gesso.cntUnconf + BitVec.ofNat 32 n } }
  match classOf (frameState bits) with
  | none => keep before 0
  | some c =>
    if recZmask s.gesso.record a then keep before 0
    else
      let hit := comb || alive.isSome
      let s2 := keep (some (now s, !hit)) (confirmLapsed (now s) before)
      if hit then latchTrip (16 + c) a s2 else s2

/-- An alarm-type frame decoded from one front end: its 24 bits, how many were single-burst, and whether it was combined. It
is decoded only on an enabled front end whose track delivers teeth (R67, R68, R230). -/
def gessoZcFrame (fe slot : Nat) (bits : BitVec 24) (singles : Nat) (comb : Combine) (s : State) : State :=
  if !(s.gesso.armed && s.gesso.zcLive && recZen s.gesso.record && recZph s.gesso.record fe && phaseOn s fe &&
       decide (frameType bits = 0)) then s
  else if !(frameOk bits && decide (singles ≤ 2)) then
    { s with gesso := { s.gesso with cntDrop := s.gesso.cntDrop + 1 } }
  else
    let a := frameAddr bits
    let c := decide (comb ≠ .x1)
    let own := if c then s.gesso.takenComb else s.gesso.taken
    let other := if c then s.gesso.taken else s.gesso.takenComb
    match slotKinds own other a slot fe (frameState bits) with
    | .again e => gessoTakes a c e s
    | .dropped => s
    | .instead e => gessoHeeds slot fe bits c e.before s
    | .beside e => gessoHeeds slot fe bits c e.before { s with gesso := { s.gesso with cntAcc := s.gesso.cntAcc + 1 } }
    | .first => gessoHeeds slot fe bits c (tblGet (fun _ => none) s.gesso.confirm a)
        { s with gesso := { s.gesso with cntAcc := s.gesso.cntAcc + 1 } }

/-- The threshold of Gesso on front end fe, in codes of ZCP.DET_THR (R515): its noise floor plus 10 dB, no lower than
70 dBuV. -/
def gessoTh (s : State) (fe : Nat) : Int := max 20 (noiseTh (gessoNoise s fe) + 20)

/-- A frame that is not accepted alone is dropped and counted where its type is known to be the alarm type (R60). -/
def gessoDrops (th : Int) (lv : List (Int × Int)) (r : Reading) (s : State) : State :=
  if typeRead th lv && frameType r.copy.bits == 0 then { s with gesso := { s.gesso with cntDrop := s.gesso.cntDrop + 1 } }
  else s

/-- GESSO_ZC_FRAME (R60, R67, R499, R505, R510, R515, R529): the levels of a start mark and the 48 teeth after it on front end fe
in a frame slot. Without a start mark there is no frame. It is accepted alone, or by combining with the copies of the slots
before; a frame of alarm type that fails R59 is dropped and counted, one with an erased bit only where combining does not
rescue it. A frame whose track has gone to LOST is dropped; its teeth end there. -/
def execGessoZcFrame (fe : Fin 3) (slot : Nat) (lv : List (Int × Int)) (s : State) : Res :=
  finish s (
    let th := gessoTh s fe.val
    if !(s.gesso.armed && s.gesso.zcLive && recZen s.gesso.record && recZph s.gesso.record fe.val && startMark th lv) then s
    else if !phaseOn s fe.val then gessoDrops th lv (readBody th slot (synUsed s fe.val) (lv.drop 1)) s
    else
      let r := readBody th slot (synUsed s fe.val) (lv.drop 1)
      let cs := keepCopy r.copy (tblGet (fun _ => []) s.gesso.copies fe.val)
      let s1 : State := { s with gesso := { s.gesso with copies := tblSet (fun _ => []) s.gesso.copies fe.val cs } }
      let alone := if readingOk r then gessoZcFrame fe.val slot r.copy.bits r.singles .x1 s1 else s1
      match combineSlot cs slot with
      | some (bits, n, _, comb) =>
        gessoZcFrame fe.val slot bits n comb (if r.erased || readingOk r then alone else gessoDrops th lv r alone)
      | none => if readingOk r then alone else gessoDrops th lv r alone)

/-- GESSO_FIRST_FRAME_EXPIRY (R65): a first frame not confirmed within 6.0 s expires and is counted. -/
def execGessoFirstFrameExpiry (a : Fin 2048) (s : State) : Res :=
  finish s (match tblGet (fun _ => none) s.gesso.confirm a.val with
    | some (t, first) =>
      if t + 6 * sec < now s then
        { s with gesso := { s.gesso with
          cntUnconf := s.gesso.cntUnconf + (if first then 1 else 0)
          confirm := tblSet (fun _ => none) s.gesso.confirm a.val none } }
      else s
    | none => s)

/-! ### Heartbeat (R95-R98, R161-R164, R192) -/

/-- The answer to a challenge (R161): rotated left by 3 and XORed with 0xA7. -/
def heartbeat (c : Byte) : Byte := c.rotateLeft 3 ^^^ 0xA7

/-- HEARTBEAT_ANSWER: the safety core answers the frame's challenge. `err` is the error of a faulty core, 0 in sound
hardware. A wrong answer counts toward SC_FAULT, before the first correct one too: R163 exempts unanswered challenges only (R96). Bit
8 carries the disagreement indication and sets or clears TROUBLE.XDIS (R94, R162). -/
def execHeartbeatAnswer (err : Byte) (s : State) : Res :=
  finish s (
    if s.safety.run && s.gesso.snap.published && !s.gesso.snap.answered then
      let ans := heartbeat s.gesso.snap.challenge ^^^ err
      let good := decide (err = 0)
      let dis := !s.safety.disNow.isEmpty
      let s1 : State := { s with
        gesso := { s.gesso with
          snap := { s.gesso.snap with answered := true }
          goodRun := if good then s.gesso.goodRun + 1 else 0
          badRun := if good then 0 else s.gesso.badRun + 1
          firstAnswer := s.gesso.firstAnswer || good
          coreReset := if good then none else s.gesso.coreReset
          xdis := dis }
        safety := { s.safety with hbLast := ans, hbCnt := s.safety.hbCnt + 1, answeredOnce := true } }
      let s1 := evt 345 s1
      -- R158, R192: from its first answer on the path latch follows the safety core, and a stopped path runs again
      let s2 := if s.safety.answeredOnce then s1
        else
          let r : State := { s1 with pads := { s1.pads with pathStopped := s1.gesso.scFault || s1.safety.lockstep } }
          tierChange s (if s1.safety.pathOwed = 0 then writePath r else releasePath (s1.safety.pathOwed == 2) r)
      setCause (192 + 2) 0 dis s2
    else s)

/-- SC_FAULT latches: it is attributed to domain S (R97), the safety core path stops (R159), the tier falls (R20), FAULT is a
wake cause (R321). -/
def latchScFault (s : State) : State :=
  let s1 := stopPath { s with gesso := { s.gesso with scFault := true } }
  gessoChirp (tierChange s (latchWake 6 (raiseCause 192 0 false s1)))

/-- SC_FAULT_LATCH (R96): two consecutive challenges unanswered or answered wrongly. -/
def execScFaultLatch (s : State) : Res :=
  finish s (if 2 ≤ s.gesso.badRun && !s.gesso.scFault then latchScFault s else s)

/-- SC_FAULT_CLEAR (R98): 64 consecutive correct answers. -/
def execScFaultClear (s : State) : Res :=
  finish s (if 64 ≤ s.gesso.goodRun && s.gesso.scFault then
      let s1 : State := { s with gesso := { s.gesso with scFault := false } }
      tierChange s (dropCause 192 0 (writePath { s1 with pads := { s1.pads with pathStopped := s1.safety.lockstep } }))
    else s)

/-- SC_FIRST_ANSWER_TIMEOUT (R164): no correct answer within 200 ms after the safety core left reset. -/
def execScFirstAnswerTimeout (s : State) : Res :=
  finish s (match s.gesso.coreReset with
    | some t => if s.sys.applied.getLsbD 3 && passed s t (200 * ms) && !s.gesso.scFault then latchScFault s else s
    | none => s)

/-! ### Silence, reset, chirp (Table 02-3, R77-R82) -/

/-- The safety core writes to Gesso within the acknowledge sequence, which runs at Tier 2 only (Table 02-3, R76, R83, R180). -/
def ackWrites (s : State) : Bool := s.safety.run && decide (s.sys.tier = 2)

/-- GESSO_SILENCE: silences the named trips latched at this moment (R77, R106); relay drivers are untouched (R79). -/
def execGessoSilence (mask : BitVec 19) (s : State) : Res := finish s (if ackWrites s then gessoSilence mask s else s)

/-- GESSO_RESET: clears a named sentinel trip only if the sentinel is NORMAL or disabled (R80), a class trip always
(R81); the others stay (R82). -/
def execGessoReset (mask : BitVec 19) (s : State) : Res := finish s (if ackWrites s then gessoResetTrips mask s else s)

/-- GESSO_CHIRP: CHIRP(k) from the safety core (Table 02-3, R905). -/
def execGessoChirp (k : Fin 4) (proof : Bool) (s : State) : Res :=
  finish s (if s.safety.run then chirp k.val proof s else s)

/-! ### RELATCH (R86-R90, R114, R115) -/

/-- RELATCH begins: Gesso is unarmed for at most 2 ms and holds every output command (R89). -/
def beginRelatch (s : State) : State :=
  { s with gesso := { s.gesso with armed := false, rlBusy := true } }

/-- RL_RESULT of a refused request. -/
def relatchRefused (n : Nat) (s : State) : State := { s with gesso := { s.gesso with rlResult := BitVec.ofNat 3 n } }

/-- A request made under its key. -/
def requestRelatch (s : State) : State :=
  if !s.gesso.armed then s
  else if s.gesso.trip ≠ 0 then relatchRefused 2 s
  else if (List.range 16).any (fun n => recEn s.gesso.record n && !decide ((gSen s n).band = .normal)) then relatchRefused 3 s
  else beginRelatch s

/-- GESSO_RELATCH: requested by the host under the GESSO key. Refused while a trip is latched (R87), while an enabled
sentinel is not NORMAL (R88), or without the key. -/
def execGessoRelatch (s : State) : Res :=
  finish s (if !s.gesso.armed then s
    else if !keyOk s 3 then relatchRefused 4 s
    else requestRelatch s)

/-- GESSO_RELATCH_DONE: the record is latched again; every dwell counter and confirmation record starts empty (R90);
the safety core reloads within 2 major frames (R129). Trips stay latched across an automatic RELATCH. -/
def execGessoRelatchDone (s : State) : Res :=
  finish s (if s.gesso.rlBusy then
      let (r, crc, dup, dflt) := recLatch s.mem
      let s1 : State := { s with
        gesso := { s.gesso with
          record := r, cfgCrc := crc, copyDup := dup, dflt := dflt, cfgDefault := dflt, armed := true, rlBusy := false
          rlResult := 1
          sen := (List.range 16).foldl (fun t n =>
            let d := tblGet (fun _ => Sentinel.blank) t n
            tblSet (fun _ => Sentinel.blank) t n { d with alarmRun := none, troubleRun := none, clearRun := none })
            s.gesso.sen
          confirm := [], taken := takenAnew s.gesso.taken, takenComb := takenAnew s.gesso.takenComb, sinceRelatch := 0 }
        safety := { s.safety with reloadDue := some (frameNo s + 2) } }
      setCause (192 + 1) 0 dflt (refreshOut s1)
    else s)

/-- GESSO_RECORD_CRC_CHECK (R114): the periodic check of the latched record; `mismatch` says that the latch no longer
matches its CRC. A mismatch is a trouble of Table 02-9, which chirps below Tier 1 (R116). It starts RELATCH whatever R87 and
R88 say, counts it, and a second one within 24 h sets CFG_LATCH (R115), which stays until domain G's next power-on reset
(log 76). -/
def execGessoRecordCrcCheck (mismatch : Bool) (s : State) : Res :=
  finish s (if s.gesso.armed && mismatch then
      let recent := s.gesso.autoRelatch.filter fun t => decide (now s < t + 86400 * sec)
      let s1 := beginRelatch { s with gesso := { s.gesso with
        relatchCnt := satInc s.gesso.relatchCnt, autoRelatch := now s :: recent
        cfgLatch := s.gesso.cfgLatch || !recent.isEmpty } }
      gessoChirp (if recent.isEmpty then s1 else raiseCause (192 + 5) 0 false s1)
    else s)

/-- GESSO_TROUBLE_CHIRP (R42, R116): below Tier 1, once every 60 s while a trouble of Table 02-9 or a fall to Tier 0 by
a domain fault lasts. -/
def execGessoTroubleChirp (s : State) : Res :=
  finish s (if gessoTrouble s || s.gesso.tier0Fault then gessoChirp s else s)

/-- A ROM CRC or march test failure: the pair halts, the fault is attributed to domain S and is a trouble cause (4, 2), and CORE
is set (Table 03-7). -/
def firmwareFails (s : State) : State :=
  let s1 : State := { s with safety := { s.safety with
    fwFail := true, core := true, run := false, answeredOnce := false, restartAt := none } }
  raiseCause 258 0 false s1

/-- DOMAIN_SELF_CHECK_DONE (R300): the self-check of a domain whose power is applied passes or fails. A pass makes it
available; a failure is a trouble cause (13, 6) and a FAULT wake cause. nRST holds every domain but G and K in reset (R335). -/
def execDomainSelfCheckDone (d : Domain) (pass : Bool) (s : State) : Res :=
  let i := d.bit
  finish s (if s.sys.applied.getLsbD i && !(s.power.inReset && decide (1 < i)) then
      let s0 : State := { s with sys := { s.sys with
        checked := setBit s.sys.checked i pass, failed := setBit s.sys.failed i (!pass) } }
      let s1 := if i = 3 ∧ !pass then firmwareFails s0 else s0
      let s2 := if pass then s1 else evt 318 (latchWake 6 s1)
      let s3 := if s2.sys.failed = 0 then dropCause (832 + 6) 0 s2 else raiseCause (832 + 6) 0 false s2
      flushTierLog (tierChange s (mirrorSelfFault s3))
    else s)

end Sys2Proof.Machine
end

