-- ==== Sys2Proof/Machine/ZcOps.lean ====
section
/-!
DEFINITION. ZcOps.lean: the hub's frames on the zero-crossing channel and what ends them (R506-R508, R518-R536).
-/

namespace Sys2Proof.Machine

/-- ZCP.CTL and ZCP.PH_CTL. -/
def zcTx (s : State) : Bool := (par s (parAddr 18 0)).getLsbD 0
def zcMark (s : State) : Bool := (par s (parAddr 18 0)).getLsbD 1
def zcPhTx (s : State) (t : Nat) : Bool := (par s (parAddr 18 1)).getLsbD (3 + t)
/-- Copies of a hub sequence (R520). -/
def zcRep (s : State) : Nat := match fld (par s (parAddr 18 0)) 2 2 with | 1 => 4 | 2 => 6 | _ => 1

/-- The state of a track. -/
def trkState (s : State) (t : Nat) : TrackState := (tblGet (fun _ => Track.blank) s.time.tracks t).st

/-- The cycle count of a track that numbers its slots: in a pair with MIRROR.ZC_OFF added (R1000). -/
def zcCount (s : State) (t : Nat) : Nat :=
  (tblGet (fun _ => Track.blank) s.time.tracks t).cyc.toNat + if s.mirror.pair then tblGet (fun _ => 0) s.mirror.zcOff t else 0

/-- The cycle within the slot and the slot number of a track (R503). -/
def zcCycle (s : State) (t : Nat) : Nat := zcCount s t % 32
def zcSlot (s : State) (t : Nat) : Nat := zcCount s t / 32

/-- ZCP.STAT.TX_SUPP of track t: holdover, out of service or TX_FAULT (Table 09-12). -/
def zcSupp (s : State) (t : Nat) : Bool :=
  decide (trkState s t = .holdover) || s.glaze.oosPh.getLsbD t || (zcTrack s t).txFault

/-- A line phase transmits: in service, and from the beacon boundary after its return on (Table 08-4). -/
def phaseSends (s : State) (t : Nat) : Bool :=
  !s.glaze.oosPh.getLsbD t && decide (tblGet (fun _ => 0) s.glaze.phFrom t ≤ pairTime s)

/-- A track on which the hub transmits: locked, in service and without TX_FAULT (R227, R230, R466, R535). -/
def zcOpen (s : State) (t : Nat) : Bool := decide (trkState s t = .locked) && !zcSupp s t && phaseSends s t

/-- The hub may transmit frames on track t: Tier 1 and above, enabled, a coordinator's chip, not suppressed. -/
def zcMayTx (s : State) (t : Nat) : Bool :=
  decide (1 ≤ s.sys.tier) && (domAvail s).getLsbD 8 && zcTx s && zcPhTx s t && zcOpen s t

/-- The frame at the head of a class, its sequence to be sent anew (log 120). -/
def headAnew (l : List HubFrame) : List HubFrame := match l with | f :: r => { f with sent := 0 } :: r | [] => []

/-- The hub frame under way on a track stops: it stays at the head of its class, its sequence to be sent anew. A stop by TX_FAULT
is none of those that CNT_ABAND counts (R527, R535). -/
def zcStop (t : Nat) (s : State) : State :=
  let z := zcTrack s t
  match z.under with
  | none => s
  | some (p1, _) =>
    setZc t { z with under := none
                     q1 := if p1 then headAnew z.q1 else z.q1, q2 := if p1 then z.q2 else headAnew z.q2 } s

/-- The hub frame under way on a track is abandoned by holdover or a removal of its phase, and counted (R526-R528). -/
def zcAbandon (t : Nat) (s : State) : State :=
  let z := zcTrack s t
  if z.under.isNone then s else zcStop t (setZc t { z with cntAband := z.cntAband + 1 } s)

/-- A frame on track t is dropped and counted. -/
def zcDrop (t : Nat) (s : State) : State :=
  evt (51 + t) (setZc t { zcTrack s t with cntDrop := (zcTrack s t).cntDrop + 1, dropOwed := none } s)

/-- A frame with an erased bit that combining has not rescued is dropped (R499). -/
def zcDropOwed (t : Nat) (s : State) : State := if (zcTrack s t).dropOwed.isSome then zcDrop t s else s

/-- A frame under reception on a track that goes to LOST is dropped and counted (R529). -/
def zcCut (t : Nat) (s : State) : State :=
  if (zcTrack s t).receiving then
    let s1 := zcDrop t s
    setZc t { zcTrack s1 t with receiving := false, cutOff := true } s1
  else s

/-- The track goes to LOST (R230, R529): a hub frame under way ends as R526 says, one under reception is dropped; copies held for
combining are of no more use. -/
def zcTrackLost (t : Nat) (s : State) : State :=
  let s1 := zcCut t (zcDropOwed t (zcAbandon t s))
  setZc t { zcTrack s1 t with copies := [], heard := false }
    { s1 with gesso := { s1.gesso with copies := tblSet (fun _ => []) s1.gesso.copies t [] } }

/-- The tooth h of the slot that track t has just decided, on its rising or falling chain (R503). -/
def toothOf (s : State) (t : Nat) (rising : Bool) : Nat := 2 * zcCycle s t + if rising then 0 else 1

/-- A synthesised tooth marks the bursts that were sent on it (R226). -/
def markSyn (t : Nat) (rising : Bool) (s : State) : State :=
  let z := zcTrack s t
  let h := toothOf s t rising
  setZc t { z with bursts := z.bursts.map fun b => if b.h = h then { b with syn := true } else b } s

/-- A rising tooth of track t: a frame slot begins when TRK_CYC becomes a multiple of 32 (R503). -/
def frameStart (t : Nat) (s : State) : State :=
  if zcCycle s t = 0 then
    let z := zcTrack s t
    setZc t { z with heard := false, slotsSinceRetry := z.slotsSinceRetry + 1 } s
  else s

end Sys2Proof.Machine
end

