-- ==== Sys2Proof/Machine/TimeBase.lean ====
section
/-!
DEFINITION. TimeBase.lean: the commands of the time base and the tooth tracker (04_time_base_and_teeth.md), but for the
boundaries, which are in Frame.lean, and the tooth-anchored events, which are in ZcLine.lean.
-/

namespace Sys2Proof.Machine

/-! ### Sources of the easel counter (R200-R203, R1204, Table 04-5) -/

/-- A discipline window opens once both crystals are valid (R204); only a set that comes while it is open discards its count
(R238). -/
def openWindow (t : Time) : Time :=
  { t with winOpen := if t.x40Ok && t.x32Ok then some (t.winOpen.getD t.easel) else none
           discardCount := t.winOpen.isSome && t.discardCount }

/-- X40_RESTART (R202, R1204): the main crystal becomes valid at an edge of the source in use, `cycles` edges after the
last counted one; from there the counter counts its cycles, and the first tick begins at the next sub-tick 0. In OFF the
counter stands (R1206). -/
def execX40Restart (cycles : Nat) (s : State) : Res :=
  finish s (if s.time.source = .x40 then s
    else
      let t := if s.power.st = .off then s.time else slowCycles cycles s.time
      tierChange s (dropCause (832 + 3) 0 { s with time := openWindow { t with
        x40Ok := true, x40Fail := false, source := .x40 } }))

/-- Fraction of the calendar second, 1/32,768 s, from the easel time that has passed in it (log 129), or held while the crystal is
stopped (R1214). -/
def calFraction (s : State) : Nat :=
  if s.time.x32Since.isSome then min 32767 ((now s - s.time.secStart) * 32768 / sec) else s.time.calSub.toNat

/-- X32_STOP (R47, R1214): the calendar freezes, CAL_VALID and X32_OK clear, Gesso runs from its RC oscillator and
shows CLK; while the main crystal is stopped the easel counter goes on from the RC oscillator. -/
def execX32Stop (s : State) : Res :=
  finish s (if s.time.x32Since.isSome then
      let s1 : State := { s with
        time := { s.time with
          calSub := BitVec.ofNat 15 (calFraction s), calValid := false, x32Ok := false, x32Since := none
          x32Run := false, winOpen := none, discardCount := false
          source := if s.time.source = .x32 then .rc else s.time.source }
        gesso := { s.gesso with clkRc := true, clkTrouble := true } }
      gessoChirp (tierChange s (raiseCause (192 + 4) 0 false s1))
    else s)

/-- X32_RUN_RESUME (R1214): the crystal runs again and the calendar resumes from its frozen value. -/
def execX32RunResume (s : State) : Res :=
  finish s (if s.time.x32Since.isSome then s
    else { s with time := { s.time with
      x32Since := some (now s), secStart := now s - (s.time.calSub.toNat * sec + 32767) / 32768 } })

/-- X32_OK_RETURN (R49, R1214): after 1 s without interruption X32_OK is 1 and Gesso returns to the crystal; TROUBLE.CLK, once set,
clears then and not as the crystal starts (log 128). A change of
the easel source counts the part of an RC cycle as one nominal cycle (Table 04-5). -/
def execX32OkReturn (s : State) : Res :=
  finish s (match s.time.x32Since with
    | none => s
    | some t0 =>
      if passed s t0 sec && !s.time.x32Ok then
        let t := if s.time.source = .rc ∧ s.power.st ≠ .off then rcCycle s.time else s.time
        let s1 : State := { s with
          time := openWindow { t with x32Ok := true, x32Run := true
                                      source := if t.source = .rc then .x32 else t.source }
          gesso := { s.gesso with clkRc := false, clkTrouble := false } }
        tierChange s (dropCause (192 + 4) 0 s1)
      else s)

/-! ### Calendar and discipline (R204-R211, R232, R238, R240) -/

/-- 200 ppm in units of 1/256 of 0.01 ppm. -/
def trimMax : Int := 5120000

/-- TIME.RTC_TRIM: the internal trim rounded to 0.01 ppm, halves away from zero (R205). -/
def trimReg (t : Int) : Int := if 0 ≤ t then (t + 128) / 256 else -((-t + 128) / 256)

/-- The values of TIME.RTC_TRIM of the last 64 s, with the one in force as they began (R208). -/
def recentTrims (at_ : Nat) (l : List (Nat × Int)) : List (Nat × Int) :=
  let new := l.takeWhile fun p => decide (at_ < p.1 + 64 * sec)
  new ++ (l.drop new.length).take 1

/-- R208: TIME.RTC_TRIM has a history of 64 s in which no value differs from the present one by 0.50 ppm. The bit follows this
condition both ways (log 81). -/
def judgeLock (t : Time) : Time :=
  let l := recentTrims t.easel t.trims
  let nowTrim := trimReg t.trim
  { t with
    trims := l
    discLock := (l.any fun p => decide (p.1 + 64 * sec ≤ t.easel)) && l.all fun p =>
      decide (p.2 - nowTrim < 50) && decide (nowTrim - p.2 < 50) }

/-- The trim takes a value; TIME.RTC_TRIM shows it from now on. -/
def setTrim (v : Int) (t : Time) : Time :=
  { t with trim := v, trims := if trimReg v = trimReg t.trim then t.trims else (t.easel, trimReg v) :: t.trims }

/-- DISCIPLINE_COUNT (R204, R205, R208, R232, R240): a window of 32,768 cycles closes with n cycles of 40 MHz, and the next one
opens at that edge; one cycle is 0.025 ppm, 640 units of the trim. A discarded window moves nothing (R238), nor does one
while DISC is 0. -/
def execDisciplineCount (n : Nat) (s : State) : Res :=
  finish s (match s.time.winOpen with
    | none => s
    | some w =>
      if tickNo s < (w + n) / tickLen then s
      else
        let s0 := moveTo s (w + n)
        let t : Time := { s0.time with winOpen := some (w + n) }
        let ctl := par s (parAddr 1 0x006)
        if t.discardCount then { s0 with time := judgeLock { t with discardCount := false } }
        else if !ctl.getLsbD 0 then { s0 with time := judgeLock t }
        else
          let dev : Int := ((40000000 : Int) - n) * 640
          let bad := decide (trimMax < dev) || decide (dev < -trimMax)
          let good := if bad then 0 else t.goodRun + 1
          let xdev := bad || (t.xtalDev && decide (good < 16))
          let trim := if xdev || ctl.getLsbD 1 then t.trim else clampI (-trimMax) trimMax (t.trim + asr (dev - t.trim) 4)
          setCause (832 + 4) 0 xdev
            { s0 with time := judgeLock { setTrim trim t with goodRun := good, xtalDev := xdev } })

/-- The second that ends and the one that begins: the correction that the trim calls for is made in whole cycles of 781,250
trim units (R206). -/
def secondEnds (t : Time) : Time :=
  let corr := t.calCorr + t.trim
  let n : Int := Int.tdiv corr 781250
  judgeLock { t with secStart := t.easel, calCorr := corr - n * 781250, secLen := (32768 + n).toNat }

/-- CALENDAR_SECOND (R206, R209-R211): the crystal has run `cycles` cycles since the second began, and the second ends with its
last one. The next second is longer or shorter by the accumulated correction. A held set takes effect once X32_OK is 1, is
logged (code 0x005) and makes calendar-anchored events due as R210 and R211 say. -/
def execCalendarSecond (cycles : Nat) (s : State) : Res :=
  finish s (if s.time.x32Since.isNone || decide (cycles ≠ s.time.secLen) then s
    else
      let t := secondEnds s.time
      let old := s.time.calSec.toNat
      match if s.time.x32Ok then s.time.calSet else none with
      | some v => calendarMoved old v.toNat (logPush 0x005 v { s with time := { t with
          calSec := v, calSet := none, calValid := true, discardCount := t.discardCount || t.winOpen.isSome } })
      | none => calendarMoved old (old + 1) { s with time := { t with calSec := s.time.calSec + 1 } })

/-- A value written to TIME.CAL_SET is held. -/
def calSetWrite (v : Word) (s : State) : State :=
  setPar (parAddr 1 4) v { s with time := { s.time with calSet := some v } }

/-! ### The tooth tracker (R212-R224, R231, R235-R237, R1215, R1223, R1224) -/

/-- Track t. -/
def track (s : State) (t : Nat) : Track := tblGet (fun _ => Track.blank) s.time.tracks t
def setTrack (t : Nat) (k : Track) (s : State) : State :=
  { s with time := { s.time with tracks := tblSet (fun _ => Track.blank) s.time.tracks t k } }

/-- TIME.TRK_CTL[t].EN and INV. -/
def trkEn (s : State) (t : Nat) : Bool := (par s (parAddr 1 (0x008 + t))).getLsbD 0
def trkInv (s : State) (t : Nat) : Bool := (par s (parAddr 1 (0x008 + t))).getLsbD 1

/-- The half-period limits of R213 in sub-ticks, and P limited to their double in 1/16 sub-tick (R231). -/
def halfMin : Nat := 317480
def halfMax : Nat := 425520
def clampP (p : Int) : Int := clampI (32 * halfMin) (32 * halfMax) p

/-- A time lies inside the window p - W to p + W, W = 0.06 x P / 2 (R215). -/
def inWindow (c : Chain) (t16 : Int) : Bool :=
  decide (100 * (t16 - c.p) ≤ 3 * c.per) && decide (-(3 * c.per) ≤ 100 * (t16 - c.p))

/-- The chain after a tooth with error e (R219, R231). -/
def chainNext (c : Chain) (e : Int) : Chain :=
  let per := clampP (c.per + asr e 4)
  { p := c.p + per + asr e 1, per := per, last := c.p }

/-- Three candidates, newest first, lock the track; the limits are those of R213 as written (log 129). -/
def locks (c0 c1 c2 : Nat × Bool) : Bool :=
  let i0 := c0.1 - c1.1
  let i1 := c1.1 - c2.1
  c0.2 != c1.2 && c1.2 != c2.2 && decide (halfMin ≤ i0) && decide (i0 ≤ halfMax) && decide (halfMin ≤ i1) &&
    decide (i1 ≤ halfMax) && decide (100 * (max i0 i1 - min i0 i1) ≤ 3 * (i0 + i1))

/-- FREQ in mHz: 16 x 40,000,000,000 / P, halves up (R1215). -/
def freqOf (per : Int) : Half := BitVec.ofNat 16 (roundDiv 640000000000 (max 1 per.toNat))

/-- PHASE_ANG of the tracks after a rising tooth of track t (R1215): floor(3,600 x d / P1), d from the latest rising
tooth of L1 to the latest rising tooth of the track at or after it; 0 where none is, and modulo 3,600 (log 129). -/
def updatePhase (t : Nat) (s : State) : State :=
  let l1 := track s 0
  let d := (track s t).lastRise - l1.lastRise
  let ang : Int := if 0 < l1.rising.per ∧ 0 ≤ d then 3600 * d / l1.rising.per else 0
  if t = 1 then { s with time := { s.time with phaseL2 := BitVec.ofInt 12 (ang % 3600) } }
  else if t = 2 then { s with time := { s.time with phaseL3 := BitVec.ofInt 12 (ang % 3600) } }
  else s

/-- What a decided tooth of a locked track does beside its chain: TRK_LAST, TRK_CYC and FREQ on the rising chain (R223,
R1215). -/
def toothDone (t : Nat) (rising : Bool) (t16 : Int) (k : Track) (s : State) : State :=
  let k1 : Track := { k with lastTooth := (t16 / 16).toNat, synHist := k.synHist <<< 1 ||| (if k.synLast then 1 else 0) }
  let k2 : Track := if rising then { k1 with lastRise := t16, cyc := k.cyc + 1, freq := freqOf k.rising.per } else k1
  let s1 := setTrack t k2 s
  if rising then frameStart t (updatePhase t s1) else s1

/-- A lock (R213, R214, R223, R224): both chains get their first predictions; TRK_CYC goes on by the whole periods since
the last rising tooth when the track had been locked before; a half counts up (log 82). -/
def lockTrack (t : Nat) (c0 c1 : Nat × Bool) (i1 : Nat) (s : State) : State :=
  let k := track s t
  let per := clampP (16 * ((c0.1 - c1.1 : Nat) + i1 : Nat))
  let mk (c : Nat × Bool) : Chain := { p := 16 * (c.1 : Int) + per, per := per, last := 16 * (c.1 : Int) }
  let r0 := c0.2 != trkInv s t
  let riseAt : Int := 16 * ((if r0 then c0.1 else c1.1 : Nat) : Int)
  let whole := if k.everLocked then ((2 * (riseAt - k.lastRise) + per) / (2 * per)).toNat else 0
  let k1 : Track := { k with
    st := .locked, rising := if r0 then mk c0 else mk c1, falling := if r0 then mk c1 else mk c0
    synRun := 0, synLast := false, synHist := 0, realRun := 3, cands := [], everLocked := true
    cyc := k.cyc + BitVec.ofNat 32 whole, lastRise := riseAt, lastTooth := c0.1, freq := freqOf per }
  tierChange s (dropCause (768 + 20 + t) 0 (dropCause (768 + 16 + t) 0 (setTrack t k1 s)))

/-- The time of track t's edge in the resolution of the source in use (R201, R236): sub-ticks while the main crystal runs; an edge
timed on a slow source has its resolution; one timed before the main crystal stopped lies whole cycles before now. -/
def stamp (s : State) (t at_ : Nat) : Nat :=
  if s.time.source = .x40 ∨ (track s t).edgeSlow then at_
  else now s - ((now s - at_) * 32768 + sec - 1) / sec * sec / 32768

/-- A candidate of a track in ACQ or LOST: the last three may lock it (R213). -/
def candUnlocked (t t0 : Nat) (level : Bool) (k : Track) (s : State) : State :=
  let cands := ((t0, level) :: k.cands).take 3
  let s1 := setTrack t { k with cands := cands } s
  match cands with
  | [c0, c1, c2] => if locks c0 c1 c2 then lockTrack t c0 c1 (c1.1 - c2.1) s1 else s1
  | _ => s1

/-- A candidate of a track that predicts: the tooth where it lies in the window of its chain, which also takes a track in
HOLDOVER back to LOCKED after three (R215, R221), else rejected and counted (R216, R235). -/
def candLocked (t t0 : Nat) (rising : Bool) (k : Track) (s : State) : State :=
  let c := if rising then k.rising else k.falling
  let t16 : Int := 16 * (t0 : Int)
  if inWindow c t16 then
    let c' := chainNext c (t16 - c.p)
    let real := k.realRun + 1
    let back := decide (k.st = .holdover) && decide (3 ≤ real)
    let k1 : Track := { k with
      rising := if rising then c' else k.rising, falling := if rising then k.falling else c'
      synLast := false, synRun := 0, realRun := real, st := if back then .locked else k.st }
    let s1 := evt (32 + t) (toothDone t rising t16 k1 s)
    if back then dropCause (768 + 16 + t) 0 s1 else s1
  else evt (35 + t) <| setTrack t { k with cntRej := k.cntRej + 1 } s

/-- The pending edge of a track has held 200 us by now: it is a candidate, and the comparator holds its level (R212). -/
def edgeHeld (s : State) (t : Nat) : Bool :=
  match (track s t).edge with
  | some (t0, _) => decide (t0 + 8000 ≤ now s)
  | none => false

/-- A pending edge that has held is decided. -/
def decideEdge (t : Nat) (s : State) : State :=
  let k := track s t
  match k.edge with
  | none => s
  | some (t0, level) =>
    if edgeHeld s t then
      let k1 : Track := { k with level := some level, edge := none }
      match k.st with
      | .acq | .lost => candUnlocked t (stamp s t t0) level k1 s
      | _ => candLocked t (stamp s t t0) (level != trkInv s t) k1 s
    else s

/-- TOOTH_CANDIDATE (R212, R213, R215, R216, R221, R235, R236): the pending edge has held 200 us. -/
def execToothCandidate (t : Fin 3) (at_ : Nat) (s : State) : Res := finish s (decideEdge t.val (moveIn s at_))

/-- COMPARATOR_EDGE (R212, R217): the comparator of track t goes to a level. An edge that leaves the held level waits
for its 200 us; one that returns to it before makes the pending one a glitch, and one that returns later leaves the level
that the pending one has reached. The tracker runs from Gesso's arming on (R242), a RELATCH included; a track whose EN is 0
takes no edge (log 129). -/
def execComparatorEdge (t : Fin 3) (level : Bool) (at_ : Nat) (s : State) : Res :=
  let s0 := moveIn s at_
  finish s (if trkEn s0 t.val && outputsLive s0 then
      let s1 := decideEdge t.val s0
      let k := track s1 t.val
      match k.edge with
      | some (_, l) =>
        if level = l then s1
        else evt (38 + t.val) <| setTrack t.val { k with edge := none, cntGlitch := k.cntGlitch + 1 } s1
      | none => if k.level = some level then s1 else setTrack t.val { k with edge := some (now s1, level), edgeSlow := decide (s1.time.source ≠ .x40) } s1
    else s0)

/-- An edge of a polarity that has not yet held lies in the window of its chain: the tooth waits for it (R215, R218). -/
def edgeWaits (s : State) (t : Nat) (rising : Bool) : Bool :=
  let k := track s t
  match k.edge with
  | some (t0, level) =>
    (level != trkInv s t) == rising && inWindow (if rising then k.rising else k.falling) (16 * (stamp s t t0 : Int))
  | none => false

/-- TOOTH_SYNTHESIS (R218-R220, R222, R226, R229, R241, log 129): no candidate was accepted by p + W; the tooth is synthesised at
p. Two in a row enter HOLDOVER, which abandons a hub frame under way (R526); LOST_N lose the track, which ends its
phase (R20, R230). -/
def execToothSynthesis (t : Fin 3) (rising : Bool) (at_ : Nat) (s : State) : Res :=
  let s0 := decideEdge t.val (moveIn s at_)
  let k := track s0 t.val
  let c := if rising then k.rising else k.falling
  finish s (if (k.st = .locked || k.st = .holdover) && !edgeWaits s0 t.val rising &&
        decide (3 * c.per < 100 * (16 * (now s0 : Int) - c.p)) then
      let run := min 31 (k.synRun + 1)
      let lostN := fld (par s0 (parAddr 1 0x024)) 0 5
      let st : TrackState := if lostN ≤ run then .lost else if 2 ≤ run then .holdover else k.st
      let enter := decide (k.st = .locked) && decide (st ≠ .locked)
      let c' := chainNext c 0
      let k1 : Track := { k with
        rising := if rising then c' else k.rising, falling := if rising then k.falling else c'
        synLast := true, synRun := run, realRun := 0, st := st, cntSyn := k.cntSyn + 1
        cntHold := if enter then k.cntHold + 1 else k.cntHold, cands := [] }
      let s1 := evt (41 + t.val) (markSyn t.val rising (toothDone t.val rising c.p k1 s0))
      let s2 := if enter then zcAbandon t.val <| evt (44 + t.val) (raiseCause (768 + 16 + t.val) 0 false s1) else s1
      if st = .lost then
        tierChange s0 (zcTrackLost t.val (dropCause (768 + 16 + t.val) 0 (raiseCause (768 + 20 + t.val) 0 false s2)))
      else s2
    else s0)

/-- TIME.EASEL_HI latched. -/
def easelTaken (s : State) : State := { s with time := { s.time with easelHi := (easelWord (now s)).extractLsb' 32 32 } }

end Sys2Proof.Machine
end

