-- ==== Sys2Proof/Machine/ZcLine.lean ====
section
/-!
DEFINITION. ZcLine.lean: the commands of the zero-crossing line channel (09_zero_crossing_line.md).
-/

namespace Sys2Proof.Machine

/-! ### Noise floors (R515-R517, R537, R539) -/

/-- The front ends in the safety core's combination (ZCP.PH_CTL.RX, R516). -/
def zcRxFes (s : State) : List Nat := (List.range 3).filter fun fe => (par s (parAddr 18 1)).getLsbD fe

/-- The combined noise floor: of one front end its own; the spec gives no formula for more (R516; log 130). -/
def zcFloor (s : State) : Int :=
  match zcRxFes s with
  | [fe] => noiseTh (zcTrack s fe).noise
  | l => Config.combineFloor (l.map fun fe => noiseFloor (zcTrack s fe).noise)

/-- The maximum-ratio combination of the levels that the front ends read: of one front end its level; of more a function of
the noise floors, which weigh them, and the levels (R516; log 130). -/
def zcCombined (s : State) (lv : List Int) : Int :=
  match zcRxFes s with
  | [fe] => lv.getD fe 0
  | l => Config.combineLevel (l.map fun fe => (noiseFloor (zcTrack s fe).noise, lv.getD fe 0))

/-- The combined early and late levels of one tooth, from those of the three front ends. -/
def combinedTooth (s : State) (lv : List (Int × Int)) : Int × Int :=
  (zcCombined s (lv.map fun p => p.1), zcCombined s (lv.map fun p => p.2))

/-- The combined levels of successive teeth, from the three front ends' lists. -/
def combinedTeeth (s : State) (lv : List TeethLevels) : List (Int × Int) :=
  (List.range ((lv.map List.length).foldl max 0)).map fun k => combinedTooth s (lv.map fun l => lvAt l k)

/-- The threshold of the safety core on track t (R516): DET_THR or the combined floor plus 10 dB. -/
def coreTh (s : State) (t : Nat) : Int := max (fld (par s (parAddr 18 (2 + t))) 0 8) (zcFloor s + 20)

/-- The safety core's receiver decodes: it runs, domain Z is available, and a front end is in the combination (R516). -/
def zcReceives (s : State) : Bool :=
  s.safety.run && (domAvail s).getLsbD 8 && decide (fld (par s (parAddr 18 1)) 0 3 ≠ 0)

/-- A line fault or event is logged under code 0x0A0. -/
def logLine (fe kind : Nat) (set_ : Bool) (s : State) : State :=
  logPush 0x0A0 (BitVec.ofNat 32 (fe + 16 * kind + 256 * set_.toNat)) s

/-- NOISY after a measurement: above 100 dBuV (code 80) it sets, below 94 dBuV (code 68) it clears; the mean is compared
unrounded (R537). -/
def noisyNext (l : List Nat) (was : Bool) : Bool :=
  let n := if l.length < 8 then 1 else 8
  let sum := if l.length < 8 then l.getLast?.getD 0 else l.foldl (· + ·) 0
  if 80 * n < sum then true else if sum < 68 * n then false else was

/-- The safety core's measurement of the silent tooth on front end t (R517, R537). -/
def coreNoise (t level : Nat) (s : State) : State :=
  let z := zcTrack s t
  let l := (level :: z.noise).take 8
  let noisy := noisyNext l z.noisy
  let s1 := setZc t { z with noise := l, noisy := noisy } s
  if noisy = z.noisy then s1 else logLine t 2 noisy (setCause (768 + 4 + t) 0 noisy s1)

/-- NOISE_FLOOR_MEASURE: the levels of the silent tooth h14 of a track that delivers teeth (R230), each decoder's own, in codes of
THR: the safety core's while its receiver runs, Gesso's while it is armed. -/
def execNoiseFloorMeasure (t : Fin 3) (core gesso : Nat) (s : State) : Res :=
  finish s (if !phaseOn s t.val then s
    else
      let s1 : State := if outputsLive s then
          { s with gesso := { s.gesso with noise := tblSet (fun _ => []) s.gesso.noise t.val ((gesso :: gessoNoise s t.val).take 8) } }
        else s
      if s.safety.run && (domAvail s).getLsbD 8 then coreNoise t.val core s1 else s1)

/-! ### Accepted frames (R107, R108, R135, R502, R532) -/

/-- What the safety core has taken of an address in a slot, of alarm frames alone or of combined ones. -/
def coreTakes (a : Nat) (comb : Bool) (e : Taken) (s : State) : State :=
  if comb then { s with safety := { s.safety with takenComb := tblSet (fun _ => none) s.safety.takenComb a (some e) } }
  else { s with safety := { s.safety with taken := tblSet (fun _ => none) s.safety.taken a (some e) } }

/-- A class alarm of an address on the safety core's side (R61-R66 by R135, R137): a lone frame needs a live record, a combined
frame latches at once; with a broadband alarm report of the same client within 6.0 s it latches sources 19-21. -/
def coreHeeds (slot fe : Nat) (bits : BitVec 24) (comb : Bool) (before : Option (Nat × Bool)) (s : State) : State :=
  let a := frameAddr bits
  let alive := confirmAlive (now s) before
  let s1 := coreTakes a comb { slot := slot, fe := fe, content := frameState bits, before := alive } s
  let keep (c : Option (Nat × Bool)) (st : State) : State := { st with safety := { st.safety with
    confirm := tblSet (fun _ => none) st.safety.confirm a c } }
  match classOf (frameState bits) with
  | none => keep before s1
  | some c =>
    if recZmask s.safety.record a then keep before s1
    else
      let hit := comb || alive.isSome
      let s2 : State := { s1 with safety := { s1.safety with
        zcReport := tblSet (fun _ => none) s1.safety.zcReport a (some (now s)) } }
      let s3 := match tblGet (fun _ => none) s.safety.bbReport a with
        | some (t, _) => if admitted s a && decide (now s ≤ t + 6 * sec) then latchAlarm (19 + c) a s2 else s2
        | none => s2
      let s4 := keep (some (now s, !hit)) s3
      if hit then latchAlarm (16 + c) a s4 else s4

/-- A sound ALARM frame of track fe on the safety core's side: one of an address in a slot counts (R107, R108). -/
def coreZcAlarm (fe slot : Nat) (bits : BitVec 24) (comb : Bool) (s : State) : State :=
  let a := frameAddr bits
  if !s.safety.run then s
  else
    let own := if comb then s.safety.takenComb else s.safety.taken
    let other := if comb then s.safety.taken else s.safety.takenComb
    match slotKinds own other a slot fe (frameState bits) with
    | .again e => coreTakes a comb e s
    | .dropped => s
    | .instead e | .beside e => coreHeeds slot fe bits comb e.before s
    | .first => coreHeeds slot fe bits comb (tblGet (fun _ => none) s.safety.confirm a) s

/-- Copies of the sequence that a combined frame ends. -/
def combineN : Combine → Nat
  | .x1 => 1
  | .x4 => 4
  | .x6 => 6

/-- What an accepted frame is to what its client's record has had of this slot; a copy accepted alone and the combined frame of
the same sequence are one event (R532). -/
def recordCopy (e : Tbl (Option Taken)) (a slot fe content : Nat) (comb : Combine) : SlotCopy :=
  match tblGet (fun _ => none) e a with
  | some x =>
    if x.content = content ∧ x.slot < slot ∧ slot < x.slot + combineN comb then .again { x with slot := slot }
    else slotCopy e a slot fe content
  | none => .first

/-- The client's record and the answers that a frame asks for. -/
def zcRecordFrame (t typ a st : Nat) (s : State) : State :=
  let s3 := zcRecord t typ a st s
  let s4 := if typ = 3 then zcJoinAnswer t a s3 else s3
  let s5 := if typ = 0 then s4 else latchWake 1 s4
  if typ = 0 ∧ st = 5 then proofHeadAnswer a true 0 s5
  else if typ = 1 then proofHeadAnswer a false st (classAnswer 1 0 s5)
  else if typ = 2 then classAnswer 1 0 s5 else s5

/-- An accepted frame takes its effect: alarms, the client's record once for each slot and sequence (R107, R108, R532), the
answer to a JOIN, a head's TEST answer. -/
def zcDeliver (t slot : Nat) (bits : BitVec 24) (comb : Combine) (s : State) : State :=
  let typ := frameType bits
  let a := frameAddr bits
  let st := frameState bits
  let s1 := if typ = 0 then coreZcAlarm t slot bits (decide (comb ≠ .x1)) s else s
  let put (e : Taken) (u : State) : State :=
    { u with zc := { u.zc with taken := tblSet (fun _ => none) u.zc.taken a (some e) } }
  if 3 < typ then s1
  else match recordCopy s.zc.taken a slot t (8 * typ + st) comb with
    | .again e => put e s1
    | _ => zcRecordFrame t typ a st (put { slot := slot, fe := t, content := 8 * typ + st, before := none } s1)

/-- A frame accepted on track t is counted and shown. -/
def zcAccept (t slot : Nat) (bits : BitVec 24) (singles : Nat) (comb : Combine) (syn : Bool) (s : State) : State :=
  let z := zcTrack s t
  let z1 := { z with
    lastRx := bits, lastSb := BitVec.ofNat 2 singles, lastSyn := syn, lastTs := ts32 s
    lastComb := match comb with | .x1 => 0 | .x4 => 1 | .x6 => 2
    cntAcc := z.cntAcc + 1, cntSb := z.cntSb + BitVec.ofNat 32 singles
    cntComb := if comb = .x1 then z.cntComb else z.cntComb + 1 }
  zcDeliver t slot bits comb (evtN (54 + t) singles (evt (48 + t) (setZc t z1 s)))

/-- Teeth of a body that carry a double burst are counted (R534). -/
def countColls (t n : Nat) (s : State) : State :=
  evtN (57 + t) n (setZc t { zcTrack s t with cntColl := (zcTrack s t).cntColl + BitVec.ofNat 32 n } s)

/-- The frame of a track that has gone to LOST: its teeth before that are read, and it is dropped unless it was so then (R529,
R534). -/
def lostFrame (t : Nat) (r : Reading) (s : State) : State :=
  let s1 := countColls t r.colls s
  if (zcTrack s1 t).cutOff then setZc t { zcTrack s1 t with cutOff := false } s1 else zcDrop t s1

/-- ZC_FRAME_RECEIVED (R499, R502, R505, R516, R529, R530, R534): the (early, late) levels that each front end read of a start mark
and the 48 teeth after it on track t in a frame slot, which the receiver combines. Without a start mark there is no frame;
on a track that has gone to LOST the teeth end there and the frame is dropped. Every frame is kept for combining; it is
accepted by R502 or dropped and counted, one with an erased bit once combining has not rescued it. -/
def execZcFrameReceived (t : Fin 3) (slot : Nat) (lv : List TeethLevels) (s : State) : Res :=
  let teeth := combinedTeeth s lv
  let r := readBody (coreTh s t.val) slot (synUsed s t.val) (teeth.drop 1)
  finish s (if !(zcReceives s && startMark (coreTh s t.val) teeth) then s
    else
      let s0 := zcDropOwed t.val s
      if !phaseOn s t.val then lostFrame t.val r s0
      else
        let z := zcTrack s0 t.val
        let s1 := countColls t.val r.colls (setZc t.val { z with
          copies := keepCopy r.copy z.copies, dropOwed := if r.erased then some slot else none
          receiving := false, cutOff := false } s0)
        if readingOk r then
          let s2 := proofAbandonFrame t.val slot (setZc t.val { zcTrack s1 t.val with decodedIn := some slot } s1)
          zcAccept t.val slot r.copy.bits r.singles .x1 r.copy.syn s2
        else if r.erased then s1 else zcDrop t.val s1)

/-- ZC_SLOT_COMBINE (R510-R514): at the end of a slot with a start mark, N = 6 and then N = 4 are tested; the first that passes
is accepted; one of the reserved type 7 is dropped and counted (Table 09-4). -/
def execZcSlotCombine (t : Fin 3) (slot : Nat) (s : State) : Res :=
  let z := zcTrack s t.val
  finish s (if zcReceives s && (z.copies.head?.map fun c => c.slot) == some slot then
      match combineSlot z.copies slot with
      | some (bits, n, syn, comb) =>
        if frameType bits = 7 then zcDrop t.val s
        else zcAccept t.val slot bits n comb syn (setZc t.val { z with dropOwed := none } s)
      | none => zcDropOwed t.val s
    else s)

/-! ### Hub transmission (R506-R508, R518-R523, R531, R535, R536) -/

/-- The level that ZCP.CTL.TX_LVL commands, in codes of THR: 116 dBuV less 2 dB for each code (Tables 09-10, 09-12). -/
def txLevel (s : State) : Int := 112 - 4 * (fld (par s (parAddr 18 0)) 4 4 : Int)

/-- A burst read back at a level, in codes of THR, that lies 10 dB or more below the level commanded is missing (R523). -/
def burstMissing (s : State) (back : Int) : Bool := decide (back ≤ txLevel s - 20)

/-- A burst the hub sent is read back (R523); 4 missing in a row set TX_FAULT and stop transmission (R535). -/
def burstBack (t : Nat) (back : Int) (s : State) : State :=
  let z := zcTrack s t
  if !burstMissing s back then setZc t { z with missRun := 0 } s
  else
    let s1 := setZc t { z with missRun := z.missRun + 1 } s
    if 4 ≤ z.missRun + 1 ∧ !z.txFault then
      let s2 := setZc t { zcTrack s1 t with txFault := true, retryRun := 0, slotsSinceRetry := 0 } s1
      zcStop t (logLine t 1 true (raiseCause (768 + t) 0 false s2))
    else s1

/-- Starts of the early and the late burst from a tooth's p, in sub-ticks: -400.00 us and +254.55 us (R495). -/
def earlyAt : Int := -16000
def lateAt : Int := 10182

/-- What the hub puts on one tooth: an early burst, a late burst, or both. -/
structure ToothSend where
  early : Bool
  late : Bool
  deriving DecidableEq, Repr

/-- A framing mark is a double burst, a claim a single early burst (R504, Table 09-6). -/
def ToothSend.mark : ToothSend := ⟨true, true⟩
def ToothSend.claim : ToothSend := ⟨true, false⟩

/-- A bit on its two teeth: 1 is an early burst followed by a late one, 0 a late burst followed by an early one (R497). -/
def bitBurst (bit second : Bool) : ToothSend := if bit == second then ⟨false, true⟩ else ⟨true, false⟩

/-- PRE of the copy of a hub sequence that is sent next: 0b101 alone, 0b011 for the last copy, 0b110 with more to follow (R500,
R520). -/
def hubPre (rep sent : Nat) : BitVec 3 := if rep = 1 then 5 else if rep ≤ sent + 1 then 3 else 6

/-- The 24 bits of a hub frame (R500, R501). -/
def hubBits (rep : Nat) (f : HubFrame) : BitVec 24 := makeFrame (hubPre rep f.sent) f.typ f.addr f.st

/-- What a body tooth of a frame carries: tooth h16 + 2i is the first of bit i, bit 0 of the frame in bit 23. -/
def bodyBurst (w : BitVec 24) (h : Nat) : ToothSend := bitBurst (w.getLsbD (23 - (h - 16) / 2)) (decide (h % 2 = 1))

/-- The burst descriptor of a HUB_BCAST or HUB_ANS comes from the LINE_ZC reserve, that of a HUB_CMD or a slot mark does not. -/
def burstReserve (t : Nat) (s : State) : State :=
  match (zcTrack s t).under with
  | some (_, f) => if f.typ = 5 then s else useReserve 6 0 1 s
  | none => s

/-- The last decided tooth of a track is of its rising chain. -/
def lastIsRise (k : Track) : Bool := decide ((k.lastRise / 16).toNat = k.lastTooth)

/-- Tooth h has been decided, as a synthetic one: a burst sent on it now is marked at once (R226). -/
def burstSyn (s : State) (t h : Nat) : Bool := (track s t).synLast && toothOf s t (lastIsRise (track s t)) == h

/-- One burst sent on tooth h of track t at an offset from p16 (1/16 sub-tick), and read back. -/
def sendBurst (t h : Nat) (late : Bool) (p16 back : Int) (s : State) : State :=
  let z := zcTrack s t
  let at_ := (p16 / 16 + (if late then lateAt else earlyAt)).toNat
  burstBack t back (burstReserve t (setZc t { z with
    bursts := z.bursts ++ [{ h := h, late := late, start := at_, syn := burstSyn s t h }] } s))

/-- The bursts of one tooth sent: the early one first. A TX_FAULT that the early one sets stops the late one (R535). -/
def sendTooth (t h : Nat) (b : ToothSend) (p16 backE backL : Int) (s : State) : State :=
  let s1 := if b.early then sendBurst t h false p16 backE s else s
  if b.late && !((zcTrack s1 t).txFault && !(zcTrack s t).txFault) then sendBurst t h true p16 backL s1 else s1

/-- The hub claims a class (R506, R507, R531) and sends its claim on tooth h: it defers when a burst was heard before, and a
sequence, whose copies are sent in consecutive slots, begins anew. -/
def hubClaim (t h : Nat) (p1 : Bool) (p16 back : Int) (s : State) : State :=
  let z := zcTrack s t
  match if p1 then z.q1 else z.q2 with
  | [] => s
  | f :: _ =>
    if z.under.isSome || !zcMayTx s t || s.mirror.pair && !s.bb.coord then s
    else if z.heard then
      evt (60 + t) (setZc t { z with
        cntDefer := z.cntDefer + 1
        q1 := if p1 then headAnew z.q1 else z.q1, q2 := if p1 then z.q2 else headAnew z.q2 } s)
    else sendTooth t h .claim p16 back back (setZc t { z with under := some (p1, f) } s)

/-- A step of the Proof run is under way and not paused. -/
def stepUnderWay (s : State) (k : Nat) : Bool :=
  s.proof.running && s.proof.step == k && s.proof.stepAt.isSome && !proofPaused s

/-- A frame of an enabled front end is due: the first, or behind it the second in a later slot (R1068). -/
def frameDue (s : State) (t : Nat) (second : Bool) : Bool :=
  recZph s.gesso.record t && !s.proof.injDone.contains (16 + 2 * t + second.toNat) &&
    s.proof.injDone.contains (16 + 2 * t) == second &&
    match tblGet (fun _ => none) s.proof.injIn t with
    | some (k, _) => k != zcSlot s t
    | none => true

/-- SAFETY waits for a slot of track t to inject a frame in (R1067). -/
def injectDue (s : State) (t : Nat) : Bool := stepUnderWay s 0 && (frameDue s t false || frameDue s t true)

/-- The hub claims P1 on tooth h7 for an injected frame of Proof, behind frames of its own, and defers as R531 says (R1067). -/
def injectClaim (t : Nat) (p16 back : Int) (s : State) : State :=
  let z := zcTrack s t
  if !injectDue s t || z.under.isSome || !z.q1.isEmpty || !zcMayTx s t || s.mirror.pair && !s.bb.coord then s
  else if z.heard then evt (60 + t) (setZc t { z with cntDefer := z.cntDefer + 1 } s)
  else sendTooth t 7 .claim p16 back back (setZc t { z with injSlot := some (zcSlot s t), injMarked := false } s)

/-- The running slot of track t is claimed for an injected frame, and the step still waits for it. -/
def injectWon (s : State) (t : Nat) : Bool :=
  decide ((zcTrack s t).injSlot = some (zcSlot s t)) && injectDue s t && zcMayTx s t

/-- The last tooth of the body: the copy is sent, and the code of a HUB_BCAST is noted (R1212); the last copy of a sequence ends
it. -/
def hubDone (t : Nat) (s0 : State) : State :=
  let z := zcTrack s0 t
  match z.under with
  | none => s0
  | some (p1, f) =>
    let s : State := if f.typ = 4 then { s0 with safety := { s0.safety with lastBcast := some f.addr.toNat } } else s0
    let l := if p1 then z.q1 else z.q2
    let l1 := match l with
      | h :: r => if zcRep s ≤ h.sent + 1 then r else { h with sent := h.sent + 1 } :: r
      | [] => []
    setZc t { z with under := none, q1 := if p1 then l1 else z.q1, q2 := if p1 then z.q2 else l1 } s

/-- The predicted time p (1/16 sub-tick) of tooth h of the slot (R225, R503): h is the next tooth of its chain, whose p is the
chain's prediction, or its last decided one, to which a late burst may still be anchored. -/
def toothP (s : State) (t h : Nat) : Option Int :=
  let k := track s t
  let n := zcCount s t
  let rising := h % 2 == 0
  let c := if rising then k.rising else k.falling
  let next := if rising || !lastIsRise k then n + 1 else n
  if !phaseOn s t then none
  else if next % 32 = h / 2 then some c.p
  else if 1 ≤ next ∧ (next - 1) % 32 = h / 2 then some c.last
  else none

/-- What the hub sends on tooth h now (Table 09-6): the slot mark (R518), the start mark and the body of a frame under way,
the start mark alone of an injected frame, whose body the transmitter leaves out (R1067); a claim is decided on its tooth. No burst is sent in HOLDOVER (R227). -/
def toothSend (s : State) (t h : Nat) : Option ToothSend :=
  let z := zcTrack s t
  if h = 0 then
    if zcMark s && decide (1 ≤ s.sys.tier) && (domAvail s).getLsbD 8 && zcPhTx s t && zcOpen s t && !(s.mirror.pair && !s.bb.coord) then some .mark
    else none
  else match z.under with
    | some (_, f) => if h = 15 then some .mark
                     else if 16 ≤ h then some (bodyBurst (hubBits (zcRep s) f) h) else none
    | none => if h = 15 ∧ injectWon s t then some .mark else none

/-- The start mark of an injected frame is sent (R1067). -/
def markInject (t h : Nat) (s : State) : State :=
  let z := zcTrack s t
  if h = 15 ∧ z.under.isNone then setZc t { z with injMarked := true } s else s

/-- The instant of the event of tooth h: the start of its first burst, else the end of the late detection window in which the
hub listens (R225, R495, R496). -/
def toothInstant (b : Option ToothSend) (claims : Bool) (p16 : Int) : Nat :=
  (p16 / 16 + (match b with
    | some x => if x.early then earlyAt else lateAt
    | none => if claims then earlyAt else 22400)).toNat

/-- What the receiver hears on a tooth of a class: a burst on a header tooth before the hub's claim (R506), or on a falling tooth
the start mark of a frame (R505, R533). -/
def hears (t h : Nat) (c : ToothClass) (s : State) : State :=
  let z := zcTrack s t
  if !zcReceives s then s
  else setZc t { z with
    heard := z.heard || decide (c ≠ .none) && decide (1 ≤ h) && decide (h ≤ 13)
    receiving := z.receiving || decide (c = .both) && decide (h % 2 = 1) } s

/-- The hub's part of tooth h: it sends, or it hears the class of the tooth. -/
def hubTooth (t h : Nat) (c : ToothClass) (p16 backE backL : Int) (s : State) : State :=
  if h = 0 then
    let s1 := setZc t { zcTrack s t with heard := false, bursts := [] } s
    match toothSend s1 t 0 with
    | some b => sendTooth t 0 b p16 backE backL s1
    | none => s1
  else if h = 7 then hears t h c (injectClaim t p16 backE (hubClaim t h true p16 backE s))
  else if h = 11 then hears t h c (if (zcTrack s t).q1.isEmpty && !injectWon s t then hubClaim t h false p16 backE s else s)
  else if h < 15 then hears t h c s
  else match toothSend s t h with
    | some b =>
      let s1 := sendTooth t h b p16 backE backL (markInject t h s)
      if h = 63 then hubDone t s1 else s1
    | none => hears t h c s

/-- TOOTH_ANCHORED_EVENT (R225-R230, R495-R497, R503-R508, R518, R523): what the hub does on tooth h of the running slot of track
t (Table 09-6), at the tooth's predicted time p plus the offset of its burst, which must lie in the running minor tick. `lv`
are the early and late levels that each front end reads on the tooth, which the receiver combines and classifies (R496,
R516), `backE` and `backL` the levels at which the hub's early and late burst read back, all in codes of THR. Nothing
happens on a track in ACQ or LOST (R230). -/
def execToothAnchoredEvent (t : Fin 3) (h : Fin 64) (lv : List (Int × Int)) (backE backL : Int) (s : State) : Res :=
  finish s (match toothP s t.val h.val with
    | none => s
    | some p16 =>
      let e := toothInstant (toothSend s t.val h.val) (h.val == 7 || h.val == 11) p16
      if now s ≤ e ∧ e / tickLen = tickNo s then
        let s0 := moveTo s e
        hubTooth t.val h.val (classify (coreTh s0 t.val) (combinedTooth s0 lv)) p16 backE backL s0
      else s)

/-- HUB_FRAME_AGED (R522): frames of track t that have waited longer than TX_AGE, but for one under way, are discarded
and counted. -/
def execHubFrameAged (t : Fin 3) (s : State) : Res :=
  let z := zcTrack s t.val
  let age := fld (par s (parAddr 18 0)) 8 8 * sec
  let live (p1 : Bool) (l : List HubFrame) : List HubFrame := l.filter fun f =>
    decide (now s ≤ f.queuedAt + age) || (match z.under with | some (p, g) => p == p1 && decide (g = f) | none => false)
  let q1 := live true z.q1
  let q2 := live false z.q2
  finish s (setZc t.val { z with
    q1 := q1, q2 := q2, cntAged := z.cntAged + BitVec.ofNat 32 (z.q1.length + z.q2.length - q1.length - q2.length) } s)

/-- The mark of a retry goes out on track t now: TX_FAULT stands for 64 slots since the last one, on a locked track in service
(R227, R230, R536). -/
def retryDue (s : State) (t : Nat) : Bool :=
  let z := zcTrack s t
  z.txFault && decide (64 ≤ z.slotsSinceRetry) && zcMark s && decide (1 ≤ s.sys.tier) && (domAvail s).getLsbD 8 && zcPhTx s t &&
    decide (trkState s t = .locked) && phaseSends s t && !(s.mirror.pair && !s.bb.coord)

/-- A retry's slot mark sent and read back; 4 in a row that read back clear TX_FAULT (R536). -/
def retryMark (t : Nat) (p16 backE backL : Int) (s : State) : State :=
  let z := zcTrack s t
  let run := if burstMissing s backE || burstMissing s backL then 0 else z.retryRun + 1
  let s1 := sendTooth t 0 .mark p16 backE backL (setZc t { z with bursts := [] } s)
  let s2 := setZc t { zcTrack s1 t with retryRun := run, slotsSinceRetry := 0 } s1
  if 4 ≤ run then
    logLine t 1 false (dropCause (768 + t) 0 (setZc t { zcTrack s2 t with txFault := false, missRun := 0, retryRun := 0 } s2))
  else s2

/-- ZC_TX_RETRY (R225, R536): with TX_FAULT set the slot mark is sent once in 64 slots, at the instant of tooth h0, which must lie
in the running minor tick; `backE` and `backL` are the levels at which its bursts read back. -/
def execZcTxRetry (t : Fin 3) (backE backL : Int) (s : State) : Res :=
  finish s (match toothP s t.val 0 with
    | none => s
    | some p16 =>
      let e := toothInstant (some .mark) false p16
      if retryDue s t.val && decide (now s ≤ e) && decide (e / tickLen = tickNo s) then
        retryMark t.val p16 backE backL (moveTo s e)
      else s)

end Sys2Proof.Machine
end

