-- ==== Sys2Proof/Machine/BbOps.lean ====
section
/-!
DEFINITION. BbOps.lean: carriers, tone maps, routes and the making of a beacon (10_broadband_line.md).
-/

namespace Sys2Proof.Machine

/-! ### Counters and front ends -/

/-- Broadband counters of Table 10-11 from CNT_BEACON on: 0 beacon, 1 RXOK, 2 RXERR, 3 C0, 4 COLL, 5 EDGE, 6 QUAR,
7 ROUTE, 8 CARRY, 9 RELAYMISS. -/
def cntBb (i n : Nat) (s : State) : State :=
  { s with bb := { s.bb with cnt := tblSet (fun _ => 0) s.bb.cnt i (tblGet (fun _ => 0) s.bb.cnt i + BitVec.ofNat 32 n) } }

def frontEnd (s : State) (t : Nat) : FrontEnd := tblGet (fun _ => FrontEnd.blank) s.bb.fe t
def setFe (t : Nat) (f : FrontEnd) (s : State) : State :=
  { s with bb := { s.bb with fe := tblSet (fun _ => FrontEnd.blank) s.bb.fe t f } }

/-- BB.FE_CTL[t].TX: enabled, and in service and past the beacon boundary from which a returned phase transmits (R588, R466). -/
def bbTxFe (s : State) (t : Nat) : Bool := (par s (parAddr 19 (2 + t))).getLsbD 1 && phaseSends s t

/-- The level that BB.FE_CTL[t].TX_ATT commands, in 0.5 dB above -150 dBm/Hz: the maximum PSD of -55 dBm/Hz less 1 dB for each code
(Tables 10-8, 10-9, 10-11). -/
def feLevel (s : State) (t : Nat) : Int := 190 - 2 * (fld (par s (parAddr 19 (2 + t))) 4 5 : Int)

/-- A beacon read back at a level, in the same codes, that lies 10 dB or more below the level commanded is missing (R601). -/
def beaconMissing (s : State) (t : Nat) (back : Int) : Bool := decide (back ≤ feLevel s t - 20)

/-- The channel runs: enabled, an image with BB = 1, its domains B and C available (R24), and this chip is the coordinator; from its
first beacon at Tier 2 (R364) it goes on while they stay so. -/
def bbRuns (s : State) : Bool :=
  (decide (s.sys.tier = 2) || s.bb.coord) && (domAvail s).getLsbD 7 && (domAvail s).getLsbD 2 && (par s (parAddr 19 0)).getLsbD 0 &&
    (match s.canvas.image with | some i => i.bb | none => false) && (!s.mirror.pair || s.bb.coord)

/-- BSN at a boundary (R558). -/
def bsnNow (s : State) : Nat := hyperNo s * 32 + majorOf (pairTime s) / 2

/-! ### Carrier mask (Table 10-2, R542, R548) -/

/-- The preset notches. -/
def presetNotches : List (Nat × Nat) :=
  [(143, 164), (286, 295), (413, 416), (573, 588), (740, 745), (860, 879), (1019, 1024)]

/-- A carrier is usable when no enabled range covers it. -/
def usable (pre : Bool) (notch : List Word) (c : Nat) : Bool :=
  !((pre && presetNotches.any fun r => decide (r.1 ≤ c) && decide (c ≤ r.2)) ||
    notch.any fun w => w.getLsbD 31 && decide (fld w 0 11 ≤ c) && decide (c ≤ fld w 11 11))

/-- Usable carriers of group g (20 consecutive carriers from 82 on). -/
def groupUsable (pre : Bool) (notch : List Word) (g : Nat) : Nat :=
  ((List.range 20).filter fun i => usable pre notch (82 + 20 * g + i)).length

/-- All usable carriers. -/
def usableCount (pre : Bool) (notch : List Word) : Nat :=
  ((List.range 53).map (groupUsable pre notch)).foldl (· + ·) 0

/-- The mask and guard as the parameters give them. -/
def parPre (s : State) : Bool := (par s (parAddr 19 5)).getLsbD 0
def parNotch (s : State) : List Word := (List.range 32).map fun i => par s (parAddr 19 (6 + i))
def parGi (s : State) : Bool := (par s (parAddr 19 0)).getLsbD 1

/-- The mask and guard that the parameters give. -/
def parMask (s : State) : MaskSet := { pre := parPre s, notch := parNotch s, gi := parGi s }

/-- A landing that changes the mask or guard takes effect at the eighth beacon boundary strictly after it (R549, R1205); the words of
one boundary are one change. -/
def bbLanded (s : State) : State :=
  let due := bsnNow s + 8
  { s with bb := { s.bb with pend := (s.bb.pend.filter fun p => p.1 != due) ++ [(due, parMask s)] } }

/-- Periods that remain to the first pending change at the boundary that opens period `bsn`, 0 without one (R550). -/
def maskLeft (s : State) (bsn : Nat) : Nat := match s.bb.pend with | (due, _) :: _ => due - bsn | [] => 0

/-- A mask identifier after a change to `m`: it advances on a change of mask. -/
def maskIdOf (s : State) (m : MaskSet) : Byte :=
  if s.bb.pre != m.pre || !decide (s.bb.notch = m.notch) then s.bb.maskId + 1 else s.bb.maskId

/-- A change takes effect: the mask identifier advances; every link falls back to ROBO4 (R552, R600). -/
def applyMask (m : MaskSet) (s : State) : State :=
  { s with
    bb := { s.bb with pre := m.pre, notch := m.notch, gi := m.gi, maskId := maskIdOf s m }
    clients := { s.clients with
      run := s.clients.run.map fun e => (e.1, { e.2 with mapUp := none, mapUpNew := none, mapDn := none, mapDnNew := none })
      words := s.clients.words.filterMap fun e =>
        if e.1 % 32 = 6 then
          let w := e.2 &&& 0xFFF3FFFF
          if w = 0 then none else some (e.1, w)
        else some e } }

/-- The pending changes whose boundary has come take effect, in the order of their landings (R549). -/
def masksDue (s : State) : State :=
  let b := bsnNow s
  (s.bb.pend.filter fun p => decide (p.1 ≤ b)).foldl (fun st p => applyMask p.2 st)
    { s with bb := { s.bb with pend := s.bb.pend.filter fun p => decide (b < p.1) } }

/-- The content of the MASK frame of a period: the first pending change with the identifier it will have, else what is in force (R551;
log 132). -/
def maskFrame (s : State) : MaskFrame :=
  match s.bb.pend with
  | (_, m) :: _ => { id := maskIdOf s m, mask := m }
  | [] => { id := s.bb.maskId, mask := { pre := s.bb.pre, notch := s.bb.notch, gi := s.bb.gi } }

/-! ### Tone maps (Table 10-3, R553-R557) -/

/-- Threshold of a code at a rate in 0.5 dB. -/
def toneTh (rate code : Nat) : Int :=
  (((([[0, 4, 10, 22, 33, 44], [0, 8, 14, 27, 38, 50], [0, 12, 18, 31, 43, 55]] : List (List Int)).getD rate []).getD code 0))

/-- Coded bits of a code. -/
def toneBits (code : Nat) : Nat := ([0, 1, 2, 4, 6, 8] : List Nat).getD code 0

/-- The highest code a group's SNR allows. -/
def toneCode (rate : Nat) (margin snr : Int) : Nat :=
  (List.range 6).foldl (fun best c => if c = 0 then 0 else if toneTh rate c + margin ≤ snr then c else best) 0

/-- Coded bits per symbol of a map under the mask in force. -/
def codedBits (s : State) (m : ToneMap) : Nat :=
  ((List.range 53).map fun g => toneBits (m.codes.getD g 0) * groupUsable s.bb.pre s.bb.notch g).foldl (· + ·) 0

/-- Six times the information bits per symbol. -/
def infoBits6 (s : State) (m : ToneMap) : Nat := codedBits s m * (3 + m.rate)

/-- The mean over the last frames of the lowest SNR of each group. -/
def meanSnr (l : List (List Int)) (g : Nat) : Int :=
  if l.isEmpty then 0 else ((l.map fun f => f.getD g 0).foldl (· + ·) 0) / (l.length : Int)

/-- The map of R553 for a link's last 8 frames. -/
def chooseMap (s : State) (snr : List (List Int)) : ToneMap :=
  let margin : Int := fld (par s (parAddr 19 0)) 4 4
  let mk (r : Nat) : ToneMap := { rate := r, codes := (List.range 53).map fun g => toneCode r margin (meanSnr snr g) }
  let m0 := mk 0
  let m1 := if infoBits6 s m0 < infoBits6 s (mk 1) then mk 1 else m0
  if infoBits6 s m1 < infoBits6 s (mk 2) then mk 2 else m1

/-- What a link uses under a map: none, ROBO4, below 192 information bits per symbol (R555). -/
def mapUsed (s : State) (m : ToneMap) : Option ToneMap := if infoBits6 s m < 192 * 6 then none else some m

/-- MODE of a record: 0 ROBO4, 1-3 the rates. -/
def mapMode (m : Option ToneMap) : Nat := match m with | some t => t.rate + 1 | none => 0

/-! ### Routes (R580-R583, R586) -/

/-- A client without any route. -/
def noRoute : List Nat := [0x800]

/-- LQ between a client and the hub: the lower of the two directions, or the one known. -/
def lqHub (s : State) (id : Nat) : Nat :=
  let up := cFld s id 6 0 8
  let dn := cFld s id 6 8 8
  if (cRun s id).mean.isEmpty then dn else if dn = 0 then up else min up dn

/-- LQ between two clients from their neighbour entries; 0 where neither names the other. -/
def lqPair (s : State) (a b : Nat) : Nat :=
  let f (x y : Nat) : Option Nat := ((cRun s x).neigh.find? fun e => e.1 == y).map fun e => e.2
  match f a b, f b a with
  | some x, some y => min x y
  | some x, none => x
  | none, some y => y
  | none, none => 0

/-- The lowest hop of a path from a client through its repeaters, nearest the client first, to the hub. -/
def pathLq (s : State) : Nat → List Nat → Nat
  | id, [] => lqHub s id
  | id, r :: rest => min (lqPair s id r) (pathLq s r rest)

/-- The repeaters of the routes in force, of those announced and of those that wait for announcement. -/
def rptTaken (s : State) : List Nat :=
  ((s.bb.rpt ++ (s.clients.run.flatMap fun e => e.2.route ++ (e.2.nextRoutes.flatMap fun r => r.1)) ++
    s.bb.routes.flatMap fun e => e.2).filter fun i => decide (i < 2048)).eraseDups

/-- Repeater candidates: admitted, capable, in service, not quarantined, with a route; once 16 are in use only those
(R582). -/
def rptCandidates (s : State) : List Nat :=
  (admittedIds s).filter fun id =>
    (cWord s id 0).getLsbD 13 && !(cWord s id 0).getLsbD 14 && !quarantined s id && !decide ((cRun s id).route = noRoute) &&
      ((rptTaken s).length < 16 || (rptTaken s).contains id)

/-- The better of two paths of equal length: highest lowest hop, then lowest first repeater. -/
def betterPath (s : State) (id : Nat) (best : Option (List Nat)) (p : List Nat) : Option (List Nat) :=
  match best with
  | none => some p
  | some q =>
    if pathLq s id q < pathLq s id p then some p
    else if pathLq s id p = pathLq s id q ∧ p.headD 0 < q.headD 0 then some p else some q

/-- The best route of a client through some candidates (R580), with which at most 16 repeaters are in use (R582). -/
def bestRoute (s : State) (cand : List Nat) (id : Nat) : List Nat :=
  let cfg := par s (parAddr 19 0x26)
  let thr := fld cfg 0 8
  let maxhop := fld cfg 16 2
  let taken := rptTaken s
  let good (p : List Nat) : Bool :=
    decide (thr ≤ pathLq s id p) && (p.isEmpty || decide ((taken ++ p).eraseDups.length ≤ 16))
  if good [] then []
  else
    let c := cand.filter fun r => r != id
    let one := (c.map fun r => [r]).filter good
    match one.foldl (betterPath s id) none with
    | some p => if 2 ≤ maxhop then p else noRoute
    | none =>
      let two := (c.flatMap fun r => (c.filter fun q => q != r).map fun q => [r, q]).filter good
      match two.foldl (betterPath s id) none with
      | some p => if 3 ≤ maxhop then p else noRoute
      | none => noRoute

/-- The current route is kept unless a hop fell below THR, the new one has fewer hops, or is better by HYST (R581). -/
def keepRoute (s : State) (id : Nat) (cur new : List Nat) : Bool :=
  let cfg := par s (parAddr 19 0x26)
  !decide (cur = noRoute) && decide (fld cfg 0 8 ≤ pathLq s id cur) && decide (cur.length ≤ new.length) &&
    decide (pathLq s id new < pathLq s id cur + fld cfg 8 8) && !decide (new = noRoute)

/-- Repeaters in the routes of all clients, in force or announced, ascending, but for those withdrawn (R586). -/
def rptInUse (s : State) : List Nat :=
  let ids := (s.clients.run.flatMap fun e => e.2.route ++ (e.2.nextRoutes.flatMap fun r => r.1)).filter
    fun i => decide (i < 2048) && !s.bb.withdrawn.contains i && admitted s i
  (List.range 2048).filter fun i => ids.contains i

/-- A route change put into its place: those that leave a client without a route first, then by ascending client ID (R583). -/
def insertRoute (e : Nat × List Nat) : List (Nat × List Nat) → List (Nat × List Nat)
  | [] => [e]
  | f :: r =>
    if (e.2 = noRoute ∧ f.2 ≠ noRoute) ∨ ((e.2 = noRoute ↔ f.2 = noRoute) ∧ e.1 < f.1) then e :: f :: r else f :: insertRoute e r

/-- A client's changed route waits for announcement, four in each beacon (R583); a repeater chosen anew is withdrawn no more. -/
def announce (id : Nat) (r : List Nat) (s : State) : State :=
  { s with bb := { s.bb with
      routes := insertRoute (id, r) (s.bb.routes.filter fun e => e.1 != id)
      withdrawn := s.bb.withdrawn.filter fun i => !r.contains i } }

/-- R580: the routes of all admitted clients are evaluated, in ascending ID, with the repeaters that those before have taken
(R582). -/
def evalRoutes (s : State) : State :=
  (admittedIds s).foldl (fun st id =>
    let cur := (cRun st id).route
    let new := bestRoute st (rptCandidates st) id
    if decide (cur = new) || keepRoute st id cur new then st else announce id new st) s

/-- A client's route in force, announced or waiting for announcement goes through a repeater. -/
def routedVia (s : State) (rid id : Nat) : Bool :=
  (cRun s id).route.contains rid || ((cRun s id).nextRoutes.any fun r => r.1.contains rid) ||
    s.bb.routes.any fun e => e.1 == id && e.2.contains rid

/-- A repeater is withdrawn (R586, R597): every route through it is replaced by the best without it, at the head of the
next beacon, before the changes that wait. -/
def withdrawRepeater (rid : Nat) (s : State) : State :=
  let s1 : State := logLine 0 6 true (setCF rid 0 15 1 0 { s with bb := { s.bb with
    rpt := s.bb.rpt.filter fun i => i != rid, withdrawn := rid :: s.bb.withdrawn.filter fun i => i != rid } })
  let rest := s1.bb.routes.filter fun e => !routedVia s1 rid e.1
  let s2 := setRun rid { cRun s1 rid with relayMiss := 0 } { s1 with bb := { s1.bb with routes := [] } }
  let s3 := (admittedIds s2).foldl (fun st id =>
    if routedVia s1 rid id then
      announce id (bestRoute st ((rptCandidates st).filter fun i => i != rid) id) st
    else st) s2
  { s3 with bb := { s3.bb with routes := s3.bb.routes ++ rest } }

/-- A client's route becomes r: its record; a change is counted (R568). -/
def takeRoute (id : Nat) (r : List Nat) (s : State) : State :=
  let s1 := setCF id 7 0 11 (if r = noRoute then 0 else r.getD 1 0)
    (setCF id 6 20 11 (if r = noRoute then 0 else r.getD 0 0) (setCF id 6 16 2 (if r = noRoute then 0 else r.length + 1)
      (setRun id { cRun s id with route := r } s)))
  if (cRun s id).route = r then s1 else evt 72 (cntBb 7 1 s1)

/-- The repeaters in use follow the routes (R582); a withdrawn one is forgotten once no route in force goes through it. -/
def rptFollow (s : State) : State :=
  let held := s.clients.run.flatMap fun e => e.2.route
  let s1 : State := { s with bb := { s.bb with withdrawn := s.bb.withdrawn.filter fun i => held.contains i } }
  let use := rptInUse s1
  let s2 := (s1.bb.rpt.filter fun i => !use.contains i).foldl (fun st i => setCF i 0 15 1 0 st) s1
  use.foldl (fun st i => setCF i 0 15 1 1 st) { s2 with bb := { s2.bb with rpt := use.take 16 } }

/-- Routes whose beacon boundary has come take effect (R568), each client's in the order of their announcement. -/
def applyRoutes (bsn : Nat) (s : State) : State :=
  rptFollow (s.clients.run.foldl (fun st e =>
    let due := e.2.nextRoutes.filter fun r => decide (r.2 ≤ bsn)
    if due.isEmpty then st
    else due.foldl (fun u r => takeRoute e.1 r.1 u)
      (setRun e.1 { cRun st e.1 with nextRoutes := e.2.nextRoutes.filter fun r => decide (bsn < r.2) } st)) s)

/-- A repeater is taken out of service (R465, Table 08-3): the routes through it change at this boundary, and the change is
announced. -/
def removeRepeater (rid : Nat) (s : State) : State :=
  let ids := (admittedIds s).filter (routedVia s rid)
  rptFollow (ids.foldl (fun st id => match st.bb.routes.find? fun e => e.1 == id with
    | some e => takeRoute id e.2 (setRun id { cRun st id with nextRoutes := [] } st)
    | none => st) (withdrawRepeater rid s))

/-! ### Timing quarantine (R572-R576) -/

/-- A frame's overlap (R571, R572): counted, in the record, and a correction queued. -/
def overlap (id : Nat) (edge : Bool) (d : Int) (s : State) : State :=
  let r := cRun s id
  let bsn := s.bb.bsn.toNat
  let l := bsn :: r.overlaps.filter fun b => decide (bsn < b + 16)
  let s1 := setCF id 7 16 4 (min 15 l.length) (incCF id 19 16 16 (setRun id { r with overlaps := l } s))
  let s1a := evt 69 (cntBb 5 1 s1)
  let s2 := if edge then evt 70 s1a else s1a
  { s2 with bb := { s2.bb with corrs := s2.bb.corrs ++ [{ id := id, edge := edge, quar := false, val := -d }] } }

/-- Quarantine at a beacon boundary for the period that ended (R573, R575, R597). -/
def quarantineStep (prev : Nat) (id : Nat) (s : State) : State :=
  let r := cRun s id
  let l := r.overlaps.filter fun b => decide (prev < b + 16)
  let s0 := setCF id 7 16 4 (min 15 l.length) (setRun id { r with overlaps := l } s)
  let sent := decide (r.sentBsn = some prev)
  let clean := if sent then (if l.contains prev then 0 else min 8 (cFld s id 7 20 4 + 1)) else cFld s id 7 20 4
  let s1 := setCF id 7 20 4 clean s0
  if quarantined s1 id then
    if clean = 8 then setCF id 3 5 1 0 s1 else s1
  else if 3 ≤ l.length then
    let s2 := evt 71 (cntBb 6 1 (setCF id 7 20 4 0 (setCF id 3 5 1 1 (setRun id { cRun s1 id with quarMark := true } s1))))
    if s2.bb.rpt.contains id then withdrawRepeater id s2 else s2
  else s1

/-! ### Positions (R558-R564) -/

/-- The hop level of a repeater: 1 where it reaches the hub direct, 2 through another. -/
def hopLevel (s : State) (r : Nat) : Nat := if (cRun s r).route.isEmpty then 1 else 2

/-- The repeaters in use by hop level, then ID. -/
def relayOrder (s : State) : List Nat :=
  (s.bb.rpt.filter fun r => hopLevel s r == 1) ++ (s.bb.rpt.filter fun r => hopLevel s r != 1)

/-- The positions of a path: each node to the next. -/
def hopsOf : List Nat → List Position
  | a :: b :: rest => { tx := a, rx := b } :: hopsOf (b :: rest)
  | _ => []

/-- The positions of an entry (R561-R563, R620): none for a quarantined or unadmitted client or one without a route. -/
def entryPositions (s : State) (e : SlotEntry) : List Position :=
  let r := (cRun s e.id).route
  if !admitted s e.id || decide (r = noRoute) || (!e.down && quarantined s e.id) then []
  else
    let path := e.id :: r ++ [0x800]
    hopsOf (if e.down then path.reverse else path)

/-- The entries placed while S stays within the limit, those carried, and those dropped (R564). -/
def fillEntries (s : State) (lim : Nat) : List Position → List SlotEntry → List Position × List SlotEntry × Nat
  | acc, [] => (acc, [], 0)
  | acc, e :: rest =>
    let p := entryPositions s e
    if acc.length + p.length ≤ lim then fillEntries s lim (acc ++ p) rest
    else
      let late := e :: rest
      (acc, (late.filter fun x => !x.carried).map fun x => { x with carried := true },
       (late.filter fun x => x.carried).length)

/-! ### Load state (R645-R647) -/

/-- LEVEL after a beacon boundary: it rises at once and falls one level after 8 periods. -/
def loadLevel (s : State) : State :=
  let n := s.clients.queue.length
  let target := if 448 ≤ n ∨ s.bb.dropped then 2 else if 256 ≤ n ∨ s.bb.carried then 1 else 0
  let c := s.clients
  if c.level ≤ target then { s with clients := { c with level := target, fallRun := 0 } }
  else if 8 ≤ c.fallRun + 1 then { s with clients := { c with level := c.level - 1, fallRun := 0 } }
  else { s with clients := { c with fallRun := c.fallRun + 1 } }

/-- The load state byte. -/
def loadByte (s : State) : Byte :=
  BitVec.ofNat 8 (s.clients.level + (if s.canvas.run = .emergency then 4 else 0) + (if s.clients.phaseLeft ≠ 0 then 8 else 0) +
    (if (par s (parAddr 20 0)).getLsbD 0 then 0 else 16))

/-! ### Combining and coupling (R588-R590) -/

/-- The front ends that receive: enabled in RX and in service (R590). -/
def bbRxFes (s : State) : List Nat :=
  (List.range 3).filter fun t => (par s (parAddr 19 (2 + t))).getLsbD 0 && !s.glaze.oosPh.getLsbD t

/-- SNR ratio of carrier c (in 1/65,536) after maximum-ratio combining: the sum of those of the front ends that receive, from
their preamble channel estimates (R590; log 85). -/
def combined (s : State) (est : List (List Nat)) (c : Nat) : Nat :=
  ((bbRxFes s).map fun t => (est.getD t []).getD (c - 82) 0).foldl (· + ·) 0

/-- A ratio x / 65,536 in units of 10 / k dB, rounded down, from -2 k units on. -/
def dbCode (k x : Nat) : Int :=
  ((List.range (9 * k)).filter fun i => decide (65536 ^ k * 10 ^ i ≤ x ^ k * 10 ^ (2 * k))).length - 1 - 2 * k

/-- The usable carriers of group g. -/
def groupCarriers (s : State) (g : Nat) : List Nat :=
  ((List.range 20).map fun i => 82 + 20 * g + i).filter fun c => usable s.bb.pre s.bb.notch c

/-- The lowest SNR of each group's usable carriers in 0.5 dB (R553). -/
def groupSnr (s : State) (est : List (List Nat)) : List Int :=
  (List.range 53).map fun g =>
    match (groupCarriers s g).map (combined s est) with
    | [] => 0
    | x :: r => dbCode 20 (r.foldl min x)

/-- The mean of a list, 0 for the empty one. -/
def meanNat (l : List Nat) : Nat := l.foldl (· + ·) 0 / l.length

/-- The usable carriers. -/
def usableCarriers (s : State) : List Nat := (List.range 53).flatMap (groupCarriers s)

/-- The mean usable-carrier SNR in 0.25 dB (log 85). -/
def frameMean (s : State) (est : List (List Nat)) : Int := dbCode 40 (meanNat ((usableCarriers s).map (combined s est)))

/-- The receive weight of each front end for a frame: its mean SNR ratio over the usable carriers; 0 where it does not receive. -/
def frameWeights (s : State) (est : List (List Nat)) : List Nat :=
  (List.range 3).map fun t =>
    if (bbRxFes s).contains t then meanNat ((usableCarriers s).map fun c => (est.getD t []).getD (c - 82) 0) else 0

/-- The front ends enabled in TX, in service and without TX_FAULT (R588, R601). -/
def bbTxFes (s : State) : List Nat := (List.range 3).filter fun t => bbTxFe s t && !(frontEnd s t).txFault

/-- The weight of a front end for a client over its last 8 frames. -/
def weightOf (s : State) (id t : Nat) : Nat := ((cRun s id).weights.map fun w => w.getD t 0).foldl (· + ·) 0

/-- The front ends of a downlink frame: every enabled one with BB.CTL.TXALL, else the one with the largest receive weight for its
client, the lowest number first (R589; log 85). -/
def downFes (s : State) (id : Nat) : List Nat :=
  if (par s (parAddr 19 0)).getLsbD 2 then bbTxFes s
  else
    match bbTxFes s with
    | [] => []
    | t :: r => [r.foldl (fun a b => if weightOf s id a < weightOf s id b then b else a) t]

/-! ### Downlink frames (R633, R639, R640, R642) -/

/-- Blocks of a client's downlink frame: one in ROBO4, else R554. -/
def downBlocks (s : State) (id : Nat) : Nat :=
  match (cRun s id).mapDn with
  | some m => min 16 (5 * codedBits s m / 1920)
  | none => 1

/-- Commands that a downlink frame carries: one in its first block, up to 5 in each further one (R640); none in a position that
carries no block. -/
def downRoom (s : State) (id : Nat) : Nat := match downBlocks s id with | 0 => 0 | n + 1 => 1 + 5 * n

/-- The commands of a downlink frame are sent: first those sent three times without acknowledgement fail; then the
CLIENT_OUT value when it has changed, up to 4 detailed answers and one command, and up to 5 commands in each further block (R640). A
position that carries no block sends nothing. TIME is answered with the calendar seconds at the beacon (R643; log 132). -/
def downSend (id : Nat) (s : State) : State :=
  let s1 := failUnacked id s
  if downBlocks s1 id = 0 then s1
  else
    let r := cRun s1 id
    let v := cWord s1 id 30
    let cmds := (cmdsFor s1 id false).take (downRoom s1 id)
    let f : DownFrame :=
      { id := id, fes := downFes s1 id, out := if v = r.cvsSent then none else some v
        details := (r.details.take 4).map fun d => (d.1, d.2.1, d.2.2, if d.1 = 1 then s1.time.calSec else 0)
        cmds := cmds.map fun q => (q.code, q.seq, q.args) }
    cmds.foldl (fun st q => cmdSent q st) (setRun id { r with cvsSent := v, details := r.details.drop 4 }
      { s1 with bb := { s1.bb with downs := s1.bb.downs ++ [f] } })

/-! ### The beacon (R559, R566-R568, R594, R605, R612) -/

/-- Acknowledgements in the order they are placed: C0 first (R567). -/
def ackOrder (l : List Ack) : List Ack := (l.filter fun a => a.c0) ++ (l.filter fun a => !a.c0)

/-- A correction inserted by size, largest first. -/
def insertCorr (c : Corr) : List Corr → List Corr
  | [] => [c]
  | d :: r => if d.val.natAbs < c.val.natAbs then c :: d :: r else d :: insertCorr c r

/-- The links whose new up map differs most from the one in force, two of them (R556). -/
def mapChanges (s : State) : List (Nat × ToneMap) :=
  let diff (e : Nat × ClientRun) (m : ToneMap) : Nat :=
    let a := infoBits6 s m
    let b := match e.2.mapUp with | some t => infoBits6 s t | none => 0
    max a b - min a b
  let l := s.clients.run.filterMap fun e =>
    match e.2.mapUpNew with
    | some m => if e.2.mapUp = mapUsed s m then none else some (e.1, m, diff e m)
    | none => none
  let best (l : List (Nat × ToneMap × Nat)) : Option (Nat × ToneMap × Nat) :=
    l.foldl (fun b e => match b with | some x => if x.2.2 < e.2.2 then some e else some x | none => some e) none
  match best l with
  | none => []
  | some x =>
    match best (l.filter fun e => e.1 != x.1) with
    | none => [(x.1, x.2.1)]
    | some y => [(x.1, x.2.1), (y.1, y.2.1)]

/-- The transmitters of the positions in which a client sends its own frame: not a relay beacon, and not a relay of the position
before (R561, Table 10-10). -/
def ownSlots (before : Nat) : List Position → List Nat
  | [] => []
  | p :: r => if p.rx = 0xFFE ∨ p.tx = before then ownSlots p.rx r else p.tx :: ownSlots p.rx r

/-- Every client after the period that ended: silence, own positions, repeaters not heard. -/
def periodEnd (prev : Nat) (silentRpt : List Nat) (s : State) : State :=
  let own := ownSlots 0xFFF s.bb.beacon.slots
  let s1 := (admittedIds s).foldl (fun st id =>
    let r := cRun st id
    let heard := decide (r.frameBsn = some prev)
    let miss := if heard then 0 else r.ownMiss + own.count id
    let st1 := setRun id { r with silent := if heard then 0 else r.silent + 1, ownMiss := miss } st
    let st2 := if heard then setClientFlag id 3 false st1 else if 4 ≤ miss then setClientFlag id 3 true st1 else st1
    quarantineStep prev id st2) s
  s1.bb.rpt.foldl (fun st id =>
    let r := cRun st id
    if silentRpt.contains id then evt 74 (cntBb 9 1 (setRun id { r with relayMiss := r.relayMiss + 1 } st))
    else setRun id { r with relayMiss := 0 } st) s1

/-- Read-back level of the beacon on each front end (R601): 4 missing in a row set TX_FAULT. -/
def beaconBack (back : List Int) (s : State) : State :=
  (List.range 3).foldl (fun st t =>
    let f := frontEnd st t
    if !bbTxFe st t || f.txFault then st
    else if !beaconMissing st t (back.getD t 0) then setFe t { f with missRun := 0 } st
    else
      let st1 := setFe t { f with missRun := f.missRun + 1, txFault := decide (4 ≤ f.missRun + 1), retryRun := 0 } st
      if 4 ≤ f.missRun + 1 then logLine t 3 true (raiseCause (768 + 8 + t) 0 false st1) else st1) s

/-- The bytes of a value, lowest first. -/
def valBytes (n v : Nat) : List Byte := (List.range n).map fun i => BitVec.ofNat 8 (v / 256 ^ i)

/-- A list of a beacon: its entries, n bytes each, and zeros in the places left. -/
def beaconList (n places : Nat) (l : List Nat) : List Byte :=
  (List.range places).flatMap fun i => valBytes n (l.getD i 0)

/-- A tone map of a beacon: ID [10:0], rate [12:11], 53 codes of 3 bits from bit 13, valid [175] (log 132). -/
def mapField (e : Nat × ToneMap) : Nat :=
  e.1 % 2048 + 2 ^ 11 * e.2.rate + (List.range 53).foldl (fun n g => n + 2 ^ (13 + 3 * g) * (e.2.codes.getD g 0 % 8)) 0 + 2 ^ 175

/-- A route update of a beacon: client [10:0], hop count [15:11], repeaters [26:16] and [42:32], valid [47] (log 132). -/
def routeField (r : Nat × List Nat) : Nat :=
  r.1 % 2048 + 2 ^ 11 * (r.2.length + 1) + 2 ^ 16 * (r.2.getD 0 0 % 2048) + 2 ^ 32 * (r.2.getD 1 0 % 2048) + 2 ^ 47

/-- A correction of a beacon: ID, edge event, quarantine, valid, the value as 16 bits of two's complement. -/
def corrField (c : Corr) : Nat :=
  c.id % 2048 + (if c.edge then 2 ^ 11 else 0) + (if c.quar then 2 ^ 12 else 0) + 2 ^ 15 + 2 ^ 16 * (BitVec.ofInt 16 c.val).toNat

/-- The 360 bytes of a beacon, with the CRC-32 over the first 356 (R566, Table 10-5). -/
def beaconImage (b : Beacon) : List Byte :=
  let slot (p : Position) : Nat := p.tx % 4096 + 4096 * (p.rx % 4096)
  let ack (a : Ack) : Nat := a.id % 2048 + 2 ^ 11 * (a.ans % 4) + (if a.c0 then 2 ^ 13 else 2 ^ 14) + 2 ^ 15
  let body := valBytes 2 b.netId.toNat ++ valBytes 4 b.bsn ++ valBytes 8 b.easel ++ [b.load] ++ valBytes 1 b.slots.length ++
    valBytes 1 ((if b.gi then 1 else 0) + (if b.hand then 2 else 0)) ++ [b.maskId] ++ valBytes 1 b.relays ++
    valBytes 1 (b.chg % 16 + (if b.pendGi then 16 else 0)) ++
    beaconList 3 56 ((b.slots ++ List.replicate 56 ({ tx := 0xFFF, rx := 0xFFF } : Position)).map slot) ++
    beaconList 2 32 (b.acks.map ack) ++ beaconList 4 8 (b.corrs.map corrField) ++ beaconList 22 2 (b.maps.map mapField) ++
    beaconList 6 4 (b.routes.map routeField) ++ valBytes 2 b.coordinator.toNat ++ valBytes 2 b.handBsn.toNat
  let word (i : Nat) : Word := BitVec.ofNat 32 ((List.range 4).foldl (fun n k => n + 256 ^ k * (body.getD (4 * i + k) 0).toNat) 0)
  body ++ valBytes 4 (crc32 ((List.range 89).map word)).toNat

/-- The beacon is built and sent at a beacon boundary: positions, acknowledgements (join answers admitClient), corrections,
tone maps, route updates, load state. `empty` builds the beacon of R605. -/
def sendBeacon (empty : Bool) (back : List Int) (s : State) : State :=
  let bsn := bsnNow s
  let lim := if s.clients.phaseLeft = 0 then 56 else 28
  let relay := (relayOrder s).map fun r => ({ tx := r, rx := 0xFFE } : Position)
  let mask : List Position := if !empty && (!s.bb.pend.isEmpty || bsn % 16 == 0) then [{ tx := 0x800, rx := 0xFFE }] else []
  let p := s.glaze.probeClient.toNat
  let probe : List Position := if s.glaze.probeActive then [{ tx := 0x800, rx := p }, { tx := p, rx := 0x800 }] else []
  let entries := if empty then [] else s.bb.carry ++ (if s.bb.built then s.bb.list else [])
  let head := if empty then [] else relay ++ mask ++ probe
  let (slots, carry, drop) := fillEntries s lim head entries
  let acks := (ackOrder s.bb.acks).take 32
  let later := (ackOrder s.bb.acks).drop 32
  let marks := s.clients.run.filterMap fun e => if e.2.quarMark && !(s.bb.corrs.any fun c => c.id == e.1) then
    some ({ id := e.1, edge := false, quar := true, val := 0 } : Corr) else none
  let corrAll := (s.bb.corrs ++ marks).foldl (fun l c =>
    insertCorr { c with quar := (cRun s c.id).quarMark } l) []
  let maps := mapChanges s
  let routes := s.bb.routes.take 4
  let s1 : State := { s with
   bb := { s.bb with
    coord := true, downs := [], bsn := BitVec.ofNat 32 bsn, sLast := slots.length, sMax := max s.bb.sMax slots.length
    list := [], carry := carry, built := false, acks := later, corrs := corrAll.drop 8, routes := s.bb.routes.drop 4
    carried := !carry.isEmpty, dropped := drop != 0
    maskSent := if mask.isEmpty then s.bb.maskSent else some (maskFrame s)
    beacon := { netId := s.bb.netId, gi := s.bb.gi, maskId := s.bb.maskId
                pendGi := match s.bb.pend with | (_, m) :: _ => m.gi | [] => false
                bsn := bsn, easel := now s, load := 0, slots := slots, acks := acks, corrs := corrAll.take 8, maps := maps
                routes := routes, chg := maskLeft s bsn, relays := if empty then 0 else relay.length, hand := decide (56 < s.mirror.handLeft)
                coordinator := bit1 16 s.mirror.mside ||| put 16 1 (tblGet (fun _ => (0 : Word)) s.mirror.cnt 2).toNat
                handBsn := s.mirror.handBsn } }
   mirror := { s.mirror with handLeft := s.mirror.handLeft - 1 } }
  let s2 := maps.foldl (fun st m => setCF m.1 6 18 2 (mapMode (mapUsed s m.2))
    (setRun m.1 { cRun st m.1 with mapUp := mapUsed s m.2, mapUpNew := none } st)) s1
  let s3 := routes.foldl (fun st r => setRun r.1 { cRun st r.1 with nextRoutes := (cRun st r.1).nextRoutes ++ [(r.2, bsn + 2)] } st) s2
  let s4 := (corrAll.take 8).foldl (fun st c => setRun c.id { cRun st c.id with quarMark := false } st) s3
  let s5 := acks.foldl (fun st a => if a.join && a.ans == 0 then admitClient a.id st else st) s4
  let moved := carry.length + drop
  let placed := (entries.take (entries.length - moved)).filter fun e => e.down && !(entryPositions s e).isEmpty
  let s5 := placed.foldl (fun st e => downSend e.id st) s5
  let s6 := if moved = 0 then s5 else logLine 0 5 true (evtN 73 moved (cntBb 8 moved s5))
  let s7 := loadLevel { s6 with clients := { s6.clients with served := (later.filter fun a => a.join && a.ans == 0).length } }
  let s8 : State := { s7 with bb := { s7.bb with beacon := { s7.bb.beacon with load := loadByte s7 } } }
  let s9 := if mask.isEmpty then s8 else evt 79 s8
  beaconBack back (evt 64 (cntBb 0 1 s9))

/-- Reported hub-to-client maps are in use from the next beacon boundary on (R557). -/
def applyDown (s : State) : State :=
  { s with clients := { s.clients with run := s.clients.run.map fun e =>
      (e.1, match e.2.mapDnNew with | some m => { e.2 with mapDn := mapUsed s m, mapDnNew := none } | none => e.2) } }

/-- A change of BB.NET_ID takes effect (R617, R622): every client loses its admission, the admission phase begins. -/
def netIdStep (s : State) : State :=
  let id := (par s (parAddr 19 1)).setWidth 16
  if id = s.bb.netId then s
  else
    let s1 := (admittedIds s).foldl (fun st i => loseAdmission i st) s
    { s1 with bb := { s1.bb with netId := id }, clients := { s1.clients with phaseLeft := 65 } }

/-- The first beacon of Tier 2 (R364, R605, R617): S = 0, and the admission phase of 64 periods begins. -/
def firstBeacon (back : List Int) (s : State) : State :=
  if bbRuns s then
    let id : Half := (par s (parAddr 19 1)).setWidth 16
    sendBeacon true back { s with
      clients := { s.clients with phaseLeft := 64 }
      bb := { s.bb with pre := parPre s, notch := parNotch s, gi := parGi s, netId := id, pend := [] } }
  else s

end Sys2Proof.Machine
end

