-- ==== Sys2Proof/Machine/Broadband.lean ====
section
/-!
DEFINITION. Broadband.lean: the commands of the broadband line channel (10_broadband_line.md) but for its strokes.
-/

namespace Sys2Proof.Machine

/-- MASK_CHANGE (R549, R552): at the eighth beacon boundary after the landing. -/
def execMaskChange (s : State) : Res :=
  finish s (if atBeacon s then masksDue s else s)

/-- ROUTE_UPDATE_EFFECT (R568): routes announced two beacon boundaries ago take effect. -/
def execRouteUpdateEffect (s : State) : Res :=
  finish s (if atBeacon s then applyRoutes (bsnNow s) s else s)

/-- REPEATER_WITHDRAWN (R586, R597): a repeater in use that sent nothing in 4 periods in a row, or is quarantined. -/
def execRepeaterWithdrawn (id : Fin 2048) (s : State) : Res :=
  finish s (if s.bb.rpt.contains id.val && (decide (4 ≤ (cRun s id.val).relayMiss) || quarantined s id.val) then
      withdrawRepeater id.val s
    else s)

/-- BEACON_BOUNDARY (R594): mask or guard change, route updates, quarantine entries and exits, filling and sending of the
beacon. `back` are the levels read back on the front ends, in 0.5 dB above -150 dBm/Hz, `silentRpt` the repeaters in use from which
nothing was heard in the period that ends. -/
def execBeaconBoundary (back : List Int) (silentRpt : List Nat) (s : State) : Res :=
  finish s (if atBeacon s && bbRuns s && decide (s.bb.bsn.toNat < bsnNow s) then
      let prev := s.bb.bsn.toNat
      let s2 := applyRoutes (bsnNow s) (masksDue s)
      let s3 := periodEnd prev silentRpt s2
      let s4 := netIdStep (applyDown s3)
      let s5 : State := { s4 with clients := { s4.clients with phaseLeft := s4.clients.phaseLeft - 1 } }
      sendBeacon false back s5
    else if bbRuns s then s
    else
      let s1 := if atBeacon s then masksDue s else s
      { s1 with bb := { s1.bb with coord := s1.bb.coord && s1.mirror.pair, list := [], carry := [], built := false } })

/-- BB_TX_RETRY (R602): a front end with TX_FAULT set is retried on every 64th beacon, once on each; 4 in a row that read back, at the
level `back` in 0.5 dB above -150 dBm/Hz, clear it. -/
def execBbTxRetry (t : Fin 3) (back : Int) (s : State) : Res :=
  let f := { frontEnd s t.val with retryBsn := some s.bb.bsn.toNat }
  finish s (if f.txFault && s.bb.bsn.toNat % 64 == 0 && bbRuns s && decide ((frontEnd s t.val).retryBsn ≠ some s.bb.bsn.toNat) then
      let run := if beaconMissing s t.val back then 0 else f.retryRun + 1
      if 4 ≤ run then
        logLine t.val 3 false (dropCause (768 + 8 + t.val) 0
          (setFe t.val { f with txFault := false, missRun := 0, retryRun := 0 } s))
      else setFe t.val { f with retryRun := run } s
    else s)

/-- BB_NOISY (R603): the mean quiet-region noise of a period on a front end, coded in 0.5 dB above -150 dBm/Hz. NOISY sets
above -95 dBm/Hz over 64 periods and clears below -101 dBm/Hz. -/
def execBbNoisy (t : Fin 3) (level : Byte) (s : State) : Res :=
  let f := frontEnd s t.val
  let h := (level.toNat :: f.hist).take 64
  let sum := h.foldl (· + ·) 0
  let noisy := if h.length = 64 then (if 110 * 64 < sum then true else if sum < 98 * 64 then false else f.noisy) else f.noisy
  let s1 := setFe t.val { f with hist := h, noise := BitVec.ofNat 8 (sum / h.length), noisy := noisy } s
  finish s (if noisy = f.noisy then s1
    else logLine t.val 4 noisy (setCause (768 + 12 + t.val) 0 noisy s1))

/-! ### Received frames (R569-R579, R611-R616, R642-R644) -/

/-- Byte k, and the 16- and 32-bit fields at byte k, of a report (Table 10-6). -/
def rByte (b : List Byte) (k : Nat) : Nat := (b.getD k 0).toNat
def rHalf (b : List Byte) (k : Nat) : Nat := rByte b k + 256 * rByte b (k + 1)
def rWord (b : List Byte) (k : Nat) : Nat := rHalf b k + 65536 * rHalf b (k + 2)

/-- The report passes: 120 bytes, every block decoded, CRC-32 over bytes 0-115 (R569). -/
def reportOk (ok : Bool) (b : List Byte) : Bool :=
  ok && b.length == 120 && decide (BitVec.ofNat 32 (rWord b 116) = ~~~((b.take 116).foldl crcByte 0xFFFFFFFF))

/-- Bits of a run of bytes from a bit offset (bit 0 of the first byte is offset 0). -/
def bitsFrom (b : List Byte) (off n : Nat) : Nat :=
  ((List.range n).map fun i => if (b.getD ((off + i) / 8) 0).getLsbD ((off + i) % 8) then 2 ^ i else 0).foldl (· + ·) 0

/-- The tone map of bytes 48-68: rate in bits [1:0], then 53 group codes of 3 bits (log 20). -/
def reportMap (b : List Byte) : ToneMap :=
  let l := (b.drop 48).take 21
  { rate := min 2 (bitsFrom l 0 2), codes := (List.range 53).map fun g => bitsFrom l (2 + 3 * g) 3 }

/-- The valid neighbour entries of bytes 69-113. -/
def reportNeigh (b : List Byte) : List (Nat × Nat) :=
  (List.range 15).filterMap fun i =>
    let w := rByte b (69 + 3 * i) + 256 * rByte b (70 + 3 * i) + 65536 * rByte b (71 + 3 * i)
    if w / 2 ^ 23 % 2 = 1 then some (w % 2048, w / 2048 % 256) else none

/-- The record writes a report carries (R610, Table 11-2). -/
def reportWrites (s : State) (b : List Byte) (kind : Nat) : List (Nat × Word × Word) :=
  let w (n : Nat) : Word := BitVec.ofNat 32 n
  let st := rByte b 6
  [(4, 0xFFFFFFFF, ts32 s), (8, 0xFFFFFFFF, w (rByte b 7 % 128 + rByte b 8 * 256 + rHalf b 11 * 65536)),
   (9, 0xFFFF, w (rHalf b 13)),
   (0, 0x00FC2000, w (rByte b 9 % 16 * 2 ^ 20 + rByte b 10 % 2 * 2 ^ 13 + rByte b 10 / 2 % 4 * 2 ^ 18))] ++
  (if st ≤ 6 then [(3, 7, w st)] else []) ++
  (if kind ≤ 1 then (List.range 8).map fun i => (10 + i, 0xFFFFFFFF, w (rWord b (16 + 4 * i))) else [])

/-- A broadband alarm report (R136-R139, R578): two in different periods within 6.0 s, or one with a zero-crossing frame,
from an admitted client, latch sources 19-21. -/
def bbAlarm (id c bsn : Nat) (s : State) : State :=
  let f := s.safety
  if !f.run || !admitted s id then s
  else
    let hit := match tblGet (fun _ => none) f.bbReport id with
      | some (t, b) => b != bsn && decide (now s ≤ t + 6 * sec)
      | none => false
    let z := match tblGet (fun _ => none) f.zcReport id with
      | some t => decide (now s ≤ t + 6 * sec)
      | none => false
    let s1 : State := { s with safety := { f with bbReport := tblSet (fun _ => none) f.bbReport id (some (now s, bsn)) } }
    if hit || z then latchAlarm (19 + c) id s1 else s1

/-- A join (R614-R616, Table 11-4) in the period that runs. Its serial is stored when it is served; its answer is admission work
and waits for the reserve of CORE_A (R659). -/
def joinFrame (id : Nat) (b : List Byte) (s : State) : State :=
  let s0 := evt 75 (cntAdmit 0 s)
  if s0.bb.bsn.toNat % 64 ≠ joinWindow id then cntAdmit 2 s0
  else
    let lo := rWord b 16
    let hi := rHalf b 20
    let have_ := decide (cWord s0 id 1 ≠ 0) || decide (cFld s0 id 2 0 16 ≠ 0)
    let same := decide ((cWord s0 id 1).toNat = lo) && cFld s0 id 2 0 16 == hi
    let ctl := par s0 (parAddr 20 0)
    let ack (ans : Nat) (st : State) : State := classAnswer 1 ans (askReserve 0 1 (some (id, ans)) st)
    if !allowed s0 id then ack 2 (evt 78 (cntAdmit 4 s0))
    else if (have_ && !same) || (!have_ && !ctl.getLsbD 1) then
      let s1 := if admitted s0 id then cntAdmit 8 (setClientFlag id 8 true s0) else s0
      ack 2 (evt 78 (cntAdmit 4 s1))
    else if !ctl.getLsbD 0 then ack 2 (evt 78 (cntAdmit 4 s0))
    else if 32 ≤ s0.clients.served then ack 1 (evt 77 (cntAdmit 3 s0))
    else
      let s1 := setC id 2 0xFFFF0000 (BitVec.ofNat 32 (rHalf b 22 * 65536)) s0
      let s2 := if have_ then s1 else setC id 2 0xFFFF (BitVec.ofNat 32 hi) (setC id 1 0xFFFFFFFF (BitVec.ofNat 32 lo) s1)
      askReserve 0 1 (some (id, 0)) { s2 with clients := { s2.clients with served := s2.clients.served + 1 } }

/-- A client request (R642-R644): its answer in the beacon and, at the next tick, in w20, w21, its detail for a downlink position. -/
def requestFrame (id : Nat) (b : List Byte) (s : State) : State :=
  let code := rByte b 16
  let (cls, ans, n) :=
    if code = 1 then (1, 0, 0)
    else if code = 2 then
      if s.canvas.run = .emergency then (2, 2, 6) else if s.clients.level = 2 then (2, 2, 2) else (2, 0, 0)
    else (3, 2, 9)
  let user : List (Nat × Word × Word) := if code = 2 ∧ ans = 0 then [(31, 0xFFFFFFFF, BitVec.ofNat 32 (rWord b 18))] else []
  let s2 := queueUpdate id (user ++ [(20, 0x00FFFFFF, BitVec.ofNat 32 (code + cls * 256 + ans * 1024 + n * 65536)),
    (21, 0xFFFFFFFF, ts32 s)]) false none s
  let r := cRun s2 id
  let s3 := setRun id { r with details := r.details ++ [(code, ans, n)] } s2
  classAnswer cls ans { s3 with bb := { s3.bb with acks := s3.bb.acks ++ [{ id := id, ans := ans, c0 := false, join := false }] } }

/-- A frame came over the link of its sender: LQ up at the next tick, receive weights and the map of that link (R553, R556, R589, R610). -/
def linkFrame (id : Nat) (est : List (List Nat)) (s : State) : State :=
  let r := cRun s id
  let means := (frameMean s est :: r.mean).take 8
  let snrs := (groupSnr s est :: r.snr).take 8
  let lq := clampI 0 255 ((means.foldl (· + ·) 0) / (means.length : Int) + 40)
  queueUpdate id [(6, 0xFF, BitVec.ofNat 32 lq.toNat)] false none (setRun id { r with
    sentBsn := some s.bb.bsn.toNat, mean := means, snr := snrs, weights := (frameWeights s est :: r.weights).take 8
    mapUpNew := some (chooseMap s snrs) } s)

/-- What every accepted frame of a client does, direct or relayed: counters, its report's record writes with LQ down, RX_OK and the end of
LINK_LOST at the next tick (R610), its map of the hub-to-client link, neighbours, acknowledged commands. -/
def acceptReport (id kind : Nat) (b : List Byte) (lqDn : Byte) (s : State) : State :=
  let r := cRun s id
  let ws := reportWrites s b kind
  let r1 := { r with
    frameBsn := some s.bb.bsn.toNat
    mapDnNew := if kind = 2 then r.mapDnNew else some (reportMap b), neigh := reportNeigh b, lqDn := lqDn
    report := some ws, silent := 0 }
  let s2 := queueUpdate id (ws ++ [(6, 0xFF00, BitVec.ofNat 32 (lqDn.toNat * 256)), (3, 0x8, 0)]) true none
    (evt 65 (cntBb 1 1 (setRun id r1 s)))
  cmdAcked id (b.getD 8 0) s2

/-- The client that sent an accepted frame: the transmitter of its position; else its source, or for a relayed frame the repeater of
its source's route that is next to the hub (Tables 10-5, 10-6). -/
def senderOf (s : State) (owner : Option Nat) (b : List Byte) : Option Nat :=
  match owner with
  | some o => some o
  | none =>
    let id := rHalf b 0 % 2048
    if rByte b 1 / 8 % 2 = 1 then (cRun s id).route.getLast?.filter fun i => decide (i < 2048) else some id

/-- An overlap of a frame's sender; one whose sender is not known is only counted (R570-R572). -/
def overlapOf (sender : Option Nat) (edge : Bool) (d : Int) (s : State) : State :=
  match sender with
  | some id => overlap id edge d s
  | none => evt 69 (cntBb 5 1 s)

/-- The answer to a report: SERVED; a coordinator refuses for 64 periods after a hand-over the reports of clients that it has
not admitted (R1037). -/
def reportAnswer (s : State) (id : Nat) : Nat := if s.mirror.handLeft ≠ 0 ∧ admitted s id = false then 2 else 0

/-- BB_FRAME_RECEIVED: a frame in a C0 minislot (0), a contention-free position (1, its index in `p`) or a contention
minislot (2): its start offset d in sub-ticks, whether every block decodes, its report, the SNR ratio of each carrier on each front
end in its preamble channel estimate, and the client's own LQ of the hub's frames (log 21). The front ends enabled in RX and in
service are combined (R590); with none there is nothing to receive. The frame takes a descriptor of the LINE_BB reserve (R579). -/
def execBbFrameReceived (win p : Nat) (d : Int) (ok : Bool) (bytes : List Byte) (est : List (List Nat)) (lqDn : Byte)
    (s : State) : Res :=
  let owner := if win = 1 then (match s.bb.beacon.slots[p]? with | some q => if q.tx < 2048 then some q.tx else none | none => none)
               else none
  let alarm (st : State) : State :=
    match classOf (rByte bytes 6) with
    | some c => if rByte bytes 1 / 64 ≤ 1 then bbAlarm (rHalf bytes 0 % 2048) c (rWord bytes 2) st else st
    | none => st
  finish s (if !(domAvail s).getLsbD 7 || (bbRxFes s).isEmpty then s
    else if isStandby s then (if reportOk ok bytes then alarm s else s)
    else if !bbRuns s then s
    else if d < -1600 then overlapOf owner false d s
    else if !reportOk ok bytes then
      let off := if decide (0 ≤ d) && decide (d ≤ 400) then s else overlapOf owner (decide (-400 ≤ d) && decide (d < 0)) d s
      let s1 := evt 66 (cntBb 2 1 off)
      let s2 := if win = 1 then s1 else evt 68 (cntBb 4 1 s1)
      (match owner with | some id => incCF id 18 16 16 s2 | none => s2)
    else
      let id := rHalf bytes 0 % 2048
      let kind := rByte bytes 1 / 64
      let late := decide (d < -400) || decide (400 < d)
      let edge := decide (-400 ≤ d) && decide (d < 0)
      let sender := senderOf s owner bytes
      let s1 := if edge || late then overlapOf sender edge d s else s
      let report := (rWord bytes 2, rByte bytes 6)
      let first := !decide ((cRun s1 id).reportBsn = some report)
      let s1a := match sender with | some i => linkFrame i est s1 | none => s1
      let s2 := acceptReport id kind bytes lqDn (useReserve 5 0 1 s1a)
      let s3 := setRun id { cRun s2 id with reportBsn := some report } s2
      let s4 := if kind = 1 then
          let st := evt 67 (cntBb 3 1 s3)
          classAnswer 0 (reportAnswer s id)
            { st with bb := { st.bb with acks := st.bb.acks ++ [{ id := id, ans := reportAnswer s id, c0 := true, join := false }] } }
        else if kind = 2 then joinFrame id bytes s3
        else if kind = 3 then requestFrame id bytes s3
        else if win = 2 then
          { s3 with bb := { s3.bb with acks := s3.bb.acks ++ [{ id := id, ans := reportAnswer s id, c0 := false, join := false }] } }
        else s3
      let s5 := if first then alarm s4 else s4
      let code := rByte bytes 7 % 16
      if kind ≤ 1 && (rByte bytes 6 == 5 || code != 0) then proofHeadAnswer id (rByte bytes 6 == 5 && code == 0) code s5
      else s5)

end Sys2Proof.Machine
end

