-- ==== Sys2Proof/Machine/ConvOps.lean ====
section
/-!
DEFINITION. ConvOps.lean: modulators, channels, settings and arbiter requests (12_converters.md).
-/

namespace Sys2Proof.Machine

/-! ### Access -/

def modulator (s : State) (m : Nat) : Modulator := tblGet (fun _ => Modulator.blank) s.conv.mods m
def setMod (m : Nat) (d : Modulator) (s : State) : State :=
  { s with conv := { s.conv with mods := tblSet (fun _ => Modulator.blank) s.conv.mods m d } }
def convCh (s : State) (ch : Nat) : ConvCh := tblGet (fun _ => ConvCh.blank) s.conv.chs ch
def setCh (ch : Nat) (c : ConvCh) (s : State) : State :=
  { s with conv := { s.conv with chs := tblSet (fun _ => ConvCh.blank) s.conv.chs ch c } }

def modCfg (s : State) (m : Nat) : Word := par s (parAddr 5 (0x010 + m))
def chOrder (s : State) (ch : Nat) : Word := par s (parAddr 5 (0x080 + ch))
def chCfg (s : State) (ch : Nat) : Word := par s (parAddr 5 (0x100 + ch))
def arbCtl (s : State) : Word := par s (parAddr 5 1)

/-- NUM and LOG2OSR of a preset (Table 12-1); none for preset 0. -/
def presetOf (p : Nat) : Option (Nat × Nat) :=
  match p with
  | 1 => some (80, 12)
  | 2 => some (96, 12)
  | 3 => some (128, 15)
  | _ => none

/-- NUM and LOG2OSR in effect for a channel (R667-R669). -/
def chClock (s : State) (ch : Nat) : Nat × Nat :=
  match presetOf (fld (modCfg s (ch % 16)) 16 2) with
  | some p => p
  | none => (fld (modCfg s (ch % 16)) 0 11, fld (chOrder s ch) 3 5)

/-- NUM and LOG2OSR of the arbiter. -/
def arbClock (s : State) : Nat × Nat :=
  match presetOf (fld (arbCtl s) 20 2) with
  | some p => p
  | none => (fld (arbCtl s) 9 11, fld (arbCtl s) 4 5)

/-- n output periods in sub-ticks. -/
def periods (n log num : Nat) : Nat := n * 2 ^ log * 15625 / num

/-- Modulator 15 is the arbiter (R713). -/
def isArbiter (s : State) : Bool := (arbCtl s).getLsbD 0 && !s.glaze.oosMod.getLsbD 15

/-- A channel is in service (R666). -/
def chInService (s : State) (ch : Nat) : Bool :=
  (chOrder s ch).getLsbD 9 && !s.glaze.oosMod.getLsbD (ch % 16) && (domAvail s).getLsbD 6 &&
    !(ch % 16 == 15 && isArbiter s)

/-- REF_OK (R690, R695). -/
def refOk (s : State) (m : Nat) : Bool :=
  let d := modulator s m
  d.lastGood && !d.refFault && (match d.refSince with | some t => passed s t (2 * ms) | none => false)

/-- The first and the last sample of the next result of a conversion (R674-R676). -/
def firstSample (c : Conversion) : Nat := c.start + c.delay + periods c.done c.log c.num
def lastSample (c : Conversion) : Nat := c.start + c.delay + periods (c.k + c.done) c.log c.num

/-- REF_OK was 0 at some sample of the next result of a conversion on modulator m (R696): in the span before, or in the one that
runs, which ends 2 ms after the buffer's power-up where the last check was good. -/
def refLow (s : State) (m : Nat) (c : Conversion) : Bool :=
  let d := modulator s m
  let before := match d.lowUntil with | some t => decide (firstSample c < t) | none => false
  let running := match d.lowSince with
    | some t => decide (t ≤ lastSample c) && (!refOk s m || (match d.refSince with
        | some p => decide (firstSample c < p + 2 * ms)
        | none => true))
    | none => !refOk s m
  before || running

/-- A conversion in progress is given up without a result: counted (R679, R680, R724, R726). -/
def abandon (m : Nat) (s : State) : State :=
  let d := modulator s m
  match d.conv with
  | some _ => evt (112 + m) (setMod m { d with conv := none, abort := satInc d.abort } s)
  | none => s

/-- A modulator and its reference buffer count as powered down (R693, R724, R726). -/
def modPowerDown (m : Nat) (s : State) : State :=
  let s1 := abandon m s
  setMod m { modulator s1 m with powered := false, refSince := none, lastGood := false, want := [], restart := none } s1

/-- The reference buffer of a modulator is powered (R690). -/
def refPowered (t : Nat) (d : Modulator) : Modulator :=
  match d.refSince with
  | some _ => d
  | none => { d with refSince := some t, lowSince := some t }

/-- PD of a modulator (R692); the arbiter does not power down (R721). -/
def modPd (s : State) (m : Nat) : Nat := if m = 15 ∧ isArbiter s then 0 else fld (modCfg s m) 14 2

/-- A modulator returns to service (Table 08-4, R693, R726; log 131): it and its reference buffer are powered, as PD says, with
domain A; its first conversion still has the delays of R691. -/
def modReturns (m : Nat) (s : State) : State :=
  if (domAvail s).getLsbD 6 then
    let d := modulator s m
    let pd := modPd s m
    setMod m { (if pd = 2 then d else refPowered (now s) d) with powered := pd == 0, anew := true } s
  else s

/-- A landed change of a modulator's settings (R724): its conversions are abandoned, a stream that waits to restart too, and it and its
reference count as powered down. -/
def modLanded (m : Nat) (s : State) : State :=
  let s1 := abandon m s
  setMod m { modulator s1 m with powered := false, refSince := none, lastGood := false, restart := none } s1

/-- After a conversion the modulator powers down as PD says (R692), but not the arbiter (R721). -/
def modIdle (m : Nat) (s : State) : State :=
  let d := modulator s m
  let pd := modPd s m
  setMod m { d with conv := none, powered := pd == 0, refSince := if pd = 2 then none else d.refSince
                    lastGood := if pd = 2 then false else d.lastGood } s

/-- A conversion begins at a boundary (R670, R671, R691); what runs on the modulator, also a conversion of the same channel (DESIGN
CHOICE, log 136), is abandoned, and a stream that waits to restart on it has stopped (R673). -/
def beginConv (m : Nat) (c : Conversion) (s : State) : State :=
  let s1 := abandon m s
  let d := modulator s1 m
  let delay := if d.anew then 81600 else if d.powered then 0 else if d.refSince.isSome then 1600 else 81600
  setMod m { refPowered (now s1) d with
    conv := some { c with start := now s1, delay := delay, done := 0 }
    restart := none, powered := true, anew := false } s1

/-- The open-wire current of a channel flows (R702, R708): OW_I is on, during a test or, with OW_CONT, during every conversion; off on
a standby (R992). -/
def owCurrent (s : State) (ch : Nat) (test : Bool) : Bool :=
  decide (fld (chCfg s ch) 0 2 ≠ 0) && (test || (chCfg s ch).getLsbD 3) && !isStandby s

/-- The conversion of a channel under its settings in force. -/
def chConversion (s : State) (ch : Nat) (kind : ConvKind) : Conversion :=
  let (num, log) := chClock s ch
  { ch := ch, kind := kind, k := fld (chOrder s ch) 0 3, log := log, num := num, start := 0, delay := 0, done := 0
    swapped := (convCh s ch).swapped, crit := none, cfg := chCfg s ch, que := (chOrder s ch).getLsbD 10
    ow := owCurrent s ch (decide (kind = .test)) }

/-- The request of a stroke to begin a conversion or a test at the next boundary (R670-R672, R680, R681, R702): a channel
out of service starts nothing, one that streams under its settings goes on, and a test needs a current. -/
def wantConv (ch : Nat) (test : Bool) (s : State) : State :=
  let m := ch % 16
  let d := modulator s m
  let streams := match d.conv with | some c => decide (c.kind = .cont) && c.ch == ch | none => false
  if !chInService s ch || (!test && streams) || (test && !owCurrent s ch true) then s
  else setMod m { d with want := d.want ++ [(ch, test, tickNo s)] } s

/-- A request for a re-sample made in a minor tick (R713, R717, R730): dropped without an arbiter or for a channel out of service, dropped and
counted beyond 16. -/
def arbRequest (tick ch : Nat) (j : Option Nat) (s : State) : State :=
  if !isArbiter s || !chInService s ch then s
  else if 16 ≤ s.conv.arbWait.length then { s with conv := { s.conv with arbDrop := satInc s.conv.arbDrop } }
  else { s with conv := { s.conv with arbWait := s.conv.arbWait ++ [(ch, j)], arbAt := s.conv.arbAt ++ [tick] } }

/-- The arbiter's waiting requests are given up. -/
def arbDropAll (s : State) : State := { s with conv := { s.conv with arbWait := [], arbAt := [] } }

/-- A criterion asks for a re-sample (R145): requests are issued in the order of ticks and, within a tick, of criteria (R189). -/
def askArbiter (j : Nat) (s : State) : State :=
  let before (a : Nat × Nat) : Bool := decide (a.1 < tickNo s) || decide (a.2 ≤ j)
  { s with conv := { s.conv with
      asks := s.conv.asks.takeWhile before ++ [(tickNo s, j)] ++ s.conv.asks.dropWhile before } }

/-- A stream that a landed change of its channel's settings stops and restarts at the landing boundary (R723). -/
def chSettingsLanded (ch : Nat) (s : State) : State :=
  let m := ch % 16
  match (modulator s m).conv with
  | some c =>
    if c.kind = .cont ∧ c.ch = ch then
      let s1 := setMod m { modulator s m with conv := none } s
      if chInService s1 ch && (chOrder s1 ch).getLsbD 8 then beginConv m (chConversion s1 ch .cont) s1 else modIdle m s1
    else s
  | none => s

/-- A modulator is taken out of service (R465, R726). -/
def modOut (m : Nat) (s : State) : State :=
  let s1 := modPowerDown m s
  let s2 := setMod m { modulator s1 m with recov := none } s1
  if m = 15 then arbDropAll s2 else s2

/-- Domain A loses its power or is gated: every conversion ends (R693). -/
def convDomainOff (s : State) : State :=
  arbDropAll ((List.range 16).foldl (fun st m => modPowerDown m st) s)

/-- The converters at a restart (R734, R735): the queue is empty, every tag reads NONE and no test has decided; the status
fields and counters of the modulators, CONV.LAST and the exchanges hold. -/
def convRestart (s : State) : State :=
  { s with conv := { s.conv with
      queue := [], head := 0, tail := 0, arbWait := [], arbAt := [], asks := [], seq := 0
      chs := s.conv.chs.filterMap fun e =>
        let c : ConvCh := { ConvCh.blank with
          last := e.2.last, swapped := e.2.swapped, swapCnt := e.2.swapCnt, owCnt := e.2.owCnt }
        if c = ConvCh.blank then none else some (e.1, c) } }

/-- Channels enter service, or leave it with their domain: their tags read NONE until their next result (Table 12-3). -/
def chsAnew (p : Nat → Bool) (s : State) : State :=
  { s with conv := { s.conv with
      chs := s.conv.chs.filterMap fun e =>
        let c : ConvCh := if p e.1 then { e.2 with recent := [], read := none } else e.2
        if c = ConvCh.blank then none else some (e.1, c) } }

/-- At 120 ms after the origin the reference buffer of each modulator without PD = 2 is powered (R690). -/
def refsPower (s : State) : State :=
  if (domAvail s).getLsbD 6 then
    (List.range 16).foldl (fun st m =>
      if modPd st m = 2 then st else setMod m (refPowered (now st) (modulator st m)) st) s
  else s

end Sys2Proof.Machine
end

