-- ==== Sys2Proof/Machine/Safety.lean ====
section
/-!
DEFINITION. Safety.lean: the commands of the safety core (03_safety_core_and_alarms.md).
-/

namespace Sys2Proof.Machine

/-! ### Lockstep and restart (R124-R130, R186-R192) -/

/-- The pair halts and restarts from ROM (R124): the path latch is left as it is (R186). -/
def coreRestarts (s : State) : State :=
  { s with safety := { s.safety with run := false, answeredOnce := false, core := true, restartAt := some (now s) } }

/-- A mismatch of the pair is counted, logged and an event cause (R125, R1221); the third within 24 h latches LOCKSTEP, stops
the path and holds the pair halted (R126). -/
def lockstepFails (s : State) : State :=
  let recent := s.safety.lsTimes.filter fun t => decide (now s < t + 86400 * sec)
  let third := decide (2 ≤ recent.length)
  let s0 := coreRestarts s
  let s1 : State := { s0 with safety := { s0.safety with
    lsCnt := s.safety.lsCnt + 1, lsTimes := now s :: recent, lockstep := third
    restartAt := if third then none else some (now s) } }
  let s2 := evt 344 (raiseCause 256 0 true (logPush 0x013 1 s1))
  if third then tierChange s (stopPath (latchWake 6 (raiseCause 257 0 false s2))) else s2

/-- LOCKSTEP_MISMATCH (R124-R126, R1221, Table 03-7): the guards of the pair fail while it executes, its restart included: the
comparator finds a mismatch; an uncorrectable SRAM error, an event cause (4, 3), restarts it; a ROM CRC failure halts it
(log 77). -/
def execLockstepMismatch (fault : CoreFault) (s : State) : Res :=
  finish s (if s.sys.applied.getLsbD 3 && !s.power.inReset && !s.safety.lockstep && !s.safety.fwFail then
      match fault with
      | .mismatch => lockstepFails s
      | .sram =>
        let s1 := coreRestarts s
        raiseCause 259 0 true { s1 with safety := { s1.safety with sram := true } }
      | .rom => tierChange s (latchWake 6 (firmwareFails s))
    else s)

/-- The record the safety core uses (R128): the copy CFG_STAT.COPY names, or the default record; failing that, the
other copy where it carries Gesso's CRC, else what R84 and R85 would latch. -/
def coreRecord (s : State) : List Word × Word :=
  let m := s.mem
  if s.gesso.dflt then (defaultRecord, crc32 defaultRecord)
  else
    let c := s.gesso.copyDup
    if recCopyOk m c && decide (recCopyCrc m c = s.gesso.cfgCrc) then (recCopy m c, recCopyCrc m c)
    else if recCopyOk m (!c) && decide (recCopyCrc m (!c) = s.gesso.cfgCrc) then (recCopy m (!c), recCopyCrc m (!c))
    else ((recLatch m).1, (recLatch m).2.1)

/-- SAFETY_CORE_RESTART_DONE (R124, R128, R187, R188, R191, R1222): the core resumes with the record of R128 and the
alarm set of domain K, TOKEN with it; `setOk` says whether that set passes its CRC, which one that lost its power never
does. When it does not, every path latch command is kept, UNKNOWN is set and TOKEN is 0 (log 78). SAFE.STAT.SRAM stands until a
power-on reset of domain S (log 128). Monitor dwells start anew; the causes of domain K stay, with what tells when their conditions end. -/
def execSafetyCoreRestartDone (setOk : Bool) (s : State) : Res :=
  finish s (if !s.safety.run && !s.safety.lockstep && !s.safety.fwFail && s.sys.applied.getLsbD 3 && !s.power.inReset then
      let (r, crc) := coreRecord s
      let f := s.safety
      let setOk := setOk && !f.setLost
      let s1 : State := { s with
        safety := { f with
          setLost := false
          run := true, answeredOnce := false, record := r, recordCrc := crc, reloadDue := none
          restartAt := none, mon := troubleOnly f.mon, confirm := [], taken := [], takenComb := [], bbReport := []
          zcReport := [], crit := [], disRun := [], gessoOnly := 0, ackRes := 0, ackPending := none
          alarms := if setOk then f.alarms else 0
          sil := if setOk then f.sil else 0
          token := if setOk then f.token else 0
          unknown := f.unknown || !setOk }
        conv := { s.conv with asks := [] }
        gesso := { s.gesso with firstAnswer := false, badRun := 0, coreReset := some (s.gesso.coreReset.getD (now s)) } }
      s1
    else s)

/-- SAFE_RECORD_RELOAD (R129): within 2 major frames after a completed RELATCH the record is read again under R128;
sentinel dwells and confirmation records for sources 0-18 restart; latched alarms stay, and command what the masks of the
record now name (R155, R156). -/
def execSafeRecordReload (s : State) : Res :=
  finish s (if s.safety.run && s.safety.reloadDue.isSome && atFrame s then
      let (r, crc) := coreRecord s
      writePath { s with safety := { s.safety with
          record := r, recordCrc := crc, reloadDue := none, confirm := []
          taken := takenAnew s.safety.taken, takenComb := takenAnew s.safety.takenComb
          mon := (List.range 16).foldl (fun t n =>
            let d := tblGet (fun _ => Sentinel.blank) t n
            tblSet (fun _ => Sentinel.blank) t n { d with alarmRun := none, troubleRun := none, clearRun := none })
            s.safety.mon } }
    else s)

/-- REGION_A_CHECK (R130): REC_PEND while the record that R84 would latch has another CRC-32 than CFG_CRC. -/
def execRegionACheck (s : State) : Res :=
  finish s (if s.safety.run then
      { s with safety := { s.safety with recPend := decide ((recLatch s.mem).2.1 ≠ s.gesso.cfgCrc) } }
    else s)

/-! ### Sentinel monitor (R131-R134) -/

/-- The monitor of sentinel n. -/
def mSen (s : State) (n : Nat) : Sentinel := tblGet (fun _ => Sentinel.blank) s.safety.mon n
def setMon (n : Nat) (d : Sentinel) (s : State) : State :=
  { s with safety := { s.safety with mon := tblSet (fun _ => Sentinel.blank) s.safety.mon n d } }

/-- A 1 ms sample of the safety core's own monitor (R131, R133, R134, R191). Trouble is declared and cleared under R56 and
R57. -/
def monitorSample (n mv : Nat) (s : State) : State :=
  if s.safety.run then
    let r := s.safety.record
    let d := timeBands (recEn r n) 1 (sampleBand r n mv (mSen s n))
    let set_ := recEn r n && dwellDone d.troubleRun (recTdw r n)
    let clr := !recEn r n || dwellDone d.clearRun (recTdw r n)
    let tr := (mSen s n).trouble
    let tr' := if set_ then true else if clr then false else tr
    let s1 := setMon n { d with trouble := tr' } s
    if tr' = tr then s1 else setCause (128 + n) 1 tr' s1
  else s

/-- MONITOR_SAMPLE. -/
def execMonitorSample (n : Fin 16) (mv : Nat) (s : State) : Res := finish s (monitorSample n.val mv s)

/-- SC_SENTINEL_ALARM_LATCH (R132-R134): the monitor's alarm dwell is complete. -/
def execScSentinelAlarmLatch (n : Fin 16) (s : State) : Res :=
  let d := mSen s n.val
  finish s (if s.safety.run && recEn s.safety.record n.val && dwellDone d.alarmRun (recAdw s.safety.record n.val) then
      latchAlarm n.val 0 s
    else s)

/-! ### Comparison with Gesso (Table 02-6, R93, R94, R162-R167, R190) -/

/-- A reading of mv, a sample's code of 12 mV (log 128), lies within 24 mV of a threshold of sentinel n. -/
def nearTh (r : List Word) (n mv : Nat) : Bool :=
  decide (0 < countTh r n fun t => decide (t ≤ mv + 24) && decide (mv ≤ t + 24))

/-- The disagreement rows of Table 02-6 for the snapshot: item, index, and whether the row differs now. -/
def snapshotRows (s : State) : List (Nat × Nat × Bool) :=
  let g := s.gesso.snap
  let r := s.safety.record
  let own := (masksOf s (s.safety.alarms &&& ~~~s.safety.sil &&& 0x7FFFF) &&& 0xF) |||
    (masksOf s (s.safety.alarms &&& 0x7FFFF) &&& 0xFFFF0)
  (((List.range 16).filter fun n =>
      (mSen s n).known && !nearTh r n ((g.codes.getD n 0).toNat * 12) && !nearTh r n ((mSen s n).code.toNat * 12)).map
    fun n => (1, n, decide ((g.bands.getD n .normal) ≠ (mSen s n).band))) ++
  ((List.range 19).map fun i => (2, i, g.trip.getLsbD i != s.safety.alarms.getLsbD i)) ++
  ((List.range 20).map fun i => (3, i, g.outCmd.getLsbD i != own.getLsbD i)) ++
  (if g.settled then
    (List.range 20).map fun i => (4, i, g.outFb.getLsbD i != g.comb.getLsbD i) else []) ++
  (if 3 < g.nth then [(5, 0, decide (g.crc ≠ s.safety.recordCrc))] else [])

/-- A row is judged by time, not by snapshots in a row: trips and commands, by XCHK_TMO. -/
def rowTimed (item : Nat) : Bool := item == 2 || item == 3

/-- The run of a row's difference after this snapshot: snapshots in a row, or the easel time of the first one plus 1. -/
def rowRun (s : State) (item k : Nat) : Nat :=
  let r := tblGet (fun _ => 0) s.safety.disRun k
  if rowTimed item then (if r = 0 then s.gesso.snap.at_ + 1 else r) else r + 1

/-- The run is long enough for a disagreement (Table 02-6): 3 snapshots for bands, XCHK_TMO for trips and commands, 2 snapshots
for feedback, 1 for the record. -/
def rowReached (s : State) (item run : Nat) : Bool :=
  match item with
  | 1 => decide (3 ≤ run)
  | 4 => decide (2 ≤ run)
  | 5 => decide (1 ≤ run)
  | _ => decide (run + recTmo s.safety.record ≤ s.gesso.snap.at_ + 1)

/-- One row judged: its run goes on or starts again, and a disagreement that begins is recorded in SAFE.XDIS and in the
fault log (R166), a trouble cause (4, 4); it lasts while the row differs. -/
def judgeRow (s : State) (row : Nat × Nat × Bool) : State :=
  let (item, idx, diff) := row
  let k := 32 * item + idx
  let run := if diff then rowRun s item k else 0
  let was := s.safety.disNow.contains k
  let on := diff && (was || rowReached s item run)
  let s1 : State := { s with safety := { s.safety with
    disRun := tblSet (fun _ => 0) s.safety.disRun k run
    disNow := if on && !was then s.safety.disNow ++ [k] else if on then s.safety.disNow
              else s.safety.disNow.filter fun j => j != k } }
  if on && !was then
    evt 346 <| raiseCause 260 k false (logPush 0x012 (BitVec.ofNat 32 (item + 8 * idx)) { s1 with safety := { s1.safety with
      xdisItem := BitVec.ofNat 3 item, xdisIndex := BitVec.ofNat 5 idx, xdisCnt := s1.safety.xdisCnt + 1 } })
  else if was && !on then dropCause 260 k s1
  else s1

/-- SNAPSHOT_COMPARE: the safety core reads Gesso's snapshot, once in the frame after it (R91), notes trips it has not latched
(R167), which hold the emergency set (R28), and judges every row of Table 02-6; no output changes (R94, R190). -/
def execSnapshotCompare (s : State) : Res :=
  finish s (if s.safety.run && s.gesso.snap.published && decide (s.safety.lastCmp ≠ s.gesso.chalCount) then
      let only := s.gesso.snap.trip &&& s.gesso.trip &&& ~~~(s.safety.alarms.setWidth 19)
      let s0 : State := { s with safety := { s.safety with
        gessoOnly := only, lastCmp := s.gesso.chalCount } }
      let s1 := if only = 0 then s0 else setHeld true s0
      (snapshotRows s1).foldl judgeRow s1
    else s)

/-! ### Detection functions (R140-R151) -/

/-- Criterion j's configuration (Table 03-9): KIND, CH, ARB, PLAUS and THR in codes, TIME in sub-ticks, HYST in codes. -/
def crKind (s : State) (j : Nat) : Nat := fld (par s (parAddr 4 (0x100 + j))) 0 3
def crCh (s : State) (j : Nat) : Nat := fld (par s (parAddr 4 (0x100 + j))) 3 7
def crArb (s : State) (j : Nat) : Bool := (par s (parAddr 4 (0x100 + j))).getLsbD 10
def crPlaus (s : State) (j : Nat) : Int := fld (par s (parAddr 4 (0x100 + j))) 16 16 * 256
def crThr (s : State) (j : Nat) : Int := ((par s (parAddr 4 (0x200 + j))).setWidth 24).toInt
def crTime (s : State) (j : Nat) : Nat := fld (par s (parAddr 4 (0x300 + j))) 0 16 * ms
def crHyst (s : State) (j : Nat) : Int := fld (par s (parAddr 4 (0x300 + j))) 16 16 * 256

/-- Criterion j's run-time state. -/
def crit (s : State) (j : Nat) : Criterion := tblGet (fun _ => Criterion.blank) s.safety.crit j
def setCrit (j : Nat) (c : Criterion) (s : State) : State :=
  { s with safety := { s.safety with crit := tblSet (fun _ => Criterion.blank) s.safety.crit j c } }

/-- Detection function d: EN, CLASS, VOTE; its criteria in use, valid and confirmed. -/
def dfCtl (s : State) (d : Nat) : Word := par s (parAddr 4 (0x080 + d))
def dfUsed (s : State) (d : Nat) : List Nat := (List.range 4).filter fun i => crKind s (4 * d + i) != 0
def dfConfirmed (s : State) (d : Nat) : Nat := ((dfUsed s d).filter fun i => (crit s (4 * d + i)).confirmed).length
/-- A criterion in use is invalid: its last result was, or its channel is out of service (R140). -/
def critInvalid (s : State) (j : Nat) : Bool := crKind s j != 0 && ((crit s j).invalid || !chInService s (crCh s j))
def dfValid (s : State) (d : Nat) : Nat := ((dfUsed s d).filter fun i => !critInvalid s (4 * d + i)).length
def dfVote (s : State) (d : Nat) : Nat := fld (dfCtl s d) 3 3
/-- R151: fewer valid criteria than VOTE. -/
def dfDegraded (s : State) (d : Nat) : Bool := (dfCtl s d).getLsbD 0 && decide (dfValid s d < dfVote s d)

/-- The trouble of detection function d: an invalid, implausible or unarbitrated criterion, or degradation (R151). -/
def dfTrouble (s : State) (d : Nat) : Bool :=
  (dfCtl s d).getLsbD 0 && (dfDegraded s d ||
    (dfUsed s d).any fun i => let c := crit s (4 * d + i); critInvalid s (4 * d + i) || c.implaus || c.unarb)

/-- Detection function d judged: VOTE confirmed criteria latch its alarm (R150); invalid, implausible or unarbitrated
criteria and degradation are its trouble (R151, area 8). -/
def judgeDf (d : Nat) (s : State) : State :=
  let s1 := setCause (512 + d) 0 (dfTrouble s d) s
  if (dfCtl s1 d).getLsbD 0 && decide (dfVote s1 d ≤ dfConfirmed s1 d) then latchAlarm (22 + d) 0 s1 else s1

/-- A criterion becomes true: it asks the arbiter, from the CONV reserve of the tick (R145, R715), or is confirmed at once (R149).
-/
def critTrue (j : Nat) (s : State) : State :=
  let c := crit s j
  if c.isTrue then s
  else if crArb s j then
    askArbiter j (setCrit j { c with isTrue := true, arbDue := some (now s + fld (par s (parAddr 4 0x006)) 0 8 * ms) } s)
  else judgeDf (j / 4) (setCrit j { c with isTrue := true, confirmed := true } s)

/-- CRITERION_DWELL_EXPIRY (R141, R142, R189): every result since the run began has been valid and beyond THR for TIME. -/
def execCriterionDwellExpiry (j : Fin 256) (s : State) : Res :=
  finish s (if s.safety.run && (crKind s j.val = 1 || crKind s j.val = 2) then
      match (crit s j.val).since with
      | some t => if passed s t (crTime s j.val) then critTrue j.val s else s
      | none => s
    else s)

/-- ARB_TIMEOUT (R148): no arbiter result within SAFE.ARB_TMO, or no arbiter, where the same time is waited for (log 128): confirmed
without plausibility. -/
def execArbTimeout (j : Fin 256) (s : State) : Res :=
  finish s (let c := crit s j.val
    match c.arbDue with
    | some t => if s.safety.run && decide (t ≤ now s) && c.isTrue then
        judgeDf (j.val / 4) (setCrit j.val { c with confirmed := true, unarb := true, arbDue := none } s)
      else s
    | none => s)

/-! ### Trouble chirp and the acknowledge sequence (R168-R185) -/

/-- SAFETY_TROUBLE_CHIRP (R154, R169, R170): the conditions of SAFE.CTL.CHIRP hold and 60 s have passed since the last. -/
def execSafetyTroubleChirp (s : State) : Res :=
  let due := match s.safety.lastChirp with | some t => passed s t (60 * sec) | none => true
  finish s (if chirpCond s && due && atTick s then
      chirpMask (BitVec.ofNat 4 (fld (par s (parAddr 4 0)) 2 4))
        { s with safety := { s.safety with lastChirp := some (now s) } }
    else chirpSettle s)

/-- The write of ACK_KEY that waits with operation op, once its minor tick has come (R171). -/
def ackDue (s : State) (op : Nat) : Option Nat :=
  match s.safety.ackPending with
  | some (w, t) => if s.safety.run && fld w 8 8 == op && tickPast s t then some (fld w 0 8) else none
  | none => none

/-- The outcome of an acknowledge operation is reported and logged (code 0x011), and the write is done with. -/
def ackDone (op res : Nat) (s : State) : State :=
  evt (if res = 1 then 349 else 350) <| logPush 0x011 (BitVec.ofNat 32 (op + 256 * res)) { s with safety := { s.safety with
    ackRes := BitVec.ofNat 2 res, ackPending := none } }

/-- Silence on both sides (R174, step 3): every latched alarm of the safety core, and every Gesso trip. -/
def silenceAll (s : State) : State :=
  gessoSilence s.gesso.trip (releasePath false { s with safety := { s.safety with sil := s.safety.sil ||| s.safety.alarms } })

/-- Every latched alarm of either side is silenced (ALARM_STAT.SILENCED, R173). -/
def allSilenced (s : State) : Bool :=
  decide (s.safety.alarms &&& ~~~s.safety.sil = 0) && decide (s.gesso.trip &&& ~~~s.gesso.silenced = 0)

/-- ACK_SILENCE (R171, R172, R174, R180). -/
def execAckSilence (s : State) : Res :=
  finish s (match ackDue s 0xA5 with
    | none => s
    | some tok =>
      if tok ≠ s.safety.token.toNat then ackDone 0xA5 2 s
      else if s.sys.tier ≠ 2 then ackDone 0xA5 3 s
      else mirrorForwardAck 0xA5 (ackDone 0xA5 1 (silenceAll s)))

/-- The safety core alarms that RESET cannot clear: sentinels not NORMAL and not disabled (R175), detection functions
with VOTE confirmed criteria (R176); client classes always clear (R177). -/
def stillHeld (s : State) : BitVec 86 :=
  (List.range 86).foldl (fun w i =>
    setBit w i (s.safety.alarms.getLsbD i &&
      (if i < 16 then !(decide ((mSen s i).band = .normal) || !recEn s.safety.record i)
       else if i < 22 then false
       else decide (dfVote s (i - 22) ≤ dfConfirmed s (i - 22))))) (0 : BitVec 86)

/-- The reset step (steps 5 and 6): RESET of Gesso's sources 0-18, the core's own alarms, and release of every path
latch command that no remaining alarm names. The alarm held for the change of set goes when none remains latched on
either side (step 7, R29). -/
def resetAll (s : State) : State :=
  let keep := stillHeld s
  let s1 := gessoResetTrips (BitVec.allOnes 19) s
  let s2 : State := { s1 with safety := { s1.safety with
    alarms := keep, sil := s1.safety.sil &&& keep, unknown := false
    gessoOnly := s1.safety.gessoOnly &&& s1.gesso.trip
    blocked := decide (keep ≠ 0) || decide (s1.gesso.trip ≠ 0) } }
  releasePath true (setHeld (s2.safety.held && anyAlarm s2) s2)

/-- ACK_RESET (the token is tested before the tier and the silence, log 79; R29, R157, R171-R173, R175-R177, R180, R184). -/
def execAckReset (s : State) : Res :=
  finish s (match ackDue s 0xC3 with
    | none => s
    | some tok =>
      if tok ≠ s.safety.token.toNat then ackDone 0xC3 2 s
      else if s.sys.tier ≠ 2 || !allSilenced s then ackDone 0xC3 3 s
      else mirrorForwardAck 0xC3 (ackDone 0xC3 1 (resetAll s)))

/-- TROUBLE_ACK: present causes are acknowledged, event causes end (R179, R1221), CORE clears; when the last present
cause ends, one HUB_BCAST with code 0 is sent (R541). -/
def troubleAck (s : State) : State :=
  let ended := s.safety.causes.filter fun c => c.event
  let kept := (s.safety.causes.filter fun c => !c.event).map fun c => { c with acked := true }
  let s1 : State := { s with safety := { s.safety with causes := kept, core := false } }
  chirpSettle (if kept.isEmpty && !ended.isEmpty then hubBcast 0 s1 else s1)

/-- ACK_TROUBLE_ACK (R171, R172, R179). -/
def execAckTroubleAck (s : State) : Res :=
  finish s (match ackDue s 0x96 with
    | none => s
    | some tok =>
      if tok ≠ s.safety.token.toNat then ackDone 0x96 2 s
      else mirrorForwardAck 0x96 (ackDone 0x96 1 (troubleAck s)))

end Sys2Proof.Machine
end

