-- ==== Sys2Proof/Machine/Converters.lean ====
section
/-!
DEFINITION. Converters.lean: the commands of the converters (12_converters.md) and what a result does to the criteria
(R140-R147). The strokes are in Strokes.lean.
-/

namespace Sys2Proof.Machine

/-! ### Criteria (R140-R147) -/

/-- A criterion that has become false. -/
def critFalse (c : Criterion) : Criterion :=
  { c with isTrue := false, confirmed := false, implaus := false, unarb := false, arbDue := none }

/-- The newest kept result that is at least TIME old (R143; the reading log 84). -/
def critRef (s : State) (j : Nat) (c : Criterion) : Option (Nat × Int) := c.hist.find? fun e => decide (e.1 + crTime s j ≤ now s)

/-- The results kept with a new one: those younger than TIME and the newest of the others. -/
def critKeep (s : State) (j : Nat) (code : Int) (c : Criterion) : List (Nat × Int) :=
  (now s, code) :: (c.hist.filter fun e => decide (now s < e.1 + crTime s j)) ++ (critRef s j c).toList

/-- One result on the channel of criterion j. RISE and FALL compare with the newest result at least TIME old (log 84). -/
def critResult (code : Int) (valid : Bool) (j : Nat) (s : State) : State :=
  let c := crit s j
  if !valid then judgeDf (j / 4) (setCrit j { critFalse c with invalid := true, hist := [], since := none } s)
  else
    let thr := crThr s j
    let hyst := crHyst s j
    let c0 := { c with invalid := false }
    match crKind s j with
    | 1 =>
      let c1 := { c0 with since := if thr ≤ code then some (c.since.getD (now s)) else none, hist := critKeep s j code c }
      judgeDf (j / 4) (setCrit j (if c.isTrue ∧ code < thr - hyst then critFalse c1 else c1) s)
    | 2 =>
      let c1 := { c0 with since := if code ≤ thr then some (c.since.getD (now s)) else none, hist := critKeep s j code c }
      judgeDf (j / 4) (setCrit j (if c.isTrue ∧ thr + hyst < code then critFalse c1 else c1) s)
    | k =>
      let c1 := { c0 with hist := critKeep s j code c }
      match critRef s j c with
      | none => judgeDf (j / 4) (setCrit j c1 s)
      | some e =>
        let change := if k = 3 then code - e.2 else e.2 - code
        if c.isTrue ∧ change < thr - hyst then judgeDf (j / 4) (setCrit j (critFalse c1) s)
        else
          let s1 := judgeDf (j / 4) (setCrit j c1 s)
          if thr ≤ change then critTrue j s1 else s1

/-- The safety core takes a result of a channel (R140, R701). -/
def coreResult (ch : Nat) (code : Int) (flags : Byte) (s : State) : State :=
  if s.safety.run then
    let valid := decide (flags &&& 0x0F = 0) && chInService s ch
    ((List.range 256).filter fun j => crKind s j != 0 && crCh s j == ch).foldl (fun st j => critResult code valid j st) s
  else s

/-- Criteria on some channels become invalid: the channel left service (R140, R144, R151). -/
def criteriaLost (gone : Nat → Bool) (s : State) : State :=
  (List.range 256).foldl (fun st j =>
    if st.safety.run && crKind st j != 0 && gone (crCh st j) && !(crit st j).invalid then critResult 0 false j st else st) s

/-- The run of results on the channel of criterion j at or beyond THR, from the kept results, newest first (R141, R142). -/
def critSince (s : State) (j : Nat) : Option Nat :=
  let beyond (e : Nat × Int) : Bool :=
    if crKind s j = 1 then decide (crThr s j ≤ e.2) else crKind s j == 2 && decide (e.2 ≤ crThr s j)
  ((crit s j).hist.takeWhile beyond).getLast?.map fun e => e.1

/-- A detection function is judged when a landed change of its parameters or of its channels' service makes it so (R150, R151). -/
def judgeLanded (d : Nat) (s : State) : State := if s.safety.run then judgeDf d s else s

/-- A landed change of a criterion (log 84): of KIND or CH, it starts anew; of THR, the run of results beyond it is taken again from the
results kept. -/
def critLanded (anew : Bool) (j : Nat) (s : State) : State :=
  judgeLanded (j / 4) (setCrit j (if anew then Criterion.blank else { crit s j with since := critSince s j }) s)

/-- The safety core takes an arbiter result (R146, R147, R720). -/
def coreArb (j : Nat) (ch : Nat) (code : Int) (flags : Byte) (s : State) : State :=
  let c := crit s j
  if !s.safety.run || c.arbDue.isNone || !c.isTrue || decide (flags &&& 0x0B ≠ 0) then s
  else
    let prim := match (convCh s ch).last with | some r => r.code | none => 0
    if (code - prim).natAbs ≤ (crPlaus s j).toNat then
      judgeDf (j / 4) (setCrit j { c with confirmed := true, arbDue := none } s)
    else evt 351 (judgeDf (j / 4) (setCrit j { c with implaus := true, arbDue := none } s))

/-! ### Results (R684-R687, R697-R699, R706-R711) -/

/-- round(8,388,608 x v / ref), half away from zero; the full scale of v's sign where the reference is 0. -/
def rawCode (v : Int) (ref : Nat) : Int :=
  if ref = 0 then (if v < 0 then -8388609 else 8388608)
  else
    let a := (2 * 8388608 * v.natAbs + ref) / (2 * ref)
    if v < 0 then -(a : Int) else a

/-- The code of a conversion and whether it overranged (R685, R686): `ovl` is the sign of an overload, positive true. -/
def resultCode (v : Int) (ref : Nat) (ovl : Option Bool) : Int × Bool :=
  let raw := rawCode v ref
  match ovl with
  | some true => (8388607, true)
  | some false => (-8388608, true)
  | none => (satI 24 raw, decide (satI 24 raw ≠ raw))

/-- The current of a conversion's channel drives the code upward: sourced into A (OW_DIR 0). -/
def drivesUp (c : Conversion) : Bool := !c.cfg.getLsbD 2

/-- A conversion with its open-wire current on saturates in the direction that the current drives (R704, R708). -/
def owSaturates (c : Conversion) (code : Int) (ovr : Bool) : Bool := c.ow && ovr && (decide (0 < code) == drivesUp c)

/-- After an overrange the modulator is reset and its recovery window opens (R687, R727). -/
def overrange (m : Nat) (c : Conversion) (s : State) : State :=
  let d := modulator s m
  setMod m { d with ovr := satInc d.ovr
                    recov := some (max (d.recov.getD 0) (lastSample c + 1600 + periods (c.k + 1) c.log c.num)) } s

/-- A result's last sample lies in the modulator's recovery window. -/
def inRecov (s : State) (m : Nat) (c : Conversion) : Bool :=
  match (modulator s m).recov with
  | some t => decide (lastSample c ≤ t)
  | none => false

/-- An entry written to the queue (R697-R699, Table 12-3): on a full queue it overwrites the oldest, is counted, carries
LOST, and the first loss after a read of Q_STAT is logged (R733). -/
def queueEntry (code : Int) (ch : Nat) (arb : Bool) (flags : Byte) (vis : Nat) (s : State) : State :=
  let q := s.conv
  let full := decide (q.head + 1 = q.tail)
  let fl := if full then flags ||| 0x80 else flags
  let w : DWord := BitVec.ofNat 64 ((code % 16777216).toNat + ch * 2 ^ 24 + arb.toNat * 2 ^ 31 + fl.toNat * 2 ^ 32 +
    q.seq.toNat * 2 ^ 40 + vis / tickLen % 128 * 2 ^ 56)
  let s1 : State := { s with conv := { q with
    queue := tblSet (fun _ => 0) q.queue q.head.toNat w, head := q.head + 1, seq := q.seq + 1
    tail := if full then q.tail + 1 else q.tail, lost := if full then q.lost + 1 else q.lost
    lostLogged := q.lostLogged || full } }
  if full && !q.lostLogged then logPush 0x040 (BitVec.ofNat 32 (ch + 6 * 256)) s1 else s1

/-- The easel time from which strokes see a result (R678, R728): the first tick boundary at or after its last sample plus
1.000 ms. -/
def visibleAt (c : Conversion) : Nat := (lastSample c + ms + tickLen - 1) / tickLen * tickLen

/-- Three UNDER results in a row on a channel with UNI and SWAP_EN exchange its inputs (R709-R712). -/
def swapCheck (ch : Nat) (cfg : Word) (under : Bool) (s : State) : State :=
  let c := convCh s ch
  let run := if under then c.under + 1 else 0
  if cfg.getLsbD 4 && cfg.getLsbD 5 && decide (3 ≤ run) then
    parPush 0 (0x2A00 + ch) (bit1 32 (!c.swapped)) (logPush 0x040 (BitVec.ofNat 32 (ch + 5 * 256))
      (setCh ch { c with under := 0, swapped := !c.swapped, swapCnt := satInc c.swapCnt } s))
  else setCh ch { c with under := run } s

/-- A result of a channel's own conversion is delivered (R677, R684-R687, R696, R697, R701, R706, R708-R711). -/
def deliver (m : Nat) (c : Conversion) (v : Int) (ref : Nat) (ovl : Option Bool) (s : State) : State :=
  let ch := c.ch
  let (code, ovr) := resultCode (if c.swapped then -v else v) ref ovl
  let under := c.cfg.getLsbD 4 && decide (code < -(8388608 * (fld (par s (parAddr 5 0)) 16 10 : Int) / 1000))
  let owSat := owSaturates c code ovr
  let flags : Byte := BitVec.ofNat 8 ((ovr || under).toNat + 2 * (inRecov s m c).toNat +
    4 * ((convCh s ch).ow || owSat).toNat + 8 * (refLow s m c).toNat + 16 * under.toNat + 32 * c.swapped.toNat)
  let vis := visibleAt c
  let d := convCh s ch
  let r : ConvRes := { code := code, flags := flags, seq := s.conv.seq, vis := vis
                       no := (match d.last with | some x => x.no + 1 | none => 0) }
  let old := d.recent.filter fun x => decide (now s < x.vis)
  let seen := match d.recent.find? fun x => decide (x.vis ≤ now s) with | some x => [x] | none => []
  let s1 := setCh ch { d with last := some r, recent := r :: old ++ seen
                              good := if flags &&& 0x0B = 0 then some code else d.good } s
  let s2 := if ovr then overrange m c s1 else s1
  let s3 := if c.que then queueEntry code ch false flags vis s2 else s2
  let s4 := evt (80 + m) (if ovr then evt (96 + m) s3 else s3)
  coreResult ch code flags (swapCheck ch c.cfg under s4)

/-- CONV_RESULT_DELIVERY: the next result of the single or continuous conversion of modulator m, no earlier than its last
sample: the differential voltage v and the reference in the same unit, and the sign of an overload. -/
def execConvResultDelivery (m : Fin 16) (v : Int) (ref : Nat) (ovl : Option Bool) (s : State) : Res :=
  finish s (match (modulator s m.val).conv with
    | some c =>
      if (c.kind = .single ∨ c.kind = .cont) ∧ lastSample c ≤ now s then
        let s1 := deliver m.val c v ref ovl s
        if c.kind = .single then modIdle m.val s1
        else setMod m.val { modulator s1 m.val with
          conv := some { c with done := c.done + 1, swapped := (convCh s1 c.ch).swapped } } s1
      else s
    | none => s)

/-- CONVERSION_BEGIN (R670, R671, R679-R681, R691, R702, R723): at a tick boundary the last of the strokes of the tick
before begins its conversion on modulator m; the others are counted as abandoned. -/
def execConversionBegin (m : Fin 16) (s : State) : Res :=
  let d := modulator s m.val
  let due := d.want.filter fun w => tickPast s w.2.2
  finish s (if atTick s then
      match due.getLast? with
      | none => s
      | some (ch, test, _) =>
        let n := due.length - 1
        let s1 := setMod m.val { d with want := d.want.filter fun w => !tickPast s w.2.2
                                        abort := if d.abort.toNat + n < 255 then d.abort + BitVec.ofNat 8 n else 255 } s
        let s2 := evtN (112 + m.val) n s1
        if chInService s2 ch then
          let streams := match d.conv with | some c => decide (c.kind = .cont) && c.ch == ch | none => false
          let s3 := if test && streams then setMod m.val { modulator s2 m.val with conv := none } s2 else s2
          let kind := if test then .test else if (chOrder s3 ch).getLsbD 8 then .cont else .single
          let s4 := beginConv m.val (chConversion s3 ch kind) s3
          if test && (streams || decide (d.restart = some ch)) then setMod m.val { modulator s4 m.val with restart := some ch } s4
          else s4
        else s2
    else s)

/-- The spans of REF_OK = 0 of a modulator whose register REF_OK reads `was` and, after a check, `is` (R696). -/
def refSpans (t : Nat) (was is : Bool) (d : Modulator) : Modulator :=
  { d with
    lowSince := if is then none else if was then some t else some (d.lowSince.getD t)
    lowUntil := match d.lowSince, was || is with
      | some _, true => some (if was then (d.refSince.getD t) + 2 * ms else t)
      | _, _ => d.lowUntil }

/-- REFERENCE_CHECK (R690, R694-R696, R732, R733): the monitor's check of modulator m's reference. -/
def execReferenceCheck (m : Fin 16) (good : Bool) (s : State) : Res :=
  let d := modulator s m.val
  finish s (if (domAvail s).getLsbD 6 && d.refSince.isSome then
      let g := if good then d.goodRun + 1 else 0
      let b := if good then 0 else d.badRun + 1
      let fault := if d.refFault then decide (g < 16) else decide (3 ≤ b)
      let s1 := setMod m.val { d with lastGood := good, goodRun := g, badRun := b, refFault := fault } s
      let s2 := setMod m.val (refSpans (now s) (refOk s m.val) (refOk s1 m.val) (modulator s1 m.val)) s1
      if fault = d.refFault then s2
      else logPush 0x040 (BitVec.ofNat 32 (m.val + (if fault then 1 else 2) * 256)) (setCause (448 + m.val) 0 fault s2)
    else s)

/-- OPENWIRE_TEST_RESULT (R704, R705, R727, R732, R733): the test of modulator m ends; a stream it stopped restarts at the
next boundary (R707). A test ran inside a recovery window when its last sample lies in it (DEDUCED from R687, log 136). -/
def execOpenwireTestResult (m : Fin 16) (v : Int) (ref : Nat) (ovl : Option Bool) (s : State) : Res :=
  finish s (match (modulator s m.val).conv with
    | some c =>
      if c.kind = .test ∧ lastSample c ≤ now s then
        let ch := c.ch
        let (code, ovr) := resultCode (if c.swapped then -v else v) ref ovl
        let d := convCh s ch
        let far := match d.good with
          | some g => decide (fld (par s (parAddr 5 0)) 0 16 * 256 ≤ (code - g).natAbs)
          | none => false
        let open_ := (ovr && (decide (0 < code) == drivesUp c)) || far
        let void := inRecov s m.val c || refLow s m.val c
        let s1 := if ovr then evt (96 + m.val) (overrange m.val c s) else s
        let s2 := modIdle m.val s1
        if void then s2
        else
          let s3 := setCh ch { convCh s2 ch with ow := open_, tested := true
                                                 owCnt := if open_ then d.owCnt + 1 else d.owCnt } s2
          let s4 := setCause (320 + ch) 0 (open_ && (chOrder s3 ch).getLsbD 9) s3
          if open_ = d.ow then s4 else logPush 0x040 (BitVec.ofNat 32 (ch + (if open_ then 3 else 4) * 256)) s4
      else s
    | none => s)

/-- STREAM_RESTART (R707): at the first tick boundary after the test's last sample the stream restarts from rest. -/
def execStreamRestart (m : Fin 16) (s : State) : Res :=
  let d := modulator s m.val
  finish s (match d.restart with
    | some ch =>
      if atTick s && d.conv.isNone then
        let s1 := setMod m.val { d with restart := none } s
        if chInService s1 ch && (chOrder s1 ch).getLsbD 8 then beginConv m.val (chConversion s1 ch .cont) s1 else s1
      else s
    | none => s)

/-! ### Arbiter (R713-R721) -/

/-- ARBITER_RESAMPLE_BEGIN (R714, R716, R718): the first waiting request begins at a tick boundary after it at which the arbiter
is idle, not while a test of its channel runs. -/
def execArbiterResampleBegin (s : State) : Res :=
  finish s (match s.conv.arbWait with
    | (ch, j) :: rest =>
      let waited := s.conv.arbAt.head?.all fun t => decide (t < tickNo s)
      let testing := match (modulator s (ch % 16)).conv with
        | some c => decide (c.kind = .test) && c.ch == ch
        | none => false
      if atTick s && isArbiter s && (modulator s 15).conv.isNone && !testing && waited then
        let (num, log) := arbClock s
        let c : Conversion := { ch := ch, kind := .arbiter, k := fld (arbCtl s) 1 3, log := log, num := num, start := 0, delay := 0
                                done := 0, swapped := (convCh s ch).swapped, crit := j, cfg := chCfg s ch, que := true
                                ow := owCurrent s ch false }
        beginConv 15 c { s with conv := { s.conv with
          arbWait := rest, arbAt := s.conv.arbAt.drop 1, arbCh := BitVec.ofNat 7 ch } }
      else s
    | [] => s)

/-- A channel's re-sample passes the CONV step of Proof when it carries no IMPL (R1074). -/
def proofArb (ch : Nat) (impl : Bool) (s : State) : State :=
  if s.proof.running && s.proof.step == 3 && s.proof.stepAt.isSome then
    { s with proof := { s.proof with
      tested := s.proof.tested + 1
      fails := if impl then s.proof.fails ++ [(ch, 0)] else s.proof.fails } }
  else s

/-- ARBITER_RESULT (R146, R147, R719, R720, R727): the re-sample's result: IMPL against the channel's latest good result,
an entry in the queue, and the safety core's comparison. -/
def execArbiterResult (v : Int) (ref : Nat) (ovl : Option Bool) (s : State) : Res :=
  finish s (match (modulator s 15).conv with
    | some c =>
      if c.kind = .arbiter ∧ lastSample c ≤ now s then
        let ch := c.ch
        let (code, ovr) := resultCode (if c.swapped then -v else v) ref ovl
        let impl := match (convCh s ch).good with
          | some g => decide (fld (arbCtl s) 24 8 * 256 < (code - g).natAbs)
          | none => false
        let owSat := owSaturates c code ovr
        let flags : Byte := BitVec.ofNat 8 (ovr.toNat + 2 * (inRecov s 15 c).toNat + 4 * owSat.toNat +
          8 * (refLow s 15 c).toNat + 32 * c.swapped.toNat + 64 * impl.toNat)
        let s1 := if ovr then evt 111 (overrange 15 c s) else s
        let s2 := queueEntry code ch true flags (visibleAt c) (evt 95 (modIdle 15 s1))
        let s3 : State := if impl then { s2 with conv := { s2.conv with impl := s2.conv.impl + 1 } } else s2
        (match c.crit with | some j => coreArb j ch code flags s3 | none => proofArb ch impl s3)
      else s
    | none => s)

/-! ### The queue's registers (R700) -/

/-- A value fetched for the host: its low half driven, its high half latched into PDATA_HI (R379). -/
def fetched (w : Word) (s : State) : State :=
  { s with host := { s.host with dOut := w.extractLsb' 0 16, hiLatch := w.extractLsb' 16 16 } }

/-- The entry at Q_TAIL, 0 on an empty queue. -/
def qEntry (s : State) : DWord := if s.conv.head = s.conv.tail then 0 else tblGet (fun _ => 0) s.conv.queue s.conv.tail.toNat

/-- What a read of Q_LO does beside returning the low word: the high word is latched. -/
def qLoTaken (s : State) : State := { s with conv := { s.conv with hiLatch := (qEntry s).extractLsb' 32 32 } }

/-- What a read of Q_HI does: Q_TAIL advances unless the queue is empty. -/
def qHiTaken (s : State) : State :=
  { s with conv := { s.conv with tail := if s.conv.head = s.conv.tail then s.conv.tail else s.conv.tail + 1 } }

end Sys2Proof.Machine
end

