-- ==== Sys2Proof/Machine/LoopOps.lean ====
section
/-!
DEFINITION. LoopOps.lean: the arithmetic of compensators, profile generators and Pentimento instances
(13_loop_engine.md).
-/

namespace Sys2Proof.Machine

/-! ### Access -/

def slot (s : State) (n : Nat) : Slot := tblGet (fun _ => Slot.blank) s.loop.slots n
def setSlot (n : Nat) (d : Slot) (s : State) : State :=
  { s with loop := { s.loop with slots := tblSet (fun _ => Slot.blank) s.loop.slots n d } }
def gen (s : State) (g : Nat) : Gen := tblGet (fun _ => Gen.blank) s.loop.gens g
def setGen (g : Nat) (d : Gen) (s : State) : State :=
  { s with loop := { s.loop with gens := tblSet (fun _ => Gen.blank) s.loop.gens g d } }
def pent (s : State) (i : Nat) : Pent := tblGet (fun _ => Pent.blank) s.loop.pents i
def setPent (i : Nat) (d : Pent) (s : State) : State :=
  { s with loop := { s.loop with pents := tblSet (fun _ => Pent.blank) s.loop.pents i d } }

/-- A sample of the table store. -/
def tabGet (s : State) (a : Nat) : Int := tblGet (fun _ => 0) s.loop.table a
def tabSet (a : Nat) (v : Int) (s : State) : State :=
  { s with loop := { s.loop with table := tblSet (fun _ => 0) s.loop.table a v } }

/-- LOOP.SCFG[n]: SET, MODE (ASAP), AW, DL. -/
def scfg (s : State) (n : Nat) : Word := par s (parAddr 6 (0x010 + n))
def slotSet (s : State) (n : Nat) : Nat := fld (scfg s n) 0 7
def slotAsap (s : State) (n : Nat) : Bool := (scfg s n).getLsbD 7
def slotAw (s : State) (n : Nat) : Bool := (scfg s n).getLsbD 8
def slotDl (s : State) (n : Nat) : Nat := fld (scfg s n) 9 11

/-! ### Compensators (R737-R746) -/

/-- Coefficient j of set c with its shift: 0-3 are b0-b3, 4-6 are a1-a3. -/
def coefOf (s : State) (c j : Nat) : Int × Nat :=
  if j < 4 then (sgn (par s (parAddr 6 (0x210 + 128 * j + c))), fld (par s (parAddr 6 (0x590 + c))) (5 * j) 5)
  else (sgn (par s (parAddr 6 (0x410 + 128 * (j - 4) + c))), fld (par s (parAddr 6 (0x610 + c))) (5 * (j - 4)) 5)

/-- One term added to or subtracted from the 72-bit accumulator (R740, R741), with the saturation noted. -/
def accTerm (neg : Bool) (acc : Int × Bool) (co : Int × Nat) (x : Int) : Int × Bool :=
  let p := co.1 * x * 2 ^ co.2
  let ps := satI 72 p
  let a := if neg then acc.1 - ps else acc.1 + ps
  (satI 72 a, acc.2 || decide (ps ≠ p) || decide (satI 72 a ≠ a))

/-- The raw output of an evaluation and whether anything saturated (R742). -/
def rawOut (s : State) (cmp3 : Bool) (n : Nat) (x0 : Int) : Int × Bool :=
  let d := slot s n
  let c := slotSet s n
  let a0 := accTerm false (0, false) (coefOf s c 0) x0
  let a1 := accTerm false a0 (coefOf s c 1) d.x1
  let a2 := accTerm false a1 (coefOf s c 2) d.x2
  let a3 := if cmp3 then accTerm false a2 (coefOf s c 3) d.x3 else a2
  let a4 := accTerm true a3 (coefOf s c 4) d.y1
  let a5 := accTerm true a4 (coefOf s c 5) d.y2
  let a6 := if cmp3 then accTerm true a5 (coefOf s c 6) d.y3 else a5
  let r := asr (a6.1 + 2 ^ 30) 31
  (satI 32 r, a6.2 || decide (satI 32 r ≠ r))

/-- LOOP.LO and LOOP.HI of the slot's set. -/
def slotLo (s : State) (n : Nat) : Int := sgn (par s (parAddr 6 (0x690 + slotSet s n)))
def slotHi (s : State) (n : Nat) : Int := sgn (par s (parAddr 6 (0x710 + slotSet s n)))

/-- The history after an evaluation (R744); y is the past output it stores. -/
def shiftSlot (cmp3 : Bool) (d : Slot) (x0 y : Int) : Slot :=
  if cmp3 then { d with x3 := d.x2, x2 := d.x1, x1 := x0, y3 := d.y2, y2 := d.y1, y1 := y }
  else { d with x2 := d.x1, x1 := x0, y2 := d.y1, y1 := y }

/-- F_SAT and CNT_SAT of an evaluation that saturated or was clamped (R746). -/
def noteSat (n : Nat) (sat : Bool) (s : State) : State :=
  if sat then evt 274 { s with loop := { s.loop with cntSat := s.loop.cntSat + 1
                                                     fSat := tblSet (fun _ => false) s.loop.fSat n true } }
  else s

/-- A slot that returns (R466-R468): past inputs the latest input, past outputs the output signal within the clamps. -/
def returnSlot (n : Nat) (x y : Int) (s : State) : State :=
  let y' := clampI (slotLo s n) (slotHi s n) y
  setSlot n { x1 := x, x2 := x, x3 := x, y1 := y', y2 := y', y3 := y', pend := none } s

/-- An overrun evaluation (R755). -/
def slotOverrun (n : Nat) (s : State) : State :=
  evt 275 { s with loop := { s.loop with cntOvr := s.loop.cntOvr + 1, fOvr := tblSet (fun _ => false) s.loop.fOvr n true } }

/-! ### Profile generators (R757-R759) -/

/-- The integer square root, rounded down, of a number below 2^132. -/
def isqrt (n : Nat) : Nat :=
  (List.range 66).foldl (fun r i => if (r + 2 ^ (65 - i)) * (r + 2 ^ (65 - i)) ≤ n then r + 2 ^ (65 - i) else r) 0

/-- The generator after one step toward a target, with limits V, A, J and settling band S in the scale of 2^-47. -/
def profStep (d : Gen) (target V A J S : Int) : Gen :=
  let t := target * 65536
  let e := t - d.p
  let settled := decide ((e.natAbs : Int) ≤ S) && decide ((d.v.natAbs : Int) ≤ A)
  let c := if J = 0 then 0 else min V (A * A / (2 * J))
  let vs := min V ((isqrt (c * c + 2 * A * (e.natAbs : Int)).toNat : Int) - c)
  let at_ := clampI (-A) A ((if e < 0 then -vs else if e = 0 then 0 else vs) - d.v)
  let a := if settled then 0 else if J = 0 then at_ else d.a + clampI (-J) J (at_ - d.a)
  let v := if settled then 0 else clampI (-V) V (d.v + a)
  let p := if settled then t else clampI (-(2 ^ 48)) (2 ^ 48 - 1) (d.p + v)
  { p := p, v := v, a := a, atTgt := settled, vlim := decide ((v.natAbs : Int) = V), alim := decide ((a.natAbs : Int) = A) }

/-- The output of a generator. -/
def profOut (d : Gen) : Word := sat32 (asr (d.p + 32768) 16)

/-- The limits of generator g. -/
def profV (s : State) (g : Nat) : Int := (par s (parAddr 7 g)).toNat * 65536
def profA (s : State) (g : Nat) : Int := (par s (parAddr 7 (0x100 + g))).toNat * 256
def profJ (s : State) (g : Nat) : Int := (par s (parAddr 7 (0x200 + g))).toNat
def profS (s : State) (g : Nat) : Int := fld (par s (parAddr 7 (0x300 + g))) 0 24 * 65536

/-- A generator that returns: its output, velocity and acceleration 0 (Table 08-4). -/
def returnGen (g : Nat) (out : Int) (s : State) : State :=
  setGen g { gen s g with p := out * 65536, v := 0, a := 0 } s

/-! ### Pentimento (R760-R767, R779) -/

def pentCfg (s : State) (i : Nat) : Word := par s (parAddr 8 i)
def pentL (s : State) (i : Nat) : Nat := fld (par s (parAddr 8 (0x020 + i))) 0 12
def pentBase (s : State) (i : Nat) : Nat := fld (par s (parAddr 8 (0x020 + i))) 16 16
def pentClamp (s : State) (i : Nat) : Int := fld (par s (parAddr 8 (0x060 + i))) 0 23

/-- The table index of an instance (Table 13-1); q is the value of its angle signal. A standby takes the tick that it replays (R1009). -/
def pentIndex (s : State) (i : Nat) (q : Word) : Nat :=
  let l := pentL s i
  match fld (pentCfg s i) 0 2 with
  | 0 => canvasTime s / tickLen / max 1 (fld (par s (parAddr 8 (0x080 + i))) 0 24) % l
  | 1 => s.time.calSec.toNat % 86400 * l / 86400
  | _ => q.toNat * l / 2 ^ 32

/-- An instance starts or returns: its next step is the first (R766). -/
def pentRestart (i : Nat) (s : State) : State := setPent i { pent s i with started := false } s

/-- A landed change of SRC, STEP, L or BASE sets WAIT at the landing (R779). -/
def pentLanded (i : Nat) (s : State) : State := setPent i { pent s i with started := false, wait := true } s

/-- One step of instance i with error e and angle q: the new state and its output (R760-R767). -/
def pentStep (i : Nat) (e : Int) (q : Word) (s : State) : State × Word :=
  let l := pentL s i
  let d := pent s i
  if l = 0 then (s, 0)
  else
    let cfg := pentCfg s i
    let cal := decide (fld cfg 0 2 = 1)
    let nocal := cal && !s.time.calValid
    let k := if nocal then d.k else pentIndex s i q
    let first := !d.started
    let moved := decide (k ≠ d.k)
    let dist := min ((k + l - d.k) % l) ((d.k + l - k) % l)
    let skip := !first && moved && decide (1 < dist)
    let wait := first || d.wait
    let left := if first then l else if moved && d.wait then d.left - 1 else d.left
    let learn := !first && moved && cfg.getLsbD 2 && !d.wait && !nocal
    let clampAt := pentClamp s i
    let a := pentBase s i + k
    let w := tabGet s a
    let g := sgn (par s (parAddr 8 (0x040 + i)))
    let f := fld cfg 15 5
    let upd := clampI (-clampAt) clampAt (w - (if f = 0 then 0 else asr w f) + asr (g * e + 2 ^ 38) 39)
    let s1 := setPent i { d with k := k, started := true, wait := wait, left := left, nocal := nocal
                                 skip := if skip then d.skip + 1 else d.skip } s
    let s2 := if learn then evt 277 (tabSet a upd s1) else s1
    let s3 := if skip then evt 278 s2 else s2
    let out := if cfg.getLsbD 3 then
        clampI (-(clampAt * 256)) (clampAt * 256) (tabGet s3 (pentBase s i + (k + fld cfg 4 11) % l) * 256) else 0
    (s3, sat32 out)

end Sys2Proof.Machine
end

