-- ==== Sys2Proof/Machine/LoopEngine.lean ====
section
/-!
DEFINITION. LoopEngine.lean: the commands of the loop engine other than its strokes and DELAY1_OUTPUT
(13_loop_engine.md).
-/

namespace Sys2Proof.Machine

/-- A write of TAB_DATA takes effect (R770, R771, R777): the sample at TAB_ADDR, saturated to 24 bits; the address advances with it
(log 136). -/
def tabWrite (v : Word) (s : State) : State :=
  let s1 := tabSet s.loop.tabAddr.toNat (satI 24 (sgn v)) s
  { s1 with loop := { s1.loop with tabAddr := s.loop.tabAddr + 1 } }

/-- PENT_WAIT_CLEAR (R766): WAIT clears after L changes of index. -/
def execPentWaitClear (i : Fin 32) (s : State) : Res :=
  let d := pent s i.val
  finish s (if d.started && d.wait && d.left == 0 then setPent i.val { d with wait := false } s else s)

end Sys2Proof.Machine
end

