-- ==== Sys2Proof/Machine/CanvasOps.lean ====
section
/-!
DEFINITION. CanvasOps.lean: canvas images, their entries and op-codes, when an entry runs, and the signals
(05_canvas_contract.md).
-/

namespace Sys2Proof.Machine

/-! ### Entries (R263-R266, Table 05-6) -/

/-- The fields of a 64-bit entry. -/
structure Entry where
  op : Nat
  lane : Nat
  set : Nat
  pkind : Nat
  log2n : Nat
  phase : Nat
  tick : Nat
  target : Nat
  arg : BitVec 23
  deriving DecidableEq, Repr

/-- The entry of a word pair. -/
def entryOf (w : DWord) : Entry :=
  { op := fld w 57 7, lane := fld w 54 3, set := fld w 52 2, pkind := fld w 50 2, log2n := fld w 47 3, phase := fld w 41 6,
    tick := fld w 34 7, target := fld w 23 11, arg := w.setWidth 23 }

/-- The immediate form of ARG: its IN and OUT fields; the offset of an argument block. -/
def Entry.imm (e : Entry) : Bool := !e.arg.getLsbD 22
def Entry.inn (e : Entry) : Nat := fld e.arg 11 11
def Entry.out (e : Entry) : Nat := fld e.arg 0 11
def Entry.blk (e : Entry) : Nat := fld e.arg 0 22

/-- An entry is due in major frame f (0-63) at minor tick k (R264). -/
def Entry.due (e : Entry) (f k : Nat) : Bool :=
  match e.pkind with
  | 0 => true
  | 1 => k == e.tick
  | 2 => k == e.tick && f % 2 ^ e.log2n == e.phase
  | _ => false

/-- The run state runs a SET code (Table 05-4). -/
def setActive : RunState → Nat → Bool
  | .stopped, _ => false
  | .runIn, c => c == 0
  | .comfort, c => c != 2
  | .emergency, c => c != 1

/-! ### Op-codes (R267-R269, Table 05-8) -/

/-- Form of ARG: I/O, no named signal, an argument block of n words with word 0, the block of SCHED, ST_CNT. -/
inductive ArgForm where
  | io | none_ | blk (n : Nat) | sched | cnt
  deriving DecidableEq, Repr

/-- Lane (none for CORE), cost, output stroke, TARGET range and form of an op-code. -/
structure OpSpec where
  lane : Option Nat
  cost : Nat
  outp : Bool
  tmin : Nat
  tmax : Nat
  form : ArgForm
  deriving DecidableEq, Repr

/-- The op-codes of CORE A and B. -/
def coreOp (op : Nat) : Option OpSpec :=
  match op with
  | 0x01 => some ⟨none, 120, false, 0, 0, .io⟩
  | 0x02 => some ⟨none, 180, false, 0, 0, .blk 5⟩
  | 0x03 => some ⟨none, 140, false, 0, 0, .blk 4⟩
  | 0x04 => some ⟨none, 200, false, 0, 0, .blk 4⟩
  | 0x05 => some ⟨none, 260, false, 0, 0, .blk 14⟩
  | 0x06 => some ⟨none, 240, false, 0, 1023, .blk 4⟩
  | 0x07 => some ⟨none, 220, false, 0, 1023, .blk 3⟩
  | 0x08 => some ⟨none, 900, false, 0, 0, .blk 8⟩
  | 0x09 => some ⟨none, 600, false, 0, 0, .blk 18⟩
  | 0x0A => some ⟨none, 800, false, 0, 255, .sched⟩
  | 0x0B => some ⟨none, 1200, false, 0, 2047, .io⟩
  | 0x0C => some ⟨none, 900, true, 0, 2047, .io⟩
  | 0x0D => some ⟨none, 700, true, 0, 47, .io⟩
  | 0x0E => some ⟨none, 2400, true, 0, 23, .io⟩
  | 0x0F => some ⟨none, 180, true, 16, 31, .io⟩
  | 0x10 => some ⟨none, 300, false, 0, 255, .io⟩
  | 0x11 => some ⟨none, 500, false, 0, 0, .io⟩
  | 0x12 => some ⟨none, 4000, false, 0, 0, .none_⟩
  | _ => none

/-- The op-codes of the other lanes. -/
def laneOp (op : Nat) : Option OpSpec :=
  match op with
  | 0x20 => some ⟨some 2, 2, false, 0, 511, .io⟩
  | 0x21 => some ⟨some 2, 3, false, 0, 511, .io⟩
  | 0x22 => some ⟨some 2, 1, false, 0, 255, .io⟩
  | 0x23 => some ⟨some 2, 4, false, 0, 31, .io⟩
  | 0x28 => some ⟨some 3, 2, false, 0, 127, .none_⟩
  | 0x29 => some ⟨some 3, 1, false, 0, 127, .io⟩
  | 0x2A => some ⟨some 3, 2, false, 0, 127, .none_⟩
  | 0x2B => some ⟨some 3, 2, false, 0, 127, .none_⟩
  | 0x30 => some ⟨some 4, 6, true, 0, 23, .io⟩
  | 0x31 => some ⟨some 4, 10, true, 0, 23, .none_⟩
  | 0x32 => some ⟨some 4, 16, true, 0, 23, .io⟩
  | 0x33 => some ⟨some 4, 4, false, 0, 23, .io⟩
  | 0x34 => some ⟨some 4, 3, false, 0, 23, .io⟩
  | 0x35 => some ⟨some 4, 2, true, 0, 47, .io⟩
  | 0x36 => some ⟨some 4, 2, false, 0, 47, .io⟩
  | 0x38 => some ⟨some 5, 8, false, 0, 0, .none_⟩
  | 0x39 => some ⟨some 5, 2, false, 0, 2047, .none_⟩
  | 0x3A => some ⟨some 5, 2, false, 0, 2047, .none_⟩
  | 0x3B => some ⟨some 5, 2, true, 0, 2047, .none_⟩
  | 0x3C => some ⟨some 6, 1, true, 0, 2047, .none_⟩
  | 0x3D => some ⟨some 6, 1, false, 0, 2, .none_⟩
  | 0x3E => some ⟨some 7, 4, false, 0, 2047, .cnt⟩
  | 0x3F => some ⟨some 7, 16, false, 0, 0, .none_⟩
  | _ => none

/-- Table 05-8; none for an undefined op-code. -/
def opSpec (op : Nat) : Option OpSpec := if op < 0x20 then coreOp op else laneOp op

/-- The fixed cost of an op. -/
def opCost (op : Nat) : Nat := match opSpec op with | some o => o.cost | none => 0

/-- Budget, reserve of a lane (Table 05-1). -/
def laneBudget (l : Nat) : Nat := ([50000, 50000, 1024, 64, 512, 48, 8, 256] : List Nat).getD l 0
def laneReserve (l : Nat) : Nat := ([6000, 6000, 0, 8, 0, 8, 4, 64] : List Nat).getD l 0

/-- Shares of a lane's reserve by user (Table 05-2); a lane other than the cores has one. -/
def laneShares (l : Nat) : List Nat := if l < 2 then [3000, 1500, 1500] else [laneReserve l]

/-- Commitment limit of a lane in a tick (R250, Table 05-1). -/
def laneLimit (l k : Nat) : Nat :=
  if k = 0 then laneBudget l * 85 / 125 - laneReserve l else laneBudget l - laneReserve l

/-- The domain of a lane, in the bit order of SYS.DOM_AVAIL (R284). -/
def laneDom (l : Nat) : Nat := ([2, 2, 4, 6, 5, 7, 8, 9] : List Nat).getD l 0

/-! ### Images (R262, Table 05-5) -/

/-- First byte of an image slot: 24 sectors each, from sectors 43 and 67 (Table 16-1). -/
def slotBase (k : Bool) : Nat := sectorBase (if k then 67 else 43)

/-- Word i of the image in slot k. -/
def imgWord (s : State) (k : Bool) (i : Nat) : Word := memWord s.mem (slotBase k + 4 * i)

/-- n pairs of words from byte offset `off` of slot k. -/
def imgPairs (s : State) (k : Bool) (off n : Nat) : List DWord :=
  (List.range n).map fun i =>
    memWord s.mem (slotBase k + off + 8 * i + 4) ++ memWord s.mem (slotBase k + off + 8 * i)

/-- The image in slot k as its header describes it. -/
def readImage (s : State) (k : Bool) : Image :=
  { generation := imgWord s k 3, crc := imgWord s k 15, bb := (imgWord s k 14).getLsbD 0
    mirror := (imgWord s k 14).getLsbD 1
    entries := imgPairs s k (imgWord s k 5).toNat (imgWord s k 4).toNat
    pool := memWords s.mem (slotBase k + (imgWord s k 6).toNat) (imgWord s k 7).toNat
    disp := imgPairs s k (imgWord s k 8).toNat (imgWord s k 9).toNat
    init := imgPairs s k (imgWord s k 10).toNat (imgWord s k 11).toNat }

/-- The entries of an image. -/
def Image.list (m : Image) : List Entry := m.entries.map entryOf

/-- The running image's entries; none while no image is held. -/
def entries (s : State) : List Entry := match s.canvas.image with | some m => m.list | none => []

/-- Word j of the argument block of an entry of the running image. -/
def argWord (s : State) (e : Entry) (j : Nat) : Word :=
  match s.canvas.image with
  | some m => m.pool.getD (e.blk + j) 0
  | none => 0

/-- An entry with an op and a TARGET runs in a run state, in some frame and tick. -/
def usesIn (l : List Entry) (run : RunState) (op t : Nat) : Bool :=
  l.any fun e => e.op == op && e.target == t && setActive run e.set

/-- An entry of the running image with an op and a TARGET is due now in the run state in force. -/
def dueNow (s : State) (op t : Nat) : Bool :=
  (entries s).any fun e => e.op == op && e.target == t && setActive s.canvas.run e.set &&
    e.due (majorOf (canvasTime s)) (minorOf (canvasTime s))

/-! ### When a stroke runs -/

/-- The domains of a lane are available and the lane is not faulted (R24, R286). -/
def laneRuns (s : State) (l : Nat) : Bool := (domAvail s).getLsbD (laneDom l) && !s.canvas.laneFlt.getLsbD l

/-- The Canvas runs (R259, R285) with domain C available and the 40.000 MHz crystal running (R1206); on a standby it runs as the
replay of a frame (R1009, R1055), and not at all between the two boundaries of a switchover. -/
def canvasRuns (s : State) : Bool :=
  decide (s.canvas.run ≠ .stopped) && (domAvail s).getLsbD 2 && decide (s.time.source = .x40) && !s.power.inReset &&
    (!s.mirror.pair || decide (s.mirror.role = .primary) || (isStandby s && s.mirror.replaying.isSome))

/-- The emergency disposition keeps output i of class c (2 fan, 3 drive) at its value while the Canvas and lane DRIVE run (R260,
R160). -/
def heldOut (s : State) (c i : Nat) : Bool :=
  canvasRuns s && laneRuns s 4 && tblGet (fun _ => false) s.canvas.held (4096 * c + i)

/-- CANVAS.STAT.STAGED_OK: the staged image has passed; on the primary of a pair the partner's has too, with an equal CRC
(R1041). -/
def stagedOkNow (s : State) : Bool :=
  s.canvas.stagedOk && (!s.mirror.pair || decide (s.mirror.role ≠ .primary) ||
    decide (s.mirror.pStaged = some (imgWord s (!s.canvas.slot) 15)))

/-- A stroke under way: its entry and its scheduled start in units of its lane from the start of the committed window. -/
structure Stroke where
  e : Entry
  start : Nat
  deriving DecidableEq, Repr

/-- Summed cost of the due entries before index i on a lane (the scheduled start of R749-R752). -/
def schedStart (l : List Entry) (run : RunState) (f k lane i : Nat) : Nat :=
  (l.take i).foldl (fun a e => if e.lane = lane ∧ setActive run e.set ∧ e.due f k then a + opCost e.op else a) 0

/-- The Canvas tick that runs. -/
def canvasTick (s : State) : Nat := canvasTime s / tickLen

/-- A lane runs its due entries in the order of the table, each once in a tick (R264, R266): entry i comes after those that its
lane has run in this one. -/
def laneOrder (s : State) (lane i : Nat) : Bool :=
  decide (s.canvas.ranAt ≠ canvasTick s) || decide (tblGet (fun _ => 0) s.canvas.ran lane ≤ i)

/-- Entry i has run on a lane in this tick. -/
def laneRan (lane i : Nat) (s : State) : State :=
  let was := if s.canvas.ranAt = canvasTick s then s.canvas.ran else []
  let late := if s.canvas.ranAt = canvasTick s then s.canvas.overran else []
  { s with canvas := { s.canvas with ran := tblSet (fun _ => 0) was lane (i + 1), ranAt := canvasTick s, overran := late } }

/-- The apply window of a major frame has not closed (R249): from 400 ms after the origin on, no lane starts its committed window
of minor tick 0 before it has. -/
def windowOpen (s : State) : Bool :=
  minorOf (canvasTime s) == 0 && passed s s.power.origin (400 * ms) && decide (s.glaze.lastWin ≠ some (frameNo s))

/-- An apply window is due: a frame boundary from 400 ms after the origin on (Table 06-7), whose window has not closed. -/
def windowDue (s : State) : Bool :=
  atFrame s && passed s s.power.origin (400 * ms) && s.power.vmain && !s.power.inReset &&
    decide (s.glaze.lastWin ≠ some (frameNo s))

/-- An entry that targets a unit out of service is skipped (R464, Table 08-3): a drive channel, a modulator, a loop slot, a phase. -/
def entrySkipped (s : State) (e : Entry) : Bool :=
  match e.op with
  | 0x0E | 0x30 | 0x31 | 0x32 | 0x33 | 0x34 => s.glaze.oosDrv.getLsbD e.target
  | 0x28 | 0x29 | 0x2A | 0x2B => s.glaze.oosMod.getLsbD (e.target % 16)
  | 0x20 | 0x21 => tblGet (fun _ => false) s.glaze.oosLoop e.target
  | 0x3D => s.glaze.oosPh.getLsbD e.target
  | _ => false

/-- Entry i of the running image as a stroke of op-code op, when it runs in this tick: the Canvas runs, its lane runs, the apply
window has closed, its SET is active, it is due and comes after the entries its lane has run (R249, R264, R266, R286). -/
def strokeAt (s : State) (op i : Nat) : Option Stroke :=
  match (entries s)[i]? with
  | some e =>
    if canvasRuns s && !windowOpen s && laneOrder s e.lane i && e.op == op && setActive s.canvas.run e.set && e.due (majorOf (canvasTime s)) (minorOf (canvasTime s)) &&
        laneRuns s e.lane then
      some { e := e, start := schedStart (entries s) s.canvas.run (majorOf (canvasTime s)) (minorOf (canvasTime s)) e.lane i }
    else none
  | none => none

/-- The effect of a stroke command: entry i of the running image carries out f when it runs in this tick; else the command
changes nothing. -/
def runStroke (op i : Nat) (f : Stroke → State → State) (s : State) : State :=
  match strokeAt s op i with
  | some k => laneRan k.e.lane i (f k s)
  | none => s

/-! ### Status words other parts read -/

/-- An alarm of a class is latched on either side (Table 03-8): client class c on either path, or a detection function of
that class. -/
def classLatched (s : State) (c : Nat) : Bool :=
  s.gesso.trip.getLsbD (16 + c) || s.safety.alarms.getLsbD (16 + c) || s.safety.alarms.getLsbD (19 + c) ||
    (List.range 64).any fun d => s.safety.alarms.getLsbD (22 + d) && fld (dfCtl s d) 1 2 == c + 1

/-- ALARM_STAT (Table 03-8). -/
def alarmStat (s : State) : Half :=
  setBit (setBit (setBit (setBit (setBit (setBit (0 : Half) 0 (anyAlarm s)) 1 (classLatched s 0)) 2 (classLatched s 1))
    3 (classLatched s 2)) 4 (decide (s.safety.gessoOnly ≠ 0))) 5 (anyAlarm s && allSilenced s) |||
    put 16 6 s.safety.ackRes.toNat ||| put 16 8 s.safety.token.toNat

/-- The code of the run state (CANVAS.STAT.STATE). -/
def runCode : RunState → Nat
  | .stopped => 0
  | .runIn => 1
  | .comfort => 2
  | .emergency => 3

/-! ### Signals (R255-R257, Table 05-3) -/

/-- System signals. -/
def sysSignal (s : State) (k : Nat) : Word :=
  match k with
  | 0x7F0 => BitVec.ofNat 32 s.sys.tier
  | 0x7F1 => BitVec.ofNat 32 (runCode s.canvas.run)
  | 0x7F2 => BitVec.ofNat 32 (now s / tickLen % 8192)
  | 0x7F3 => s.time.calSec
  | 0x7F4 => (alarmStat s).setWidth 32
  | 0x7F5 => bit1 32 s.host.silent
  | 0x7F6 => s.bb.beacon.load.setWidth 32
  | _ => 0

/-- A write of this tick that a stroke sees: of its own lane, or a met ASAP output whose deadline lies at or before the
stroke's scheduled start (R257, R751, R752). -/
def seesFresh (k : Stroke) (f : Fresh) : Bool :=
  f.lane == k.e.lane ||
    match f.dl with
    | some d => decide (d * laneBudget k.e.lane ≤ k.start * 1024)
    | none => false

/-- The value a stroke reads from a signal: 0 for signal 0, the system signals, else the newest write it sees or the value
at the start of the tick. -/
def readSig (s : State) (k : Stroke) (g : Nat) : Word :=
  if g = 0 then 0
  else if 0x7F0 ≤ g then sysSignal s g
  else match s.canvas.fresh.find? fun f => f.sig == g && seesFresh k f with
    | some f => f.value
    | none => tblGet (fun _ => 0) s.canvas.signals g

/-- Its signed reading. -/
def readI (s : State) (k : Stroke) (g : Nat) : Int := sgn (readSig s k g)

/-- A stroke writes a signal (R255); none at or above 0x7F0 (R797, R863), and signal 0 always reads 0. -/
def writeSig (k : Stroke) (g : Nat) (v : Word) (s : State) : State :=
  if g = 0 ∨ 0x7F0 ≤ g then s
  else { s with canvas := { s.canvas with fresh := { sig := g, lane := k.e.lane, value := v, dl := none } :: s.canvas.fresh } }

/-- A write of a met ASAP output with its deadline. -/
def writeAsap (k : Stroke) (g : Nat) (v : Word) (dl : Nat) (s : State) : State :=
  if g = 0 ∨ 0x7F0 ≤ g then s
  else { s with canvas := { s.canvas with
    fresh := { sig := g, lane := k.e.lane, value := v, dl := some dl } :: s.canvas.fresh } }

/-- A signal takes a value for every lane at once (R747, R274). -/
def setSignal (g : Nat) (v : Word) (s : State) : State :=
  if g = 0 ∨ 0x7F0 ≤ g then s
  else { s with canvas := { s.canvas with signals := tblSet (fun _ => 0) s.canvas.signals g v
                                          fresh := s.canvas.fresh.filter fun f => f.sig != g } }

/-- The value of a signal between ticks: the newest write or the value in force. -/
def signalNow (s : State) (g : Nat) : Word :=
  if g = 0 then 0
  else if 0x7F0 ≤ g then sysSignal s g
  else match s.canvas.fresh.find? fun f => f.sig == g with
    | some f => f.value
    | none => tblGet (fun _ => 0) s.canvas.signals g

/-- The writes of a tick become visible to every lane at the start of the next (R256). -/
def commitSignals (s : State) : State :=
  { s with canvas := { s.canvas with
      signals := s.canvas.fresh.reverse.foldl (fun t f => tblSet (fun _ => 0) t f.sig f.value) s.canvas.signals
      fresh := [] } }

/-- Linear interpolation through points with x ascending, clamped at the ends, rounded toward zero (R886; for TABLE8 log 30):
`p` is the point below. -/
def interpFrom (x : Int) (p : Int × Int) : List (Int × Int) → Int
  | [] => p.2
  | q :: r => if x < q.1 then Int.tdiv (p.2 * (q.1 - p.1) + (q.2 - p.2) * (x - p.1)) (q.1 - p.1) else interpFrom x q r

def interp (x : Int) : List (Int × Int) → Int
  | [] => 0
  | p :: r => if x ≤ p.1 then p.2 else interpFrom x p r

end Sys2Proof.Machine
end

