-- ==== Sys2Proof/Machine/F32.lean ====
section
/-!
DEFINITION. F32.lean: IEEE 754 binary32 arithmetic of the drive estimator (R808), round to nearest, ties to even.
-/

namespace Sys2Proof.Machine

/-- A binary32 value by its bits. -/
abbrev F32 := BitVec 32

/-- The quiet NaN, and infinity with a sign. -/
def f32NaN : F32 := 0x7FC00000
def f32Inf (neg : Bool) : F32 := if neg then 0xFF800000 else 0x7F800000
def f32Zero (neg : Bool) : F32 := if neg then 0x80000000 else 0

def f32Neg (x : F32) : Bool := x.getLsbD 31
def f32Exp (x : F32) : Nat := fld x 23 8
def f32Frac (x : F32) : Nat := fld x 0 23
def f32IsNaN (x : F32) : Bool := f32Exp x == 255 && f32Frac x != 0
def f32IsInf (x : F32) : Bool := f32Exp x == 255 && f32Frac x == 0

/-- A finite value is its signed significand x 2^(exponent - 149). -/
def f32Sig (x : F32) : Int :=
  let m : Int := if f32Exp x = 0 then f32Frac x else 2 ^ 23 + f32Frac x
  if f32Neg x then -m else m
def f32Sh (x : F32) : Nat := f32Exp x - 1

/-- The value num / den x 2^(e - 149), num not negative, rounded to nearest, ties to even; num / den is at
least 2^-320. -/
def f32Round (neg : Bool) (num den e : Nat) : F32 :=
  if num = 0 then f32Zero neg
  else
    -- the exponent at which the quotient has 24 bits, never below 0
    let l := (num * 2 ^ 320 / den).log2
    let k := e + l - 343
    -- value in units of 2^(k - 149): num x 2^e / (den x 2^k)
    let n := num * 2 ^ e
    let d := den * 2 ^ k
    let q := n / d
    let r := n % d
    let q1 := if d < 2 * r ∨ (2 * r = d ∧ q % 2 = 1) then q + 1 else q
    let (q2, k2) := if q1 = 2 ^ 24 then (2 ^ 23, k + 1) else (q1, k)
    if 254 ≤ k2 then f32Inf neg
    else
      let w := if q2 < 2 ^ 23 then q2 else (k2 + 1) * 2 ^ 23 + (q2 - 2 ^ 23)
      BitVec.ofNat 32 (w + (if neg then 2 ^ 31 else 0))

/-- A rational number with a positive denominator as binary32. -/
def f32Rat (num : Int) (den : Nat) : F32 := f32Round (decide (num < 0)) num.natAbs (max den 1) 149

def f32Add (x y : F32) : F32 :=
  if f32IsNaN x || f32IsNaN y then f32NaN
  else if f32IsInf x then (if f32IsInf y && f32Neg x != f32Neg y then f32NaN else x)
  else if f32IsInf y then y
  else
    let a := f32Sig x * 2 ^ f32Sh x + f32Sig y * 2 ^ f32Sh y
    if a = 0 then f32Zero (f32Neg x && f32Neg y) else f32Round (decide (a < 0)) a.natAbs 1 0

def f32Minus (x : F32) : F32 := x ^^^ 0x80000000
def f32Sub (x y : F32) : F32 := f32Add x (f32Minus y)

def f32Mul (x y : F32) : F32 :=
  let neg := f32Neg x != f32Neg y
  if f32IsNaN x || f32IsNaN y then f32NaN
  else if f32IsInf x || f32IsInf y then
    (if (f32Sig x = 0 ∧ f32Exp x = 0) ∨ (f32Sig y = 0 ∧ f32Exp y = 0) then f32NaN else f32Inf neg)
  else f32Round neg ((f32Sig x).natAbs * (f32Sig y).natAbs) (2 ^ 149) (f32Sh x + f32Sh y)

def f32Div (x y : F32) : F32 :=
  let neg := f32Neg x != f32Neg y
  let zx := decide (f32Sig x = 0); let zy := decide (f32Sig y = 0)
  if f32IsNaN x || f32IsNaN y then f32NaN
  else if f32IsInf x then (if f32IsInf y then f32NaN else f32Inf neg)
  else if f32IsInf y then f32Zero neg
  else if zy then (if zx then f32NaN else f32Inf neg)
  else f32Round neg ((f32Sig x).natAbs * 2 ^ f32Sh x) ((f32Sig y).natAbs * 2 ^ f32Sh y) 149

/-- The exact value in units of 2^-149; 0 for a value that is not finite. -/
def f32Val (x : F32) : Int := if f32Exp x = 255 then 0 else f32Sig x * 2 ^ f32Sh x

/-- x ≤ y of finite values. -/
def f32Le (x y : F32) : Bool := decide (f32Val x ≤ f32Val y)

/-- The integer square root, rounded down, of a number below 2^(2 * bits). -/
def isqrtBits (bits n : Nat) : Nat :=
  (List.range bits).foldl (fun r i =>
    let b := r + 2 ^ (bits - 1 - i)
    if b * b ≤ n then b else r) 0

/-- The square root of a value that is not negative. -/
def f32Sqrt (x : F32) : F32 :=
  if f32IsNaN x then f32NaN
  else if f32Sig x = 0 then x
  else if f32Neg x then f32NaN
  else if f32IsInf x then x
  else
    let n := (f32Val x).natAbs * 2 ^ 277
    let r := isqrtBits 280 n
    let odd := if r * r = n then 0 else 1
    f32Round false (2 * r + odd) (2 ^ 65) 0

end Sys2Proof.Machine
end

