-- ==== Sys2Proof/Machine/DriveOps.lean ====
section
/-!
DEFINITION. DriveOps.lean: the operations of a drive channel (14_motor_drive.md): settings, bridge and gates, faults,
states, starts, crossings.
-/

namespace Sys2Proof.Machine

/-! ### Access and settings (Tables 14-11, 14-12) -/

def drv (s : State) (m : Nat) : DrvChan := tblGet (fun _ => DrvChan.blank) s.drive.chans m
def setDrv (m : Nat) (d : DrvChan) (s : State) : State :=
  { s with drive := { s.drive with chans := tblSet (fun _ => DrvChan.blank) s.drive.chans m d } }

/-- A word of the DRIVE bank; a word of the DCMD bank. -/
def dPar (s : State) (base m : Nat) : Word := par s (parAddr 9 (base + m))
def cPar (s : State) (base m : Nat) : Word := par s (parAddr 10 (base + m))

/-- The fields that change at the entry to IDLE only (R844): 0 six-step, 1 Hall, 2 DTC; KICK; periods in a tick (Table
14-1); pole pairs; notch; shunt. -/
def DrvChan.wave (d : DrvChan) : Nat := fld d.cfg 0 2
def DrvChan.kickStart (d : DrvChan) : Bool := d.cfg.getLsbD 2
def DrvChan.perTick (d : DrvChan) : Nat := ([1, 2, 3, 4, 5, 6, 8, 1] : List Nat).getD (fld d.cfg 3 3) 1
def DrvChan.poles (d : DrvChan) : Nat := fld d.cfg 10 6
def DrvChan.notch (d : DrvChan) : Bool := d.cfg.getLsbD 8
def DrvChan.rsh (d : DrvChan) : Nat := fld d.cfg 24 8

/-- P in counts of 240 MHz (R786, Table 14-1); dead time and TSET in counts. -/
def DrvChan.period (d : DrvChan) : Nat := 30000 / d.perTick
def deadCounts (s : State) (m : Nat) : Nat := 2 * fld (dPar s 0x018 m) 0 12
def tsetTicks (s : State) (m : Nat) : Nat := fld (dPar s 0x018 m) 12 9
def ratedOf (s : State) (m : Nat) : Nat := fld (dPar s 0x030 m) 0 16
def catchThr (s : State) (m : Nat) : Nat := fld (dPar s 0x030 m) 16 8
def handThr (s : State) (m : Nat) : Nat := fld (dPar s 0x030 m) 24 8

/-- A 16-bit duty field (LSB 2^-16) in Q1.31. -/
def duty16 (n : Nat) : Int := (n * 2 ^ 15 : Nat)

/-- The 60 degree interval, in sub-ticks, of an electrical frequency in 0.1 Hz; and back, rounded to nearest. -/
def sixty (f : Nat) : Nat := 400000000 / (6 * max f 1)
def elecFreq (iv : Nat) : Nat := roundDiv 400000000 (6 * max iv 1)

/-- The speed of a 60 degree interval reaches pct % of RATED. -/
def reaches (s : State) (m iv pct : Nat) : Bool := decide (ratedOf s m * pct * (6 * iv) ≤ 400000000 * 100)

/-- speed / RATED of a 60 degree interval as a duty (Table 14-6), at most 1. -/
def speedDuty (s : State) (m iv : Nat) : Int :=
  min (2 ^ 31 : Int) ((400000000 * 2 ^ 31 / (6 * max iv 1 * ratedOf s m) : Nat) : Int)

/-! ### Bridge and gates (R788-R798, R815, R832) -/

/-- The largest duty that DUTYCAP allows (R791). -/
def dutyCap (s : State) (m : Nat) : Int :=
  let h := (drv s m).period / 2
  let x := 6 * tsetTicks s m + 30 + deadCounts s m / 2
  if (dPar s 0 m).getLsbD 9 then ((((h - x) * 2 ^ 31 / h) : Nat) : Int) else 2 ^ 31

/-- A duty clamped to 0..1 and capped (R790, R791). -/
def limitDuty (s : State) (m : Nat) (x : Int) : Int := clampI 0 (dutyCap s m) x

/-- C = round((1 - d) x P/2), halves up. -/
def compareOf (d : DrvChan) (duty : Int) : Nat :=
  ((2 ^ 31 - clampI 0 (2 ^ 31) duty).toNat * (d.period / 2) * 2 + 2 ^ 31) / 2 ^ 32

/-- PWM, sink and floating phase of a sector (Table 14-2): 0 U, 1 V, 2 W. -/
def pwmPhase (sec_ : Nat) : Nat := ([0, 0, 1, 1, 2, 2] : List Nat).getD sec_ 0
def sinkPhase (sec_ : Nat) : Nat := ([1, 2, 2, 0, 0, 1] : List Nat).getD sec_ 0
def floatPhase (sec_ : Nat) : Nat := ([2, 1, 0, 2, 1, 0] : List Nat).getD sec_ 0

/-- S_x of a voltage vector: the high-side state of phase x. -/
def vecBit (n x : Nat) : Bool :=
  (([0b000, 0b100, 0b110, 0b010, 0b011, 0b001, 0b101, 0b111] : List Nat).getD n 0).testBit (2 - x)

/-- Half of the sampling notch in counts (R815), 0 without one; when a selected vector starts to apply (R814). -/
def notchHalf (s : State) (m : Nat) : Nat := if (drv s m).notch then 6 * tsetTicks s m + 30 else 0
def vecStart (s : State) (m : Nat) : Nat := max 720 (notchHalf s m)

/-- GH and GL of phase x in DTC, t counts after the period boundary (R789, R814, R815): the vector before until 3 us after
the boundary, low sides in the notch, dead time at each change. -/
def vecHigh (s : State) (m x t : Nat) : Bool :=
  let d := drv s m
  let n := notchHalf s m
  let e := vecStart s m
  let gap := if n = 0 then 0 else deadCounts s m
  let was := vecBit d.vecOld x && decide (n < e)
  (was && decide (n + gap ≤ t) && decide (t < e)) ||
    (vecBit d.vec x && decide (max e (if was then n + gap else e + deadCounts s m) ≤ t) &&
      decide (t + n + gap < d.period))
def vecLow (s : State) (m x t : Nat) : Bool :=
  let d := drv s m
  let n := notchHalf s m
  let e := vecStart s m
  let was := vecBit d.vecOld x && decide (n < e)
  decide (t < n) || decide (d.period ≤ t + n) || (!vecBit d.vecOld x && decide (t < e)) ||
    (!vecBit d.vec x && decide ((if was then e + deadCounts s m else e) ≤ t))

/-- The gate outputs of phase x, t counts after a period boundary (R788, R798, R812, R832). The counter runs up to P/2 and
down again. A chip that does not drive the Canvas outputs holds them low (R991). -/
def gateHigh (s : State) (m x t : Nat) : Bool :=
  let d := drv s m
  drivesCanvas s && match d.bridge with
  | .six k => pwmPhase k == x && decide (compareOf d d.duty + deadCounts s m / 2 ≤ min t (d.period - t))
  | .vec _ => vecHigh s m x t
  | _ => false
def gateLow (s : State) (m x t : Nat) : Bool :=
  let d := drv s m
  drivesCanvas s && match d.bridge with
  | .six k => sinkPhase k == x ||
      (pwmPhase k == x && decide (min t (d.period - t) + deadCounts s m / 2 < compareOf d d.duty))
  | .vec _ => vecLow s m x t
  | .shorted => !d.released.getLsbD x
  | .off => false

/-- The part of phase x's low side in a bridge: 0 off, 1 on, 2 on around each boundary. -/
def lowPart (d : DrvChan) (b : Bridge) (x : Nat) : Nat :=
  match b with
  | .off => 0
  | .shorted => 1
  | .six k => if x = floatPhase k then 0 else if x = sinkPhase k then 1 else 2
  | .vec n => if d.notch then 2 else if vecBit n x then 0 else 1

/-- The bridge changes at time t: a phase whose low side keeps its part keeps the time since when it has it (R793). -/
def DrvChan.withBridge (d : DrvChan) (b : Bridge) (t : Nat) : DrvChan :=
  { d with
    bridge := b
    glAt := (List.range 3).map fun x => if lowPart d b x = lowPart d d.bridge x then d.glAt.getD x 0 else t }

/-! ### Availability and direction -/

/-- The channel's DRV_SUP entry serves it in the run state; in run-in any entry counts (R853). -/
def hasDrvSup (s : State) (m : Nat) : Bool :=
  match s.canvas.run with
  | .stopped => false
  | .runIn => (entries s).any fun e => e.op == 0x0E && e.target == m
  | r => usesIn (entries s) r 0x0E m

/-- The channel is not OFF (Table 14-5, R845): Canvas and domain M run, it is in service and has a DRV_SUP entry. -/
def drvLive (s : State) (m : Nat) : Bool :=
  canvasRuns s && laneRuns s 4 && !s.glaze.oosDrv.getLsbD m && hasDrvSup s m

/-- A DRV_SUP step of the channel falls in this tick (R823, R824). -/
def drvStep (s : State) (m : Nat) : Bool := drvLive s m && dueNow s 0x0E m

/-- An expiry instant lies at or before the start of this tick (R824). -/
def expired (s : State) (t : Nat) : Bool := tickWork s && decide (t ≤ tickNo s * tickLen)

/-- The sector after one commutation in the channel's direction (R799). -/
def nextSector (d : DrvChan) (k : Nat) : Nat := if d.rev then (k + 5) % 6 else (k + 1) % 6

/-- The slope of the floating phase's crossing: rising in odd sectors, inverted in reverse (Table 14-2, R799). -/
def expectRise (d : DrvChan) (k : Nat) : Bool := (k % 2 == 1) != d.rev

/-! ### Transitions and states -/

/-- A step decides a transition; one already decided in this tick stays (R823, R842). -/
def decideDrv (m : Nat) (x : DrvNext) (s : State) : State :=
  let d := drv s m
  match d.next with
  | some _ => s
  | none => setDrv m { d with next := some x } s

def goTo (m : Nat) (st : DrvState) (s : State) : State := decideDrv m (DrvNext.plain st) s

/-- Duty of a kick pulse of attempt r (Table 14-8). -/
def kickDuty (s : State) (m r : Nat) : Int :=
  let w := dPar s 0x0A8 m
  min (duty16 (fld w 0 16) * (4 + r) / 4) (duty16 (fld w 16 16))

/-- The sector of kick pulse i in the commanded direction. -/
def kickSector (d : DrvChan) (i : Nat) : Nat := if d.rev then (6 - i % 6) % 6 else i % 6

/-- What every entry to a state clears; leaving HELD clears the retry count (R838). -/
def DrvChan.entered (d : DrvChan) (st : DrvState) (t : Nat) : DrvChan :=
  { d with
    st := st, next := none, since := t, comm := none, crossed := false, tried := false, raw := none
    levels := none, misses := 0, validRun := 0, ints := [], lastCross := none, demand := none, predRun := 0, hit := none
    retry := if d.st = .held then 0 else d.retry, peakIn := [0, 0, 0], peakOut := [0, 0, 0]
    peakInOld := [0, 0, 0], peakOutOld := [0, 0, 0], steps := 0, revs := 0 }

/-- The bridge and duty of a state that a channel enters (Tables 14-5 to 14-8). -/
def enterBridge (m : Nat) (b : Bridge) (duty : Int) (f : DrvChan → DrvChan) (st : DrvState) (s : State) : State :=
  let d := (drv s m).entered st (now s)
  setDrv m { (f d).withBridge b (now s) with duty := limitDuty s m duty } s

/-- The channel enters a state (Tables 14-5 to 14-8). -/
def enterDrv (m : Nat) (x : DrvNext) (s : State) : State :=
  let t := now s
  let old := drv s m
  let align := duty16 (fld (dPar s 0x060 m) 0 16)
  match x.dst with
  | .idle => enterBridge m .off 0 (fun d => { d with cfg := dPar s 0 m }) .idle s
  | .catching =>
    evt (128 + m) (enterBridge m .off 0 (fun d => { d with seen := [], starts := d.starts + 1 }) .catching s)
  | .brake =>
    enterBridge m .shorted 0 (fun d => { d with curCross := t, curSign := none, released := 0, seen := [] }) .brake s
  | .align =>
    enterBridge m (if old.wave = 2 then .vec 1 else .six 0) align
      (fun d => { d with vec := 1, vecOld := 1, sector := 0 }) .align s
  | .ramp =>
    let iv := sixty (fld (dPar s 0x078 m) 0 16)
    enterBridge m (.six 0) align
      (fun d => { d with sector := 0, lastComm := t, comm := some (t + iv), t60 := iv, revAct := d.rev }) .ramp s
  | .kick =>
    -- a new attempt begins with pulse 0; within one, `sector` is the pulse and `t60` says whether it listens
    let within := decide (old.st = .kick)
    let p := if within then x.sector else 0
    let listen := within && x.t60 == 1
    let k := kickSector old p
    enterBridge m (if listen then .off else .six k) (kickDuty s m old.retry)
      (fun d => { d with sector := k, pulse := p, listening := listen, lastComm := t, seen := []
                         since := if within then old.since else t, reverses := if within then old.reverses else 0 })
      .kick s
  | .run =>
    let dt := old.wave == 2
    let at_ := match x.cross with | some c => c + x.t60 * (30 - fld (dPar s 0x048 m) 0 4) / 60 | none => t + x.t60
    let late := if at_ < t ∧ 0 < x.t60 then (t - at_) / x.t60 + 1 else 0
    let sec_ := (List.range (late % 6)).foldl (fun k _ => nextSector old k) x.sector
    enterBridge m (if dt then .vec old.vec else .six sec_) x.duty
      (fun d => { d with
        sector := sec_, lastComm := t, t60 := x.t60, lastCross := x.cross
        comm := if d.wave = 0 then some (at_ + late * x.t60) else none, crossed := d.wave == 0, tried := d.wave == 0
        dutyPrev := limitDuty s m x.duty, psa := if dt then x.psa else d.psa, psb := if dt then x.psb else d.psb
        fluxSec := if dt then 0 else d.fluxSec, revAct := d.rev }) .run s
  | .held => enterBridge m .off 0 (fun d => { d with heldRun := s.canvas.run }) .held s
  | .off => enterBridge m .off 0 id .off s
  | .pause => enterBridge m .off 0 id .pause s

/-- The state word of DRV_SUP (R826). -/
def drvCode : DrvState → Nat
  | .off => 0 | .idle => 1 | .catching => 2 | .brake => 3 | .align => 4
  | .ramp => 5 | .kick => 6 | .pause => 7 | .run => 8 | .held => 9

/-! ### Faults (R842, R847-R851, Table 14-10) -/

/-- The faults of R851, which are trouble causes and hold the channel: bits of DRIVE.FLT. -/
def heldFaults : BitVec 12 := 0b011100000111

/-- A bit of DRIVE.FLT is raised: the event is counted; a fault of R851 is recorded and becomes a trouble cause. -/
def raiseFlt (m bit : Nat) (s : State) : State :=
  let d := drv s m
  let s1 := setDrv m { d with
    flt := setBit d.flt bit true, failAt := if bit = 9 ∨ bit = 10 then some (now s) else d.failAt } s
  let s2 := if d.flt.getLsbD bit then s1 else evt (152 + m) s1
  if heldFaults.getLsbD bit then
    raiseCause (576 + m) bit false
      (if d.flt.getLsbD bit then s2 else logPush 0x050 (BitVec.ofNat 32 (m + (drv s1 m).flt.toNat * 65536)) s2)
  else s2

/-- A fault that turns the bridge off and leads to HELD at once; it takes precedence over a decided transition (R842). -/
def faultHeld (m bit : Nat) (s : State) : State :=
  enterDrv m (DrvNext.plain .held) (raiseFlt m bit s)

/-- A failed attempt, a DESYNC or a STALE (R836, R837): the retry count advances; PAUSE, or START_FAIL and HELD. -/
def retryDrv (m : Nat) (attempt : Bool) (s : State) : State :=
  let d := drv s m
  let r := d.retry + 1
  let d1 : DrvChan := { d.withBridge .off (now s) with failed := if attempt then d.failed + 1 else d.failed }
  if r ≤ fld (dPar s 0x0C0 m) 20 3 then
    setDrv m { d1 with retry := r, next := some (DrvNext.plain .pause) } s
  else
    raiseFlt m 9 (setDrv m { d1 with next := some (DrvNext.plain .held) } s)

/-! ### Speed (R807) -/

/-- A 60 degree interval was measured in a direction. -/
def measured (m iv : Nat) (rev : Bool) (s : State) : State :=
  let f : Int := elecFreq iv
  setDrv m { drv s m with speed := if rev then -f else f, speedAt := now s, revAct := rev } s

/-! ### Crossings and edges -/

/-- The newest run of events in one order: direction (true: reverse), number of events, oldest and newest time. Positions
are sectors; they advance by 1 modulo n (3 phases, 6 Hall codes) in forward motion. -/
def runOf (n : Nat) : List (Nat × Nat) → Option (Bool × Nat × Nat)
  | (_, p) :: (t', p') :: rest =>
    let step := (p + 6 - p') % n
    if step = 1 ∨ step = n - 1 then
      match runOf n ((t', p') :: rest) with
      | some (r, c, o) => if r = (step == n - 1) then some (r, c + 1, o) else some (step == n - 1, 2, t')
      | none => some (step == n - 1, 2, t')
    else none
  | [(t, _)] => some (false, 1, t)
  | [] => none

/-- The crossings recorded in the 48 ms of CATCH (R830). -/
def caught (d : DrvChan) : List (Nat × Nat) := d.seen.filter fun e => decide (e.1 ≤ d.since + 48 * ms)

/-- Motion found by CATCH (R830): reverse against the commanded direction or not, and the mean 60 degree interval; none at
rest. -/
def motion (d : DrvChan) : Option (Bool × Nat) :=
  match caught d, runOf (if d.wave = 1 then 6 else 3) (caught d) with
  | (t, _) :: _, some (r, c, o) => if 3 ≤ c then some (r != d.rev, (t - o) / (c - 1)) else none
  | _, _ => none

/-- The sector whose floating phase is x and crosses with a slope, in the commanded direction (Table 14-2, R799). -/
def crossSector (d : DrvChan) (x : Nat) (rise : Bool) : Nat :=
  let k := 2 - x
  if (k % 2 == 1) == (rise != d.rev) then k else k + 3

/-- The frequency of RAMP, in 0.1 Hz, and its duty, at time t after its entry (Table 14-7). -/
def rampFreq (s : State) (m t : Nat) : Nat :=
  let f0 := fld (dPar s 0x078 m) 0 16
  let f1 := handThr s m * ratedOf s m / 100
  let tr := fld (dPar s 0x078 m) 16 16 * ms
  if tr ≤ t then f1 else ((f0 : Int) + ((f1 : Int) - f0) * t / tr).toNat
def rampDuty (s : State) (m t : Nat) : Int :=
  let a := duty16 (fld (dPar s 0x060 m) 0 16)
  let b := duty16 (fld (dPar s 0x090 m) 0 16)
  let tr := fld (dPar s 0x078 m) 16 16 * ms
  limitDuty s m (if tr ≤ t then b else a + (b - a) * t / tr)

/-! ### The tick (R790, R823, R839, R853) -/

/-- One channel at a minor tick boundary: a decided transition takes effect, the duty moves toward its demand by at most
SLEW, the conditions that the tick's steps judge are taken, and the channel is OFF or IDLE as its availability says; one
that its disposition holds stays as it is (R260). -/
def drvTick (s : State) (m : Nat) : State :=
  let d := drv s m
  if !drvLive s m then
    if d.st = .off ∨ heldOut s 3 m then s else enterDrv m (DrvNext.plain .off) s
  else
    let s1 := if d.st = .off then enterDrv m (DrvNext.plain .idle) s
      else match d.next with
        | some x => enterDrv m x s
        | none => s
    let dn := drv s1 m
    let d1 : DrvChan := { dn with
      hitAtTick := dn.hit, validAtTick := dn.validRun, failedAtTick := decide (2 ≤ dn.reverses) && dn.st == .kick }
    let d2 := match d1.trefNext with
      | some (v, t) => if tickPast s t then { d1 with tref := v, trefNext := none } else d1
      | none => d1
    match d2.st, d2.demand with
    | .run, some (v, t) =>
      if tickPast s t then
        let slew := duty16 (fld (dPar s 0x048 m) 16 16)
        let y := limitDuty s1 m (clampI (d2.duty - slew) (d2.duty + slew) (limitDuty s1 m v))
        setDrv m { d2 with dutyPrev := d2.duty, duty := y } s1
      else setDrv m { d2 with dutyPrev := d2.duty } s1
    | .ramp, _ => setDrv m { d2 with dutyPrev := d2.duty, duty := rampDuty s1 m (now s1 - d2.since) } s1
    | _, _ => setDrv m { d2 with dutyPrev := d2.duty } s1

/-- Every channel at a minor tick boundary. -/
def driveTick (s : State) : State := (List.range 24).foldl drvTick s

/-- Every channel OFF at once: the Canvas stops, or domain C or M is lost (Table 03-2, R845). -/
def driveStop (s : State) : State :=
  (List.range 24).foldl (fun st m =>
    if (drv st m).st = .off then st else enterDrv m (DrvNext.plain .off) st) s

end Sys2Proof.Machine
end

