-- ==== Sys2Proof/Machine/FanOps.lean ====
section
/-!
DEFINITION. FanOps.lean: the operations of a fan channel: speed, target shaping, speed loop, states
(15_fans_relays_sounders.md).
-/

namespace Sys2Proof.Machine

def fan (s : State) (f : Nat) : Fan := tblGet (fun _ => Fan.blank) s.fans.chans f
def setFan (f : Nat) (d : Fan) (s : State) : State :=
  { s with fans := { s.fans with chans := tblSet (fun _ => Fan.blank) s.fans.chans f d } }

/-- A word of the FAN bank. -/
def fPar (s : State) (base f : Nat) : Word := par s (parAddr 11 (base + f))

/-- The drive channel a fan channel is bound to (R880). -/
def fanMotor (s : State) (f : Nat) : Option Nat :=
  match fld (fPar s 0 f) 3 5 with
  | 0 => none
  | m + 1 => some m

/-- The fan channel bound to drive m. -/
def boundFan (s : State) (m : Nat) : Option Nat := (List.range 48).find? fun f => fld (fPar s 0 f) 3 5 == m + 1

/-- The pull-up of a tach line is on: TACH_PU (R858), not in TEST (R874), off on a standby (R992). -/
def tachPullUp (s : State) (f : Nat) : Bool :=
  (fPar s 0 f).getLsbD 1 && decide ((fan s f).st ≠ .test) && !isStandby s

/-- The line-test current of a tach line: sunk in the first 1 ms (true), sourced in the second (R874); none on a standby (R992). -/
def tachCurrent (s : State) (f : Nat) : Option Bool :=
  match (fan s f).test with
  | some t => if decide ((fan s f).st = .test) && decide (t.phase < 2) && !isStandby s then some (t.phase == 0) else none
  | none => none

/-- FAN.TIME in sub-ticks: T_START, T_RETRY, T_STALL; N_RETRY. -/
def tStart (s : State) (f : Nat) : Nat := fld (fPar s 0x0C0 f) 0 8 * 100 * ms
def tRetry (s : State) (f : Nat) : Nat := fld (fPar s 0x0C0 f) 8 8 * sec
def tStall (s : State) (f : Nat) : Nat := fld (fPar s 0x0C0 f) 24 8 * 100 * ms
def nRetry (s : State) (f : Nat) : Nat := fld (fPar s 0x0C0 f) 16 2

/-- A duty field of 0.5 % in Q1.31. -/
def duty200 (n : Nat) : Int := ((n * 2 ^ 31 / 200 : Nat) : Int)
def dMin (s : State) (f : Nat) : Int := duty200 (fld (fPar s 0x030 f) 0 8)
def dMax (s : State) (f : Nat) : Int := duty200 (fld (fPar s 0x030 f) 8 8)
def dStart (s : State) (f : Nat) : Int := duty200 (fld (fPar s 0x030 f) 16 8)

/-- The first PWM period that begins at or after an instant (R856). -/
def pwmStart (t : Nat) : Nat := (t + 1599) / 1600 * 1600

/-- A duty set by a step of tick t drives the output now (R857). -/
def dutyBegun (s : State) (t : Nat) : Bool := decide (pwmStart ((t + 1) * tickLen) ≤ now s)

/-- The duty in force now (R857). -/
def fanOut (s : State) (f : Nat) : Int :=
  match (fan s f).dutyNext.find? fun e => dutyBegun s e.2 with
  | some (v, _) => v
  | none => (fan s f).duty

/-- Cycles released in each period of 1,600 (R856): round(d x 1,600), halves up; the ball of a bound channel is driven low
(R880), that of a chip that does not drive the Canvas outputs is released (R991). -/
def fanHigh (s : State) (f : Nat) : Nat :=
  if !drivesCanvas s then 1600 else if (fanMotor s f).isSome then 0 else ((fanOut s f).toNat * 3200 + 2 ^ 31) / 2 ^ 32

/-- FANf_PWM is driven: domain G is powered (R1219). -/
def fanDriven (s : State) : Bool := s.sys.applied.getLsbD 0

/-- When the duty that a channel's driver is commanded last changed, with v commanded now (R1176). -/
def cmdTime (s : State) (f : Nat) (v : Int) : Option Nat :=
  let d := fan s f
  if v = ((d.dutyNext.head?.map Prod.fst).getD d.duty) then d.cmdAt else some (now s)

/-- A duty takes effect at once: one of a held output or of the safe state. -/
def fixDuty (f : Nat) (v : Int) (s : State) : State :=
  setFan f { fan s f with duty := v, dutyNext := [], cmdAt := cmdTime s f v } s

/-- A duty is set that takes effect with the first period after tick t (R857); one set before it that has not begun keeps
its turn. -/
def pushDuty (f : Nat) (v : Int) (t : Nat) (s : State) : State :=
  let wait := (fan s f).dutyNext.filter fun e => !dutyBegun s e.2 && e.2 != t
  setFan f { fan s f with duty := fanOut s f, dutyNext := (v, t) :: wait, cmdAt := cmdTime s f v } s

/-- A step sets the duty (R857). -/
def setDuty (f : Nat) (v : Int) (s : State) : State := pushDuty f v (tickNo s) s

/-- The tach edges that were accepted by an instant, newest first. -/
def edgesBy (s : State) (f at_ : Nat) : List Nat := (fan s f).edges.filter fun t => decide (t ≤ at_)

/-- The measured speed in rpm as it stood at an instant (R859; R880 for a bound channel). -/
def fanRpmAt (s : State) (f at_ : Nat) : Nat :=
  match fanMotor s f with
  | some m => (drv s m).speed.natAbs * 6 / max (drv s m).poles 1
  | none =>
    let ppr := fld (fPar s 0 f) 0 1 + 1
    match edgesBy s f at_ with
    | t :: rest =>
      if t + tStall s f ≤ at_ then 0
      else match (t :: rest)[ppr]? with
        | some t0 => if t0 < t then roundDiv (60 * sec) (t - t0) else 0
        | none => 0
    | [] => 0

/-- The measured speed now. -/
def fanRpm (s : State) (f : Nat) : Nat := fanRpmAt s f (now s)

/-- The instant whose conditions a step judges: the start of its tick (R823, R859, R869). -/
def tickStart (s : State) : Nat := tickNo s * tickLen

/-! ### Target (R864, R865, R886, R887) -/

/-- The table target. -/
def tableTarget (s : State) (k : Stroke) (f : Nat) : Int :=
  let g := fld (fPar s 0x0F0 f) 0 11
  if g = 0 ∨ readSig s k (g + 1) = 0 then fld (fPar s 0x060 f) 16 16
  else interp (readI s k g) ((List.range 8).map fun j =>
    let w := par s (parAddr 11 (0x2A0 + 8 * f + j))
    ((w.setWidth 16).toInt, (fld w 16 16 : Int)))

/-- The table is in use. -/
def tableMode (s : State) (f : Nat) : Bool :=
  decide (s.canvas.run = .comfort) && s.host.silent && (fPar s 0 f).getLsbD 2

/-- The legacy target replaces IN (R1129). -/
def legacyMode (s : State) (f : Nat) : Bool :=
  s.legacy.mode && decide (s.canvas.run = .comfort) && (par s (parAddr 22 (f / 32))).getLsbD (f % 32)

/-- The raw target. -/
def rawTarget (s : State) (k : Stroke) (f : Nat) : Nat :=
  let x : Int := if tableMode s f then tableTarget s k f
    else if legacyMode s f then (tblGet (fun _ => 0) s.legacy.fanTgt f : Nat)
    else readI s k k.e.inn
  (clampI 0 (fld (fPar s 0x060 f) 0 16) x).toNat

/-- The effective target after the enabled skip bands. -/
def skipBands (s : State) (f prev t : Nat) : Nat :=
  (List.range 4).foldl (fun t b =>
    let w := par s (parAddr 11 (0x1E0 + 4 * f + b))
    let lo := fld w 0 16
    let hi := fld w 16 16
    if lo < hi ∧ lo < t ∧ t < hi then (if prev ≤ lo then lo else hi) else t) t

/-! ### Speed loop (R867, R868) -/

/-- One evaluation: the duty and the integral. -/
def piStep (e kp ki dmin dmax : Int) (first : Bool) (inForce i : Int) : Int × Int :=
  let p := e * kp * 128
  let i0 := if first then clampI 0 (2 ^ 31 - 1) (inForce - p) else i
  let u := p + i0
  let d := clampI dmin dmax u
  let up := decide (u = d) || decide (e.sign = (d - u).sign)
  (d, if up then clampI 0 (2 ^ 31 - 1) (i0 + e * ki) else i0)

/-! ### States (Table 15-1) -/

def fanCode : FanState → Nat
  | .off => 0 | .idle => 1 | .start => 2 | .run => 3 | .wait => 4 | .test => 5 | .openLoop => 6 | .blocked => 7

/-- A fan fault (R908): its bit, the fault log, the trouble cause. -/
def raiseFan (f bit : Nat) (s : State) : State :=
  let d := fan s f
  let s1 := setFan f { d with flt := setBit d.flt bit true } s
  let s2 := if d.flt.getLsbD bit then s1 else logPush 0x051 (BitVec.ofNat 32 (f + (fan s1 f).flt.toNat * 65536)) s1
  raiseCause (640 + f) bit false s2

/-- A step decides a transition, in force from the next tick (R823, R869). -/
def decideFan (f : Nat) (st : FanState) (s : State) : State :=
  let d := fan s f
  match d.next with
  | some _ => s
  | none => setFan f { d with next := some st } s

/-- The channel enters a state at a minor tick boundary: its duty drives the first period from there on. -/
def enterFan (f : Nat) (st : FanState) (s : State) : State :=
  let d := { fan s f with st := st, next := none, since := now s }
  let go (v : Int) (x : Fan) : State := pushDuty f v (tickNo s - 1) (setFan f x s)
  match st with
  | .start => go (dStart s f) { d with starts := d.starts + 1 }
  | .run => setFan f { d with fresh := true } s
  | .test => setFan f { d with test := some { phase := 0, at_ := now s, low := false, high := false } } s
  | .openLoop => setFan f { d with openEdges := [], test := none } s
  | .blocked => go 0 { d with blockedRun := s.canvas.run }
  | .idle => go 0 { d with attempts := 0, test := none }
  | .wait => go 0 { d with test := none }
  | .off => setFan f { d with test := none } s

/-- The channel is served by FAN_SUP in the run state and domain M runs; a bound one has a DRV_SUP entry (R881). -/
def fanLive (s : State) (f : Nat) : Bool :=
  canvasRuns s && laneRuns s 4 && usesIn (entries s) s.canvas.run 0x0D f &&
    match fanMotor s f with
    | some m => usesIn (entries s) s.canvas.run 0x0E m && !s.glaze.oosDrv.getLsbD m
    | none => true

/-- The channel is driven by FAN_PWM in the run state. -/
def fanPwmLive (s : State) (f : Nat) : Bool :=
  canvasRuns s && laneRuns s 4 && usesIn (entries s) s.canvas.run 0x35 f

/-- A FAN_SUP step of the channel falls in this tick. -/
def fanStep (s : State) (f : Nat) : Bool := fanLive s f && dueNow s 0x0D f

/-- The duty of SAFE.SS_FAN as the pads hold it (Table 03-2, R909). -/
def safeFan (s : State) (f : Nat) : Int := if s.pads.ssFan.getLsbD f then 2 ^ 31 else 0

/-- One channel at a minor tick boundary: a duty that has taken effect, a decided transition, OFF with its safe value; a
bound channel's ball is driven low (R880). -/
def fanTick (s : State) (f : Nat) : State :=
  let d := fan s f
  if fanLive s f then
    if d.st = .off then enterFan f .idle s
    else match d.next with
      | some st => enterFan f st s
      | none => s
  else if fanPwmLive s f then
    if d.st = .off then s else enterFan f .off s
  else
    let s1 := if d.st = .off then s else enterFan f .off s
    let v := safeFan s f
    if heldOut s 2 f ∨ (fan s1 f).duty = v ∧ (fan s1 f).dutyNext = [] then s1
    else fixDuty f v s1

/-- Every fan channel at a minor tick boundary. -/
def fansTick (s : State) : State := (List.range 48).foldl fanTick s

end Sys2Proof.Machine
end

