-- ==== Sys2Proof/Machine/Fans.lean ====
section
/-!
DEFINITION. Fans.lean: the strokes and events of the fan channels, the sounder patterns and the load flags
(15_fans_relays_sounders.md).
-/

namespace Sys2Proof.Machine

/-! ### Strokes -/

/-- FAN_PWM (R862): d = clamp(IN, 0, 1), from the first period after the next tick. -/
def execFanPwm (i : Nat) (s : State) : Res :=
  finish s (runStroke 0x35 i (fun k s => setDuty k.e.target (clampI 0 (2 ^ 31) (readI s k k.e.inn)) s) s)

/-- TACH (R859): the measured speed as at the start of the tick. -/
def execTach (i : Nat) (s : State) : Res :=
  finish s (runStroke 0x36 i (fun k s => writeSig k k.e.out (BitVec.ofNat 32 (fanRpmAt s k.e.target (tickStart s))) s) s)

/-- The outcome of a completed line test (R875). -/
def testOutcome (f : Nat) (t : LineTest) (s : State) : State :=
  if t.low && t.high then decideFan f .openLoop (raiseFan f 2 s)
  else if (fan s f).afterAttempt then decideFan f .wait s
  else
    let s1 := raiseFan f 1 s
    let d := fan s1 f
    decideFan f .wait (setFan f { d with attempts := d.attempts + 1, failed := d.failed + 1 } s1)

/-- A bound channel follows its motor (R881); a START_FAIL or REVERSE_HELD raised since its last step blocks it. -/
def boundStep (f m : Nat) (failed : Bool) (s : State) : State :=
  let d := fan s f
  if failed && !decide (d.st = .blocked) then decideFan f .blocked (raiseFan f 0 s)
  else match (drv s m).st, d.st with
    | .run, .start => decideFan f .run s
    | .catching, .run | .brake, .run | .align, .run | .ramp, .run | .kick, .run | .pause, .run => decideFan f .start s
    | _, _ => s

/-- PPR + 1 edges of an OPENLOOP channel lie within T_STALL (R877). -/
def tachFound (s : State) (f : Nat) : Bool :=
  let l := (fan s f).openEdges.filter fun t => decide (t ≤ tickStart s)
  let n := fld (fPar s 0 f) 0 1 + 2
  match l, l[n - 1]? with
  | t :: _, some t0 => decide (t ≤ t0 + tStall s f)
  | _, _ => false

/-- The supervisor's step on a channel of a tach fan, by what stands at the start of its tick (R869, R872, R875, R877). -/
def tachStep (f : Nat) (s : State) : State :=
  let d := fan s f
  match d.st, d.test with
  | .start, _ =>
    (match edgesBy s f (tickStart s) with
     | t :: _ => if d.since ≤ t then decideFan f .run s else s
     | [] => s)
  | .test, some t => if t.phase = 2 ∧ t.at_ ≤ tickStart s then testOutcome f t s else s
  | .openLoop, _ => if tachFound s f then decideFan f .run s else s
  | _, _ => s

/-- An effective target of 0 leads to IDLE before anything else that the step's tick decided (R870). -/
def fanToIdle (f : Nat) (s : State) : State :=
  let d := fan s f
  setFan f { d with attempts := 0, next := if d.st = .idle then d.next else some .idle } s

/-- A stall at the start of the tick (R869, R873): in RUN, no edge for T_STALL while d > 0. -/
def stalled (s : State) (f : Nat) : Bool :=
  let d := fan s f
  let t := match edgesBy s f (tickStart s) with | t :: _ => t | [] => d.since
  decide (d.st = .run) && (fanMotor s f).isNone && expired s (t + tStall s f) && decide (0 < fanOut s f)

/-- The duty a step sets in RUN (R867, R868): DSTART until the measured speed has once not been 0. A step that leaves RUN
holds the duty (Table 15-1). -/
def runDuty (f : Nat) (s : State) : State :=
  let d := fan s f
  let rpm := fanRpmAt s f (tickStart s)
  if d.st = .run ∧ d.next = none ∧ !stalled s f then
    if rpm = 0 ∧ d.fresh then setDuty f (dStart s f) s
    else
      let w := fPar s 0x090 f
      let r := piStep ((d.etgt : Int) - rpm) (fld w 0 16) (fld w 16 16) (dMin s f) (dMax s f) d.fresh (fanOut s f) d.integ
      setFan f { fan (setDuty f r.1 s) f with integ := r.2, fresh := false } (setDuty f r.1 s)
  else s

/-- The state word of R863. -/
def fanWord (s : State) (f : Nat) : Nat :=
  let d := fan s f
  fanCode d.st + d.table.toNat * 8 + (decide (d.flt ≠ 0)).toNat * 16

/-- FAN_SUP (R863-R871, R875, R881, R901-R904): target shaping, supervisor, speed loop, and the three signals. -/
def execFanSup (i : Nat) (s : State) : Res :=
  finish s (runStroke 0x0D i (fun k s =>
    let f := k.e.target
    if !fanLive s f then s
    else
      let d := fan s f
      let t := skipBands s f d.etgt (rawTarget s k f)
      let fail := match fanMotor s f with | some m => (drv s m).failAt | none => none
      let s1 := setFan f { d with etgt := t, table := tableMode s f, motorFail := fail } s
      let s2 := if d.st = .off then s1
        else if t = 0 then fanToIdle f s1
        else if d.st = .idle then decideFan f .start s1
        else match fanMotor s f with
          | some m => boundStep f m (fail.isSome && decide (fail ≠ d.motorFail)) s1
          | none => tachStep f s1
      let s3 := runDuty f s2
      writeSig k (k.e.out + 2) (sat32 (fanOut s3 f))
        (writeSig k (k.e.out + 1) (BitVec.ofNat 32 (fanWord s3 f))
          (writeSig k k.e.out (BitVec.ofNat 32 (fanRpmAt s f (tickStart s))) s3))) s)

/-! ### Tach and supervisor events -/

/-- TACH_EDGE (R858, R877): a falling edge after 20 us below 1.0 V is accepted and timed; an OPENLOOP channel keeps the edges
that its next step judges (R869; log 121). A bound channel's ball is ignored (R880). -/
def execTachEdge (f : Fin 48) (s : State) : Res :=
  finish s (
    if (fanMotor s f.val).isSome then s
    else
      let d := fan s f.val
      evt (176 + f.val) (setFan f.val { d with
        edges := (now s :: d.edges).take 4
        openEdges := if d.st = .openLoop then (now s :: d.openEdges).take 4 else d.openEdges } s))

/-- FAN_START_TIMEOUT (R872): T_START without an edge in START: the attempt fails and the line is tested. -/
def execFanStartTimeout (f : Fin 48) (s : State) : Res :=
  finish s (
    let d := fan s f.val
    if decide (d.st = .start) && d.next.isNone && (fanMotor s f.val).isNone &&
        !((edgesBy s f.val (tickStart s)).any fun t => decide (d.since ≤ t)) && expired s (d.since + tStart s f.val) && fanStep s f.val then
      decideFan f.val .test (setFan f.val { d with attempts := d.attempts + 1, failed := d.failed + 1, afterAttempt := true } s)
    else s)

/-- FAN_STALL_TIMEOUT (R873): no edge for T_STALL in RUN while d > 0. -/
def execFanStallTimeout (f : Fin 48) (s : State) : Res :=
  finish s (
    let d := fan s f.val
    if d.next.isNone && stalled s f.val && fanStep s f.val then
      decideFan f.val .test (setFan f.val { d with afterAttempt := false } s)
    else s)

/-- TACH_LINE_TEST_PHASE (R874, R992): a 1 ms phase of the line test ends; the line is sampled, in millivolts. A standby, whose
currents are off, takes the sample of the frame that it replays. -/
def execTachLineTestPhase (f : Fin 48) (mv : Nat) (s : State) : Res :=
  finish s (
    let d := fan s f.val
    match d.test with
    | some t =>
      if decide (d.st = .test) && decide (t.phase < 2) && ((tachCurrent s f.val).isSome || isStandby s) && decide (t.at_ + ms < (tickNo s + 1) * tickLen) then
        let t' : LineTest := if t.phase = 0 then { t with phase := 1, at_ := t.at_ + ms, low := decide (mv < 1000) }
          else { t with phase := 2, at_ := t.at_ + ms, high := decide (2000 < mv) }
        moveTo (setFan f.val { d with test := some t' } s) (t.at_ + ms)
      else s
    | none => s)

/-- FAN_WAIT_END (R876): after T_RETRY the channel starts again, or is BLOCKED beyond N_RETRY failed attempts. -/
def execFanWaitEnd (f : Fin 48) (s : State) : Res :=
  finish s (
    let d := fan s f.val
    if decide (d.st = .wait) && d.next.isNone && expired s (d.since + tRetry s f.val) && fanStep s f.val then
      if d.attempts ≤ nRetry s f.val then decideFan f.val .start s
      else decideFan f.val .blocked (raiseFan f.val 0 s)
    else s)

/-- FAN_ATTEMPT_RESET (R878): after 60 s of RUN. -/
def execFanAttemptReset (f : Fin 48) (s : State) : Res :=
  finish s (
    let d := fan s f.val
    if decide (d.st = .run) && expired s (d.since + 60 * sec) && fanStep s f.val then
      setFan f.val { d with attempts := 0 } s
    else s)

/-- FAN_BLOCKED_EXIT (R879): target 0, a change of run state, or BLOCKED cleared by the host. -/
def execFanBlockedExit (f : Fin 48) (s : State) : Res :=
  finish s (
    let d := fan s f.val
    if decide (d.st = .blocked) && (d.etgt == 0 || decide (d.blockedRun ≠ s.canvas.run) || !d.flt.getLsbD 0) &&
        fanStep s f.val then
      decideFan f.val .idle s
    else s)

/-! ### Sounder patterns (R893-R896, R906) -/

/-- End of interval j of the ALARM cycle, from its start (Table 15-4). -/
def intervalEnd (j : Nat) : Nat := if j < 5 then (j + 1) * 500 * ms else 4 * sec

/-- ALARM_PATTERN_INTERVAL (R893): an interval of the running cycle ends; after the sixth the cycle begins again. -/
def execAlarmPatternInterval (s : State) : Res :=
  finish s (match s.pads.cycleStart with
    | some t =>
      let e := t + intervalEnd s.pads.interval
      if e < (tickNo s + 1) * tickLen then
        let j := (s.pads.interval + 1) % 6
        let s1 := moveTo s e
        let s2 : State := { s1 with pads := { s1.pads with
          interval := j, cycleStart := some (if j = 0 then t + 4 * sec else t) } }
        let s3 := noteSwitches s1 s2
        if j % 2 = 0 then
          (List.range 4).foldl (fun st k => if (sounder st k).alarm then evt (256 + k) st else st) s3
        else s3
      else s
    | none => s)

/-- CHIRP_END (R893, Table 15-4): the chirp of a sounder ends. -/
def execChirpEnd (k : Fin 4) (s : State) : Res :=
  finish s (
    let d := sounder s k.val
    match d.chirpEnd with
    | some e =>
      if e < (tickNo s + 1) * tickLen then
        let s1 := moveTo s e
        noteSwitches s1 (setSounder k.val { d with chirpEnd := none } s1)
      else s
    | none => s)

/-- PROOF_CHIRP_MEASURE (R896): 80 ms into a PROOF chirp the current, in microamperes, is recorded. -/
def execProofChirpMeasure (k : Fin 4) (ua : Nat) (s : State) : Res :=
  finish s (
    let d := sounder s k.val
    match d.chirpEnd with
    | some e =>
      if d.chirpProof && decide (e - 20 * ms < (tickNo s + 1) * tickLen) then
        setSounder k.val { d with probeI := BitVec.ofNat 16 (min ua 65535), probeValid := true } (moveTo s (e - 20 * ms))
      else s
    | none => s)

/-! ### Load flags (R897-R900, R907, Table 15-5) -/

def loadDiag (s : State) (n : Nat) : LoadDiag := tblGet (fun _ => LoadDiag.blank) s.fans.loads n
def setLoad (n : Nat) (d : LoadDiag) (s : State) : State :=
  { s with fans := { s.fans with loads := tblSet (fun _ => LoadDiag.blank) s.fans.loads n d } }

/-- Driver n (relays 0-31, sounder k as 32 + k) is on. -/
def driverOn (s : State) (n : Nat) : Bool := if n < 32 then relayOn s n else sndOn s (n - 32)

/-- SUP of a driver. -/
def loadSup (s : State) (n : Nat) : Bool :=
  (par s (if n < 32 then parAddr 12 n else parAddr 12 (0x060 + (n - 32)))).getLsbD 0

/-- The driver is in the state the row of a flag names (0 NOLOAD, 1 OPEN_ON, 2 OVERLOAD, 3 THERMAL). -/
def loadState (s : State) (n flag : Nat) : Bool :=
  match flag with
  | 0 => !driverOn s n
  | 3 => true
  | _ => driverOn s n

/-- The time for which a condition must last; it is not timed in the first 20 ms after a command change. -/
def loadTime (flag : Nat) : Nat := match flag with | 0 => 200 * ms | 1 => 100 * ms | 2 => ms | _ => 0

/-- The driver's diagnosis runs: domain M for relays 16-31 (R899), Tier 1 or above. -/
def loadSeen (s : State) (n : Nat) : Bool :=
  decide (1 ≤ s.sys.tier) && (n < 16 || 32 ≤ n || (domAvail s).getLsbD 5)

/-- NOLOAD and OPEN_ON are not timed on an output joined to the partner's while that is on or unknown (R1047), nor on relay
drivers 16-31 of a standby (R1048). -/
def loadTimed (s : State) (n flag : Nat) : Bool :=
  let bit := if n < 32 then n - 12 else n - 32
  let joined := s.mirror.pair && decide (16 ≤ n) &&
    (par s (parAddr 15 0)).getLsbD (if n < 32 then n - 10 else n - 30) &&
    (match s.mirror.pOut with | some w => w.getLsbD bit | none => true)
  decide (2 ≤ flag) || !(joined || (isStandby s && decide (16 ≤ n) && decide (n < 32)))

/-- LOAD_FLAG_SET (R897, R900, R907): the condition of a flag has lasted its time; `i` is the measured current in the
register's unit. -/
def execLoadFlagSet (n : Fin 36) (flag : Fin 4) (i : Byte) (s : State) : Res :=
  finish s (
    let d := loadDiag s n.val
    if loadSup s n.val && loadSeen s n.val && loadState s n.val flag.val && !d.flags.getLsbD flag.val &&
        loadTimed s n.val flag.val && passed s (tblGet (fun _ => 0) s.pads.lastSwitch n.val) (20 * ms + loadTime flag.val) then
      let d1 : LoadDiag := { d with flags := setBit d.flags flag.val true, flt := d.flt + 1, current := i }
      raiseCause (704 + n.val) flag.val false
        (logPush 0x052 (BitVec.ofNat 32 (n.val + d1.flags.toNat * 65536)) (setLoad n.val d1 s))
    else s)

/-- LOAD_FLAG_CLEAR (R897): the condition has been absent for 1 s while the driver is in the state of the row. -/
def execLoadFlagClear (n : Fin 36) (flag : Fin 4) (i : Byte) (s : State) : Res :=
  finish s (
    let d := loadDiag s n.val
    if d.flags.getLsbD flag.val && loadSeen s n.val && loadState s n.val flag.val &&
        (decide (flag.val = 3) || passed s (tblGet (fun _ => 0) s.pads.lastSwitch n.val) sec) then
      let d1 : LoadDiag := { d with flags := setBit d.flags flag.val false, current := i }
      dropCause (704 + n.val) flag.val
        (logPush 0x052 (BitVec.ofNat 32 (n.val + d1.flags.toNat * 65536)) (setLoad n.val d1 s))
    else s)

end Sys2Proof.Machine
end

