-- ==== Sys2Proof/Machine/LineStrokes.lean ====
section
/-!
DEFINITION. LineStrokes.lean: the strokes of the LINE_BB and LINE_ZC lanes (09_zero_crossing_line.md,
10_broadband_line.md, 11_clients_and_capacity.md).
-/

namespace Sys2Proof.Machine

/-- BB_BEACON (R559): the entries gathered since the previous BB_BEACON entry are those of the beacon of two frames later. -/
def execBbBeacon (i : Nat) (s : State) : Res :=
  finish s (runStroke 0x38 i (fun _ s =>
    { s with bb := { s.bb with list := s.bb.gather, gather := [], built := true } }) s)

/-- BB_SLOT (R559, R561): the client's uplink is gathered. Positions are taken in sendBeacon. -/
def execBbSlot (i : Nat) (s : State) : Res :=
  finish s (runStroke 0x39 i (fun k s =>
    { s with bb := { s.bb with gather := s.bb.gather ++ [{ id := k.e.target, down := false, carried := false }] } }) s)

/-- BB_RX (R565): the most recent report since the entry last ran moves into the record. -/
def execBbRx (i : Nat) (s : State) : Res :=
  finish s (runStroke 0x3A i (fun k s =>
    let id := k.e.target
    match (cRun s id).report with
    | some ws =>
      let s1 := setRun id { cRun s id with report := none } s
      eolCheck id (ws.foldl (fun st w => recordWrite id st w) s1)
    | none => s) s)

/-- The client has a command queued (R562), also one that the emergency run state holds back (R636), or a CLIENT_OUT value that
has changed since the last send (R640, Table 05-8; log 33). -/
def downQueued (s : State) (id : Nat) : Bool :=
  (s.clients.queue.any fun q => q.id == id && !q.zc) || decide (cWord s id 30 ≠ (cRun s id).cvsSent)

/-- BB_TX (R559, R562): positions are reserved when the client has a command queued. The commands are sent in the
position (downSend). -/
def execBbTx (i : Nat) (s : State) : Res :=
  finish s (runStroke 0x3B i (fun k s =>
    if downQueued s k.e.target then
      { s with bb := { s.bb with gather := s.bb.gather ++ [{ id := k.e.target, down := true, carried := false }] } }
    else s) s)

/-- ZC_TX (R508, R519): the client's first queued command of channel 1 becomes a HUB_CMD frame for the next P2 window of
the client's track; it is sent once (log 33). A RELEASE ends the admission (R622). -/
def execZcTx (i : Nat) (s : State) : Res :=
  finish s (runStroke 0x3C i (fun k s =>
    let id := k.e.target
    match cmdsFor s id true, cFld s id 0 16 2 with
    | q :: _, t + 1 =>
      let st := match cmdZcState q.code with | some c => c | none => 0
      let s1 := queueP2 t { typ := 5, addr := BitVec.ofNat 11 id, st := BitVec.ofNat 3 st, queuedAt := now s, sent := 0 } s
      let s2 := cmdSent q s1
      let s3 : State := { s2 with clients := { s2.clients with
        queue := s2.clients.queue.filter fun e => !(e.id == q.id && e.seq == q.seq && e.zc) } }
      if q.code = 8 then loseAdmission id s3 else s3
    | _, _ => s) s)

/-- ZC_RX (Table 05-8): the non-alarm frames received on track TARGET move into the records of their clients (log 31); skipped while
the phase is out of service (R464). -/
def execZcRx (i : Nat) (s : State) : Res :=
  finish s (runStroke 0x3D i (fun k s =>
    let t := k.e.target
    let z := zcTrack s t
    if s.glaze.oosPh.getLsbD t then s
    else z.rx.foldl (fun st f => eolCheck f.2.1 ((zcContent f.1 f.2.2).foldl (fun st w => recordWrite f.2.1 st w) st))
      (setZc t { z with rx := [] } s)) s)

end Sys2Proof.Machine
end

