-- ==== Sys2Proof/Machine/LoopStrokes.lean ====
section
/-!
DEFINITION. LoopStrokes.lean: the strokes of the LOOP lane and the DELAY1 output (13_loop_engine.md).
-/

namespace Sys2Proof.Machine

/-- Slot n is in service (R464). -/
def slotInService (s : State) (n : Nat) : Bool := !tblGet (fun _ => false) s.glaze.oosLoop n

/-- The deadline point of a slot in this tick (R749). -/
def slotDeadline (s : State) (n : Nat) : Nat := if minorOf (canvasTime s) = 0 then min (slotDl s n) 696 else slotDl s n

/-- A compensator evaluation (R737-R746) in DELAY1 (R747) or ASAP mode (R749-R754); `done` is its actual completion, in
loop units from the start of the committed window. -/
def compensate (cmp3 : Bool) (k : Stroke) (done : Nat) (s : State) : State :=
  let n := k.e.target
  if slotInService s n then
    let x0 := readI s k k.e.inn
    let r := rawOut s cmp3 n x0
    let y := clampI (slotLo s n) (slotHi s n) r.1
    let s1 := noteSat n (r.2 || decide (y ≠ r.1)) (evt 272 s)
    let past := if slotAw s n then y else r.1
    let d := slot s n
    if slotAsap s n then
      let dl := slotDeadline s n
      if k.start + opCost k.e.op ≤ dl ∧ done ≤ dl then
        writeAsap k k.e.out (BitVec.ofInt 32 y) dl (setSlot n (shiftSlot cmp3 d x0 past) s1)
      else
        let s2 := setSlot n (shiftSlot cmp3 d x0 (readI s k k.e.out)) s1
        evt 273 { s2 with loop := { s2.loop with cntMiss := s2.loop.cntMiss + 1
                                                 fMiss := tblSet (fun _ => false) s2.loop.fMiss n true } }
    else setSlot n { shiftSlot cmp3 d x0 past with pend := some (y, k.e.out, tickNo s) } s1
  else s

/-- CMP2. -/
def execCmp2 (i : Nat) (done : Nat) (s : State) : Res :=
  finish s (runStroke 0x20 i (fun k s => compensate false k done s) s)

/-- CMP3. -/
def execCmp3 (i : Nat) (done : Nat) (s : State) : Res :=
  finish s (runStroke 0x21 i (fun k s => compensate true k done s) s)

/-- PROF (R757-R759): one step toward IN, then the output to OUT. -/
def execProf (i : Nat) (s : State) : Res :=
  finish s (runStroke 0x22 i (fun k s =>
    let g := k.e.target
    let d := profStep (gen s g) (readI s k k.e.inn) (profV s g) (profA s g) (profJ s g) (profS s g)
    writeSig k k.e.out (profOut d) (evt 276 (setGen g d s))) s)

/-- PENT (R760-R767): one step with the error at IN. -/
def execPent (i : Nat) (s : State) : Res :=
  finish s (runStroke 0x23 i (fun k s =>
    let r := pentStep k.e.target (readI s k k.e.inn) (readSig s k (fld (pentCfg s k.e.target) 20 11)) s
    writeSig k k.e.out r.2 r.1) s)

/-- Slot n has an entry due in this tick. -/
def slotDue (s : State) (n : Nat) : Bool := dueNow s 0x20 n || dueNow s 0x21 n

/-- DELAY1_OUTPUT (R747): at the start of the slot's next due tick, its pending output is written to the OUT signal. -/
def execDelay1Output (n : Fin 512) (s : State) : Res :=
  finish s (match (slot s n.val).pend with
    | some (y, g, t) =>
      if atTick s && tickPast s t && canvasRuns s && laneRuns s 2 && slotInService s n.val && slotDue s n.val then
        setSignal g (BitVec.ofInt 32 y) (setSlot n.val { slot s n.val with pend := none } s)
      else s
    | none => s)

end Sys2Proof.Machine
end

