-- ==== Sys2Proof/Machine/StoreOps.lean ====
section
/-!
DEFINITION. StoreOps.lean: shared operations of the retained store: the journal, erases, programs, the queues, dumps
(16_retained_store.md).
-/

namespace Sys2Proof.Machine

/-! ### Outcomes of parameter accesses (R384) -/

/-- PCTL.RES takes an outcome; every outcome but OK is counted. -/
def pctlOut (code : Nat) (s : State) : State :=
  let s1 : State := { s with host := { s.host with
    pctlRes := BitVec.ofNat 3 code
    errCnt := if code = 0 then s.host.errCnt else satInc s.host.errCnt } }
  if code = 0 then s1 else evt 284 s1

/-! ### Regions (Table 16-1) -/

/-- First sector and sectors of region 0-3 (A-D). -/
def regionBase (r : Nat) : Nat := ([3, 11, 91, 117] : List Nat).getD r 0
def regionSectors (r : Nat) : Nat := ([8, 80, 10, 11] : List Nat).getD r 0

/-- The page of the array (64 x sector + page) that a page index of a region names; none outside the region. -/
def pageOf (r p : Nat) : Option Nat :=
  if p < 64 * regionSectors r then some (64 * regionBase r + p) else none

/-- The sectors a host program or erase may target (R969). -/
def hostSector (sec : Nat) : Bool := sec == 6 || sec == 7 || sec == 10

/-- Words of a page, and whether it is blank (R944). -/
def pageWords (m : Memory) (pg : Nat) : List Word := memWords m (64 * pg) 16
def pageBlank (m : Memory) (pg : Nat) : Bool := (pageWords m pg).all fun w => w == 0xFFFFFFFF
/-- A sector holds nothing. -/
def sectorBlank (m : Memory) (sec : Nat) : Bool := m.all fun p => decide (p.1 < 4096 * sec) || decide (4096 * sec + 4096 ≤ p.1)

/-- The region write and read keys (Table 07-3). -/
def readKey (r : Nat) : Nat := 0x10 + 2 * r
def writeKey (r : Nat) : Nat := 0x11 + 2 * r

/-! ### Error correction (R943-R946) -/

/-- The flaw of a group: 0 none, 1 correctable, 2 uncorrectable, 3 reads differently at the two margin levels. -/
def flawOf (s : State) (g : Nat) : Nat := tblGet (fun _ => 0) s.store.flaws g

/-- What error correction finds when it reads a group: 0 clean, 1 corrected, 2 uncorrectable. -/
def eccOf (s : State) (g : Nat) : Nat := if flawOf s g = 3 then 0 else flawOf s g

/-- A group of a sector needs correction or reads differently at the two margin levels (R952). -/
def weakSector (s : State) (sec_ : Nat) : Bool := s.store.flaws.any fun p => p.1 / 512 == sec_

/-- One group with a flaw is read by the host or the device: corrected and uncorrectable ones are counted; the first
uncorrectable one of a sector is logged, a trouble cause (14, 0) that is an event (R945, R946, R1221). -/
def readFlaw (s : State) (p : Nat × Nat) : State :=
  if p.2 = 3 then s
  else if p.2 = 1 then evt 298 { s with store := { s.store with ce := s.store.ce + 1 } }
  else
    let sec := p.1 / 512
    let s1 := raiseCause 896 0 true (evt 299 { s with store := { s.store with ue := s.store.ue + 1 } })
    if tblGet (fun _ => false) s1.store.ueLogged sec then s1
    else logPush 0x060 (BitVec.ofNat 32 (sec + 3 * 256)) { s1 with store := { s1.store with
      ueLogged := tblSet (fun _ => false) s1.store.ueLogged sec true } }

/-- n groups from g on are read. -/
def readGroups (g n : Nat) (s : State) : State :=
  (s.store.flaws.filter fun p => decide (g ≤ p.1) && decide (p.1 < g + n)).foldl readFlaw s

/-- Flaws of a span of groups are gone once it is erased or programmed anew. -/
def clearFlaws (g n : Nat) (s : State) : State :=
  { s with store := { s.store with flaws := s.store.flaws.filter fun p => decide (p.1 < g) || decide (g + n ≤ p.1) } }

/-- Words programmed at a byte address. -/
def progWords (a : Nat) (ws : List Word) (s : State) : State := { s with mem := memWriteWords s.mem a ws }

/-- Groups (512 x sector + group) whose cells have weakened: correctable (0), beyond correction (1): then what they read as is
not specified; reading differently at the two margin levels (2) (R943, R946, R952; log 122). -/
def decay (found : List (Nat × Fin 3)) (s : State) : State :=
  found.foldl (fun st p =>
    if 65536 ≤ p.1 then st
    else if p.2 = 2 then
      (if flawOf st p.1 = 0 then { st with store := { st.store with flaws := tblSet (fun _ => 0) st.store.flaws p.1 3 } }
       else st)
    else if p.2 = 1 then
      let s1 := progWords (8 * p.1) [Config.freeWord st.free, Config.freeWord (st.free + 1)] st
      { s1 with free := st.free + 2, store := { s1.store with flaws := tblSet (fun _ => 0) s1.store.flaws p.1 2 } }
    else if flawOf st p.1 ≠ 2 then
      { st with store := { st.store with flaws := tblSet (fun _ => 0) st.store.flaws p.1 1 } }
    else st) s

/-- A page programmed with 16 words (source 296). -/
def progPage (pg : Nat) (ws : List Word) (s : State) : State := evt 296 (progWords (64 * pg) ws s)

/-- A page whose margin verify failed: what it then holds is not specified (log 35). -/
def progPageBad (pg : Nat) (s : State) : State :=
  let s1 := progPage pg ((List.range 16).map fun i => Config.freeWord (s.free + i)) s
  { s1 with free := s.free + 16 }

/-! ### Journal and erases (R947-R949, Table 16-3) -/

/-- Byte address of group p of the active journal sector. -/
def jAddr (s : State) (p : Nat) : Nat := sectorBase (if s.store.jAct then 1 else 0) + 8 * p

/-- One record programmed as the next group of the active journal. -/
def jWrite (v : DWord) (s : State) : State :=
  let s1 := progWords (jAddr s s.store.jPos) [v.extractLsb' 0 32, v.extractLsb' 32 32] s
  { s1 with store := { s1.store with jPos := s.store.jPos + 1 } }

/-- A record: kind, byte [55:48], byte [47:40], low 40 bits. -/
def jRec (kind a b low : Nat) : DWord := BitVec.ofNat 64 (kind * 2 ^ 56 + a * 2 ^ 48 + b * 2 ^ 40 + low)

/-- INTENT and DONE of one erase carry its sequence number (log 36). -/
def jIntent (sec cause : Nat) (s : State) : State := jWrite (jRec 0x1E sec cause s.store.jSeq.toNat) s
def jDone (sec cause : Nat) (s : State) : State :=
  let s1 := jWrite (jRec 0x2D sec cause s.store.jSeq.toNat) s
  { s1 with store := { s1.store with jSeq := s.store.jSeq + 1 } }

/-- A sector's contents erased: its groups blank, its erase counted in region B; at 90,000 WEAR sets (Table 16-7). -/
def eraseRaw (sec : Nat) (s : State) : State :=
  let n := tblGet (fun _ => (0 : Word)) s.store.erases sec + 1
  let s1 : State := { s with
    mem := memErase s.mem (sectorBase sec) 4096
    store := { s.store with
      erases := tblSet (fun _ => (0 : Word)) s.store.erases sec n
      ueLogged := tblSet (fun _ => false) s.store.ueLogged sec false
      wear := s.store.wear || decide (90000 ≤ n.toNat) } }
  let s2 := evt 297 (parPush 3 sec n (clearFlaws (512 * sec) 512 s1))
  if 90000 ≤ n.toNat then raiseCause 898 0 false s2 else s2

/-- A sector erased between INTENT and DONE (R947). -/
def eraseJournalled (sec cause : Nat) (s : State) : State := jDone sec cause (eraseRaw sec (jIntent sec cause s))

/-- With fewer than 16 blank groups left, the journal goes on in its other sector behind a JROLL (R949). -/
def jRoll (s : State) : State :=
  if 496 < s.store.jPos then
    let other := if s.store.jAct then 0 else 1
    let s1 := eraseJournalled other 8 s
    let s2 : State := { s1 with store := { s1.store with
      jAct := !s1.store.jAct, jPos := 0, rollSeq := s1.store.rollSeq + 1 } }
    jWrite (jRec 0x69 0 0 s2.store.rollSeq.toNat) s2
  else s

/-- An erase, and the roll of the journal where it is due. -/
def eraseSector (sec cause : Nat) (s : State) : State := jRoll (eraseJournalled sec cause s)

/-- n sectors from one on erased. -/
def eraseSectors (sec n cause : Nat) (s : State) : State :=
  (List.range n).foldl (fun st i => eraseSector (sec + i) cause st) s

/-! ### When the array is free (R929, R933, R977) -/

/-- A store long operation is RUNNING. -/
def storeOp (s : State) : Bool :=
  decide (s.host.op.st = .running) && ([1, 2, 3, 4, 10] : List Nat).contains s.host.op.code

/-- Background work may use the array: the store is read, N is available, and no host request holds the array. -/
def arrayFree (s : State) : Bool :=
  s.store.ready && (domAvail s).getLsbD 9 && !storeOp s && s.host.dctlUntil.isNone && !s.power.flushing

/-- A sector waits for its repair and is used by nothing (R986). -/
def isTorn (s : State) (sec : Nat) : Bool := s.store.torn.any fun p => p.1 == sec

/-! ### Fault log entries in region D (R1091, R938, R1095) -/

/-- An entry programmed as the next of region D; the sector with the oldest entries is erased when no page is blank. -/
def logWrite (hyper word2 value : Word) (s : State) : State :=
  let p := s.store.logPos
  let s1 := if p % 256 = 0 && !sectorBlank s.mem (117 + p / 256) then eraseSector (117 + p / 256) 3 s else s
  let s2 := evt 296 (progWords (sectorBase 117 + 16 * p) [s1.store.logSeq, hyper, word2, value] s1)
  evt 301 { s2 with store := { s2.store with logPos := (p + 1) % 2816, logSeq := s1.store.logSeq + 1 } }

/-- The next region D entry can be programmed. -/
def logFree (s : State) : Bool := !isTorn s (117 + s.store.logPos / 256)

/-- The oldest queued entry written to region D; an owed 0x3FF goes first. -/
def writeOneLog (s : State) : State :=
  if s.store.lostDue then
    logWrite (BitVec.ofNat 32 (hyperNo s)) (BitVec.ofNat 32 (now s / tickLen % 8192 + 0x3FF * 8192)) s.store.logLost
      { s with store := { s.store with lostDue := false } }
  else match s.store.logQ with
    | e :: r => logWrite e.hyper e.word2 e.value { s with store := { s.store with logQ := r } }
    | [] => s

/-! ### The parameter log (R917-R920) -/

/-- First byte of a half. -/
def halfBase (h : Bool) : Nat := sectorBase (if h then 27 else 11)

/-- A record of a half as it stands in the array: class and item, value, sequence; none when blank or its CRC fails. -/
def parRecAt (m : Memory) (h : Bool) (i : Nat) : Option (Nat × Word × Word) :=
  let ws := memWords m (halfBase h + 16 * i) 3
  if ws.getD 0 0 = 0xFFFFFFFF ∧ ws.getD 1 0 = 0xFFFFFFFF then none
  else if crc32 ws = memWord m (halfBase h + 16 * i + 12) then some ((ws.getD 0 0).toNat, ws.getD 1 0, ws.getD 2 0)
  else none

/-- The valid records of a half, in order. -/
def parRecords (m : Memory) (h : Bool) : List (Nat × Word × Word) := (List.range 4096).filterMap (parRecAt m h)

/-- The latest record of each item. -/
def latest (l : List (Nat × Word × Word)) : List (Nat × Word × Word) :=
  l.foldl (fun acc r =>
    match acc.find? fun q => q.1 == r.1 with
    | some q => if q.2.2.toNat ≤ r.2.2.toNat then (acc.filter fun x => x.1 != r.1) ++ [r] else acc
    | none => acc ++ [r]) []

/-- A record appended to the active half. -/
def parAppend (key : Nat) (v : Word) (s : State) : State :=
  let w0 : Word := BitVec.ofNat 32 key
  let ws := [w0, v, s.store.parSeq]
  let s1 := evt 296 (progWords (halfBase s.store.half + 16 * s.store.parPos) (ws ++ [crc32 ws]) s)
  { s1 with store := { s1.store with parPos := s.store.parPos + 1, parSeq := s.store.parSeq + 1 } }

/-- Fewer than 64 of the active half's 1,024 pages are blank (R919). -/
def parFull (s : State) : Bool := decide (1024 < (s.store.parPos + 3) / 4 + 64)

/-- The sectors that the next record needs are not torn (R986): the whole other half where it compacts first. -/
def parFree (s : State) : Bool :=
  if parFull s then (List.range 16).all fun i => !isTorn s ((if s.store.half then 11 else 27) + i)
  else !isTorn s ((if s.store.half then 27 else 11) + s.store.parPos / 256)

/-- Compaction (R919): with fewer than 64 blank pages the other half is erased, takes a snapshot of every current value
and becomes active. -/
def parCompact (s : State) : State :=
  if parFull s then
    let now_ := latest (parRecords s.mem s.store.half)
    let h := !s.store.half
    let s1 := eraseSectors (if h then 27 else 11) 16 2 s
    now_.foldl (fun st r => parAppend r.1 r.2.1 st) { s1 with store := { s1.store with half := h, parPos := 0 } }
  else s

/-- The oldest queued record written to region B. -/
def writeOnePar (s : State) : State :=
  match s.store.parQ with
  | r :: rest => parAppend (r.item + 65536 * r.cls) r.value (parCompact { s with store := { s.store with parQ := rest } })
  | [] => s

/-- Records of the queue that the shadow holds and a dump carries: the first 256 (Table 16-2, log 37). -/
def parHeld (s : State) : List ParRec := s.store.parQ.take 256

/-- A parameter record is durable (R921): no longer queued, or held in the shadow while HOLD_LOW is 0. -/
def parDurable (s : State) (cls item : Nat) : Bool :=
  !(s.store.parQ.any fun r => r.cls == cls && r.item == item) ||
    (!s.power.holdLow && !((s.store.parQ.drop 256).any fun r => r.cls == cls && r.item == item))

/-! ### Host pages (R924-R927, R935) -/

/-- The oldest host page written to its target, once that is not torn (R986). -/
def writeOnePage (s : State) : State :=
  match s.store.pages with
  | p :: rest =>
    if isTorn s (p.page / 64) then s else progPage p.page p.data { s with store := { s.store with pages := rest } }
  | [] => s

/-- A page copied into the host rows: a pending copy of the same page is replaced. -/
def shadowPage (pg : Nat) (ws : List Word) (s : State) : State :=
  if s.store.pages.any fun p => p.page == pg then
    { s with store := { s.store with pages := s.store.pages.map fun p =>
        if p.page == pg then { p with data := ws } else p } }
  else { s with store := { s.store with
    ord := s.store.ord + 1, pages := s.store.pages ++ [{ ord := s.store.ord, page := pg, data := ws }] } }

/-! ### Region C counters (R932, R987) -/

/-- Counter k. -/
def cntOf (s : State) (k : Nat) : Word := tblGet (fun _ => (0 : Word)) s.store.cnt k

/-- Counter k takes a value; its row becomes dirty. -/
def setCnt (k : Nat) (v : Word) (s : State) : State :=
  { s with store := { s.store with
      cnt := tblSet (fun _ => (0 : Word)) s.store.cnt k v, dirtyCnt := setBit s.store.dirtyCnt (k / 256) true } }

/-- The counter image. -/
def cntImage (s : State) : List Word := (List.range 4096).map (cntOf s)

/-! ### Shadow rows, dumps (R931, R939-R942) -/

/-- The 16 bytes of queued log entry i, with the sequence number it will take; blank beyond the queue. -/
def logRowWords (s : State) (i : Nat) : List Word :=
  match s.store.logQ[i]? with
  | some e => [s.store.logSeq + BitVec.ofNat 32 (i + s.store.lostDue.toNat), e.hyper, e.word2, e.value]
  | none => List.replicate 4 0xFFFFFFFF

/-- The 16 bytes of queued record i. -/
def parRowWords (s : State) (i : Nat) : List Word :=
  match (parHeld s)[i]? with
  | some r =>
    let ws := [BitVec.ofNat 32 (r.item + 65536 * r.cls), r.value, s.store.parSeq + BitVec.ofNat 32 i]
    ws ++ [crc32 ws]
  | none => List.replicate 4 0xFFFFFFFF

/-- The 256 words of shadow row r (Table 16-2). -/
def rowWords (s : State) (r : Nat) : List Word :=
  if r < 16 then (List.range 256).map fun i => cntOf s (256 * r + i)
  else if r < 24 then (List.range 64).flatMap fun i => logRowWords s (64 * (r - 16) + i)
  else if r < 28 then (List.range 64).flatMap fun i => parRowWords s (64 * (r - 24) + i)
  else (List.range 16).flatMap fun i => match s.store.pages[16 * (r - 28) + i]? with
    | some p => p.data
    | none => List.replicate 16 0xFFFFFFFF

/-- A row differs from the array (R938's dirty rows). -/
def rowDirty (s : State) (r : Nat) : Bool :=
  if r < 16 then s.store.dirtyCnt.getLsbD r
  else if r < 24 then decide (64 * (r - 16) < s.store.logQ.length)
  else if r < 28 then decide (64 * (r - 24) < (parHeld s).length)
  else decide (16 * (r - 28) < s.store.pages.length)

/-- The dirty row bitmap. -/
def dirtyRows (s : State) : Word := (List.range 32).foldl (fun w r => setBit w r (rowDirty s r)) (0 : Word)

/-- First sector of a dump area (R940). -/
def dumpBase (a : Bool) : Nat := if a then 109 else 101

/-- The records of a journal sector as they stand, in order, up to the first blank group. -/
def jRecords (m : Memory) (act : Bool) : List DWord :=
  ((List.range 512).map fun p =>
    (memWord m (sectorBase (if act then 1 else 0) + 8 * p + 4) ++ memWord m (sectorBase (if act then 1 else 0) + 8 * p) :
      DWord)).takeWhile fun v => v != BitVec.allOnes 64

/-- Kind and byte [55:48] of a record. -/
def jKind (v : DWord) : Nat := fld v 56 8
def jByte (v : DWord) : Nat := fld v 48 8

/-- The dump records of both journal sectors, the older sector first. -/
def dumpRecords (s : State) : List DWord :=
  (jRecords s.mem (!s.store.jAct) ++ jRecords s.mem s.store.jAct).filter fun v =>
    jKind v == 0x3C || jKind v == 0x4B || jKind v == 0x5A

/-- The area the next dump takes: the one the latest dump record does not name; area 0 when there is none (R939, R979). -/
def nextArea (s : State) : Bool :=
  match (dumpRecords s).getLast? with
  | some v => jByte v == 0
  | none => false

/-- The flush at a power-fail warning (R939, R940, R975, R978, R1216): a running sector erase stays torn; DUMP_START names
the dirty rows, and they are programmed as the shadow holds them now. Before the restart rebuild it carries what the
shadow kept (R354), also while nRST holds N (DEDUCED, log 134). -/
def storeFlush (s : State) : State :=
  if s.sys.applied.getLsbD 9 && !s.sys.failed.getLsbD 9 && s.store.kept then
    let a := nextArea s
    let d := dirtyRows s
    let s1 := jWrite (jRec 0x3C a.toNat (fld d 24 8) (fld d 0 24 * 65536)) s
    let s2 := (List.range 32).foldl (fun st r =>
      if d.getLsbD r then progWords (sectorBase (dumpBase a + r / 4) + 1024 * (r % 4)) (rowWords s r) st else st) s1
    { s2 with store := { s2.store with
        dumps := (s.store.dumps.filter fun x => x.area != a) ++
          [({ area := a, rows := d, survived := false, ord := s.store.ord } : Dump)]
        dumping := true, dumpTags := s.store.pages.map fun p => p.page, erasing := none } }
  else s

/-- The flush has completed: DUMP_DONE; with VMAIN valid the shadow has survived (R332, R942). -/
def storeFlushDone (s : State) : State :=
  match s.store.dumping, s.store.dumps.getLast? with
  | true, some d =>
    let s1 := jWrite (jRec 0x4B d.area.toNat 0 0) s
    { s1 with store := { s1.store with
        dumping := false, dumps := s.store.dumps.dropLast ++ [{ d with survived := s.power.vmain }] } }
  | _, _ => s

/-- Domain K loses its contents: shadow, keys' locks and the rows it held (R1222, R187). -/
def loseShadow (s : State) : State :=
  { s with store := { s.store with
      ready := false, kept := false, logQ := [], parQ := [], pages := [], cnt := [], dirtyCnt := 0, lostDue := false } }

end Sys2Proof.Machine
end

