-- ==== Sys2Proof/Machine/ParamRead.lean ====
section
/-!
DEFINITION. ParamRead.lean: what a read of a parameter returns (R390): the value in force of a writable field, the status
and counters of the RO fields. One definition for each bank (22_parameter_index.md).
-/

namespace Sys2Proof.Machine

/-- A word of n bits, bit i as f says. -/
def bitsOf (n : Nat) (f : Nat → Bool) : Word := (List.range n).foldl (fun w i => setBit w i (f i)) (0 : Word)

/-- A signed value in n bits at bit lo. -/
def putI (lo n : Nat) (v : Int) : Word := put 32 lo ((BitVec.ofInt n v).toNat)

/-- Time left of a lock in whole seconds, rounded up. -/
def lockLeft (s : State) (id : Nat) : Nat :=
  let l := tblGet (fun _ => KeyLock.blank) s.host.locks id
  if now s < l.until_ then (l.until_ - now s + sec - 1) / sec else 0

/-- SYS.KEY_LOCK and STORE.RKEY_LOCK. -/
def lockWord (s : State) (id : Nat) : Word :=
  let l := tblGet (fun _ => KeyLock.blank) s.host.locks id
  put 32 0 (lockLeft s id) ||| put 32 12 (min 3 l.wrong) ||| put 32 16 l.locks.toNat

/-- The code of a group's state. -/
def groupCode : GroupState → Nat
  | .empty => 0 | .waiting => 1 | .landed => 2 | .refused => 3

/-- A group's report. -/
def groupRes (s : State) (g : Nat) : GroupRes := tblGet (fun _ => GroupRes.blank) s.glaze.res g

/-- SYS (Tables 01-5, 07-8, 08-8). -/
def readSys (s : State) (i : Nat) : Word :=
  if i = 0 then BitVec.ofNat 32 s.sys.tier
  else if i = 1 then (domAvail s).setWidth 32
  else if i = 2 then bit1 32 (decide (s.canvas.run = .emergency)) ||| put 32 1 s.canvas.swapHeld.toNat
  else if i = 0x11 then bit1 32 s.host.silent ||| put 32 16 s.host.silentCnt.toNat
  else if i = 0x12 then put 32 0 s.host.busErrCnt.toNat ||| put 32 16 s.host.waitCnt.toNat
  else if 0x13 ≤ i ∧ i ≤ 0x1A then lockWord s (i - 0x13)
  else if 0x20 ≤ i ∧ i ≤ 0x27 then
    let r := groupRes s (i - 0x20)
    put 32 0 (groupCode r.st) ||| put 32 2 r.persist.toNat ||| put 32 4 r.reason.toNat ||| put 32 8 r.words.toNat
  else if 0x28 ≤ i ∧ i ≤ 0x2F then (groupRes s (i - 0x28)).ts
  else if i = 0x31 then
    svcResWord s
  else if i = 0x32 then s.glaze.oosDrv.setWidth 32
  else if i = 0x33 then s.glaze.oosMod.setWidth 32
  else if i = 0x34 then s.glaze.oosPh.setWidth 32
  else if 0x35 ≤ i ∧ i ≤ 0x44 then bitsOf 32 fun b => tblGet (fun _ => false) s.glaze.oosLoop (32 * (i - 0x35) + b)
  else if i = 0x45 then
    put 32 0 s.glaze.probeClient.toNat ||| put 32 11 s.glaze.probePassed.toNat ||| put 32 15 s.glaze.probeActive.toNat |||
      put 32 16 s.glaze.probePeriods.toNat
  else par s i

/-- The code of a track state (TIME.TRK_STAT). -/
def trackCode : TrackState → Nat
  | .acq => 0 | .locked => 1 | .holdover => 2 | .lost => 3

/-- TIME (Table 04-5). -/
def readTime (s : State) (i : Nat) : Word :=
  let t := s.time
  if i = 0 then ts32 s
  else if i = 1 then t.easelHi
  else if i = 2 then t.calSec
  else if i = 3 then BitVec.ofNat 32 (calFraction s % 32768) ||| put 32 15 t.calValid.toNat
  else if i = 5 then putI 0 16 (trimReg t.trim)
  else if i = 7 then
    bitsOf 6 fun b => ([t.x40Ok, t.x32Ok, t.discLock, t.xtalDev, t.x40Fail, t.easelRtc] : List Bool).getD b false
  else if 0x0B ≤ i ∧ i ≤ 0x0D then
    let k := track s (i - 0x0B)
    put 32 0 (trackCode k.st) ||| put 32 2 k.synLast.toNat ||| put 32 3 (min 31 k.synRun) |||
      put 32 16 (if k.st = .locked ∨ k.st = .holdover then k.freq.toNat else 0)
  else if 0x0E ≤ i ∧ i ≤ 0x10 then BitVec.ofInt 32 (track s (i - 0x0E)).rising.per
  else if 0x11 ≤ i ∧ i ≤ 0x13 then (easelWord (track s (i - 0x11)).lastTooth).setWidth 32
  else if 0x14 ≤ i ∧ i ≤ 0x16 then (track s (i - 0x14)).cyc
  else if 0x17 ≤ i ∧ i ≤ 0x19 then (track s (i - 0x17)).cntRej
  else if 0x1A ≤ i ∧ i ≤ 0x1C then (track s (i - 0x1A)).cntGlitch
  else if 0x1D ≤ i ∧ i ≤ 0x1F then (track s (i - 0x1D)).cntSyn
  else if 0x20 ≤ i ∧ i ≤ 0x22 then (track s (i - 0x20)).cntHold
  else if i = 0x23 then
    put 32 0 t.phaseL2.toNat ||| put 32 12 t.phaseL3.toNat |||
      put 32 24 (decide (trkState s 0 = .locked ∧ trkState s 1 = .locked ∧ trkState s 2 = .locked)).toNat
  else par s (0x0800 + i)

/-- The commitment of lane l in frame f at tick k in a run state: the summed cost of its due entries (R250). -/
def commitOf (l : List Entry) (run : RunState) (lane f k : Nat) : Nat :=
  l.foldl (fun a e => if e.lane = lane ∧ setActive run e.set ∧ e.due f k then a + opCost e.op else a) 0

/-- The largest commitment of a lane over the ticks of a list, both sets and every frame. -/
def commitMax (l : List Entry) (lane : Nat) (ticks : List Nat) : Nat :=
  ([RunState.comfort, .emergency] : List RunState).foldl (fun a r => (List.range 64).foldl (fun b f =>
    ticks.foldl (fun c k => max c (commitOf l r lane f k)) b) a) 0

/-- CANVAS (Table 05-11). -/
def readCanvas (s : State) (i : Nat) : Word :=
  let c := s.canvas
  if i = 0 then put 32 0 c.swapArm.toNat ||| put 32 1 c.allowOld.toNat
  else if i = 1 then
    put 32 0 (runCode c.run) ||| put 32 2 c.noImage.toNat ||| put 32 3 c.fallback.toNat ||| put 32 4 c.slot.toNat |||
      put 32 5 (stagedOkNow s).toNat ||| put 32 6 c.swapHeld.toNat ||| put 32 7 c.ovrHigh.toNat
  else if i = 2 then (match c.image with | some m => m.generation | none => 0)
  else if i = 3 then c.stagedGen
  else if i = 4 then put 32 0 c.verCode.toNat ||| put 32 8 c.verBusy.toNat ||| put 32 9 c.verSlot.toNat
  else if i = 5 then c.verWhere
  else if 6 ≤ i ∧ i ≤ 0x0D then
    put 32 0 (commitMax (entries s) (i - 6) ((List.range 127).map fun k => k + 1)) |||
      put 32 16 (commitMax (entries s) (i - 6) [0])
  else if 0x0E ≤ i ∧ i ≤ 0x15 then tblGet (fun _ => 0) c.ovrCnt (i - 0x0E)
  else if i = 0x16 then c.ovrLast
  else if 0x17 ≤ i ∧ i ≤ 0x1E then BitVec.ofNat 32 (tblGet (fun _ => 0) c.resPeak (i - 0x17))
  else if i = 0x1F then c.swapCnt
  else if i = 0x20 then (match c.image with | some m => m.crc | none => 0)
  else if i = 0x21 then c.laneFlt.setWidth 32
  else 0

/-- GESSO (Table 02-10). -/
def readGesso (s : State) (i : Nat) : Word :=
  let g := s.gesso
  if i ≤ 0x84 then recWord g.record i &&& recBits i
  else if i = 0x85 then
    put 32 0 g.copyDup.toNat ||| put 32 1 g.dflt.toNat ||| put 32 2 g.armed.toNat ||| put 32 3 g.clkRc.toNat |||
      put 32 4 g.rlBusy.toNat ||| put 32 5 g.rlResult.toNat ||| put 32 8 g.relatchCnt.toNat
  else if i = 0x86 then g.cfgCrc
  else if i ≤ 0x96 then
    let d := gSen s (i - 0x87)
    put 32 0 d.band.code ||| put 32 2 (g.swapped.getLsbD (i - 0x87)).toNat ||| put 32 8 d.code.toNat
  else if i = 0x97 then g.trip.setWidth 32
  else if i = 0x98 then
    (bitsOf 16 fun n => (gSen s n).trouble) ||| put 32 16 g.scFault.toNat ||| put 32 17 g.cfgDefault.toNat |||
      put 32 18 g.xdis.toNat ||| put 32 19 g.fbMismatch.toNat ||| put 32 20 g.clkTrouble.toNat ||| put 32 21 g.cfgLatch.toNat
  else if i = 0x99 then g.outCmd.setWidth 32
  else if i = 0x9A then (driverFb s).setWidth 32
  else if i = 0x9B then g.cntAcc
  else if i = 0x9C then g.cntDrop
  else if i = 0x9D then g.cntUnconf
  else if i = 0x9E then recWord g.record 133 &&& recBits 133
  else if i = 0xA0 then put 32 0 g.lastSrc.toNat ||| put 32 5 g.lastAddr.toNat
  else 0

/-- SAFE (Table 03-9). -/
def readSafe (s : State) (i : Nat) : Word :=
  let f := s.safety
  if i = 1 then
    put 32 0 f.run.toNat ||| put 32 1 f.lockstep.toNat ||| put 32 2 f.fwFail.toNat ||| put 32 3 f.sram.toNat |||
      put 32 4 f.recPend.toNat
  else if i = 2 then f.lsCnt
  else if i = 3 then put 32 0 f.hbLast.toNat ||| put 32 8 f.hbCnt.toNat
  else if i = 4 then put 32 0 f.xdisItem.toNat ||| put 32 3 f.xdisIndex.toNat ||| put 32 8 f.xdisCnt.toNat
  else if i = 5 then bit1 32 f.blocked
  else if 7 ≤ i ∧ i ≤ 9 then
    let w : Word := f.alarms.extractLsb' (32 * (i - 7)) 32
    if i = 9 then setBit w 31 f.unknown else w
  else if 0x0A ≤ i ∧ i ≤ 0x0C then f.sil.extractLsb' (32 * (i - 0x0A)) 32
  else if i = 0x0D then f.fwTest
  else if 0x70 ≤ i ∧ i ≤ 0x7F then put 32 0 (mSen s (i - 0x70)).band.code
  else if 0x400 ≤ i then
    let d := i - 0x400
    let c (j : Nat) := crit s (4 * d + j)
    (bitsOf 4 fun j => (c j).isTrue) ||| ((bitsOf 4 fun j => (c j).confirmed) <<< 4) |||
      ((bitsOf 4 fun j => critInvalid s (4 * d + j)) <<< 8) ||| ((bitsOf 4 fun j => (c j).implaus) <<< 12) |||
      put 32 16 (dfDegraded s d).toNat ||| put 32 17 ((List.range 4).any fun j => (c j).unarb).toNat
  else par s (0x2000 + i)

/-- CONV.MOD_STAT.STATE: 0 off, 1 starting, 2 idle, 3 converting. -/
def modState (s : State) (m : Nat) : Nat :=
  let d := modulator s m
  if !d.powered then 0
  else match d.conv with
    | some c => if now s < c.start + c.delay then 1 else 3
    | none => 2

/-- CONV (Table 12-7). -/
def readConv (s : State) (i : Nat) : Word :=
  let q := s.conv
  if i = 2 then put 32 0 q.lost.toNat ||| put 32 16 q.arbDrop.toNat
  else if i = 3 then
    put 32 0 q.arbWait.length ||| put 32 5 q.arbCh.toNat ||| put 32 12 ((modulator s 15).conv.any fun c => decide (c.kind = .arbiter)).toNat |||
      put 32 16 q.impl.toNat
  else if i = 4 then q.head.setWidth 32
  else if i = 5 then q.tail.setWidth 32
  else if i = 6 then
    (if q.head = q.tail then (0 : DWord) else tblGet (fun _ => 0) q.queue q.tail.toNat).setWidth 32
  else if i = 7 then q.hiLatch
  else if 0x20 ≤ i ∧ i ≤ 0x2F then
    let m := i - 0x20
    let d := modulator s m
    put 32 0 (modState s m) ||| put 32 2 (refOk s m).toNat ||| put 32 3 d.refFault.toNat |||
      put 32 4 (match d.recov with | some t => decide (now s < t) | none => false).toNat |||
      put 32 5 (match d.conv with | some c => c.ch | none => 0) |||
      put 32 12 (match d.conv with | some c => decide (c.kind = ConvKind.cont) | none => false).toNat |||
      put 32 16 d.abort.toNat ||| put 32 24 d.ovr.toNat
  else if 0x180 ≤ i ∧ i ≤ 0x1FF then
    (match (convCh s (i - 0x180)).last with
     | some r => putI 0 24 r.code ||| put 32 24 r.flags.toNat
     | none => 0)
  else if 0x200 ≤ i ∧ i ≤ 0x27F then
    let c := convCh s (i - 0x200)
    put 32 0 c.swapped.toNat ||| put 32 1 c.ow.toNat ||| put 32 2 c.tested.toNat |||
      put 32 3 (chInService s (i - 0x200)).toNat ||| put 32 8 c.swapCnt.toNat ||| put 32 16 c.owCnt.toNat
  else par s (0x2800 + i)

/-- LOOP, PROF, PENT (Tables 13-5 to 13-7). -/
def readLoop (s : State) (i : Nat) : Word :=
  if i = 0 then s.loop.cntOvr
  else if i = 1 then s.loop.cntMiss
  else if i = 2 then s.loop.cntSat
  else if 0x790 ≤ i ∧ i ≤ 0x79F then bitsOf 32 fun b => tblGet (fun _ => false) s.loop.fOvr (32 * (i - 0x790) + b)
  else if 0x7A0 ≤ i ∧ i ≤ 0x7AF then bitsOf 32 fun b => tblGet (fun _ => false) s.loop.fMiss (32 * (i - 0x7A0) + b)
  else if 0x7B0 ≤ i ∧ i ≤ 0x7BF then bitsOf 32 fun b => tblGet (fun _ => false) s.loop.fSat (32 * (i - 0x7B0) + b)
  else par s (0x3000 + i)

def readProf (s : State) (i : Nat) : Word :=
  if 0x400 ≤ i then
    let d := gen s (i - 0x400)
    put 32 0 d.atTgt.toNat ||| put 32 1 d.vlim.toNat ||| put 32 2 d.alim.toNat
  else par s (0x3800 + i)

def readPent (s : State) (i : Nat) : Word :=
  if 0xA0 ≤ i ∧ i ≤ 0xBF then
    let d := pent s (i - 0xA0)
    put 32 0 d.k ||| put 32 11 d.wait.toNat ||| put 32 12 d.nocal.toNat ||| put 32 16 d.skip.toNat
  else if i = 0xC0 then s.loop.tabAddr.setWidth 32
  else if i = 0xC1 then BitVec.ofInt 32 (tabGet s s.loop.tabAddr.toNat)
  else par s (0x4000 + i)

/-- Magnitude of the flux in uWb, rounded down (the flux is held in Wb); 0 unless the channel runs DTC. -/
def fluxUwb (d : DrvChan) : Nat :=
  if d.wave = 2 then
    min 65535 (isqrtBits 420 (((f32Val d.psa) ^ 2 + (f32Val d.psb) ^ 2).toNat * 10 ^ 12) / 2 ^ 149)
  else 0

/-- DRIVE, DCMD (Tables 14-11, 14-12). -/
def readDrive (s : State) (i : Nat) : Word :=
  if 0x138 ≤ i ∧ i ≤ 0x14F then
    let d := drv s (i - 0x138)
    put 32 0 (drvCode d.st) ||| put 32 4 (d.sector % 8) ||| put 32 7 d.revAct.toNat |||
      put 32 8 (min 7 d.retry) ||| put 32 11 d.pred.toNat
  else if 0x150 ≤ i ∧ i ≤ 0x167 then (drv s (i - 0x150)).flt.setWidth 32
  else if 0x168 ≤ i ∧ i ≤ 0x17F then
    let d := drv s (i - 0x168)
    putI 0 16 d.speed ||| put 32 16 (fluxUwb d)
  else if 0x180 ≤ i ∧ i ≤ 0x197 then
    let d := drv s (i - 0x180)
    put 32 0 d.starts.toNat ||| put 32 16 d.failed.toNat
  else par s (0x4800 + i)

def readDcmd (s : State) (i : Nat) : Word :=
  if 0x90 ≤ i ∧ i ≤ 0xA7 then
    let c := (drv s (i - 0x90)).cmdin
    put 32 0 c.det ||| put 32 2 c.fault.toNat ||| put 32 3 c.static.toNat
  else if 0xA8 ≤ i ∧ i ≤ 0xBF then (drv s (i - 0xA8)).cmdin.x.setWidth 32
  else if 0xC0 ≤ i then (drv s (i - 0xC0)).cmd
  else par s (0x5000 + i)

/-- FAN, RELAY (Tables 15-8, 15-9). -/
def readFan (s : State) (i : Nat) : Word :=
  if 0x120 ≤ i ∧ i ≤ 0x14F then
    let d := fan s (i - 0x120)
    put 32 0 (fanCode d.st) ||| put 32 3 d.table.toNat ||| put 32 4 (min 7 d.attempts) ||| put 32 16 d.etgt
  else if 0x150 ≤ i ∧ i ≤ 0x17F then (fan s (i - 0x150)).flt.setWidth 32
  else if 0x180 ≤ i ∧ i ≤ 0x1AF then
    put 32 0 (fanRpm s (i - 0x180)) ||| put 32 16 (min 65535 (fanOut s (i - 0x180) / 2 ^ 15).toNat)
  else if 0x1B0 ≤ i ∧ i ≤ 0x1DF then
    let d := fan s (i - 0x1B0)
    put 32 0 d.starts.toNat ||| put 32 16 d.failed.toNat
  else par s (0x5800 + i)

def readRelay (s : State) (i : Nat) : Word :=
  if 0x20 ≤ i ∧ i ≤ 0x3F then
    let n := i - 0x20
    let l := loadDiag s n
    let on := if n < 16 then (driverFb s).getLsbD (4 + n) else relayOn s n
    put 32 0 on.toNat ||| put 32 1 (decide (n < 16) && rlyAlarm s n).toNat ||| put 32 2 l.flags.toNat |||
      put 32 8 l.current.toNat
  else if 0x40 ≤ i ∧ i ≤ 0x5F then
    let l := loadDiag s (i - 0x40)
    put 32 0 l.ops.toNat ||| put 32 16 l.flt.toNat
  else if 0x64 ≤ i ∧ i ≤ 0x67 then
    let k := i - 0x64
    let d := sounder s k
    let pat := if d.alarm then 1 else if d.chirpEnd.isSome then (if d.chirpProof then 3 else 2) else 0
    put 32 0 ((driverFb s).getLsbD k).toNat ||| put 32 1 pat ||| put 32 3 (s.gesso.outCmd.getLsbD k).toNat |||
      put 32 4 (s.pads.pathSnd.getLsbD k).toNat ||| put 32 5 (loadDiag s (32 + k)).flags.toNat |||
      put 32 9 d.disc.toNat ||| put 32 16 (loadDiag s (32 + k)).current.toNat
  else if 0x68 ≤ i ∧ i ≤ 0x6B then
    let d := sounder s (i - 0x68)
    put 32 0 d.probeI.toNat ||| put 32 16 d.probeValid.toNat
  else par s (0x6000 + i)

/-- STORE (Table 16-9). -/
def readStore (s : State) (i : Nat) : Word :=
  let t := s.store
  if i = 0 then
    put 32 0 t.ready.toNat ||| put 32 1 (t.erasing.isSome || s.host.dctlUntil.isSome).toNat ||| put 32 2 t.scan.toNat ||| put 32 4 s.power.holdLow.toNat |||
      put 32 5 t.flagTorn.toNat ||| put 32 6 t.dumpUsed.toNat ||| put 32 7 t.dumpPart.toNat ||| put 32 8 t.jrnlFault.toNat |||
      put 32 9 t.wear.toNat
  else if i = 1 then put 32 0 t.ce.toNat ||| put 32 16 t.ue.toNat
  else if i = 2 then put 32 0 t.scanRef.toNat ||| put 32 8 t.scanUe.toNat ||| put 32 16 t.scanDone.toNat
  else if i = 3 then t.scanTs
  else if i = 4 then t.refresh
  else if i = 5 then put 32 0 t.tornSec ||| put 32 8 t.tornCause ||| put 32 16 t.tornCnt.toNat
  else if i = 7 then put 32 0 t.ckCopy.toNat ||| put 32 16 (t.ckSeq.toNat % 65536)
  else if i = 8 then
    put 32 0 t.pages.length ||| put 32 8 ((t.logQ.length + 3) / 4) |||
      put 32 16 ((List.range 32).filter (rowDirty s)).length
  else if i = 9 then t.logLost
  else if i = 0x0B then t.dres.setWidth 32
  else if i = 0x1D then cntOf s (fld (par s (parAddr 13 0x1C)) 0 12)
  else if 0x1F ≤ i ∧ i ≤ 0x26 then lockWord s (0x10 + (i - 0x1F))
  else if 0x27 ≤ i then tblGet (fun _ => 0) t.erases (i - 0x27)
  else par s (0x6800 + i)

/-- The code of a power state (Table 06-3). -/
def powerCode : PowerState → Nat
  | .run => 0 | .doze => 1 | .nap => 2 | .sleep => 3 | .vigil => 4 | .off => 5

/-- Domain G is fed from VBAT: VMAIN is not valid. -/
def onVbat (s : State) : Bool := !s.power.vmain && s.power.vbat

/-- PWR (Table 06-9). -/
def readPwr (s : State) (i : Nat) : Word :=
  let p := s.power
  if i = 0 then
    put 32 0 (powerCode p.st) ||| put 32 3 p.pfw.toNat ||| put 32 4 p.holdLow.toNat ||| put 32 5 (onVbat s).toNat |||
      put 32 6 p.vbatLow.toNat ||| put 32 7 p.vbatAbsent.toNat ||| put 32 8 p.flushing.toNat
  else if i = 1 then bitsOf 5 fun b => ([p.vmain, p.vcore, p.vana, p.vfield, p.vbat] : List Bool).getD b false
  else if i = 2 then (s.sys.applied &&& ~~~s.sys.gated).setWidth 32
  else if i = 3 then s.sys.checked.setWidth 32
  else if i = 4 then put 32 0 p.horizon.toNat ||| put 32 24 p.horizonState.toNat ||| put 32 27 p.busyLim.toNat
  else if 5 ≤ i ∧ i ≤ 8 then tblGet (fun _ => 0) p.entryCnt (i - 4)
  else if 9 ≤ i ∧ i ≤ 0x16 then
    (tblGet (fun _ => (0 : DWord)) p.wakeTs ((i - 9) / 2)).extractLsb' (32 * ((i - 9) % 2)) 32
  else if i = 0x17 then
    put 32 0 p.rstPor.toNat ||| put 32 1 p.rstNrst.toNat ||| put 32 2 p.rstStuck.toNat ||| put 32 3 p.masked.toNat |||
      put 32 16 p.nrstCnt.toNat
  else if i = 0x18 then put 32 0 p.dips.toNat ||| put 32 16 p.brown.toNat
  else if i = 0x19 then put 32 0 p.flushDur.toNat ||| put 32 16 p.flushComplete.toNat ||| put 32 17 p.flushValid.toNat
  else if i = 0x1A then p.vhold.setWidth 32
  else 0

/-- MIRROR (Table 17-8, R1199). -/
def readMirror (s : State) (i : Nat) : Word :=
  let m := s.mirror
  if i = 1 then
    bitsOf 6 fun b => ([m.imgMis, m.sideConf, m.laneFault, m.linkLoss, m.selfFault, m.divFault] : List Bool).getD b false
  else if i = 2 then (BitVec.ofInt 64 m.offset).extractLsb' 0 32
  else if i = 3 then (BitVec.ofInt 64 m.offset).extractLsb' 32 32
  else if 4 ≤ i ∧ i ≤ 6 then BitVec.ofNat 32 (tblGet (fun _ => 0) m.zcOff (i - 4))
  else if i = 7 then put 32 0 m.phase.toNat ||| put 32 16 m.pull.toNat
  else if i = 8 then put 32 0 (m.replayed % 64) ||| put 32 6 (m.replayed / 64)
  else if i = 9 then put 32 0 m.pAlarm.toNat ||| put 32 16 m.pTrouble.toNat
  else if i = 0x0A then put 32 0 (m.divFrame % 64) ||| put 32 6 m.divBlame ||| put 32 8 m.divItem ||| put 32 16 (m.divFrame / 64)
  else if i = 0x0B then put 32 0 m.swoCause ||| put 32 2 m.swoForce.toNat ||| put 32 3 m.swoStep.toNat ||| put 32 16 m.swoHyp
  else if i = 0x0C then m.ackRes.setWidth 32
  else if i = 0x0D then m.pGen
  else if 0x0E ≤ i then tblGet (fun _ => 0) m.cnt (i - 0x0E)
  else par s (0x7800 + i)

/-- PROOF (Table 18-7). -/
def readProof (s : State) (i : Nat) : Word :=
  let p := s.proof
  if i = 4 then
    put 32 0 p.step ||| put 32 3 p.running.toNat ||| put 32 4 p.sched.toNat ||| put 32 5 (proofPaused s).toNat |||
      put 32 6 p.postponed.toNat ||| put 32 8 p.pass.toNat ||| put 32 16 p.fail.toNat ||| put 32 24 p.skip.toNat
  else if i = 5 then p.lastTs
  else if i = 6 then put 32 0 p.runs.toNat ||| put 32 16 p.failedRuns.toNat
  else if 7 ≤ i ∧ i ≤ 0x0E then
    let r := tblGet (fun _ => StepRes.blank) p.res (i - 7)
    put 32 0 r.out ||| put 32 4 (r.tested % 4096) ||| put 32 16 (r.failed % 4096)
  else if 0x0F ≤ i then tblGet (fun _ => 0) p.dur (i - 0x0F)
  else par s (0x8000 + i)

/-- EVT (Table 18-8). -/
def readEvt (s : State) (i : Nat) : Word :=
  if i < 0x40 then evtCfg s i
  else if i < 0x80 then snapWord s (i - 0x40)
  else if i < 0xC0 then tblGet (fun _ => 0) s.evt.live (i - 0x80)
  else if i = 0xC2 then s.evt.snapTs
  else if i = 0xC3 then s.evt.last.setWidth 32
  else 0

/-- ZCP (Table 09-12). -/
def readZcp (s : State) (i : Nat) : Word :=
  if i < 5 then par s (0x9000 + i)
  else
    let z := zcTrack s ((i - 5) % 3)
    match (i - 5) / 3 with
    | 0 => put 32 0 (noiseFloor z.noise) ||| put 32 8 (noiseFloor (gessoNoise s (i - 5)))
    | 1 => put 32 0 (zcCycle s ((i - 5) % 3)) ||| put 32 5 z.txFault.toNat ||| put 32 6 z.noisy.toNat |||
        put 32 7 (zcSupp s ((i - 5) % 3)).toNat ||| put 32 8 (min 255 (z.q1.length + z.q2.length))
    | 2 => z.lastRx.setWidth 32 ||| put 32 24 z.lastComb.toNat ||| put 32 26 z.lastSb.toNat ||| put 32 28 z.lastSyn.toNat
    | 3 => z.lastTs
    | 4 => z.cntAcc
    | 5 => z.cntDrop
    | 6 => z.cntSb
    | 7 => z.cntComb
    | 8 => z.cntColl
    | 9 => z.cntDefer
    | 10 => z.cntAband
    | _ => z.cntAged

/-- BB (Table 10-11). -/
def readBb (s : State) (i : Nat) : Word :=
  let b := s.bb
  if i = 5 then (par s (0x9800 + 5) &&& 0xFFFF00FF) ||| put 32 8 b.maskId.toNat
  else if i = 0x27 then bit1 32 b.coord ||| put 32 1 (min 8 (maskLeft s (bsnNow s))) ||| put 32 16 (usableCount b.pre b.notch)
  else if i = 0x28 then b.bsn
  else if i = 0x29 then put 32 0 b.sLast ||| put 32 16 b.sMaxPrev
  else if 0x2A ≤ i ∧ i ≤ 0x2C then
    let f := frontEnd s (i - 0x2A)
    put 32 0 f.txFault.toNat ||| put 32 1 f.noisy.toNat ||| put 32 8 f.noise.toNat
  else if 0x2D ≤ i ∧ i ≤ 0x36 then tblGet (fun _ => 0) b.cnt (i - 0x2D)
  else if 0x37 ≤ i then
    (match b.rpt[i - 0x37]? with
     | some r => put 32 0 r ||| put 32 11 (hopLevel s r) |||
        put 32 16 ((admittedIds s).filter fun c => (cRun s c).route.contains r).length
     | none => 0)
  else par s (0x9800 + i)

/-- ADMIT (Table 11-11). -/
def readAdmit (s : State) (i : Nat) : Word :=
  let c := s.clients
  if i = 1 then
    put 32 0 (admittedIds s).length ||| put 32 12 c.level ||| put 32 14 (decide (s.canvas.run = .emergency)).toNat |||
      put 32 15 (decide (0 < c.phaseLeft)).toNat ||| put 32 16 c.phaseLeft
  else if i = 3 then put 32 0 c.queue.length ||| put 32 16 c.qPeak
  else if 0x48 ≤ i ∧ i ≤ 0x87 then bitsOf 32 fun b => admitted s (32 * (i - 0x48) + b)
  else if 0x88 ≤ i ∧ i ≤ 0x91 then tblGet (fun _ => 0) c.cnt (i - 0x88)
  else if 0x92 ≤ i then tblGet (fun _ => 0) c.classCnt (i - 0x92)
  else par s (0xA000 + i)

/-- A ball of the field ring. -/
def ball (s : State) (b : Nat) : Ball := tblGet (fun _ => Ball.blank) s.field.balls b

/-- The state shown for a ball: NOT_CHECKED while it is disabled (Table 20-2). -/
def ballState (s : State) (b : Nat) : Nat :=
  if (par s (0xA810 + b / 32)).getLsbD (b % 32) then (ball s b).state else 7

/-- The ring diagnosis runs: enabled, and 2 ms have passed since VMAIN became valid (R1146, R1182). -/
def ringScans (s : State) : Bool :=
  (par s 0xA800).getLsbD 0 && match s.field.scanAt with | some t => decide (t ≤ now s) | none => false

/-- FIELD (Table 20-15). -/
def readField (s : State) (i : Nat) : Word :=
  let f := s.field
  if i = 1 then
    put 32 0 ((List.range 444).filter fun b => decide (ballState s b ≠ 0 ∧ ballState s b ≠ 7)).length |||
      put 32 16 s.power.vfield.toNat ||| put 32 17 (ringScans s).toNat
  else if i = 2 then f.vfieldMv.setWidth 32
  else if i = 3 then put 32 0 f.tjNow.toNat ||| put 32 16 f.tjPeak.toNat
  else if i = 4 then put 32 0 f.lastBall ||| put 32 9 f.lastState
  else if i = 5 then f.cnt
  else if 0x20 ≤ i ∧ i ≤ 0x57 then
    (List.range 8).foldl (fun w j => let b := 8 * (i - 0x20) + j
      w ||| put 32 (4 * j) (if b < 444 then ballState s b else 7)) (0 : Word)
  else if 0x60 ≤ i then bitsOf 32 fun b => decide (32 * (i - 0x60) + b < 444) && f.seen.getLsbD (32 * (i - 0x60) + b)
  else par s (0xA800 + i)

/-- LEGACY (Table 19-3). -/
def readLegacy (s : State) (i : Nat) : Word :=
  let l := s.legacy
  if i = 2 then bit1 32 l.mode ||| put 32 4 l.token.toNat
  else if i = 3 then l.cntStale
  else if i = 4 then l.cntAckfail
  else if i = 5 then l.cntApply
  else if i = 6 then l.cntRefused
  else par s (0xB000 + i)

/-- RESULT (Table 07-8). -/
def readResult (s : State) (i : Nat) : Word :=
  let h := s.host
  if i = 0 then h.head.setWidth 32
  else if i = 1 then h.tail.setWidth 32
  else if i = 2 then bit1 32 h.stall ||| put 32 16 h.recs.toNat
  else if i = 3 then h.seq
  else if i ≤ 0x403 then tblGet (fun _ => 0) h.ring (i - 4)
  else tblGet (fun _ => 0) h.pub (i - 0x404)

/-- The value that a read of the parameter at an address returns; 0 where the address is undefined (R11). -/
def readParam (s : State) (a : Nat) : Word :=
  let i := a % 2048
  if !isDefined a then 0
  else match a / 2048 with
    | 0 => readSys s i
    | 1 => readTime s i
    | 2 => readCanvas s i
    | 3 => readGesso s i
    | 4 => readSafe s i
    | 5 => readConv s i
    | 6 => readLoop s i
    | 7 => readProf s i
    | 8 => readPent s i
    | 9 => readDrive s i
    | 10 => readDcmd s i
    | 11 => readFan s i
    | 12 => readRelay s i
    | 13 => readStore s i
    | 14 => readPwr s i
    | 15 => readMirror s i
    | 16 => readProof s i
    | 17 => readEvt s i
    | 18 => readZcp s i
    | 19 => readBb s i
    | 20 => readAdmit s i
    | 21 => readField s i
    | 22 => readLegacy s i
    | _ => readResult s i

end Sys2Proof.Machine
end

