-- ==== Sys2Proof/Machine/GlazeOps.lean ====
section
/-!
DEFINITION. GlazeOps.lean: staging, groups, the rules that refuse a group, landing, and what a service change does to a
unit (08_glaze_and_service_changes.md).
-/

namespace Sys2Proof.Machine

/-! ### Staging (R442-R445) -/

/-- The words staged beside those of an address. -/
def stagedBut (s : State) (a : Nat) : List Staged := s.glaze.set.filter fun w => w.addr != a

/-- A staged write that passed its key and range (R442-R444). -/
def stageWrite (a : Nat) (v : Word) (s : State) : State :=
  let others := stagedBut s a
  let g := s.glaze.grp.toNat
  if s.glaze.sealed_ || decide (256 ≤ s.glaze.set.length) || decide (64 ≤ (others.filter fun w => w.group == g).length) then
    pctlOut 6 s
  else
    let s1 := evt 283 (pctlOut 0 s)
    { s1 with glaze := { s1.glaze with set := others ++ [{ addr := a, value := v, group := g }] } }

/-- The words of a group. -/
def groupWords (s : State) (g : Nat) : List Staged := s.glaze.set.filter fun w => w.group == g

/-- Groups of the sealed set not yet decided, ascending (R449). -/
def openGroups (s : State) : List Nat := (List.range 8).filter fun g => !(groupWords s g).isEmpty

/-! ### Outputs (Table 05-5 classes; sounders as class 5) -/

/-- The class of the output that an op-code writes; none for other op-codes. -/
def outClass (op : Nat) : Option Nat :=
  match op with
  | 0x0F => some 1
  | 0x0D | 0x35 => some 2
  | 0x0E | 0x30 | 0x31 | 0x32 => some 3
  | 0x0C | 0x3B | 0x3C => some 4
  | _ => none

/-- The fields of a disposition record. -/
def dispClass (w : DWord) : Nat := fld w 12 4
def dispIndex (w : DWord) : Nat := fld w 0 12
def dispAction (w : DWord) : Nat := fld w 16 2
def dispValue (w : DWord) : Word := w.extractLsb' 32 32

/-- The disposition records of the running image. -/
def dispositions (s : State) : List DWord := match s.canvas.image with | some m => m.disp | none => []

/-- The output that a parameter configures. -/
def paramOut (a : Nat) : Option (Nat × Nat) :=
  let i := a % 2048
  match a / 2048 with
  | 4 => if 0x10 ≤ i ∧ i < 0x20 then some (1, i - 0x10) else if 0x20 ≤ i ∧ i < 0x30 then some (1, i - 0x10)
         else if 0x30 ≤ i ∧ i < 0x60 then some (2, i - 0x30) else none
  | 9 | 10 => some (3, i % 24)
  | 11 => if i < 0x150 then some (2, i % 48) else if i < 0x2A0 then some (2, (i - 0x1E0) / 4) else some (2, (i - 0x2A0) / 8)
  | 12 => if i < 0x20 then some (1, i) else if 0x60 ≤ i ∧ i < 0x64 then some (5, i - 0x60) else none
  | _ => none

/-- The emergency set holds an output: a disposition record names it or an emergency-set entry writes it (R34, R260). -/
def emergencyHolds (s : State) (c i : Nat) : Bool :=
  decide (s.canvas.run = .emergency) &&
    ((dispositions s).any (fun w => dispClass w == c && dispIndex w == i) ||
      (entries s).any fun e => decide (outClass e.op = some c) && e.target == i && setActive .emergency e.set)

/-- Gesso's latched trips hold an output (R34). -/
def gessoHolds (s : State) (c i : Nat) : Bool :=
  (c == 1 && decide (i < 16) && (gessoWants s).getLsbD (4 + i)) || (c == 5 && decide (i < 4) && (gessoWants s).getLsbD i)

/-- The drive channel that FAN.CFG word v binds its fan to (R880). -/
def motorOf (v : Word) : Option Nat := match fld v 3 5 with | 0 => none | m + 1 => some m

/-- The outputs that a landing of v in a parameter would change: the one it configures, and for a fan bound to a drive channel,
before or after, that channel's too, whose command the fan's is (R880). -/
def paramOuts (s : State) (a : Nat) (v : Word) : List (Nat × Nat) :=
  match paramOut a with
  | some (2, f) =>
    let cfg := par s (parAddr 11 f)
    let anew := if a = parAddr 11 f then v else cfg
    (2, f) :: ((motorOf cfg).toList ++ (motorOf anew).toList).map fun m => (3, m)
  | some o => [o]
  | none => []

/-- A landing of v in a parameter would change an output that is held (R453). -/
def namesHeld (s : State) (a : Nat) (v : Word) : Bool :=
  (paramOuts s a v).any fun o => emergencyHolds s o.1 o.2 || gessoHolds s o.1 o.2

/-! ### Consistency (R454) -/

/-- R1208: an enabled detection function's VOTE is within its criteria in use. -/
def safeConsistent (s : State) : Bool :=
  (List.range 64).all fun d => !(dfCtl s d).getLsbD 0 || decide (dfVote s d ≤ (dfUsed s d).length)

/-- R722: an enabled streaming channel has an output period of at least 125 us. -/
def convConsistent (s : State) : Bool :=
  (List.range 128).all fun ch =>
    let (num, log) := chClock s ch
    !((chOrder s ch).getLsbD 8 && (chOrder s ch).getLsbD 9) || decide (5000 * num ≤ 2 ^ log * 15625)

/-- R772: no set has LO above HI. -/
def loopConsistent (s : State) : Bool :=
  (List.range 128).all fun c => decide (sgn (par s (parAddr 6 (0x690 + c))) ≤ sgn (par s (parAddr 6 (0x710 + c))))

/-- R768, R772 and check 0x0E: the tables of instances with L other than 0 lie in the store and share no sample; their D is
below L (log 39); those the running image uses sum to at most 65,536 samples. -/
def pentConsistent (s : State) : Bool :=
  let used := (List.range 32).filter fun i => pentL s i != 0
  used.all (fun i => decide (pentBase s i + pentL s i ≤ 65536) && decide (fld (pentCfg s i) 4 11 < pentL s i) &&
      used.all fun j => i == j || decide (pentBase s i + pentL s i ≤ pentBase s j) ||
        decide (pentBase s j + pentL s j ≤ pentBase s i)) &&
    decide (((used.filter fun i => (entries s).any fun e => e.op == 0x23 && e.target == i).map (pentL s)).foldl (· + ·) 0 ≤ 65536)

/-- DCMD: START_THR is above STOP_THR, and LO below HI in AN, DUTY and FREQ (Table 14-12). -/
def dcmdConsistent (s : State) : Bool :=
  (List.range 24).all fun m =>
    decide (fld (cPar s 0 m) 8 8 < fld (cPar s 0 m) 16 8) &&
      ([0x018, 0x030, 0x048] : List Nat).all fun b => decide (fld (cPar s b m) 0 16 < fld (cPar s b m) 16 16)

/-- FAN: DMIN is not above DMAX (Table 15-8), no two enabled bands overlap (R866), X ascends (R888). -/
def fanConsistent (s : State) : Bool :=
  (List.range 48).all fun f =>
    let band (b : Nat) : Nat × Nat := (fld (par s (parAddr 11 (0x1E0 + 4 * f + b))) 0 16, fld (par s (parAddr 11 (0x1E0 + 4 * f + b))) 16 16)
    let x (j : Nat) : Int := ((par s (parAddr 11 (0x2A0 + 8 * f + j))).setWidth 16).toInt
    decide (fld (fPar s 0x030 f) 0 8 ≤ fld (fPar s 0x030 f) 8 8) &&
      (List.range 4).all (fun a => (List.range 4).all fun b =>
        a == b || decide ((band a).2 ≤ (band a).1) || decide ((band b).2 ≤ (band b).1) ||
          decide ((band a).2 ≤ (band b).1) || decide ((band b).2 ≤ (band a).1)) &&
      (List.range 7).all fun j => decide (x j < x (j + 1))

/-- The consistency rules of the chapter that owns a bank. -/
def bankConsistent (s : State) (bank : Nat) : Bool :=
  match bank with
  | 4 => safeConsistent s
  | 5 => convConsistent s
  | 6 => loopConsistent s
  | 8 => pentConsistent s
  | 10 => dcmdConsistent s
  | 11 => fanConsistent s
  | 19 => decide (823 ≤ usableCount (parPre s) (parNotch s))
  | _ => true

/-- Writes leave the banks they touch consistent. -/
def leavesConsistent (ws : List (Nat × Word)) (s : State) : Bool :=
  let t := ws.foldl (fun st w => setPar w.1 w.2 st) s
  ws.all fun w => bankConsistent t (w.1 / 2048)

/-! ### Landing (R451, R459, R723, R779, R844, R1197, R1213, R549) -/

/-- A landed change of INV exchanges the names of a locked track's chains (R1213). -/
def swapChains (t : Nat) (s : State) : State :=
  let k := track s t
  if k.st = .locked ∨ k.st = .holdover then setTrack t { k with rising := k.falling, falling := k.rising } s else s

/-- A landed change in bank SAFE: CHIRP, the sounder and relay masks of alarms (R155, R156), a detection function (R150, R151), a
criterion. -/
def safeLanded (i : Nat) (diff : Word) (s : State) : State :=
  if i = 0 then chirpSettle s
  else if 0x060 ≤ i ∧ i ≤ 0x062 ∨ 0x0C0 ≤ i ∧ i ≤ 0x0FF then writePath s
  else if 0x080 ≤ i ∧ i ≤ 0x0BF then judgeLanded (i - 0x080) s
  else if 0x100 ≤ i ∧ i ≤ 0x1FF then (if diff &&& 0x3FF = 0 then s else critLanded true (i - 0x100) s)
  else if 0x200 ≤ i ∧ i ≤ 0x2FF then critLanded false (i - 0x200) s
  else s

/-- The criteria of channels that a landed change takes out of service. -/
def chOut (gone : Nat → Bool) (s : State) : State := criteriaLost (fun ch => gone ch && !chInService s ch) s

/-- A landed change in bank CONV (R723, R724): channels leave service or enter it (R666). -/
def convLanded (i : Nat) (old : Word) (s : State) : State :=
  if i = 1 then
    let s0 := modLanded 15 s
    let s1 := chOut (fun ch => ch % 16 == 15) (if isArbiter s0 then s0 else arbDropAll s0)
    if old.getLsbD 0 then chsAnew (fun ch => ch % 16 == 15 && chInService s1 ch) s1 else s1
  else if 0x010 ≤ i ∧ i ≤ 0x01F then modLanded (i - 0x010) s
  else if 0x080 ≤ i ∧ i ≤ 0x0FF then
    let s1 := chOut (fun ch => ch == i - 0x080) (chSettingsLanded (i - 0x080) s)
    if old.getLsbD 9 then s1
    else
      let ch := i - 0x080
      let s2 := chsAnew (fun c => c == ch && chInService s1 c) s1
      if (convCh s2 ch).ow && (chOrder s2 ch).getLsbD 9 then raiseCause (320 + ch) 0 false s2 else s2
  else if 0x100 ≤ i ∧ i ≤ 0x17F then chSettingsLanded (i - 0x100) s
  else s

/-- What follows from a landed change of one parameter. -/
def landedHook (a : Nat) (old v : Word) (s : State) : State :=
  let i := a % 2048
  if old = v then s
  else match a / 2048 with
    | 4 => safeLanded i (old ^^^ v) s
    | 5 => convLanded i old s
    | 1 => if 8 ≤ i ∧ i ≤ 0x0A ∧ old.getLsbD 1 ≠ v.getLsbD 1 then swapChains (i - 8) s else s
    | 6 => if 0x10 ≤ i ∧ i ≤ 0x20F ∧ old.getLsbD 7 ≠ v.getLsbD 7 then
             setSlot (i - 0x10) { slot s (i - 0x10) with pend := none } s
           else s
    | 8 => if i < 0x20 ∧ (old ^^^ v) &&& 0x7FF8003 ≠ 0 ∨ 0x20 ≤ i ∧ i < 0x40 ∨ 0x80 ≤ i ∧ i < 0xA0 then
             pentLanded (i % 32) s
           else s
    | 19 => if i = 0 ∧ old.getLsbD 1 ≠ v.getLsbD 1 ∨ 5 ≤ i ∧ i ≤ 0x25 then bbLanded s else s
    | _ => s

/-- One parameter takes a landed value; a persistent one is queued for region B (R459, R1197). -/
def landWord (a : Nat) (v : Word) (s : State) : State :=
  let old := par s a
  let s1 := landedHook a old v (setPar a v s)
  if isPersistent a then parPush 0 a v s1 else s1

/-- A parameter whose landing judges detection functions or the outputs of alarms: it is followed up after the criteria of its
group. -/
def judgesLast (a : Nat) : Bool := decide (0x2000 ≤ a) && decide (a < 0x2100)

/-- The words of a group take their values together (R451); what follows from each then sees all of them. -/
def landWords (ws : List (Nat × Word)) (s : State) : State :=
  let follow (st : State) (w : Nat × Word) : State :=
    let t := landedHook w.1 (par s w.1) w.2 st
    if isPersistent w.1 then parPush 0 w.1 w.2 t else t
  let s1 := ws.foldl (fun st w => setPar w.1 w.2 st) s
  (ws.filter fun w => judgesLast w.1).foldl follow ((ws.filter fun w => !judgesLast w.1).foldl follow s1)

/-! ### Deciding a group (R447-R458, R487) -/

/-- A group's report after its decision, in GLAZE_STAT, SYS.GLAZE_RES, SYS.GLAZE_TS and the fault log. -/
def reportGroup (g : Nat) (st : GroupState) (reason : Nat) (s : State) : State :=
  let n := (groupWords s g).length
  let s1 : State := { s with glaze := { s.glaze with
    set := s.glaze.set.filter fun w => w.group != g
    landed := if st = .landed then setBit s.glaze.landed g true else s.glaze.landed
    refused := if st = .landed then s.glaze.refused else setBit s.glaze.refused g true
    persistWait := s.glaze.persistWait.filter fun p => p.1 != g
    res := tblSet (fun _ => GroupRes.blank) s.glaze.res g
      { st := st, persist := false, reason := BitVec.ofNat 3 reason, words := BitVec.ofNat 7 n, ts := ts32 s } } }
  evt (if st = .landed then 286 else 287)
    (setIrq 4 (logPush 0x022 (BitVec.ofNat 32 (g + groupCode st * 8 + reason * 256)) s1))

/-- A group lands whole (R451); its persistent parameters are queued for region B (R459). -/
def landGroup (g : Nat) (s : State) : State :=
  let ws := (groupWords s g).map fun w => (w.addr, w.value)
  let s1 := reportGroup g .landed 0 (landWords ws s)
  { s1 with glaze := { s1.glaze with
    persistWait := s1.glaze.persistWait ++ [(g, (ws.map fun w => w.1).filter isPersistent)] } }

/-- A group lands, or is refused as HELD or CONSIST. -/
def decideGroup (g : Nat) (s : State) : State :=
  let ws := (groupWords s g).map fun w => (w.addr, w.value)
  if ws.any fun w => namesHeld s w.1 w.2 then reportGroup g .refused 1 s
  else if !leavesConsistent ws s then reportGroup g .refused 2 s
  else landGroup g s

/-- On a standby a group follows the primary's decision (R1039). -/
def followGroup (g : Nat) (s : State) : State :=
  match s.mirror.fwdSet.find? fun p => p.1 == g with
  | some (_, 0) => landGroup g s
  | some (_, r) => reportGroup g .refused r s
  | none => s

/-- The groups that one window takes, in order, within 64 words. -/
def windowGroups (room : Nat) (s : State) : List Nat → List Nat
  | [] => []
  | g :: r => if (groupWords s g).length ≤ room then g :: windowGroups (room - (groupWords s g).length) s r else []

/-- A decided set is empty and unsealed (R457). -/
def unsealIfDone (s : State) : State :=
  if s.glaze.set.isEmpty then { s with glaze := { s.glaze with sealed_ := false, withdrawn := false } } else s

/-- One apply window: withdrawn groups are reported, else groups are taken. -/
def applyWindow (s : State) : State :=
  if s.glaze.sealed_ && decide (s.glaze.sealedWin ≠ some (frameNo s)) then
    if s.glaze.withdrawn then unsealIfDone ((openGroups s).foldl (fun st g => reportGroup g .refused 3 st) s)
    else if isStandby s then unsealIfDone ((openGroups s).foldl (fun st g => followGroup g st) s)
    else unsealIfDone ((windowGroups 64 s (openGroups s)).foldl (fun st g => decideGroup g st) s)
  else s

/-- Every group not landed, staged ones too, is refused at once with a reason, and the set is discarded (R483, R484; log 115). -/
def glazeRefuseAll (reason : Nat) (s : State) : State :=
  let s1 := (openGroups s).foldl (fun st g => reportGroup g .refused reason st) s
  { s1 with glaze := { s1.glaze with set := [], sealed_ := false, withdrawn := false, commitAt := none } }

/-! ### Service units (R460-R482, Tables 08-1 to 08-4) -/

/-- A unit is out of service. -/
def unitOut (s : State) (kind ix : Nat) : Bool :=
  match kind with
  | 0 => s.glaze.oosDrv.getLsbD ix
  | 1 => s.glaze.oosMod.getLsbD ix
  | 2 => tblGet (fun _ => false) s.glaze.oosLoop ix
  | 3 => s.glaze.oosPh.getLsbD ix
  | _ => (cWord s ix 0).getLsbD 14

/-- The service state of a unit, recorded in region B (R488). -/
def setUnit (kind ix : Nat) (out : Bool) (s : State) : State :=
  let g := s.glaze
  let s1 : State := match kind with
    | 0 => { s with glaze := { g with oosDrv := setBit g.oosDrv ix out } }
    | 1 => { s with glaze := { g with oosMod := setBit g.oosMod ix out } }
    | 2 => { s with glaze := { g with oosLoop := tblSet (fun _ => false) g.oosLoop ix out } }
    | 3 => { s with glaze := { g with oosPh := setBit g.oosPh ix out } }
    | _ => setCF ix 0 14 1 out.toNat s
  parPush 2 (2048 * kind + ix) (bit1 32 (!out)) s1

/-- INDEX is within Table 08-1. -/
def unitExists (kind ix : Nat) : Bool :=
  match kind with
  | 0 => decide (ix < 24)
  | 1 => decide (ix < 16)
  | 2 => decide (ix < 512)
  | 3 => decide (ix < 3)
  | 4 => decide (ix < 2048)
  | _ => false

/-- The domains of a unit, as bits of SYS.DOM_AVAIL: M, A, L, B and Z, B; a line phase serves both line channels (log 115). -/
def unitDoms (kind : Nat) : List Nat := ([[5], [6], [4], [7, 8], [7]] : List (List Nat)).getD kind [7]

/-- The emergency set uses a unit (Table 08-2, HELD; log 104): an entry that the emergency state runs acts on it. The arbiter's
re-samples run on modulator 15; a repeater carries the slots and frames of every client routed through it. -/
def emergencyUses (s : State) (kind ix : Nat) : Bool :=
  (entries s).any fun e => setActive .emergency e.set &&
    match kind with
    | 0 => (e.op == 0x0E || e.lane == 4 && decide (outClass e.op ≠ some 2) && e.op != 0x36) && e.target == ix
    | 1 => e.lane == 3 && (e.target % 16 == ix || e.op == 0x2A && ix == 15)
    | 2 => (e.op == 0x20 || e.op == 0x21) && e.target == ix
    | 3 => e.lane == 5 || e.lane == 6 && (e.op != 0x3D || e.target == ix)
    | _ => e.lane == 5 && e.op != 0x38 && (cRun s e.target).route.contains ix

/-- The chapter that owns a unit holds it faulted (Table 08-2, FAULTED): a drive channel with a holding fault, a modulator
whose reference has failed, a line phase on which a line channel holds TX_FAULT (R535, R601). -/
def unitFaulted (s : State) (kind ix : Nat) : Bool :=
  match kind with
  | 0 => decide ((drv s ix).flt &&& heldFaults ≠ 0)
  | 1 => (modulator s ix).refFault
  | 3 => (zcTrack s ix).txFault || (frontEnd s ix).txFault
  | _ => false

/-- The reason a request is refused (Table 08-2), 0 where it is not. -/
def svcReason (s : State) (q : SvcReq) : Nat :=
  if !unitExists q.kind q.index then 9
  else if unitOut s q.kind q.index == !q.ret then 7
  else if !q.ret && decide (s.canvas.run = .emergency) && emergencyUses s q.kind q.index then 1
  else if q.kind == 3 && !q.ret && (List.range 3).all (fun t => t == q.index || s.glaze.oosPh.getLsbD t) then 2
  else if q.kind == 4 && !admitted s q.index then 3
  else if !((unitDoms q.kind).any fun d => (domAvail s).getLsbD d) then 4
  else if q.ret && unitFaulted s q.kind q.index then 5
  else 0

/-- Signals of the entry that evaluates a slot or a generator: IN and OUT, 0 where the running image has none. -/
def entrySignals (s : State) (ops : List Nat) (t : Nat) : Nat × Nat :=
  match (entries s).find? fun e => ops.contains e.op && e.target == t with
  | some e => (e.inn, e.out)
  | none => (0, 0)

/-- A compensator slot returns under R467 and R468. -/
def slotReturns (n : Nat) (s : State) : State :=
  let (i, o) := entrySignals s [0x20, 0x21] n
  returnSlot n (sgn (signalNow s i)) (sgn (signalNow s o)) s

/-- A profile generator returns (Table 08-4). -/
def genReturns (g : Nat) (s : State) : State := returnGen g (sgn (signalNow s (entrySignals s [0x22] g).2)) s

/-- A line phase leaves service: a hub frame under way on it is abandoned (R527, R528), and a HUB_CMD or HUB_ANS discarded. -/
def phaseOut (t : Nat) (s : State) : State :=
  let drop : List HubFrame → List HubFrame := fun l => match l with
    | f :: r => if f.typ = 4 then f :: r else r
    | [] => []
  let z := zcTrack (zcAbandon t s) t
  match (zcTrack s t).under with
  | some (true, _) => setZc t { z with q1 := drop z.q1 } (zcAbandon t s)
  | some (false, _) => setZc t { z with q2 := drop z.q2 } (zcAbandon t s)
  | none => s

/-- A unit leaves service (Table 08-3). -/
def unitLeaves (kind ix : Nat) (s : State) : State :=
  let s1 := setUnit kind ix true s
  match kind with
  | 0 => enterDrv ix (DrvNext.plain .off) s1
  | 1 => criteriaLost (fun ch => ch % 16 == ix) (modOut ix s1)
  | 2 => setSlot ix { slot s1 ix with pend := none } s1
  | 3 => phaseOut ix s1
  | _ => removeRepeater ix s1

/-- A unit other than a repeater returns (R466, Table 08-4): a drive channel that runs is idle at once; a line phase receives from
this beacon boundary and transmits from the next. -/
def unitReturns (kind ix : Nat) (s : State) : State :=
  let s1 := setUnit kind ix false s
  match kind with
  | 0 => if drvLive s1 ix then enterDrv ix (DrvNext.plain .idle) s1 else s1
  | 1 => modReturns ix (chsAnew (fun ch => ch % 16 == ix && chInService s1 ch) s1)
  | 2 => slotReturns ix s1
  | 3 => { s1 with glaze := { s1.glaze with phFrom := tblSet (fun _ => 0) s1.glaze.phFrom ix (pairTime s1 + 2 * frameLen) } }
  | _ => s1

/-- A request waits for an earlier one on the same unit: one before it in the queue, or the probe of its repeater (R481). -/
def svcBehind (s : State) (q : SvcReq) : Bool :=
  ((s.glaze.svc.takeWhile fun p => !decide (p = q)).any fun p => p.kind == q.kind && p.index == q.index) ||
    (q.kind == 4 && s.glaze.probeActive && decide (s.glaze.probeClient.toNat = q.index))

/-- The request is decided at this boundary, after the minor tick boundary at which it was queued (R461, R1205): frames for kinds
0-2, beacon boundaries for the others; a second repeater return waits (R475). -/
def svcDue (s : State) (q : SvcReq) : Bool :=
  tickPast s q.tick && (decide (q.kind < 3) || decide (4 < q.kind) || atBeacon s) &&
    !(q.kind == 4 && q.ret && s.glaze.probeActive) && !svcBehind s q

/-- One request decided. -/
def decideSvc (q : SvcReq) (s : State) : State :=
  match svcReason s q with
  | 0 =>
    if q.kind = 4 ∧ q.ret = true then
      { s with glaze := { s.glaze with
          probeClient := BitVec.ofNat 11 q.index, probePassed := 0, probeActive := true, probePeriods := 0, probeTag := q.tag
          probeBsn := none } }
    else svcDone q.tag 2 0 (if q.ret then unitReturns q.kind q.index s else unitLeaves q.kind q.index s)
  | r => svcDone q.tag 3 r s

/-- The queued requests that are due are decided in the order written (R476, R481). -/
def decideServices (s : State) : State :=
  s.glaze.svc.foldl (fun st q =>
    if svcDue st q then decideSvc q { st with glaze := { st.glaze with svc := st.glaze.svc.erase q } }
    else st) s

/-- A write of SYS.SVC_REQ takes effect, at the minor tick after it: the request is queued, ANS reads queued and TAG stays that of
the last decided one (Table 08-8; log 104), or it is refused as FULL (R460). -/
def svcWrite (v : Word) (s : State) : State :=
  let tag := v.extractLsb' 16 8
  let s1 := setPar 0x030 v s
  if 8 ≤ s.glaze.svc.length then svcDone tag 3 6 s1
  else mirrorForward <| svcReport s.glaze.svcTag 1 0 { s1 with glaze := { s1.glaze with svc := s1.glaze.svc ++
    [{ kind := fld v 0 3, ret := v.getLsbD 3, index := fld v 4 11, tag := tag, tick := tickNo s }] } }

end Sys2Proof.Machine
end

