-- ==== Sys2Proof/Machine/ClientCmd.lean ====
section
/-!
DEFINITION. ClientCmd.lean: the tests, the queueing and the answer of a host command (11_clients_and_capacity.md R627-R638).
-/

namespace Sys2Proof.Machine

/-! ### When an entry is next due -/

/-- The first frame and tick after tick k of frame f at which an entry is due, within a hyperframe. -/
def Entry.next (e : Entry) (f k : Nat) : Option (Nat × Nat) :=
  (List.range 65).findSome? fun g =>
    let fr := f + g
    if e.pkind = 0 then (if g = 0 then (if k < 127 then some (fr, k + 1) else none) else some (fr, 0))
    else if g = 0 ∧ e.tick ≤ k then none
    else if e.due (fr % 64) e.tick then some (fr, e.tick) else none

/-- The earlier of two instants. -/
def earlier : Option (Nat × Nat) → Option (Nat × Nat) → Option (Nat × Nat)
  | none, b => b
  | a, none => a
  | some a, some b => if a.1 < b.1 ∨ a.1 = b.1 ∧ a.2 ≤ b.2 then some a else some b

/-- The next entry of the run state in force with an op and a TARGET. -/
def nextEntry (s : State) (op t f k : Nat) : Option (Nat × Nat) :=
  (entries s).foldl (fun a e =>
    if e.op = op ∧ e.target = t ∧ setActive s.canvas.run e.set then earlier a (e.next f k) else a) none

/-- The n-th such entry from here on (0 the first). -/
def nthEntry (s : State) (op t : Nat) : Nat → Nat × Nat → Option (Nat × Nat)
  | 0, p => nextEntry s op t p.1 p.2
  | n + 1, p => match nextEntry s op t p.1 p.2 with | some q => nthEntry s op t n q | none => none

/-- The period in which what is gathered at an instant is placed: the one that begins two frames after the next BB_BEACON
entry (R559). -/
def periodAfter (s : State) (p : Nat × Nat) : Option Nat :=
  match nextEntry s 0x38 0 p.1 p.2 with | some q => some (q.1 + 2) | none => none

/-- The periods in which the client's downlink positions lie: those gathered or listed already, then its BB_TX entries. -/
def heldPeriods (s : State) (id : Nat) (here : Nat × Nat) : List Nat :=
  let has (l : List SlotEntry) : Bool := l.any fun e => e.down && e.id == id
  (if has (s.bb.carry ++ s.bb.list) then [here.1 + 2 - here.1 % 2] else []) ++
    (if has s.bb.gather then (periodAfter s here).toList else [])

/-- The frame in which the period is expected that takes the n-th downlink position of a client. -/
def bbExpected (s : State) (id n : Nat) : Option Nat :=
  let here := (frameNo s, minorOf (pairTime s))
  let held := heldPeriods s id here
  match held[n]? with
  | some f => some f
  | none => match nthEntry s 0x3B id (n - held.length) here with | some p => periodAfter s p | none => none

/-- The answer to a queued command, `ahead` commands before it (R628, R629): none for SERVED, else the frames of its
deferral, saturating at 255. -/
def expectedAnswer (s : State) (id : Nat) (zc : Bool) (ahead : Nat) : Option Nat :=
  let f := frameNo s
  let next := f + 2 - f % 2
  if zc then
    match nthEntry s 0x3C id ahead (f, minorOf (pairTime s)) with
    | some p => if p.1 < next + 2 then none else some (min 255 (p.1 - f))
    | none => some 255
  else
    match downRoom s id with
    | 0 => some 255
    | room =>
      match bbExpected s id (ahead / room) with
      | some g => if g ≤ next then none else some (min 255 (g - f))
      | none => some 255

/-! ### Tests (R630, Table 11-7) -/

/-- The reason of the first row of Table 11-7 that applies to a command; 0 where none does. -/
def cmdReason (id code : Nat) (zc : Bool) (s : State) : Nat :=
  let cls := (cmdClass code).getD 0
  let trk := cFld s id 0 16 2
  let emg := decide (s.canvas.run = .emergency)
  if cls = 0 ∨ (zc && (cmdZcState code).isNone) = true then 9
  else if (if zc then trk = 0 else admitted s id = false) then 1
  else if (if zc then !(domAvail s).getLsbD 8 || zcSupp s (trk - 1)
           else !(domAvail s).getLsbD 7 || !(match s.canvas.image with | some m => m.bb | none => false)) then 8
  else if !(entries s).any (fun e => e.op == (if zc then 0x3C else 0x3B) && e.target == id) then 12
  else if emg && cls == 2 && (dispositions s).any (fun w => dispClass w == 4 && dispIndex w == id) then 7
  else if emg && cls == 3 then 6
  else if (cls == 3 && decide (1 ≤ s.clients.level)) || (cls == 2 && decide (2 ≤ s.clients.level)) then 2
  else if 4 ≤ (s.clients.queue.filter fun q => q.id == id).length then 4
  else 0

/-- The newest queued command of a class. -/
def newestOf (s : State) (cls : Nat) : Option QCmd := (s.clients.queue.filter fun q => q.cls == cls).getLast?

/-- Room is made in a full queue (R631): the command displaced, or none where the new one is refused. -/
def displaced (s : State) (cls : Nat) : Option QCmd :=
  match newestOf s 3 with
  | some q => some q
  | none => if cls = 1 then newestOf s 2 else none

/-! ### Submission (R407, R630-R637) -/

/-- A command refused at its submission. -/
def cmdRefuse (id cls reason : Nat) (s : State) : State × Nat × Nat :=
  let s1 := cntAdmit 4 (evt 295 (setIrq 10 (setW28 id 2 reason 0 (cRun s id).seq s)))
  (if cls = 0 then s1 else evt (360 + 3 * cls + 2) s1, 2, reason)

/-- A command queued, with its answer. A RELEASE refuses the client's other commands as RELEASED (R637). -/
def cmdQueue (id code cls : Nat) (zc : Bool) (args : List Word) (s : State) : State × Nat × Nat :=
  let s0 := if code = 8 then refuseAll 13 (fun q => q.id == id) s else s
  let seq := (cRun s0 id).seq + 1
  let q : QCmd := { id := id, seq := seq, code := code, zc := zc, cls := cls, args := args, frame := frameNo s0, sends := 0 }
  let s1 := setRun id { cRun s0 id with seq := seq } { s0 with clients := { s0.clients with
    queue := s0.clients.queue ++ [q], qMax := max s0.clients.qMax (s0.clients.queue.length + 1) } }
  let ahead := ((cmdsFor s1 id zc).takeWhile fun e => !decide (e = q)).length
  let (ans, n) := match expectedAnswer s1 id zc ahead with | none => (0, 0) | some n => (1, n)
  let s2 := evt 294 (setIrq 10 (setW28 id ans n 1 seq s1))
  (if ans = 1 then cntAdmit 3 (classAnswer cls 1 s2) else s2, ans, n)

/-- A command of the host to a client: its answer (0 SERVED, 1 DEFERRED, 2 REFUSED) and count or reason. -/
def submitCmd (id code : Nat) (zc : Bool) (args : List Word) (s : State) : State × Nat × Nat :=
  let cls := (cmdClass code).getD 0
  match cmdReason id code zc s with
  | 0 =>
    if s.clients.queue.length < 512 then cmdQueue id code cls zc args s
    else match displaced s cls with
      | some q => cmdQueue id code cls zc args (refuseQueued 5 q s)
      | none => cmdRefuse id cls 4 s
  | r => cmdRefuse id cls r s

end Sys2Proof.Machine
end

