-- ==== Sys2Proof/Machine/Field.lean ====
section
/-!
DEFINITION. Field.lean: the field ring: scans, ball states, reverse probes (20_field_pins_and_electrical.md).
-/

namespace Sys2Proof.Machine

/-! ### Ball states (R1147, R1148, R1181, Table 20-15) -/

def setBall (b : Nat) (d : Ball) (s : State) : State :=
  { s with field := { s.field with balls := tblSet (fun _ => Ball.blank) s.field.balls b d } }

/-- A state that is a trouble cause (R1181). -/
def ballTrouble (st : Nat) : Bool := st != 0 && st != 7

/-- The condition of the lowest code among those qualified; OK where there is none. -/
def lowestHeld (h : BitVec 8) : Nat := ((List.range 8).find? fun c => h.getLsbD c).getD 0

/-- Ball b takes a state: LAST, CNT, SEEN and the trouble cause of area 17 follow a change (log 54). -/
def ballTakes (b st : Nat) (d : Ball) (s : State) : State :=
  let s1 := setBall b { d with state := st } s
  if (ball s b).state = st then s1
  else
    let s2 : State := { s1 with field := { s1.field with
      lastBall := b, lastState := st, cnt := s1.field.cnt + 1
      seen := if ballTrouble st then setBit s1.field.seen b true else s1.field.seen } }
    setCause (64 * 17 + b / 8) b (ballTrouble st) s2

/-! ### Conditions (Table 20-2, R1176, R1178) -/

/-- Condition c of Table 20-2 at ball b. -/
def ballCond (s : State) (vana b c : Nat) (x : BallScan) : Bool :=
  let pwm := decide (324 ≤ b ∧ b < 372)
  match c with
  | 1 => decide (1000 < x.clampUa)
  | 2 => decide (x.mv < -500)
  | 3 => decide ((if s.power.vfield then (s.field.vfieldMv.toNat : Int) + 2000 else 28500) < x.mv)
  | 4 => (decide (b < 32) && decide (3000 < x.mv)) ||
      (decide (32 ≤ b ∧ b < 288) && decide ((vana : Int) + 300 < x.mv)) ||
      (pwm && x.lowLimit) || (decide (420 ≤ b) && decide (12000 < x.mv))
  | 5 => pwm && x.releasedLow
  | 6 => decide (b < 32) && s.gesso.swapped.getLsbD (b / 2)
  | _ => false

/-- R1176: Proof injects into the ball, an open-wire or tach line-test current is applied to it, or its driver command
changed within 20 ms. -/
def ballDisturbed (s : State) (b : Nat) : Bool :=
  if b < 32 then s.proof.inj.any fun p => p.1 == b / 2
  else if b < 288 then
    (List.range 16).any fun m => match (modulator s m).conv with
      | some c => c.ch == (b - 32) / 2 && decide (c.kind = .test)
      | none => false
  else if b < 324 then
    match s.pads.lastSwitch.find? fun p => p.1 == b - 288 with
    | some p => decide (now s < p.2 + 20 * ms)
    | none => false
  else if b < 372 then
    match (fan s (b - 324)).cmdAt with
    | some t => decide (now s < t + 20 * ms)
    | none => false
  else if b < 420 then (fan s (b - 372)).test.isSome
  else false

/-- Condition c is timed on ball b: SHORT_GND is not on a standby or a FAN_PWM ball joined to a partner (R1178, log 54). -/
def condTimed (s : State) (c : Nat) : Bool := c != 5 || !s.mirror.pair

/-- The counts of one condition after a scan. -/
def countCond (s : State) (vana b : Nat) (x : BallScan) (d : Ball) (c : Nat) : Ball :=
  if condTimed s c then
    if ballCond s vana b c x then
      { d with pres := tblSet (fun _ => 0) d.pres c (min 100 (tblGet (fun _ => 0) d.pres c + 1))
               abs_ := tblSet (fun _ => 0) d.abs_ c 0 }
    else
      { d with pres := tblSet (fun _ => 0) d.pres c 0
               abs_ := tblSet (fun _ => 0) d.abs_ c (min 1000 (tblGet (fun _ => 0) d.abs_ c + 1)) }
  else d

/-- One ball in one scan. A disabled ball reads NOT_CHECKED; an enabled one leaves that state after 100 scans unless a
condition is about to set its state (R1182). -/
def scanBall (vana : Nat) (scan : List (Nat × BallScan)) (s : State) (b : Nat) : State :=
  let d := ball s b
  if !(par s (0xA810 + b / 32)).getLsbD (b % 32) then ballTakes b 7 Ball.blank s
  else
    let x := match scan.find? fun p => p.1 == b with
      | some p => p.2
      | none => { mv := 0, clampUa := 0, lowLimit := false, releasedLow := false }
    let d0 := { d with scans := min 100 (d.scans + 1) }
    let d1 := if ballDisturbed s b then d0 else ([1, 2, 3, 4, 5, 6] : List Nat).foldl (countCond s vana b x) d0
    if d.state = 7 ∧ d1.scans = 100 ∧ d1.pres.all (fun p => decide (p.2 < 100)) then ballTakes b 0 d1 s else setBall b d1 s

/-- RING_SCAN (R1146): one scan of every enabled ball: what it measures at the balls listed (a ball not listed reads 0 V
and draws nothing), VANA and VFIELD in mV, and the die temperature in 0.1 degC. -/
def execRingScan (scan : List (Nat × BallScan)) (vana vf : Nat) (tj : Half) (s : State) : Res :=
  finish s (if s.power.vmain && ringScans s then
      (List.range 444).foldl (scanBall vana scan) { s with field := { s.field with
        vfieldMv := BitVec.ofNat 16 vf, tjNow := tj
        tjPeak := if s.field.tjPeak.toInt < tj.toInt then tj else s.field.tjPeak } }
    else s)

/-- BALL_STATE_SET (R1147, R1148): a condition has been present in every scan for 100 ms. -/
def execBallStateSet (b : Fin 444) (c : Fin 8) (s : State) : Res :=
  let d := ball s b.val
  finish s (if tblGet (fun _ => 0) d.pres c.val = 100 && !d.holds.getLsbD c.val then
      ballTakes b.val (lowestHeld (setBit d.holds c.val true)) { d with holds := setBit d.holds c.val true } s
    else s)

/-- BALL_STATE_CLEAR (R1147, R1148): a condition has been absent in every scan for 1 s. -/
def execBallStateClear (b : Fin 444) (c : Fin 8) (s : State) : Res :=
  let d := ball s b.val
  finish s (if tblGet (fun _ => 0) d.abs_ c.val = 1000 && d.holds.getLsbD c.val then
      ballTakes b.val (lowestHeld (setBit d.holds c.val false)) { d with holds := setBit d.holds c.val false } s
    else s)

/-- A change of VFIELD between valid and not valid restarts the qualification of OVERV on every ball (R1179). -/
def fieldOvervRestart (s : State) : State :=
  s.field.balls.foldl (fun st p =>
    setBall p.1 { p.2 with pres := tblSet (fun _ => 0) p.2.pres 3 0 } st) s

/-! ### Reverse probes (R1150-R1155, R1177) -/

/-- A reverse probe of sentinel k is due (R1150, R1183): the first 100 ms after Gesso was armed, then one every 1 s in its first
10 s, and one every 10 s thereafter. -/
def probeDue (s : State) (k : Nat) : Bool :=
  match tblGet (fun _ => 0) s.field.probeAt k with
  | 0 => passed s s.field.armedAt (100 * ms)
  | t => passed s t (if now s < s.field.armedAt + 10 * sec then sec else 10 * sec)

/-- REVERSE_PROBE (R1150-R1153, R1177, R1183): an enabled sentinel in the OPEN band is probed in the reverse direction; `mv` is the pair voltage of the
probe. After 3 in a row with NORMAL or ALARM its balls are exchanged at its next sample. -/
def execReverseProbe (n : Fin 16) (mv : Nat) (s : State) : Res :=
  let k := n.val
  finish s (if (par s 0xA800).getLsbD 1 && s.gesso.armed && !s.gesso.rlBusy && decide (s.power.st ≠ .vigil) &&
            recEn s.gesso.record k && decide ((gSen s k).band = .opened) && !(s.proof.inj.any fun p => p.1 == k) && probeDue s k then
      let b := bandAt (countTh s.gesso.record k fun t => decide (t ≤ mv))
      let r := if b = .normal ∨ b = .alarm then tblGet (fun _ => 0) s.field.probeRun k + 1 else 0
      let s1 : State := { s with field := { s.field with
        probeRun := tblSet (fun _ => 0) s.field.probeRun k (if r = 3 then 0 else r)
        probeAt := tblSet (fun _ => 0) s.field.probeAt k (now s) } }
      if r = 3 then { s1 with field := { s1.field with swapDue := setBit s1.field.swapDue k true } } else s1
    else s)

end Sys2Proof.Machine
end

