-- ==== Sys2Proof/Machine/LongOps.lean ====
section
/-!
DEFINITION. LongOps.lean: accepting, ending and feeding long operations (07_host_bus.md R409-R421, 16_retained_store.md).
-/

namespace Sys2Proof.Machine

/-! ### The result ring (R415, Table 07-8) -/

/-- Words of the ring that hold records not yet read. -/
def ringUsed (s : State) : Nat := (s.host.head.toNat + 1024 - s.host.tail.toNat) % 1024

/-- One record written into the ring behind its header. -/
def ringPut (typ : Nat) (ws : List Word) (s : State) : State :=
  let hdr := BitVec.ofNat 32 (s.host.op.code * 2 ^ 24 + typ * 65536 + ws.length + 1)
  let ring := ((hdr :: ws).zipIdx).foldl (fun t p =>
    tblSet (fun _ => (0 : Word)) t ((s.host.head.toNat + p.2) % 1024) p.1) s.host.ring
  { s with host := { s.host with
      ring := ring, head := s.host.head + BitVec.ofNat 10 (ws.length + 1), recs := s.host.recs + 1, seq := s.host.seq + 1 } }

/-- Waiting records go into the ring while it has room for the next one; else the operation stalls (R415). -/
def ringFill (s : State) : List (Nat × List Word) → State
  | [] => { s with host := { s.host with stall := false, op := { s.host.op with out := [] } } }
  | (t, ws) :: r =>
    if ringUsed s + ws.length + 1 ≤ 1023 then ringFill (ringPut t ws s) r
    else { s with host := { s.host with stall := true, op := { s.host.op with out := (t, ws) :: r } } }

/-- The waiting records of the operation are moved as far as the ring allows; those of a paused one wait (R414). -/
def ringDrain (s : State) : State := if s.host.op.paused then s else ringFill s s.host.op.out

/-- A record of the operation. -/
def opRecord (typ : Nat) (ws : List Word) (s : State) : State :=
  { s with host := { s.host with op := { s.host.op with out := s.host.op.out ++ [(typ, ws)] } } }

/-! ### Reserve (R248, R253, R291, Tables 05-1 and 05-2) -/

/-- The running operation asks for its work on the core lanes and on STORE, of a cost that the spec does not give (log 63). -/
def opAsks (s : State) : State := askReserve 7 2 none (askReserve 1 2 none (askReserve 0 2 none s))

/-- The reserves have served the running operation. -/
def opServed (s : State) : Bool := reserveFree s 0 2 && reserveFree s 1 2 && reserveFree s 7 2

/-- Event work of a long operation: the operation's own, and the verification of CANVAS_VERIFY. -/
def opsWork (w : Work) : Bool := w.user == 2 || (w.lane == 1 && w.user == 1)

/-! ### Leaving RUNNING (R412, R413, R419, R422, R435) -/

/-- The operation leaves RUNNING, and its work leaves the reserves. -/
def opEnd (st : OpState) (err : Nat) (s : State) : State :=
  let s1 : State := { s with
    host := { s.host with
      stall := false
      op := { s.host.op with st := st, err := BitVec.ofNat 8 err, paused := false, abortReq := false, out := [] } }
    canvas := { s.canvas with
      verBusy := if s.host.op.code = 5 then false else s.canvas.verBusy, work := s.canvas.work.filter fun w => !opsWork w } }
  let s2 := setIrq 2 (if st = .failed then evt 290 s1 else s1)
  if s.host.op.legacy then setLstat 2 s2 else s2

/-- The running operation, if any, fails. -/
def opFail (err : Nat) (s : State) : State := if s.host.op.st = .running then opEnd .failed err s else s

/-- OPRES0-OPRES3. -/
def opRes (l : List Half) (s : State) : State := { s with host := { s.host with op := { s.host.op with res := l } } }

/-! ### Accepting (R409-R411, R420, R1044) -/

/-- Argument i of the running operation; two arguments as one 32-bit number. -/
def opA (s : State) (i : Nat) : Nat := (s.host.op.args.getD i 0).toNat
def opA32 (s : State) : Nat := opA s 0 + 65536 * opA s 1

/-- The pages of the array that STORE_WRITE and STORE_READ name: all of them inside the region. -/
def opPages (a : List Half) : Option (List Nat) :=
  let r := (a.getD 0 0).toNat % 4
  let p := (a.getD 1 0).toNat
  let len := (a.getD 2 0).toNat
  let n := (len + 15) / 16
  if len = 0 ∨ 1024 < len ∨ (pageOf r p).isNone ∨ (pageOf r (p + n - 1)).isNone then none
  else some ((List.range n).filterMap fun i => pageOf r (p + i))

/-- Arguments lie within Table 07-4 and the rules of the owning chapters (R963, R969); bits of an OPARG beside the field that the
table names are no part of the argument (log 41). -/
def opArgsOk (code : Nat) (a : List Half) : Bool :=
  let a0 := (a.getD 0 0).toNat
  let a1 := (a.getD 1 0).toNat
  let a2 := (a.getD 2 0).toNat
  match code with
  | 1 => match opPages a with | some l => l.all fun p => hostSector (p / 64) | none => false
  | 2 => hostSector (a0 % 128)
  | 3 => match opPages a with | some l => l.all fun p => p / 64 != 8 && p / 64 != 9 | none => false
  | 4 => decide (a0 < 24) && decide (0 < a1) && decide (a1 ≤ 1024)
  | 6 => decide (0 < a1) && decide (a1 ≤ 64)
  | 7 => decide (a0 < 256)
  | 8 => decide (0 < a2) && decide (a2 ≤ 4096)
  | 9 => decide (a0 < 3)
  | _ => true

/-- The region of a host sector: 6, 7 and 10 lie in region A (Table 16-1). -/
def sectorRegion (sec_ : Nat) : Nat := if sec_ < 11 then 0 else if sec_ < 91 then 1 else if sec_ < 101 then 2 else 3

/-- The key of an operation (Table 07-4) is valid. -/
def opKeyOk (code : Nat) (a : List Half) (s : State) : Bool :=
  let a0 := (a.getD 0 0).toNat
  match code with
  | 1 => keyOk s (writeKey (a0 % 4))
  | 2 => keyOk s (writeKey (sectorRegion (a0 % 128)))
  | 3 => keyOk s (readKey (a0 % 4))
  | 4 => keyOk s (writeKey 1)
  | 7 => keyOk s 7
  | 10 => match s.host.keyLast with | some k => keyOk s k | none => false
  | _ => true

/-- The domains an operation needs (log 40): N for the store, C beside it for verification, B for the survey, S for Proof. -/
def opDomains (code : Nat) : BitVec 12 :=
  match code with
  | 5 => 0x204
  | 6 => 0x080
  | 7 => 0x008
  | 9 => 0
  | _ => 0x200

/-- CMD_RES of an OPCMD write (Table 07-6, in the order of log 41). -/
def opRefusal (code : Nat) (a : List Half) (s : State) : Nat :=
  if s.host.op.st = .running then 2
  else if code = 0 ∨ 10 < code then 3
  else if !opArgsOk code a then 4
  else if !opKeyOk code a s then 5
  else if opDomains code &&& domAvail s ≠ opDomains code ∨
      (isStandby s = true ∧ code ≠ 10 ∧ code ≠ 3 ∧ code ≠ 8 ∧ code ≠ 9) then 6
  else if code = 7 ∧ anyAlarm s = true then 7
  else 1

/-- An operation is RUNNING from its acceptance on (R409); CANVAS_CHUNK clears SWAP_ARM and STAGED_OK (R420). -/
def opAccept (code : Nat) (a : List Half) (legacy : Bool) (s : State) : State :=
  let s1 := evt 289 { s with host := { s.host with
    recs := 0
    op := { resetOp with st := .running, code := code, args := a, res := [0, 0, 0, 0], acceptedAt := tickNo s, cmdRes := 1, legacy := legacy
                         resLatch := s.host.op.resLatch } } }
  if code = 4 then { s1 with canvas := { s1.canvas with swapArm := false, stagedOk := false, swapHeld := false } } else s1

/-- CMD_RES of a write that starts nothing. -/
def cmdRes (n : Nat) (s : State) : State := { s with host := { s.host with op := { s.host.op with cmdRes := BitVec.ofNat 3 n } } }

/-- ABORT (R413): the running operation, if any, ends at the next major-frame boundary (log 42). -/
def opAbort (s : State) : State :=
  if isStandby s then cmdRes 6 s
  else
    let s1 := cmdRes 1 s
    if s.host.op.st = .running then
      { s1 with host := { s1.host with op := { s1.host.op with
        abortReq := true, abortAt := if s.host.op.abortReq then s.host.op.abortAt else now s } } }
    else s1

/-- A write of OPCMD. KEY_SET keeps beside its arguments the key it sets. -/
def opStart (code : Nat) (s : State) : State :=
  if code = 0xFF then opAbort s
  else
    let a := (List.range 4).map fun i => tblGet (fun _ => (0 : Half)) s.host.opArg i
    let r := opRefusal code a s
    if r ≠ 1 then cmdRes r s
    else opAccept code (if code = 10 then a ++ [BitVec.ofNat 16 (s.host.keyLast.getD 0)] else a) false s

/-! ### Work on the array (R967-R971, R947, R975) -/

/-- The pages a store operation programs. -/
def workPages (s : State) : List Nat :=
  match s.host.op.code with
  | 1 => (opPages s.host.op.args).getD []
  | 4 => (List.range ((opA s 1 + 15) / 16)).map fun i =>
      slotBase (!s.canvas.slot) / 64 + 64 * opA s 0 + i
  | _ => []

/-- Words in the host's block, from the ring's word 0 on. -/
def workLength (s : State) : Nat := if s.host.op.code = 1 then opA s 2 else opA s 1

/-- The data of page i of the block; words past its length are left blank (R967). -/
def pageData (s : State) (i : Nat) : List Word :=
  (List.range 16).map fun j =>
    if 16 * i + j < workLength s then tblGet (fun _ => (0 : Word)) s.host.ring (16 * i + j) else 0xFFFFFFFF

/-- One unit of array work: a sector erase under way completes, else the next page is programmed when it is blank. -/
def workOne (s : State) : State :=
  match s.store.erasing with
  | some sec_ =>
    let s1 := jRoll (jDone sec_ 1 (eraseRaw sec_ s))
    { s1 with store := { s1.store with erasing := none } }
  | none =>
    match (workPages s)[s.host.op.progress]? with
    | some pg =>
      if pageBlank s.mem pg then
        let s1 := progPage pg (pageData s s.host.op.progress) s
        { s1 with host := { s1.host with op := { s1.host.op with progress := s1.host.op.progress + 1 } } }
      else s
    | none => s

/-- n units of array work. -/
def workUnits (n : Nat) (s : State) : State := (List.range n).foldl (fun st _ => workOne st) s

/-- Sectors that an operation targets; none may be torn (R986). -/
def opSectors (s : State) : List Nat :=
  match s.host.op.code with
  | 1 | 3 => ((opPages s.host.op.args).getD []).map fun p => p / 64
  | 2 => [opA s 0 % 128]
  | 4 => [slotBase (!s.canvas.slot) / 4096 + opA s 0]
  | 10 => [8, 9]
  | _ => []

/-! ### Keys (R962, R966) -/

/-- A page of the key log: key ID, key, check (log 43). -/
def keyPage (id : Nat) (k : DWord) : List Word :=
  let ws : List Word := [BitVec.ofNat 32 id, k.extractLsb' 0 32, k.extractLsb' 32 32]
  ws ++ [crc32 ws] ++ List.replicate 12 0xFFFFFFFF

/-- A page appended to both copies. -/
def keyAppend (id : Nat) (k : DWord) (s : State) : State :=
  let n := s.store.keyPages
  let s1 := progPage (64 * 9 + n) (keyPage id k) (progPage (64 * 8 + n) (keyPage id k) s)
  { s1 with store := { s1.store with keyPages := n + 1 } }

/-- One copy written anew with the keys in force. -/
def keyRewrite (sec_ : Nat) (s : State) : State :=
  (s.store.keys.zipIdx).foldl (fun st p => progPage (64 * sec_ + p.2) (keyPage p.1.1 p.1.2) st) (eraseSector sec_ 7 s)

/-- Compaction at 48 pages used, duplicate first. -/
def keyCompact (s : State) : State :=
  if 48 ≤ s.store.keyPages then
    let s1 := keyRewrite 8 (keyRewrite 9 s)
    { s1 with store := { s1.store with keyPages := s1.store.keys.length } }
  else s

/-- The key of KEY_SET takes its new value. -/
def keySet (s : State) : State :=
  let k : DWord := BitVec.ofNat 64 (opA32 s + (opA s 2 + 65536 * opA s 3) * 2 ^ 32)
  let s1 := keyAppend (opA s 4) k (keyCompact s)
  { s1 with store := { s1.store with keys := tblSet (fun _ => (0 : DWord)) s1.store.keys (opA s 4) k } }

end Sys2Proof.Machine
end

