-- ==== Sys2Proof/Machine/ProofRun.lean ====
section
/-!
DEFINITION. ProofRun.lean: the steps of a Proof run: beginning, feeding and ending them (18_proof_and_counters.md).
-/

namespace Sys2Proof.Machine

/-! ### Records (Table 18-3, Table 10-8) -/

/-- A record of the run: none in a scheduled or legacy run (R1061). -/
def proofRecord (typ : Nat) (ws : List Word) (s : State) : State :=
  if s.proof.sched || s.host.op.legacy then s else ringDrain (opRecord typ ws s)

/-- A noise record: front end, n, and 28 words of mean and peak noise by group. -/
def noiseRecord (fe n : Nat) (noise : List (Nat × List Word)) : List Word :=
  let data := match noise.find? fun p => p.1 == fe with | some p => p.2 | none => []
  BitVec.ofNat 32 (fe + 256 * n) :: (data ++ List.replicate 28 0).take 28

/-- PROOF outcome of a head. -/
def headCode (s : State) (id : Nat) : Nat := cFld s id 23 0 2

/-- Heads of the step (R1079): clients of KIND 1-4, admitted, or not admitted with a known track. -/
def proofHeads (s : State) : List Nat :=
  (List.range 2048).filter fun id =>
    decide (1 ≤ cFld s id 0 20 4 ∧ cFld s id 0 20 4 ≤ 4) && (admitted s id || decide (cFld s id 0 16 2 ≠ 0))

/-- A heads record for each block of 64 IDs that holds a head (log 56). -/
def headRecords (s : State) : State :=
  (List.range 32).foldl (fun st b =>
    if (proofHeads s).any fun id => id / 64 == b then
      proofRecord 3 (BitVec.ofNat 32 (64 * b) :: (List.range 4).map fun j =>
        (List.range 16).foldl (fun (w : Word) i => w ||| put 32 (2 * i) (headCode s (64 * b + 16 * j + i))) 0) st
    else st) s

/-! ### Ending a step (R1084, R1086) -/

/-- Step k ends with an outcome: STEP_RES, STEP_DUR, failed items in the fault log, the trouble cause of a failed step, and the
records of the run. -/
def endStep (k out tested : Nat) (fails : List (Nat × Half)) (s : State) : State :=
  let p := s.proof
  let dur := match p.stepAt with | some t => (now s - t) / ms | none => 0
  let s1 : State := { s with proof := { p with
    step := k, stepAt := none, mask := setBit p.mask k false
    pass := setBit p.pass k (out == 0), fail := setBit p.fail k (out == 1), skip := setBit p.skip k (out == 2)
    res := tblSet (fun _ => StepRes.blank) p.res k { out := out, tested := tested, failed := fails.length }
    dur := tblSet (fun _ => (0 : Word)) p.dur k (BitVec.ofNat 32 dur)
    tested := 0, fails := [], inj := [], injIn := [], injDone := [], heads := [], headsLeft := [] } }
  let s2 := fails.foldl (fun st f => logPush 0x0C1 (BitVec.ofNat 32 (k + f.1 % 4096 * 16 + f.2.toNat * 65536)) st) s1
  let s3 := if out = 1 then raiseCause (64 * 18 + k) 0 true s2 else s2
  let s4 := proofRecord 1 [BitVec.ofNat 32 (k + 16 * out), BitVec.ofNat 32 (tested + fails.length * 65536),
    BitVec.ofNat 32 dur] s3
  fails.foldl (fun st f => proofRecord 2 [BitVec.ofNat 32 (k + f.1 % 4096 * 16), f.2.setWidth 32] st) s4

/-- A power-fail warning, an abort or a restart ends the step in progress as aborted, with its results and records, and
withdraws every stimulus (R1084, R1102). The scan of the store step stops. -/
def proofAbort (s : State) : State :=
  if s.proof.running then
    let s1 := if s.proof.mask = 0 then s else endStep s.proof.step 3 s.proof.tested s.proof.fails s
    proofClose true { s1 with store := { s1.store with scan := s1.store.scan && !s1.store.scanProof } }
  else s

/-! ### Beginning a step (R1062, R1064, R1079) -/

/-- The unit that a step needs is absent (R1064). -/
def stepAbsent (s : State) (k : Nat) : Bool :=
  match k with
  | 0 => !((List.range 3).any fun t => recZph s.gesso.record t)
  | 3 => !isArbiter s
  | 6 => !(match s.canvas.image with | some m => m.bb | none => false)
  | 7 => (proofHeads s).isEmpty
  | _ => false

/-- SELF_TEST commands go out while fewer than 256 of them are queued (R1079). -/
def feedHeads : List Nat → State → State
  | [], s => { s with proof := { s.proof with headsLeft := [] } }
  | id :: r, s =>
    if 256 ≤ (s.clients.queue.filter fun q => q.code == 1).length then { s with proof := { s.proof with headsLeft := id :: r } }
    else
      let (s1, ans, _) := submitCmd id 1 (!admitted s id) [0, 0, 0, 0] s
      if ans = 2 then { s1 with proof := { s1.proof with headsLeft := id :: r } }
      else feedHeads r { s1 with proof := { s1.proof with heads := s1.proof.heads ++ [id] } }

/-- Re-sample requests of the CONV step go out while the arbiter's queue has room, from what the safety core leaves of the CONV
reserve of the tick (R1074). -/
def feedConv : List Nat → State → State
  | [], s => { s with proof := { s.proof with headsLeft := [] } }
  | ch :: r, s =>
    if 16 ≤ s.conv.arbWait.length ∨ 4 ≤ s.conv.asked then { s with proof := { s.proof with headsLeft := ch :: r } }
    else
      let s1 := useReserve 3 0 2 (arbRequest (tickNo s) ch none s)
      feedConv r { s1 with conv := { s1.conv with asked := s1.conv.asked + 1 } }

/-- The PROOF chirps of the SOUNDER step (R1070): one to each sounder in turn, 1 s apart, behind the four 200 ms of the silent
test. -/
def feedChirps : List Nat → State → State
  | [], s => s
  | k :: r, s =>
    match s.proof.stepAt with
    | some t => if passed s t (800 * ms + k * sec) then chirp k true { s with proof := { s.proof with headsLeft := r } } else s
    | none => s

/-- What the step in progress still has to command. -/
def proofFeed (s : State) : State :=
  if s.proof.running && s.proof.stepAt.isSome && !proofPaused s then
    match s.proof.step with
    | 1 => feedChirps s.proof.headsLeft s
    | 3 => feedConv s.proof.headsLeft s
    | 7 => feedHeads s.proof.headsLeft s
    | _ => s
  else s

/-- Powered modulators, and those whose reference is not good (R1074). -/
def poweredMods (s : State) : List Nat := (List.range 16).filter fun m => (modulator s m).powered

/-- Step k begins. -/
def beginStep (k : Nat) (s : State) : State :=
  let q := { s.proof with tested := 0, fails := [], inj := [], injIn := [], injDone := [], heads := [], headsLeft := [] }
  let p := { q with step := k, stepAt := some (now s) }
  match k with
  | 1 => { s with proof := { p with
      headsLeft := if (par s 0x8001).getLsbD 0 then List.range 4 else [] } }
  | 3 => proofFeed { s with proof := { p with
      tested := (poweredMods s).length
      fails := ((poweredMods s).filter fun m => !refOk s m).map fun m => (m, (0 : Half))
      headsLeft := (List.range 128).filter fun ch => chInService s ch } }
  | 4 => { s with proof := p, store := { s.store with scanProof := false } }
  | 7 => proofFeed { s with proof := { p with tested := (proofHeads s).length, headsLeft := proofHeads s } }
  | _ => { s with proof := p }

/-- The first of the steps listed that is selected begins; steps whose unit is absent are skipped. -/
def proofGo : List Nat → State → State
  | [], s => s
  | k :: r, s =>
    if !s.proof.mask.getLsbD k then proofGo r s
    else if stepAbsent s k then proofGo r (endStep k 2 0 [] s)
    else beginStep k s

/-- The next step of the run, if any. -/
def proofNext (s : State) : State := proofGo (List.range 8) s

/-- A run starts with the steps of a mask. -/
def proofStart (sched : Bool) (mask : Nat) (s : State) : State :=
  proofNext { s with proof := { s.proof with
    running := true, sched := sched, mask := BitVec.ofNat 8 mask, pass := 0, fail := 0, skip := 0, lastTs := s.time.calSec
    stepAt := none } }

/-- OPRES0-OPRES3 of a run (R1083). -/
def proofRes (s : State) : List Half :=
  let p := s.proof
  let done := p.pass ||| p.fail ||| p.skip
  [put 16 0 p.step ||| put 16 8 done.toNat, put 16 0 p.fail.toNat ||| put 16 8 p.skip.toNat, BitVec.ofNat 16 p.tested,
    BitVec.ofNat 16 p.fails.length]

end Sys2Proof.Machine
end

