-- ==== Sys2Proof/Machine/Verify.lean ====
section
/-!
DEFINITION. Verify.lean: the verification of a canvas image (05_canvas_contract.md R270, Table 05-7).
-/

namespace Sys2Proof.Machine

/-! ### Header and sections (checks 0x01-0x03) -/

/-- IMG_BYTES of the image in a slot. -/
def imgBytes (s : State) (k : Bool) : Nat := (imgWord s k 2).toNat

/-- MAGIC, FORMAT and HDR_WORDS are those of Table 05-5. -/
def magicOk (s : State) (k : Bool) : Bool := decide (imgWord s k 0 = 0x5A444356) && decide (imgWord s k 1 = 0x00100001)

/-- Header and sections as first byte and length in bytes. -/
def sections (s : State) (k : Bool) : List (Nat × Nat) :=
  let w (i : Nat) : Nat := (imgWord s k i).toNat
  [(0, 64), (w 5, 8 * w 4), (w 6, 4 * w 7), (w 8, 8 * w 9), (w 10, 8 * w 11)]

/-- Two spans of bytes share none. -/
def apart (a b : Nat × Nat) : Bool :=
  decide (a.2 = 0) || decide (b.2 = 0) || decide (a.1 + a.2 ≤ b.1) || decide (b.1 + b.2 ≤ a.1)

/-- SIZE: length, alignment, overlap, bounds, counts (Table 05-9). -/
def sizeOk (s : State) (k : Bool) : Bool :=
  let n := imgBytes s k
  let l := sections s k
  let w (i : Nat) : Nat := (imgWord s k i).toNat
  decide (n ≤ 98304) && decide (n % 8 = 0) &&
    (l.all fun x => decide (x.1 % 8 = 0) && decide (x.1 + x.2 ≤ n)) &&
    ((List.range 5).all fun i => (List.range i).all fun j => apart (l.getD i (0, 0)) (l.getD j (0, 0))) &&
    decide (w 4 ≤ 8192) && decide (w 7 ≤ 16384) && decide (w 9 ≤ 2048) && decide (w 11 ≤ 2048)

/-- CRC: over the image with its own word taken as 0. -/
def crcOk (s : State) (k : Bool) : Bool :=
  decide (crc32 ((memWords s.mem (slotBase k) (imgBytes s k / 4)).set 15 0) = imgWord s k 15)

/-! ### One entry (checks 0x04-0x08, 0x0B) -/

/-- LANE is the lane of the op. -/
def laneOk (e : Entry) : Bool :=
  match opSpec e.op with
  | some o => (match o.lane with | some l => e.lane == l | none => decide (e.lane < 2))
  | none => false

/-- PKIND, LOG2N, PHASE and TICK as Table 05-6 gives them. -/
def periodOk (e : Entry) : Bool :=
  match e.pkind with
  | 0 => e.log2n == 0 && e.phase == 0 && e.tick == 0
  | 1 => e.log2n == 0 && e.phase == 0
  | 2 => decide (1 ≤ e.log2n) && decide (e.log2n ≤ 6) && decide (e.phase < 2 ^ e.log2n)
  | _ => false

/-- TARGET lies in the op's range; ST_CNT's ARG (R269). -/
def targetOk (e : Entry) : Bool :=
  match opSpec e.op with
  | some o => decide (o.tmin ≤ e.target) && decide (e.target ≤ o.tmax) && (e.op != 0x3E || (e.imm && fld e.arg 1 10 == 0))
  | none => false

/-- Word j of an entry's argument block in a pool. -/
def poolWord (pool : List Word) (e : Entry) (j : Nat) : Word := pool.getD (e.blk + j) 0

/-- The signals that an entry writes (Table 05-8, R797, R863). -/
def written (pool : List Word) (e : Entry) : List Nat :=
  let o := fld (poolWord pool e 1) 0 11
  match e.op with
  | 0x01 | 0x20 | 0x21 | 0x22 | 0x23 | 0x32 | 0x34 | 0x36 => [e.out]
  | 0x02 | 0x03 | 0x04 | 0x05 | 0x06 | 0x07 | 0x09 | 0x0A => [o]
  | 0x08 => [o, o + 1]
  | 0x0B => (List.range e.inn).map fun j => e.out + j
  | 0x29 => [e.out, e.out + 1]
  | 0x33 | 0x0E | 0x0D => [e.out, e.out + 1, e.out + 2].filter fun g => decide (g < 0x7F0)
  | _ => []

/-- ARG: the form of the op, the block inside the pool with its length, and signals that may be written. -/
def argOk (pool : List Word) (e : Entry) : Bool :=
  let block (n : Nat) : Bool := !e.imm && decide (e.blk + n ≤ pool.length) && fld (poolWord pool e 0) 0 8 == n
  (match opSpec e.op with
    | some o => (match o.form with
      | .io | .cnt => e.imm
      | .none_ => true
      | .blk n => block n
      | .sched => let n := fld (poolWord pool e 0) 0 8
                  block n && decide (2 ≤ n) && decide (n ≤ 66) && n % 2 == 0)
    | none => false) &&
    (written pool e).all fun g => g != 0 && decide (g < 0x7F0)

/-- The output that an output stroke writes, as a class of Table 05-5 or an op of its own, and its index: FAN_SUP and FAN_PWM
share the fan channel (log 59). -/
def outputOf (e : Entry) : Option (Nat × Nat) :=
  match opSpec e.op with
  | some o => if o.outp then some (if e.op = 0x35 then 0x0D else e.op, e.target) else none
  | none => none

/-! ### Checks over all entries -/

/-- The index of the first entry that a check fails on. -/
def firstBad (l : List Entry) (p : Entry → Bool) : Option Nat :=
  (l.zipIdx.find? fun x => !p x.1).map fun x => x.2

/-- The sort key (R265). -/
def sortKey (e : Entry) : Nat := if e.pkind = 0 then 0 else e.tick + 1

/-- The first entry whose key lies below that of the entry before it. -/
def firstUnsorted : Nat → Nat → List Entry → Option Nat
  | _, _, [] => none
  | i, key, e :: r => if sortKey e < key then some i else firstUnsorted (i + 1) (sortKey e) r

/-- The first entry that writes a signal (tag none) or an output that an earlier one writes. -/
def firstRewriter (seen : List (Option Nat × Nat)) : List (Nat × List (Option Nat × Nat)) → Option Nat
  | [] => none
  | (i, ws) :: r => if ws.any (fun w => seen.contains w) then some i else firstRewriter (ws ++ seen) r

/-- What an entry writes: signals and its output. -/
def writesOf (pool : List Word) (e : Entry) : List (Option Nat × Nat) :=
  (written pool e).map (fun g => (none, g)) ++ (match outputOf e with | some (c, i) => [(some c, i)] | none => [])

/-- The run states that verification judges. -/
def runStates : List RunState := [.runIn, .comfort, .emergency]

/-- WRITER: the first failing entry of the first run state that has one. -/
def writerBad (l : List Entry) (pool : List Word) : Option (RunState × Nat) :=
  runStates.findSome? fun r =>
    (firstRewriter [] ((l.zipIdx.filter fun x => setActive r x.1.set).map fun x => (x.2, writesOf pool x.1))).map fun i => (r, i)

/-- An output of a class and index is written by an entry whose SET is one of a list. -/
def outWritten (l : List Entry) (sets : List Nat) (c i : Nat) : Bool :=
  l.any fun e => decide (outClass e.op = some c) && e.target == i && sets.contains e.set

/-- The disposition record of an output: the first that names it. -/
def dispOf (d : List DWord) (c i : Nat) : Option DWord := d.find? fun w => dispClass w == c && dispIndex w == i

/-- The record of an output agrees with its emergency writers: FOLLOW has one; HOLD, SAFE and VALUE have none. -/
def dispAgrees (l : List Entry) (w : DWord) : Bool :=
  outWritten l [2, 3] (dispClass w) (dispIndex w) == (dispAction w == 0)

/-- DISP: an output written in the comfort set has a record, and the record of an output that an entry writes agrees with the
emergency writers. -/
def dispOk (l : List Entry) (d : List DWord) (e : Entry) : Bool :=
  match outClass e.op with
  | some c =>
    match dispOf d c e.target with
    | some w => dispAgrees l w
    | none => !(e.set == 1 || e.set == 3)
  | none => true

/-- DISP, records of outputs that no entry writes: none of them is FOLLOW. -/
def dispRest (l : List Entry) (d : List DWord) : Bool :=
  d.all fun w => outWritten l [0, 1, 2, 3] (dispClass w) (dispIndex w) || dispAgrees l w

/-- The minor ticks that can hold the first excess: 0, 1 and those that entries name. -/
def commitTicks (l : List Entry) : List Nat := (List.range 128).filter fun k => decide (k < 2) || l.any fun e => e.tick == k

/-- The major frames that can differ. -/
def commitFrames (l : List Entry) : List Nat := if l.any fun e => e.pkind == 2 then List.range 64 else [0]

/-- The frame of the largest commitment of a lane in a tick, the lowest of equal ones. -/
def worstFrame (l : List Entry) (r : RunState) (lane k : Nat) : Nat :=
  (commitFrames l).foldl (fun w f => if commitOf l r lane w k < commitOf l r lane f k then f else w) 0

/-- COMMIT: the first run state, tick and lane whose commitment exceeds its limit, in the frame that commits most. The worked
example of chapter 05 reports frame 1 of 899 units although frame 0 exceeds the limit too (log 59). -/
def commitBad (l : List Entry) : Option (RunState × Nat × Nat × Nat) :=
  runStates.findSome? fun r => (commitTicks l).findSome? fun k => (List.range 8).findSome? fun lane =>
    let f := worstFrame l r lane k
    if laneLimit lane k < commitOf l r lane f k then some (r, f, k, lane) else none

/-- The entry whose cost first carries a commitment past its limit (log 59). -/
def commitEntry (r : RunState) (f k lane : Nat) : Nat → Nat → List Entry → Nat
  | i, _, [] => i
  | i, sum, e :: rest =>
    let t := if e.lane = lane ∧ setActive r e.set ∧ e.due f k then sum + opCost e.op else sum
    if laneLimit lane k < t then i else commitEntry r f k lane (i + 1) t rest

/-- PENT: the table lengths of the instances used. -/
def pentSum (s : State) (l : List Entry) : Nat :=
  (((List.range 32).filter fun i => l.any fun e => e.op == 0x23 && e.target == i).map (pentL s)).foldl (· + ·) 0

/-- BEACON. -/
def beaconOk (m : Image) : Bool :=
  if m.bb then
    match m.list.filter fun e => e.op == 0x38 with
    | [e] => e.pkind == 2 && e.log2n == 1 && e.phase == 0 && e.set == 3
    | _ => false
  else m.list.all fun e => e.lane != 5

/-- DIGEST, against the device's mirror mode. -/
def digestOk (s : State) (m : Image) : Bool :=
  (m.mirror == s.mirror.pair) &&
    (!m.mirror || match m.list.filter fun e => e.op == 0x12 with
      | [e] => e.pkind == 1 && e.set == 0
      | _ => false)

/-! ### All checks in code order -/

/-- VER_WHERE: entry, run state, frame, tick, lane. -/
def whereWord (e : Nat) (r : Nat) (f k lane : Nat) : Word :=
  put 32 0 e ||| put 32 14 r ||| put 32 16 f ||| put 32 22 k ||| put 32 29 lane

/-- The result of a check over entries. -/
def atEntry (code : Nat) (i : Option Nat) : Option (Nat × Word) := i.map fun n => (code, whereWord n 0 0 0 0)

/-- The result of a check that names no place. -/
def atAll (code : Nat) (ok : Bool) : Option (Nat × Word) := if ok then none else some (code, 0)

/-- The checks of an image's entries, pool and dispositions. -/
def entryChecks (l : List Entry) (pool : List Word) (d : List DWord) : Option (Nat × Word) :=
  atEntry 4 (firstBad l fun e => (opSpec e.op).isSome) <|>
  atEntry 5 (firstBad l laneOk) <|>
  atEntry 6 (firstBad l periodOk) <|>
  atEntry 7 (firstBad l targetOk) <|>
  atEntry 8 (firstBad l (argOk pool)) <|>
  atEntry 9 (firstUnsorted 0 0 l) <|>
  (writerBad l pool).map (fun x => (0x0A, whereWord x.2 (runCode x.1) 0 0 0)) <|>
  atEntry 0x0B (firstBad l fun e => !((outputOf e).isSome && e.set == 0)) <|>
  (firstBad l (dispOk l d)).map (fun n => (0x0C, whereWord n (runCode .comfort) 0 0 0)) <|>
  (if dispRest l d then none else some (0x0C, whereWord 0 (runCode .comfort) 0 0 0)) <|>
  (commitBad l).map fun x =>
    (0x0D, whereWord (commitEntry x.1 x.2.1 x.2.2.1 x.2.2.2 0 0 l) (runCode x.1) x.2.1 x.2.2.1 x.2.2.2)

/-- The first failing check of the image in slot k, and where (R270); check 0x11 is not applied at start-up (R295). -/
def verifyImage (s : State) (k start : Bool) : Option (Nat × Word) :=
  atAll 1 (magicOk s k) <|> atAll 2 (sizeOk s k) <|> atAll 3 (crcOk s k) <|>
  (let m := readImage s k
   entryChecks m.list m.pool m.disp <|>
   atAll 0x0E (decide (pentSum s m.list ≤ 65536)) <|>
   atAll 0x0F (beaconOk m) <|>
   atAll 0x10 (digestOk s m) <|>
   atAll 0x11 (start || s.canvas.allowOld || match s.canvas.image with
     | some old => decide (old.generation.toNat < m.generation.toNat)
     | none => true))

/-- CANVAS.VER_RES and VER_WHERE after a verification of slot k. -/
def noteVerify (k : Bool) (r : Option (Nat × Word)) (s : State) : State :=
  let (code, at_) := r.getD (0, 0)
  { s with canvas := { s.canvas with verCode := BitVec.ofNat 8 code, verWhere := at_, verSlot := k, verBusy := false } }

end Sys2Proof.Machine
end

