-- ==== Sys2Proof/Machine/RunState.lean ====
section
/-!
DEFINITION. RunState.lean: changes of run state, dispositions, the start, the stop and the swap of the Canvas
(01_building_and_tiers.md R27-R32, 05_canvas_contract.md).
-/

namespace Sys2Proof.Machine

/-! ### Outputs without a writer (R25, R160, R260, R277) -/

/-- Fan and drive channels that nothing serves take their held or safe state at once. -/
def settleOuts (s : State) : State :=
  let s1 := (List.range 48).foldl (fun st f => if fanLive st f || fanPwmLive st f then st else fanTick st f) s
  (List.range 24).foldl (fun st m => if drvLive st m then st else drvTick st m) s1

/-- Relay driver n (16-31) takes its value; while domain C or M is unavailable it keeps its safe state, SAFE.SS_CRLY as held in
the pads (R25, Table 03-2). -/
def setCrly (n : Nat) (v : Bool) (s : State) : State :=
  let a := domAvail s
  let safe := s.pads.crly.getLsbD (n - 16) && s.pads.ssCrly.getLsbD (n - 16)
  { s with pads := { s.pads with crly := setBit s.pads.crly (n - 16) (if a.getLsbD 2 && a.getLsbD 5 then v else safe) } }
def crlyToSafe (n : Nat) (s : State) : State :=
  setCrly n (s.pads.crly.getLsbD (n - 16) && s.pads.ssCrly.getLsbD (n - 16)) s

/-- Relay drivers that entries of one list write and none of another take their safe state. -/
def orphanRelays (was is : List Entry) (s : State) : State :=
  (List.range 16).foldl (fun st i =>
    if was.any (fun e => e.op == 0x0F && e.target == 16 + i) && !is.any fun e => e.op == 0x0F && e.target == 16 + i then
      crlyToSafe (16 + i) st
    else st) s

/-! ### Instances that return (R275, R276, R466-R468, R781) -/

/-- The two ops of a compensator slot count as one instance. -/
def instOp (op : Nat) : Nat := if op = 0x21 then 0x20 else op

/-- An entry's slot, generator or instance starts under the rules of a returning unit. -/
def instReturn (e : Entry) (s : State) : State :=
  match e.op with
  | 0x20 | 0x21 => slotReturns e.target s
  | 0x22 => genReturns e.target s
  | 0x23 => pentRestart e.target s
  | _ => s

/-- The instances of one list of entries that another list does not use return; `op` says which ops use the same instance: at a swap
equal ops (R275), at the comfort state CMP2 and CMP3 of a slot too (R470). -/
def returnNew (op : Nat → Nat) (is was : List Entry) (s : State) : State :=
  is.foldl (fun st e => if was.any (fun o => op o.op == op e.op && o.target == e.target) then st else instReturn e st) s

/-- The entries that a run state runs. -/
def entriesIn (s : State) (r : RunState) : List Entry := (entries s).filter fun e => setActive r e.set

/-- Pending DELAY1 outputs of slots that have no entry in the run state in force are discarded (R748, R776). -/
def dropDelays (s : State) : State :=
  let l := entriesIn s s.canvas.run
  { s with loop := { s.loop with slots := s.loop.slots.filterMap fun p =>
      let d := if l.any fun e => instOp e.op == 0x20 && e.target == p.1 then p.2 else { p.2 with pend := none }
      if d = Slot.blank then none else some (p.1, d) } }

/-! ### Dispositions (R260, Table 05-5) -/

/-- The output of a record is held at its value. -/
def holdOut (c i : Nat) (s : State) : State :=
  { s with canvas := { s.canvas with held := tblSet (fun _ => false) s.canvas.held (4096 * c + i) true } }

/-- VALUE drives a fixed value: a relay driver by not 0, a fan or drive duty in Q1.31, a client's value (log 61). -/
def valueOut (c i : Nat) (v : Word) (s : State) : State :=
  match c with
  | 1 => setCrly i (decide (v ≠ 0)) s
  | 2 => holdOut 2 i (fixDuty i (clampI 0 (2 ^ 31) (sgn v)) s)
  | 3 => holdOut 3 i (setDrv i { drv s i with duty := limitDuty s i (sgn v), demand := none } s)
  | 4 => if (entries s).any fun e => e.op == 0x0C && e.target == i then setC i 30 0xFFFFFFFF v s else s
  | _ => s

/-- One disposition record acts: FOLLOW leaves the output to the emergency set, HOLD keeps the last comfort value, SAFE is the
safe state of Table 03-2, which fan and drive channels without a writer take by themselves. -/
def disposeOne (w : DWord) (s : State) : State :=
  let c := dispClass w
  let i := dispIndex w
  match dispAction w with
  | 0 => s
  | 1 => holdOut c i s
  | 2 => if c = 1 then crlyToSafe i s else s
  | _ => valueOut c i (dispValue w) s

/-- Every output takes the action of its record. -/
def dispose (s : State) : State :=
  (dispositions s).foldl (fun st w =>
    if dispOf (dispositions s) (dispClass w) (dispIndex w) = some w then disposeOne w st else st) s

/-! ### Changes of run state (R27-R32, R258-R261, R414, R635, R748) -/

/-- To the emergency state: dispositions act, queued C3 commands are refused, a running operation other than LOG_EXPORT
pauses, a swap that is pending is held. -/
def toEmergency (s : State) : State :=
  let swap := s.canvas.swapHeld || (s.canvas.swapArm && stagedOkNow s)
  let s1 := dropDelays { s with canvas := { s.canvas with run := .emergency, held := [], swapHeld := swap } }
  let s2 := refuseC3 (noteSwitches s (settleOuts (dispose s1)))
  if s2.host.op.st = .running ∧ s2.host.op.code ≠ 8 then
    { s2 with host := { s2.host with op := { s2.host.op with paused := true } } }
  else s2

/-- To the comfort state: outputs that the emergency set did not drive resume, its own alone go safe, instances that it did
not run return, a paused operation resumes. -/
def toComfort (s : State) : State :=
  let was := entriesIn s s.canvas.run
  let s1 := dropDelays { s with
    canvas := { s.canvas with run := .comfort, held := [] }
    host := { s.host with op := { s.host.op with paused := false } } }
  let is := entriesIn s1 .comfort
  noteSwitches s (settleOuts (ringDrain (orphanRelays was is (returnNew instOp is was s1))))

/-- The run state that a major-frame boundary brings (Table 05-4); a standby follows the primary, whose frame it replays. -/
def runDue (s : State) : RunState :=
  match s.canvas.run with
  | .stopped => .stopped
  | .runIn => if s.sys.tier = 2 then (if heldBefore s then .emergency else .comfort) else .runIn
  | .comfort => if heldBefore s && !isStandby s then .emergency else .comfort
  | .emergency => if heldBefore s || isStandby s then .emergency else .comfort

/-- The Canvas enters a run state. -/
def enterRun (r : RunState) (s : State) : State :=
  match r with
  | .comfort => toComfort s
  | .emergency => toEmergency s
  | _ => s

/-- The change of run state due at this boundary is made before a swap or an apply window (R33, R289). -/
def settleRun (s : State) : State :=
  if atFrame s && canvasRuns s && decide (runDue s ≠ s.canvas.run) then enterRun (runDue s) s else s

/-! ### Stop and start (R160, R285, R294-R296, R781, R782) -/

/-- The Canvas stops: its outputs take their safe states. -/
def canvasStop (s : State) : State :=
  if s.canvas.run = .stopped then s
  else settleOuts (driveStop (crlySafe { s with canvas := { s.canvas with run := .stopped, held := [] } }))

/-- The signals of an image's initial-value section take their values (R274). -/
def initSignals (m : Image) (s : State) : State :=
  m.init.foldl (fun st w => setSignal (fld w 0 11) (w.extractLsb' 32 32) st) s

/-- The Canvas starts in run-in with the image of slot k; a start in the slot that was verified as staged leaves no staged image
(R247). -/
def startImage (k fallback : Bool) (s : State) : State :=
  let m := readImage s k
  let s1 : State := { s with
    power := { s.power with canvasStarted := some (now s) }
    canvas := { s.canvas with
      run := .runIn, noImage := false, fallback := fallback, slot := k
      stagedOk := s.canvas.stagedOk && decide (k = s.canvas.slot), image := some m, signals := [], fresh := []
      timers := [], lowpass := [], held := [], swapHeld := false, runInFrames := 0 }
    loop := { s.loop with fOvr := [], fMiss := [], fSat := [], slots := [] } }
  (initSignals m s1 |> fun t => m.list.foldl (fun st e => instReturn e st) t)

/-- The Canvas at its start: the running slot verified, then the other; with neither, NO_IMAGE. -/
def startCanvas (s : State) : State :=
  let k := s.canvas.slot
  match verifyImage s k true with
  | none => startImage k false (noteVerify k none s)
  | some r =>
    let s1 := noteVerify k (some r) s
    match verifyImage s1 (!k) true with
    | none => startImage (!k) true (noteVerify (!k) none s1)
    | some q => let s2 := noteVerify (!k) (some q) s1
                { s2 with canvas := { s2.canvas with noImage := true } }

/-! ### Swap (R31, R32, R272-R278) -/

/-- The staged image replaces the running one. -/
def swapImage (s : State) : State :=
  let m := readImage s (!s.canvas.slot)
  let was := entries s
  let s1 := initSignals m { s with canvas := { s.canvas with
    image := some m, slot := !s.canvas.slot, swapArm := false, stagedOk := false, swapHeld := false, fallback := false
    swapCnt := s.canvas.swapCnt + 1 } }
  let s2 := noteSwitches s (settleOuts (orphanRelays was m.list (returnNew id m.list was s1)))
  setIrq 5 (logPush 0x020 m.generation s2)

/-- A verification of the staged image has ended: CANVAS.VER_RES, STAGED_GEN, STAGED_OK and the interrupt. Without a staged image
that has passed no swap is held. -/
def staged (k : Bool) (r : Option (Nat × Word)) (s : State) : State :=
  let s1 := noteVerify k r s
  let good := r.isNone && decide (k ≠ s.canvas.slot)
  setIrq 5 { s1 with canvas := { s1.canvas with
    stagedGen := imgWord s k 3, stagedOk := good, swapHeld := s1.canvas.swapHeld && good } }

/-- The running verification ends with its result. -/
def verifyEnds (s : State) : State :=
  staged s.canvas.verSlot (verifyImage s s.canvas.verSlot false) { s with
    canvas := { s.canvas with work := s.canvas.work.filter fun w => !(w.lane == 1 && w.user == 1) } }

/-- An eligible hyperframe boundary with SWAP_ARM and a staged image that has passed; a standby follows the primary's swap at
the replay of its boundary (R1041); a pair swaps nothing between B1 and B2 (R1053). -/
def swapDue (s : State) : Bool :=
  decide (canvasTime s % hyperLen = 0) && decide (s.canvas.run ≠ .stopped) && stagedOkNow s && (s.canvas.swapArm || isStandby s) &&
    decide (s.mirror.role ≠ .taking)

/-- The swap at this boundary: held in the emergency state; a held one is verified again first. -/
def swapNow (s : State) : State :=
  if s.canvas.run = .emergency then { s with canvas := { s.canvas with swapHeld := true } }
  else if s.canvas.swapHeld then
    match verifyImage s (!s.canvas.slot) false with
    | none => swapImage (staged (!s.canvas.slot) none s)
    | some r => staged (!s.canvas.slot) (some r) s
  else swapImage s

/-- The change of run state, then the swap, that this boundary brings (R287, R289). -/
def settleFrame (s : State) : State :=
  let s1 := settleRun s
  if swapDue s1 then swapNow s1 else s1

end Sys2Proof.Machine
end

