-- ==== Sys2Proof/Machine/Reset.lean ====
section
/-!
DEFINITION. Reset.lean: domains that lose and regain power, nRST, and the restarts (06_power_reset_and_first_second.md,
22_parameter_index.md R1210).
-/

namespace Sys2Proof.Machine

/-! ### Supplies and domains (Table 06-1) -/

/-- The safety core has left reset, where domain S is powered: Gesso waits for its first answer (R95, R163, R164). -/
def coreLeaves (s : State) : State :=
  if s.sys.applied.getLsbD 3 then { s with gesso := { s.gesso with firstAnswer := false, badRun := 0, coreReset := some (now s) } }
  else s

/-- The safety core halts: it writes no command until it has answered again (R192); the path latch stays (R186). -/
def coreHalts (s : State) : State :=
  { s with safety := { s.safety with run := false, answeredOnce := false, restartAt := none, ackPending := none } }

/-- Domain S is unpowered: its path stops, and Gesso counts no challenge (R95, R159). -/
def coreUnpowered (s : State) : State :=
  let s1 := stopPath (coreHalts s)
  { s1 with gesso := { s1.gesso with firstAnswer := false, badRun := 0, coreReset := none } }

/-- The zero-crossing transmitters and their queues are empty. -/
def zcSilent (s : State) : State :=
  { s with zc := { s.zc with tracks := s.zc.tracks.filterMap fun p =>
      let z : ZcTrack := { p.2 with q1 := [], q2 := [], under := none, heard := false, copies := [], rx := [] }
      if z = ZcTrack.blank then none else some (p.1, z) } }

/-- The broadband channel is silent: no list is built, no link but the direct ones (R606). -/
def bbSilent (s : State) : State :=
  { s with
    canvas := { s.canvas with work := s.canvas.work.filter fun w => w.ack.isNone }
    bb := { s.bb with
      coord := false, pend := [], gather := [], list := [], carry := [], carried := false, dropped := false, acks := [], corrs := []
      routes := [], rpt := [], withdrawn := [], built := false, downs := [] } }

/-- The mirror link is down: no session, no transfer. -/
def linkDown (s : State) : State :=
  { s with mirror := { s.mirror with linkUp := false, tlock := false, inStep := false, xfer := false, pOut := none, unacked := [] } }

/-- The host interface is unpowered or in reset: an access under way ends, nothing is BUSRDY. -/
def hostDown (s : State) : State :=
  { s with
    host := { s.host with heldAcc := none, dctlUntil := none, nWaitLow := false }
    power := { s.power with busrdy := false } }

/-- Domain C is lost: the Canvas stops, and the event work of the cores with it. -/
def coresOff (s : State) : State :=
  canvasStop { s with canvas := { s.canvas with work := s.canvas.work.filter fun w => 2 ≤ w.lane } }

/-- Domain A is lost: every conversion ends, and the criteria on its channels are invalid (R140, R144, R693). -/
def convOff (s : State) : State := criteriaLost (fun _ => true) (chsAnew (fun _ => true) (convDomainOff s))

/-- What the loss of the domains of a set does at once (R25, R159, R160, R307, R693, Table 03-2, R769). -/
def domainsLost (lost : BitVec 12) (s : State) : State :=
  let on (i : Nat) (f : State → State) (t : State) : State := if lost.getLsbD i then f t else t
  let s1 := on 5 (fun t => settleOuts (driveStop (crlySafe t))) (on 2 coresOff s)
  let s2 := on 11 linkDown (on 10 hostDown (on 8 zcSilent (on 7 bbSilent (on 6 convOff (on 3 coreUnpowered s1)))))
  if s2.power.vmain then s2
  else { s2 with loop := { s2.loop with table := [] }, field := { s2.field with scanAt := none } }

/-- Domains that have lost their power take their outputs to the safe states. -/
def dropDomains (s : State) : State := domainsLost (~~~s.sys.applied) s

/-- Lanes whose latched fault lies in the domains of a set (R284). -/
def lanesOf (d : BitVec 12) : BitVec 8 := (List.range 8).foldl (fun w l => setBit w l (d.getLsbD (laneDom l))) (0 : BitVec 8)

/-- Channels of which only the exchange of the inputs is left, which region B keeps (R712). -/
def swapsOnly (chs : Tbl ConvCh) : Tbl ConvCh :=
  chs.filterMap fun e => if e.2.swapped then some (e.1, { ConvCh.blank with swapped := true }) else none

/-- A power-on reset of the domains of a set (R303): faults latched within them clear and their registers take their reset
values; what K, region B and G hold stays. -/
def domainsReset (fresh : BitVec 12) (s : State) : State :=
  let on (i : Nat) (f : State → State) (t : State) : State := if fresh.getLsbD i then f t else t
  let s0 : State := { s with canvas := { s.canvas with laneFlt := s.canvas.laneFlt &&& ~~~lanesOf fresh } }
  let s1 := on 2 (fun t => { t with power := { t.power with canvasStarted := none } }) s0
  let s2 := on 3 (fun t =>
    let f := t.safety
    let u : State := { t with safety := { resetSafety with
      alarms := f.alarms, sil := f.sil, unknown := f.unknown, token := f.token, causes := f.causes, core := f.core
      held := f.held, heldAt := f.heldAt, heldWas := f.heldWas, pathOwed := f.pathOwed, mon := troubleOnly f.mon
      disNow := f.disNow, lastBcast := f.lastBcast
      setLost := f.setLost, record := f.record, recordCrc := f.recordCrc } }
    if t.power.inReset then u else coreLeaves (dropCause 258 0 (dropCause 257 0 u))) s1
  let s3 := on 4 (fun t => { t with loop := { resetLoop with table := t.loop.table } }) s2
  let s4 := on 5 (fun t => settleOuts { t with drive := resetDrive, fans := { t.fans with chans := [] } }) s3
  let s5 := on 6 (fun t => { t with conv := { resetConv with chs := swapsOnly t.conv.chs } }) s4
  let s6 := on 7 (fun t => { t with bb := resetBb }) s5
  let s7 := on 8 (fun t => { t with zc := { t.zc with tracks := [] } }) s6
  on 11 linkDown s7

/-! ### Busy domains and the horizon (R312, R313) -/

/-- The domains that are busy: a conversion under way, a bridge that drives, a fan duty, a beacon period, a mirror session, a host
access, a long operation. -/
def busyDomains (s : State) : BitVec 12 :=
  let conv := (List.range 16).any fun m => (modulator s m).conv.isSome
  let out := (List.range 48).any (fun f => decide ((fan s f).duty ≠ 0)) ||
    (List.range 24).any fun m => decide ((drv s m).bridge ≠ .off)
  (if conv then 0x040 else 0) ||| (if out then 0x020 else 0) ||| (if s.bb.coord then 0x080 else 0) |||
    (if s.mirror.linkUp then 0x800 else 0) ||| (if s.host.heldAcc.isSome || s.host.dctlUntil.isSome then 0x400 else 0) |||
    (if s.host.op.st = .running then opDomains s.host.op.code else 0)

/-- The tick of the next entry of the given lanes in the running major frame; none when none is left. -/
def nextDueTick (s : State) (lanes : List Nat) : Option Nat :=
  let f := majorOf (canvasTime s)
  let l := (entries s).filter fun e => lanes.contains e.lane && setActive s.canvas.run e.set
  ((List.range 128).filter fun t => decide (minorOf (canvasTime s) < t) && l.any fun e => e.due f t).head?.map
    fun t => tickNo s + (t - minorOf (canvasTime s))

/-! ### Glaze, the legacy window and domain K at resets -/

/-- The staged set and every group that has not landed are refused; a power-fail warning (reason 5) empties the service queue
(R483, R484). -/
def glazeAbort (reason : Nat) (s : State) : State :=
  let s1 := glazeRefuseAll reason s
  if reason = 5 then { s1 with glaze := { s1.glaze with svc := [] } } else s1

/-- nRST or a power-fail warning discards the legacy queue, both latches and an acknowledge in progress (R1137). -/
def legacyPfw (s : State) : State :=
  { s with
    legacy := { s.legacy with queue := [], waiting := none, wlatch := 0, wfresh := false, rlatch := 0, ackAt := none }
    host := { s.host with nWaitLow := s.host.nWaitLow && s.legacy.waiting.isNone } }

/-- Domain K loses its contents: the shadow, the key locks and the alarm set (R187, R961, R1207, R1222). -/
def loseRetention (s : State) : State :=
  let s1 := loseShadow s
  { s1 with
    host := { s1.host with locks := [] }
    safety := { s1.safety with setLost := true, core := false, held := false
                               causes := s1.safety.causes.map fun c => { c with acked := false } } }

/-- Domain G is unpowered (OFF): nothing is driven. -/
def groundOff (s : State) : State := { s with gesso := resetGesso, pads := resetPads }

/-! ### Restarts (R13, R1203, R1210, R1105, R609, R661, R734) -/

/-- A parameter keeps its value through nRST: a persistent one (R1203), and those of banks 1, 3 and 14 (R122, R245, R367),
and the SYS bank (R493). -/
def heldParam (a : Nat) : Bool := isPersistent a || ([0, 1, 3, 14] : List Nat).contains (a / 2048)

/-- The client words that region B keeps (R609). -/
def keptWords (s : State) : Tbl Word :=
  s.clients.words.filterMap fun p =>
    let k := cBlank p.1 ||| (p.2 &&& keptMask (p.1 % 32))
    if k = cBlank p.1 then none else some (p.1, k)

/-- The host interface after a reset of domain H: direct registers at their reset values, an operation that was RUNNING is
ABORTED with ERR = RESET (R435); the key locks lie in K. -/
def hostReset (s : State) : HostBus :=
  { resetHost with
    locks := s.host.locks
    op := if s.host.op.st = .running then { resetOp with st := .aborted, err := 9 } else resetOp }

/-- The mirror unit after a reset of domain X: no role, no session; status bits and counters hold. -/
def mirrorReset (m : Mirror) : Mirror :=
  { resetMirror with
    pair := m.pair, mside := m.mside, swo := m.swo, div := m.div, ctlRes := m.ctlRes, imgMis := m.imgMis
    sideConf := m.sideConf, laneFault := m.laneFault, linkLoss := m.linkLoss, selfFault := m.selfFault
    divFault := m.divFault, phase := m.phase, pull := m.pull, replayed := m.replayed, divFrame := m.divFrame
    divBlame := m.divBlame, divItem := m.divItem, swoCause := m.swoCause, swoForce := m.swoForce
    swoStep := m.swoStep, swoHyp := m.swoHyp, ackRes := m.ackRes, cnt := m.cnt, divTimes := m.divTimes }

/-- The work in progress ends: the Canvas with its outputs, the safety core and its path, which gives way to the safe states of
Table 03-2 (R25, R336), conversions, the line channels, an erase under way completes (R972). -/
def stopWork (s : State) : State :=
  let s1 := if s.store.erasing.isSome && !s.power.flushing then workOne s else s
  zcSilent (bbSilent (convDomainOff (canvasStop (stopPath (coreHalts (proofAbort s1))))))

/-- DCMD.STAT, MEAS and CMD take their reset values (Table 14-12). -/
def cmdinReset (d : Drive) : Drive :=
  { d with chans := d.chans.filterMap fun p =>
      let c : DrvChan := { p.2 with cmdin := Cmdin.blank }
      if c = DrvChan.blank then none else some (p.1, c) }

/-- nRST takes effect (R335, R336, R109, R186, R352, R435, R483, R1137): domains C, S, L, M, A, B, Z, N, H and X are held in
reset; G and K are unchanged, and with K every present trouble cause (R1222). N takes it when a flush under way has completed (R351).
The status fields of the Canvas hold, SWAP_HELD among them (R298; log 134). -/
def enterReset (s : State) : State :=
  let s1 := legacyPfw (glazeAbort 4 (stopWork s))
  convRestart { s1 with
    params := s1.params.filter fun p => heldParam p.1
    power := { s1.power with
      st := .run, inReset := true, storeReset := s1.power.flushing, starting := true, beaconDue := true, busrdy := false
      canvasStarted := none, ceil := 2, sleepRes := 0, ceilPending := none, movingUntil := 0, wakeSeq := false }
    sys := { s1.sys with gated := 0 }
    host := hostReset s1
    glaze := { s1.glaze with grp := 0 }
    safety := { s1.safety with ackRes := 0, ackPending := none }
    canvas := { s1.canvas with
      swapArm := false, allowOld := false, verBusy := false, work := [], signals := [], fresh := [], timers := [], lowpass := [] }
    evt := resetEvt
    proof := { s1.proof with running := false, mask := 0, inj := [], injIn := [] }
    clients := { resetClients with words := keptWords s1, cnt := s1.clients.cnt, classCnt := s1.clients.classCnt }
    loop := { s1.loop with tabAddr := 0 }
    drive := cmdinReset s1.drive
    store := if s1.power.flushing then s1.store else { s1.store with ready := false, scan := false, erasing := none }
    mirror := mirrorReset s1.mirror
    gesso := { s1.gesso with coreReset := none } }

/-- The legacy registers at a release of domain H (R1108, R1140); counters hold. -/
def legacyRelease (s : State) : Legacy :=
  { resetLegacy with
    p8 := s.legacy.p8, mode := s.legacy.p8, cntStale := s.legacy.cntStale, cntAckfail := s.legacy.cntAckfail
    cntApply := s.legacy.cntApply, cntRefused := s.legacy.cntRefused }

/-- The release of nRST, or the mask: the restart of Table 06-7 runs from now (R339, R353, R362), and
HOLD_LOW is no trouble cause before 1 s after it (Table 06-6). -/
def releaseReset (kind : Nat) (s : State) : State :=
  coreLeaves <| dropCause (832 + 2) 0 { s with
    power := { s.power with
      inReset := false, starting := true, beaconDue := true, busrdy := false, canvasStarted := none, origin := now s
      restartKind := BitVec.ofNat 2 kind }
    legacy := legacyRelease s }

/-- A cause that lies in domain G or in the supplies stays present through the loss of the other domains; the safety core's own
view of a sentinel does not. -/
def groundCause (c : Cause) : Bool :=
  !c.event && (decide (c.code < 256) && !(c.code / 64 == 2 && c.src == 1) || (decide (832 ≤ c.code) && decide (c.code < 896)))

/-- The return of VMAIN after VIGIL, or after a brown-out whose flush has completed (R303, R333, R357, R1210, R1222):
everything takes the value of a power-on reset but what domain G holds, the array, and what K holds while it kept its
power; N is checked anew (R303). The origin is the instant VMAIN became valid (R357), and a host access begun since then is still held
(R359). -/
def restartVigil (s : State) : State :=
  let z := State.reset
  let k := s.store.kept
  let fed := fedDomains true s.power.vcore s.power.vana
  coreLeaves <| dropCause (832 + 2) 0 { z with
    pending := s.pending, free := s.free, mem := s.mem
    params := s.params.filter fun p => ([1, 3, 14] : List Nat).contains (p.1 / 2048) || (k && isPersistent p.1)
    gesso := s.gesso, pads := s.pads, time := s.time
    sys := { s.sys with applied := fed, checked := if k then s.sys.checked &&& 0x003 else 1, failed := 0, gated := 0 }
    power := { s.power with
      st := .run, rstPor := false, rstNrst := false, ceil := 2, sleepRes := 0, ceilPending := none
      movingUntil := 0, origin := s.power.mainAt, restartKind := 3, restartWaits := false, inReset := false, starting := true
      beaconDue := true
      busrdy := false, canvasStarted := none }
    safety := { z.safety with
      alarms := if k then s.safety.alarms else 0, sil := if k then s.safety.sil else 0
      token := if k then s.safety.token else 0, unknown := k && s.safety.unknown, core := k && s.safety.core
      setLost := s.safety.setLost, held := k && s.safety.held, heldAt := now s, heldWas := k && s.safety.held
      lastBcast := s.safety.lastBcast
      mon := if k then troubleOnly s.safety.mon else [], disNow := if k then s.safety.disNow else []
      causes := if k then s.safety.causes
        else (s.safety.causes.filter groundCause).map fun c => { c with acked := false } }
    host := { z.host with
      locks := if k then s.host.locks else [], heldAcc := s.host.heldAcc, heldAt := s.host.heldAt, heldBound := s.host.heldBound
      held := s.host.held && s.host.heldAcc.isSome, nWaitLow := s.host.heldAcc.isSome }
    glaze := { z.glaze with
      oosDrv := if k then s.glaze.oosDrv else 0, oosMod := if k then s.glaze.oosMod else 0
      oosPh := if k then s.glaze.oosPh else 0, oosLoop := if k then s.glaze.oosLoop else [] }
    clients := { z.clients with words := if k then keptWords s else [] }
    conv := { z.conv with chs := if k then swapsOnly s.conv.chs else [] }
    proof := { z.proof with due := s.proof.due, ranAt := s.proof.ranAt }
    store := if k then { s.store with ready := false, scan := false, erasing := none } else { z.store with
      keys := s.store.keys, erases := s.store.erases, flaws := s.store.flaws, dumpTags := s.store.dumpTags }
    mirror := { z.mirror with mside := s.mirror.mside, pair := s.mirror.pair }
    field := { z.field with scanAt := some (now s + 2 * ms), probeRun := s.field.probeRun, swapDue := s.field.swapDue
                            armedAt := s.field.armedAt, probeAt := s.field.probeAt }
    legacy := { z.legacy with p8 := s.legacy.p8, mode := s.legacy.p8 } }

/-- VMAIN is valid again: while nRST is low, the held timer counts on from where it stood (R344). -/
def nrstResumes (s : State) : State :=
  if s.power.nrstLow.isSome then
    { s with power := { s.power with nrstLow := some (now s - s.power.nrstHeld), nrstHeld := 0 } }
  else s

/-- A restart with VMAIN valid while nRST is low: the domains of R335 are held in reset. -/
def nrstStands (s : State) : State := if s.power.nrstLow.isSome then enterReset s else s

/-- A restart: 1 release of nRST, 2 mask, 3 VMAIN after VIGIL (log code 0x001). -/
def leaveReset (kind : Nat) (s : State) : State := if kind = 3 then nrstStands (restartVigil s) else releaseReset kind s

/-- VMAIN becomes valid with domain G up: the domains that have a valid supply get their power-on reset (R303), the restart
runs from now (R357), and the ring scan starts 2 ms later (R1182). -/
def mainRises (s : State) : State :=
  let fed := fedDomains true s.power.vcore s.power.vana
  let fresh := fed &&& ~~~s.sys.applied
  nrstStands <| dropCause (832 + 2) 0 <| domainsReset fresh { s with
    sys := { s.sys with applied := s.sys.applied ||| fed, checked := s.sys.checked &&& ~~~fresh
                        failed := s.sys.failed &&& ~~~fresh }
    power := { s.power with origin := now s, starting := true, beaconDue := true, busrdy := false, canvasStarted := none }
    field := { s.field with scanAt := some (now s + 2 * ms) }
    legacy := legacyRelease s }

end Sys2Proof.Machine
end

