-- ==== Sys2Proof/Machine/CanvasCmds.lean ====
section
/-!
DEFINITION. CanvasCmds.lean: the commands of the Canvas: run states, start, verification, swap, overruns, lane faults
(01_building_and_tiers.md, 05_canvas_contract.md).
-/

namespace Sys2Proof.Machine

/-- EMERGENCY_SET_CHANGE (R27, R28, R258, R260): at a major-frame boundary with an alarm held by the safety core. A standby
makes the change of the frame it replays (log 62). -/
def execEmergencySetChange (s : State) : Res :=
  finish s (if atFrame s && canvasRuns s && decide (s.canvas.run = .comfort) && (heldBefore s || isStandby s) then toEmergency s else s)

/-- COMFORT_SET_RETURN (R29, R30, R258, R261, R470): at a major-frame boundary with every alarm reset. -/
def execComfortSetReturn (s : State) : Res :=
  finish s (if atFrame s && canvasRuns s && decide (s.canvas.run = .emergency) && (!heldBefore s || isStandby s) then toComfort s else s)

/-- CANVAS_RUN_IN_END (R37, R44, R258, Table 05-4): at the first major-frame boundary at Tier 2 the comfort or the emergency
state follows run-in. -/
def execCanvasRunInEnd (s : State) : Res :=
  finish s (if atFrame s && canvasRuns s && decide (s.canvas.run = .runIn) && decide (s.sys.tier = 2) then enterRun (runDue s) s
    else s)

/-- CANVAS_START (R294-R296, R362, R609, R781, R782): at the first major-frame boundary from 400 ms after the origin on, with
the store read, the Canvas starts in run-in with the running slot, else with the other; with neither it stays stopped, and Tier 2, which
needs no image (Table 01-1), is not waited for (log 135). -/
def execCanvasStart (s : State) : Res :=
  finish s (if s.power.vmain && !s.power.inReset && atFrame s && decide (s.canvas.run = .stopped) && s.power.canvasStarted.isNone &&
        s.store.ready && (domAvail s).getLsbD 2 && passed s s.power.origin (400 * ms) then
      let s1 := startCanvas s
      if s1.canvas.noImage then tierChange s { s1 with power := { s1.power with starting := false } } else s1
    else s)

/-- VERIFICATION_DONE (R253, R270, R271, R273, R414, R421): the running verification ends with its result, once the reserve of CORE_B
has served it; while its operation is paused it waits. -/
def execVerificationDone (s : State) : Res :=
  finish s (if s.canvas.verBusy && reserveFree s 1 1 && !s.host.op.paused then verifyEnds s else s)

/-- CANVAS_SWAP (R31, R32, R272-R278, R289, R1041, R1053): the swap of a hyperframe boundary, after its change of run state. -/
def execCanvasSwap (s : State) : Res :=
  finish s (let s1 := settleRun s
         if swapDue s1 then swapNow s1 else s1)

/-! ### Overruns and lane faults (R279-R286, R292, R293) -/

/-- Overruns of a lane in the running hyperframe. -/
def ovrIn (s : State) (l : Nat) : Nat := tblGet (fun _ => 0) s.canvas.ovrHyper l

/-- The value of log code 0x021. -/
def ovrValue (s : State) : Word := bitsOf 8 (fun l => decide (16 < ovrIn s l)) ||| (s.canvas.laneFlt.setWidth 32 <<< 8)

/-- An overrun of entry i on its lane is counted and recorded; the 17th of a lane in a hyperframe sets OVR_HIGH. -/
def countOverrun (i lane : Nat) (held : Bool) (s : State) : State :=
  let c := s.canvas
  let n := ovrIn s lane + 1
  let s1 := evt lane { s with
    mirror := { s.mirror with errNow := true }
    canvas := { c with
      ovrCnt := tblSet (fun _ => (0 : Word)) c.ovrCnt lane (tblGet (fun _ => (0 : Word)) c.ovrCnt lane + 1)
      ovrLast := put 32 0 i ||| put 32 14 lane ||| put 32 17 held.toNat
      ovrHyper := tblSet (fun _ => 0) c.ovrHyper lane n, ovrHigh := c.ovrHigh || decide (16 < n) } }
  if n = 17 then logPush 0x021 (ovrValue s1) s1 else s1

/-- Entry i has overrun in this tick. -/
def noteOverrun (i : Nat) (s : State) : State := { s with canvas := { s.canvas with overran := i :: s.canvas.overran } }

/-- STROKE_OVERRUN (R279-R283, R464): entry i has not completed at the end of its lane's committed window: a compensator holds its
output and sets its slot's flag; any other stroke writes nothing. An entry on a unit out of service is not counted. -/
def execStrokeOverrun (i : Nat) (s : State) : Res :=
  finish s (match (entries s)[i]? with
    | some e =>
      if entrySkipped s e || (strokeAt s e.op i).isNone then s
      else noteOverrun i (runStroke e.op i (fun k s =>
        if e.op = 0x20 ∨ e.op = 0x21 then countOverrun i k.e.lane true (slotOverrun k.e.target s)
        else countOverrun i k.e.lane false s) s)
    | none => s)

/-- The strokes of a lane that are due in this tick and have not overrun in it. -/
def dueStrokes (lane : Nat) (s : State) : List Nat :=
  let f := majorOf (canvasTime s)
  let k := minorOf (canvasTime s)
  let late := if s.canvas.ranAt = canvasTick s then s.canvas.overran else []
  (entries s).zipIdx.filterMap fun p =>
    if p.1.lane == lane && setActive s.canvas.run p.1.set && p.1.due f k && !entrySkipped s p.1 && !late.contains p.2 then some p.2
    else none

/-- A lane that faults in a tick abandons its strokes of that tick under R282: they are counted, and what they wrote is not (R292).
Outputs that HOSTPUB and RELAY strokes of a core lane have set for the next tick go with them. -/
def abandonTick (lane : Nat) (s : State) : State :=
  let s1 := if canvasRuns s then (dueStrokes lane s).foldl (fun st i => countOverrun i lane false st) s else s
  { s1 with
    canvas := { s1.canvas with fresh := s1.canvas.fresh.filter fun w => w.lane != lane }
    host := { s1.host with pubNext := if lane < 2 then [] else s1.host.pubNext }
    pads := { s1.pads with crlyNext := if lane < 2 then [] else s1.pads.crlyNext } }

/-- What stops with a lane (R25, R160). -/
def laneStops (lane : Nat) (s : State) : State :=
  match lane with
  | 0 | 1 => canvasStop s
  | 3 => convOff s
  | 4 => settleOuts (driveStop (crlySafe s))
  | 5 => bbSilent s
  | 6 => zcSilent s
  | _ => s

/-- LANE_FAULT (R18, R25, R284-R286, R292): a lane has missed two handshakes: it is faulted, and with it its domain; CORE_A
and CORE_B stop the Canvas (the strokes of the tick are abandoned), DRIVE sends the outputs of domain M to their safe states, CONV ends every conversion and the line lanes
what they send. -/
def execLaneFault (lane : Fin 8) (s : State) : Res :=
  finish s (if (s.sys.applied &&& ~~~s.sys.gated).getLsbD (laneDom lane.val) && !s.canvas.laneFlt.getLsbD lane.val then
      let s0 := abandonTick lane.val s
      let s1 : State := { s0 with
        canvas := { s0.canvas with laneFlt := setBit s0.canvas.laneFlt lane.val true }
        mirror := { s0.mirror with errNow := true } }
      let s2 := latchWake 6 (logPush 0x021 (ovrValue s1) s1)
      mirrorSelfFault (tierChange s (laneStops lane.val s2))
    else s)

end Sys2Proof.Machine
end

