-- ==== Sys2Proof/Machine/Clients.lean ====
section
/-!
DEFINITION. Clients.lean: the commands of admission, records and supervision (11_clients_and_capacity.md); CMD_GO is in
HostBus.lean.
-/

namespace Sys2Proof.Machine

/-- ADMISSION_PHASE_END (R617): the phase ends after its 64 periods, at the beacon boundary that ends the last, before the beacon
of that boundary. -/
def execAdmissionPhaseEnd (s : State) : Res :=
  finish s (if atBeacon s && decide (s.clients.phaseLeft ≤ 1) && decide (s.bb.bsn.toNat < bsnNow s) then { s with clients := { s.clients with phaseLeft := 0 } } else s)

/-- CLIENT_DROP (R621): no broadband frame for ADMIT.DROP periods in a row; the record is kept, LINK_LOST stays set. -/
def execClientDrop (id : Fin 2048) (s : State) : Res :=
  finish s (if admitted s id.val && decide (fld (par s (parAddr 20 5)) 0 13 ≤ (cRun s id.val).silent) then
      loseAdmission id.val (setClientFlag id.val 3 true s)
    else s)

/-- ADMIT_FORGET (R622, R623): at the tick after the write, the admission, serial, FIRST, DUP and ZTRACK are cleared. -/
def execAdmitForget (s : State) : Res :=
  finish s (match s.clients.forget with
    | some (t, id) =>
      if tickPast s t then
        let s1 := loseAdmission id { s with clients := { s.clients with forget := none } }
        setClientFlag id 8 false (setCF id 0 16 2 0 (setC id 22 0xFFFFFFFF 0 (setC id 2 0xFFFF 0 (setC id 1 0xFFFFFFFF 0 s1))))
      else s
    | none => s)

/-- CLIENT_RECORD_UPDATE (R610, R649, R650): at the tick after a frame was accepted its fields reach the record. -/
def execClientRecordUpdate (s : State) : Res :=
  finish s (match s.clients.updates with
    | u :: rest =>
      if tickPast s u.tick then eolCheck u.id (applyUpdate u { s with clients := { s.clients with updates := rest } }) else s
    | [] => s)

/-- COMMAND_AGED (R634): at a major-frame boundary. -/
def execCommandAged (s : State) : Res := finish s (if atFrame s then ageCommands s else s)

/-- SUPERV_LOST (R648): no zero-crossing frame for ADMIT.ZSUP_TMO from a client whose ZTRACK is not 0. -/
def execSupervLost (id : Fin 2048) (s : State) : Res :=
  finish s (
    let tmo := fld (par s (parAddr 20 4)) 0 16 * sec
    let since := match (cRun s id.val).zcAt with | some t => t | none => s.power.origin
    if cFld s id.val 0 16 2 ≠ 0 ∧ since + tmo ≤ now s then setClientFlag id.val 4 true s else s)

end Sys2Proof.Machine
end

