-- ==== Sys2Proof/Machine/ConvStrokes.lean ====
section
/-!
DEFINITION. ConvStrokes.lean: the strokes of the CONV lane (12_converters.md).
-/

namespace Sys2Proof.Machine

/-- CONV_START (R670, R671, R681). -/
def execConvStart (i : Nat) (s : State) : Res :=
  finish s (runStroke 0x28 i (fun k s => wantConv k.e.target false s) s)

/-- The latest result of a channel visible at the start of this tick (R678). -/
def visibleResult (s : State) (ch : Nat) : Option ConvRes :=
  (convCh s ch).recent.find? fun r => decide (r.vis ≤ tickNo s * tickLen)

/-- The tag of a result (Table 12-3): FLAGS, NONE clear, FRESH, SEQ. -/
def readTag (r : ConvRes) (fresh : Bool) : Word :=
  r.flags.setWidth 32 ||| put 32 9 fresh.toNat ||| put 32 16 r.seq.toNat

/-- CONV_READ (R678): CODE, sign-extended, to OUT and its tag to OUT + 1. Without a result NONE is set, and CODE, FLAGS and
SEQ are free values (log 32). -/
def execConvRead (i : Nat) (s : State) : Res :=
  finish s (runStroke 0x29 i (fun k s =>
    let ch := k.e.target
    if s.glaze.oosMod.getLsbD (ch % 16) then s
    else match visibleResult s ch with
      | some r =>
        let c := convCh s ch
        writeSig k (k.e.out + 1) (readTag r (decide (c.read ≠ some r.no)))
          (writeSig k k.e.out (BitVec.ofInt 32 r.code) (setCh ch { c with read := some r.no } s))
      | none =>
        writeSig k (k.e.out + 1) ((Config.freeWord (s.free + 1) &&& 0xFFFF00FF) ||| 0x100)
          (writeSig k k.e.out (((Config.freeWord s.free).setWidth 24).signExtend 32) { s with free := s.free + 2 })) s)

/-- CONV_ARB (R714, R716, R717). -/
def execConvArb (i : Nat) (s : State) : Res :=
  finish s (runStroke 0x2A i (fun k s => arbRequest (tickNo s) k.e.target none s) s)

/-- OPENWIRE (R702). -/
def execOpenwire (i : Nat) (s : State) : Res :=
  finish s (runStroke 0x2B i (fun k s => wantConv k.e.target true s) s)

end Sys2Proof.Machine
end

