-- ==== Sys2Proof/Machine/CoreStrokes.lean ====
section
/-!
DEFINITION. CoreStrokes.lean: the strokes of CORE A and B that only work on signals and records (Table 05-8). Each command
names the entry of the running image that runs.
-/

namespace Sys2Proof.Machine

/-- IN and OUT of a block word "IN‖OUT": [21:11] and [10:0], as in the immediate form (log 30). -/
def blkIn (s : State) (k : Stroke) : Nat := fld (argWord s k.e 1) 11 11
def blkOut (s : State) (k : Stroke) : Nat := fld (argWord s k.e 1) 0 11

/-- A signed argument word. -/
def argI (s : State) (k : Stroke) (j : Nat) : Int := sgn (argWord s k.e j)

/-- COPY: OUT = IN. -/
def execCopy (i : Nat) (s : State) : Res :=
  finish s (runStroke 0x01 i (fun k s => writeSig k k.e.out (readSig s k k.e.inn) s) s)

/-- SCALE: OUT = sat32(((a x IN) >> sh) + b). -/
def scaleOf (x a b : Int) (sh : Nat) : Word := sat32 (asr (a * x) (min sh 63) + b)

def execScale (i : Nat) (s : State) : Res :=
  finish s (runStroke 0x02 i (fun k s =>
    writeSig k (blkOut s k) (scaleOf (readI s k (blkIn s k)) (argI s k 2) (argI s k 3) (argWord s k.e 4).toNat) s) s)

/-- LIMIT: OUT = clamp(IN, lo, hi). -/
def execLimit (i : Nat) (s : State) : Res :=
  finish s (runStroke 0x03 i (fun k s =>
    writeSig k (blkOut s k) (BitVec.ofInt 32 (clampI (argI s k 2) (argI s k 3) (readI s k (blkIn s k)))) s) s)

/-- COMPARE: OUT = 1 at IN >= thr, 0 at IN < thr - hyst, otherwise unchanged. -/
def execCompare (i : Nat) (s : State) : Res :=
  finish s (runStroke 0x04 i (fun k s =>
    let x := readI s k (blkIn s k)
    if argI s k 2 ≤ x then writeSig k (blkOut s k) 1 s
    else if x < argI s k 2 - argI s k 3 then writeSig k (blkOut s k) 0 s
    else s) s)

/-- The index into the truth table: input j, 1 when its signal is not 0, is bit j. The spec gives no packing of the 8 inputs in the
4 words: an even input is taken from [10:0], the odd one after it from [21:11] (DESIGN CHOICE, log 30). -/
def logicIndex (s : State) (k : Stroke) : Nat :=
  (List.range 8).foldl (fun n j =>
    if readSig s k (fld (argWord s k.e (2 + j / 2)) (11 * (j % 2)) 11) = 0 then n else n + 2 ^ j) 0

/-- LOGIC: the bit of the 256-bit truth table at the index. -/
def execLogic (i : Nat) (s : State) : Res :=
  finish s (runStroke 0x05 i (fun k s =>
    let n := logicIndex s k
    writeSig k (fld (argWord s k.e 1) 0 11) (bit1 32 ((argWord s k.e (6 + n / 32)).getLsbD (n % 32))) s) s)

/-- A timer: its output and the runs for which IN has differed from it; it follows after more runs than the delay. -/
def timerStep (d : Bool × Nat) (x : Bool) (on off : Nat) : Bool × Nat :=
  if x == d.1 then (d.1, 0)
  else if (if x then on else off) < d.2 + 1 then (x, 0)
  else (d.1, d.2 + 1)

/-- TIMER: on and off delays in runs of the entry (log 30). -/
def execTimer (i : Nat) (s : State) : Res :=
  finish s (runStroke 0x06 i (fun k s =>
    let d := timerStep (tblGet (fun _ => (false, 0)) s.canvas.timers k.e.target) (decide (readSig s k (blkIn s k) ≠ 0))
      (argWord s k.e 2).toNat (argWord s k.e 3).toNat
    writeSig k (blkOut s k) (bit1 32 d.1)
      { s with canvas := { s.canvas with timers := tblSet (fun _ => (false, 0)) s.canvas.timers k.e.target d } }) s)

/-- LOWPASS: y += (IN - y) >> shift. -/
def execLowpass (i : Nat) (s : State) : Res :=
  finish s (runStroke 0x07 i (fun k s =>
    let y := tblGet (fun _ => (0 : Int)) s.canvas.lowpass k.e.target
    let y' := y + asr (readI s k (blkIn s k) - y) (min (argWord s k.e 2).toNat 63)
    writeSig k (blkOut s k) (sat32 y')
      { s with canvas := { s.canvas with lowpass := tblSet (fun _ => (0 : Int)) s.canvas.lowpass k.e.target y' } }) s)

/-- A value put into an ascending list. -/
def insertI (x : Int) : List Int → List Int
  | [] => [x]
  | y :: r => if x ≤ y then x :: y :: r else y :: insertI x r

/-- The median of a list; none for an empty one (R884). -/
def medianOf (l : List Int) : Option Int :=
  let t := l.foldr insertI []
  let n := t.length
  if n = 0 then none
  else if n % 2 = 1 then some (t.getD (n / 2) 0)
  else some (asr (t.getD (n / 2 - 1) 0 + t.getD (n / 2) 0) 1)

/-- The valid inputs of a MEDIAN entry (R882, R883). -/
def medianIn (s : State) (k : Stroke) : List Int :=
  (List.range 5).filterMap fun j =>
    let w := argWord s k.e (2 + j)
    if fld w 0 11 ≠ 0 ∧ readSig s k (fld w 11 11) &&& argWord s k.e 7 = 0 then some (readI s k (fld w 0 11)) else none

/-- MEDIAN (R882-R884): the count to OUT + 1, the median to OUT; OUT stays without a valid input. -/
def execMedian (i : Nat) (s : State) : Res :=
  finish s (runStroke 0x08 i (fun k s =>
    let o := fld (argWord s k.e 1) 0 11
    let l := medianIn s k
    let s1 := writeSig k (o + 1) (BitVec.ofNat 32 l.length) s
    match medianOf l with
    | some m => writeSig k o (BitVec.ofInt 32 m) s1
    | none => s1) s)

/-- TABLE8: interpolation in 8 (x, y) pairs. -/
def execTable8 (i : Nat) (s : State) : Res :=
  finish s (runStroke 0x09 i (fun k s =>
    writeSig k (blkOut s k) (sat32 (interp (readI s k (blkIn s k))
      ((List.range 8).map fun j => (argI s k (2 + 2 * j), argI s k (3 + 2 * j))))) s) s)

/-- The minute of the week of a calendar second, Monday 00:00 = 0 (Table 19-1): calendar second 0 is 2000-01-01, a
Saturday. -/
def weekMinute (sec_ : Nat) : Nat := (sec_ / 86400 + 5) % 7 * 1440 + sec_ % 86400 / 60

/-- The pair in force: the latest at or before the minute, else the latest of the week before. -/
def schedPick (m : Nat) (l : List (Nat × Word)) : Option (Nat × Word) :=
  let later (a : Option (Nat × Word)) (p : Nat × Word) : Option (Nat × Word) :=
    match a with
    | some q => if q.1 ≤ p.1 then some p else some q
    | none => some p
  match (l.filter fun p => decide (p.1 ≤ m)).foldl later none with
  | some p => some p
  | none => l.foldl later none

/-- SCHED: the value of the schedule at the calendar's minute of the week (log 30). -/
def execSched (i : Nat) (s : State) : Res :=
  finish s (runStroke 0x0A i (fun k s =>
    let n := (fld (argWord s k.e 0) 0 8 - 2) / 2
    match schedPick (weekMinute s.time.calSec.toNat)
        ((List.range n).map fun j => ((argWord s k.e (2 + 2 * j)).toNat, argWord s k.e (3 + 2 * j))) with
    | some p => writeSig k (fld (argWord s k.e 1) 0 11) p.2 s
    | none => s) s)

/-- The record words that a report fills, in record order (log 31). -/
def reportWords : List Nat := [3, 8, 9, 10, 11, 12, 13, 14, 15, 16, 17]

/-- CLIENT_IN: the report fields of client TARGET to OUT ... OUT + IN - 1. -/
def execClientIn (i : Nat) (s : State) : Res :=
  finish s (runStroke 0x0B i (fun k s =>
    (List.range (min k.e.inn 11)).foldl (fun st j =>
      writeSig k (k.e.out + j) (recordWord st k.e.target (reportWords.getD j 3)) st) s) s)

/-- CLIENT_OUT (R641): w30 takes IN; an unsent earlier value is replaced. -/
def execClientOut (i : Nat) (s : State) : Res :=
  finish s (runStroke 0x0C i (fun k s => setC k.e.target 30 0xFFFFFFFF (readSig s k k.e.inn) s) s)

/-- RELAY (R891): driver TARGET is energised from the next tick when IN is not 0. -/
def execRelay (i : Nat) (s : State) : Res :=
  finish s (runStroke 0x0F i (fun k s =>
    { s with pads := { s.pads with
        crlyNext := s.pads.crlyNext ++ [(k.e.target - 16, decide (readSig s k k.e.inn ≠ 0))] } }) s)

/-- HOSTPUB (R408): RESULT.PUB[TARGET] takes IN from the next tick. -/
def execHostpub (i : Nat) (s : State) : Res :=
  finish s (runStroke 0x10 i (fun k s =>
    { s with host := { s.host with pubNext := s.host.pubNext ++ [(k.e.target, readSig s k k.e.inn)] } }) s)

/-- LOG (R1093): code 0x400 + (event code mod 1,024) with IN as value. -/
def execLog (i : Nat) (s : State) : Res :=
  finish s (runStroke 0x11 i (fun k s => logPush (0x400 + k.e.out % 1024) (readSig s k k.e.inn) s) s)

end Sys2Proof.Machine
end

