-- ==== Sys2Proof/Machine/Drive.lean ====
section
/-!
DEFINITION. Drive.lean: the strokes and events of the drive channels (14_motor_drive.md).
-/

namespace Sys2Proof.Machine

/-! ### Strokes -/

/-- PWM (R790, R839): the duty demand from the next minor tick. -/
def execPwm (i : Nat) (s : State) : Res :=
  finish s (runStroke 0x30 i (fun k s =>
    let m := k.e.target
    if s.glaze.oosDrv.getLsbD m then s
    else setDrv m { drv s m with demand := some (clampI 0 (2 ^ 31) (readI s k k.e.inn), tickNo s) } s) s)

/-- The channel drives a six-step sector; a fault has not turned its bridge off (Table 14-10). -/
def sixStates (d : DrvChan) : Bool :=
  d.wave != 2 && d.bridge != .off && (decide (d.st = .align) || decide (d.st = .ramp) || decide (d.st = .run) ||
    (decide (d.st = .kick) && !d.listening))

/-- SIXSTEP (R798): the bridge drives the sector in force. -/
def execSixstep (i : Nat) (s : State) : Res :=
  finish s (runStroke 0x31 i (fun k s =>
    let m := k.e.target
    let d := drv s m
    if s.glaze.oosDrv.getLsbD m || !sixStates d then s
    else setDrv m (d.withBridge (.six d.sector) (now s)) s) s)

/-- TQ_MAX in N m, binary32. -/
def tqMax (s : State) (m : Nat) : F32 := f32Rat (fld (dPar s 0x120 m) 0 16) 1000

/-- A binary32 quotient as Q1.31, rounded toward zero and saturated. -/
def toQ31 (x : F32) : Word := sat32 (Int.tdiv (f32Val x * 2 ^ 31) (2 ^ 149))

/-- DTC (R816): the torque reference from the next tick, the estimated torque to OUT; the
bridge drives the vector that the period boundaries select (R812). -/
def execDtc (i : Nat) (s : State) : Res :=
  finish s (runStroke 0x32 i (fun k s =>
    let m := k.e.target
    let d := drv s m
    if s.glaze.oosDrv.getLsbD m then s
    else
      let t := f32Mul (f32Rat (readI s k k.e.inn) (2 ^ 31)) (tqMax s m)
      writeSig k k.e.out (toQ31 (f32Div d.torque (tqMax s m)))
        (setDrv m { d with trefNext := some (t, tickNo s) } s)) s)

/-- SHUNT (R796, R797): the codes x 2^20 of the latest sample set that was available at the start of the tick; without one,
free values (log 32). -/
def execShunt (i : Nat) (s : State) : Res :=
  finish s (runStroke 0x33 i (fun k s =>
    let m := k.e.target
    if s.glaze.oosDrv.getLsbD m then s
    else match (drv s m).sets.find? fun e => decide (e.1 + 120 ≤ tickNo s * tickLen) with
      | some (_, u, v, w) =>
        writeSig k (k.e.out + 2) (BitVec.ofInt 32 (w * 2 ^ 20)) (writeSig k (k.e.out + 1) (BitVec.ofInt 32 (v * 2 ^ 20))
          (writeSig k k.e.out (BitVec.ofInt 32 (u * 2 ^ 20)) s))
      | none =>
        writeSig k (k.e.out + 2) (Config.freeWord (s.free + 2)) (writeSig k (k.e.out + 1) (Config.freeWord (s.free + 1))
          (writeSig k k.e.out (Config.freeWord s.free) { s with free := s.free + 3 }))) s)

/-! ### CMDIN (R818-R822, Table 14-4) -/

/-- The class in force: MODE, or the detected class in AUTO (3: none yet). -/
def cmdClassOf (s : State) (m : Nat) : Nat :=
  let mode := fld (cPar s 0 m) 2 3
  if mode = 3 then (drv s m).cmdin.det else mode

/-- clamp((x - LO) / (HI - LO), 0, 1) in Q1.31, rounded toward zero, 1 as 0x7FFF_FFFF; x = num / den (R820). -/
def normCmd (num den lo hi : Nat) : Word :=
  if hi ≤ lo then 0
  else if num ≤ lo * den then 0
  else if hi * den ≤ num then 0x7FFFFFFF
  else BitVec.ofNat 32 (min ((num - lo * den) * 2 ^ 31 / ((hi - lo) * den)) 0x7FFFFFFF)

/-- The limits of a class. -/
def cmdLimits (s : State) (m cls : Nat) : Nat × Nat :=
  let w := cPar s (match cls with | 0 => 0x018 | 1 => 0x030 | _ => 0x048) m
  (fld w 0 16, fld w 16 16)

/-- A measurement: x as num / den in the unit of the class, or none for one outside its valid range (Table 14-4). `mv` is
the mean voltage of the previous tick, `high` and `period` the last complete period in sub-ticks, 0 for none. -/
def cmdX (s : State) (m cls mv high period : Nat) : Option (Nat × Nat) :=
  let c := (drv s m).cmdin
  match cls with
  | 0 => if mv ≤ 10500 then some (mv, 1) else none
  | 1 =>
    if c.static then
      (if !c.level then some (0, 1) else if (cPar s 0 m).getLsbD 5 then some (10000, 1) else none)
    else if 2000 ≤ period ∧ period ≤ 400000 then some (high * 10000, period) else none
  | 2 =>
    if c.static then some (0, 1)
    else if 4000 ≤ period ∧ period ≤ 40000000 then some (40000000, period) else none
  | _ => none

/-- CMDIN (R820, R822): the normalised command to OUT; the command DCMD.FAIL and CMD_FAULT for an invalid measurement. The
operands are the measurement at the ball; in AUTO, before a class is decided, OUT keeps the value last written (log 137);
`edges` says that an edge has occurred since the previous stroke, and `level` is
the level now. -/
def execCmdin (i : Nat) (mv high period : Nat) (edges level : Bool) (s : State) : Res :=
  finish s (runStroke 0x34 i (fun k s =>
    let m := k.e.target
    if s.glaze.oosDrv.getLsbD m then s
    else
      let d := drv s m
      let c0 : Cmdin := { d.cmdin with
        level := level, edgeAt := if edges then now s else d.cmdin.edgeAt, static := d.cmdin.static && !edges }
      let s1 := setDrv m { d with cmdin := c0 } s
      let cls := cmdClassOf s1 m
      let c0 : Cmdin := { c0 with det := cls }
      if cls = 3 then writeSig k k.e.out c0.value s1
      else match cmdX s1 m cls mv high period with
      | some (n, den) =>
        let l := cmdLimits s1 m cls
        let v := normCmd n den l.1 l.2
        writeSig k k.e.out v
          (setDrv m { d with cmdin := { c0 with fault := false, value := v, x := BitVec.ofNat 16 (min (n / max den 1) 65535) } } s1)
      | none =>
        let v := cPar s1 0x060 m
        writeSig k k.e.out v (setDrv m { d with cmdin := { c0 with fault := true, value := v } } s1)) s)

/-- Since when edges have been looked for: the last edge, or the start of measurement with the Canvas (R853). -/
def edgeFrom (s : State) (m : Nat) : Nat :=
  max (drv s m).cmdin.edgeAt (match s.power.canvasStarted with | some t => t | none => 0)

/-- CMDIN_STATIC_TIMEOUT (R822, Table 14-4): no edge for 50 ms (duty) or 2 s (frequency). -/
def execCmdinStaticTimeout (m : Fin 24) (level : Bool) (s : State) : Res :=
  finish s (
    let d := drv s m.val
    let span := match cmdClassOf s m.val with | 1 => 50 * ms | _ => 2 * sec
    let cls := cmdClassOf s m.val
    if (cls == 1 || cls == 2) && canvasRuns s && passed s (edgeFrom s m.val) span then
      setDrv m.val { d with cmdin := { d.cmdin with static := true, level := level } } s
    else s)

/-- The class that a signal shows (R821): no edge for 100 ms ANALOG, edges below 100 Hz FREQ, else DUTY. -/
def shownClass (s : State) (m period : Nat) : Nat :=
  if passed s (edgeFrom s m) (100 * ms) then 0 else if 400000 < period then 2 else 1

/-- CMDIN_AUTO_DETECT (R821): in AUTO, the first class, decided 100 ms after measurement began, or one that has been shown
for 500 ms in place of the detected class. -/
def execCmdinAutoDetect (m : Fin 24) (period : Nat) (s : State) : Res :=
  finish s (
    let d := drv s m.val
    let c := d.cmdin
    if fld (cPar s 0 m.val) 2 3 = 3 ∧ canvasRuns s then
      let cls := shownClass s m.val period
      if c.det = 3 then
        let start := match s.power.canvasStarted with | some t => t | none => 0
        if passed s start (100 * ms) then setDrv m.val { d with cmdin := { c with det := cls, cand := none } } s else s
      else if cls = c.det then setDrv m.val { d with cmdin := { c with cand := none } } s
      else match c.cand with
        | some (k, t) =>
          if k = cls then
            (if passed s t (500 * ms) then setDrv m.val { d with cmdin := { c with det := cls, cand := none, static := false } } s
             else s)
          else setDrv m.val { d with cmdin := { c with cand := some (cls, now s) } } s
        | none => setDrv m.val { d with cmdin := { c with cand := some (cls, now s) } } s
    else s)

/-! ### DRV_SUP (R818, R819, R823-R829, R841) -/

/-- The command of R818 and R880. -/
def drvSource (s : State) (k : Stroke) (m : Nat) : Word :=
  match boundFan s m with
  | some f => sat32 (fanOut s f)
  | none =>
    match fld (cPar s 0 m) 0 2 with
    | 0 => readSig s k k.e.inn
    | 1 => cPar s 0x078 m
    | _ => (drv s m).cmdin.value

/-- |c| against a threshold of 0.1 %. -/
def cmdAtLeast (c : Word) (thr : Nat) : Bool := decide ((thr * 2 ^ 31 : Nat) ≤ (sgn c).natAbs * 1000)

/-- An entry of an op and target in the run state breaks a condition. -/
def entryBreaks (s : State) (op m : Nat) (p : Entry → Bool) : Bool :=
  (entries s).any fun e => e.op == op && e.target == m && setActive s.canvas.run e.set && p e

/-- The channel's configuration is invalid (R825). -/
def cfgBad (s : State) (m : Nat) : Bool :=
  let d := drv s m
  let w := d.wave
  entryBreaks s 0x0E m (fun e => e.pkind == 2) || entryBreaks s 0x31 m (fun e => e.pkind != 0 || w == 2) ||
    entryBreaks s 0x32 m (fun e => e.pkind != 0 || w != 2) ||
    (w == 2 && (dPar s 0x0F0 m).setWidth 16 == (0 : Half)) || (w == 2 && fld (dPar s 0x0F0 m) 16 16 == 0) ||
    (w == 2 && fld (dPar s 0x108 m) 0 16 == 0) || (w == 2 && fld (dPar s 0x120 m) 0 16 == 0)

/-- The exits of a listening kick, judged at the start of the tick (Table 14-8, R823, R835): a start found, or a second
reverse-order crossing. -/
def kickDecide (m : Nat) (s : State) : State :=
  let d := drv s m
  match d.hitAtTick with
  | some x => decideDrv m x s
  | none => if d.failedAtTick && d.next.isNone then retryDrv m true s else s

/-- The transition that a DRV_SUP step decides from the command (R827, R828, R841), and from what a kick heard. -/
def supDecide (m : Nat) (c : Word) (rev turned bad : Bool) (s : State) : State :=
  let d := drv s m
  let cfg := cPar s 0 m
  match d.st with
  | .idle =>
    let s1 := setDrv m { d with rev := rev } s
    if cmdAtLeast c (fld cfg 16 8) && !bad then goTo m .catching s1 else s1
  | .off => s
  | .held => s
  | st =>
    if !cmdAtLeast c (fld cfg 8 8) || turned then goTo m .idle s
    else if st = .kick then kickDecide m s else s

/-- DRV_SUP (R818, R819, R823, R825-R828, R841, R880): the command is judged, a transition decided, and OUT, OUT + 1 and
OUT + 2 written. -/
def execDrvSup (i : Nat) (s : State) : Res :=
  finish s (runStroke 0x0E i (fun k s =>
    let m := k.e.target
    if s.glaze.oosDrv.getLsbD m || !drvLive s m then s
    else
      let cfg := dPar s 0 m
      let raw := drvSource s k m
      let bidir := cfg.getLsbD 7
      let c := if !bidir ∧ sgn raw < 0 then 0 else raw
      let rev := if bidir then decide (sgn raw < 0) else cfg.getLsbD 6
      let bad := cfgBad s m
      let d := drv s m
      let turned := bidir && rev != d.rev && decide (sgn c ≠ 0)
      let s1 := setDrv m { d with cmd := c } s
      let s2 := if bad then raiseFlt m 11 s1 else s1
      let s3 := supDecide m c rev turned bad s2
      let running := decide (d.st = .run)
      let rated : Int := max (ratedOf s m) 1
      let word : Nat := drvCode d.st + running.toNat * 16 + (decide ((drv s3 m).flt ≠ 0)).toNat * 32 + d.revAct.toNat * 64
      writeSig k (k.e.out + 2) (BitVec.ofNat 32 word)
        (writeSig k (k.e.out + 1) (sat32 (Int.tdiv (d.speed * 2 ^ 31) rated))
          (writeSig k k.e.out (if running then c else 0) s3))) s)

/-! ### Currents (R792-R795, R808-R814, R817, R832, R833, R848-R850) -/

/-- The sample of phase x at a boundary is valid (R793): GL has been on from TSET + 125 ns before the boundary, and stays
on for 125 ns after it. -/
def sampleValid (s : State) (m x : Nat) : Bool :=
  let d := drv s m
  let need := tsetTicks s m + 5
  let half := deadCounts s m / 2
  let stood := decide (d.glAt.getD x 0 + need ≤ now s)
  match d.bridge with
  | .shorted => stood && !d.released.getLsbD x
  | .six k =>
    stood && x != floatPhase k &&
      (x == sinkPhase k ||
        (decide (6 * need + half ≤ compareOf d d.dutyPrev) && decide (30 + half ≤ compareOf d d.duty)))
  | .vec n => stood && (d.notch || !vecBit n x)
  | .off => false

/-- A sample set with invalid phases reconstructed or predicted (R794, R795), and whether it is predicted. -/
def sampleSet (v : List Bool) (i : List Int) (old older : List Int) : List Int × Bool :=
  let bad := (v.filter fun b => !b).length
  let at_ (l : List Int) (x : Nat) : Int := l.getD x 0
  if bad = 0 then (i, false)
  else if bad = 1 then
    ((List.range 3).map fun x => if v.getD x false then at_ i x else -(at_ i ((x + 1) % 3) + at_ i ((x + 2) % 3)), false)
  else ((List.range 3).map fun x => if v.getD x false then at_ i x else satI 12 (2 * at_ old x - at_ older x), true)

/-- The codes of a kept set; before two sets have been formed, free codes (log 137). -/
def setCodes (s : State) (m k : Nat) : List Int :=
  match (drv s m).sets[k]? with
  | some (_, u, v, w) => [u, v, w]
  | none => (List.range 3).map fun x => sgn (Config.freeWord (s.free + 3 * k + x)) % 4096 - 2048

/-- The flux sector (R811) of a flux that is not 0. -/
def fluxSector (psa psb : F32) : Nat :=
  let x := f32Val psa
  let y := f32Val psb
  if 3 * y * y < x * x then (if 0 < x then 1 else 4)
  else if 0 < y then (if 0 < x then 2 else 3)
  else (if x < 0 then 5 else 6)

/-- The vector selected by Table 14-3 (R812, R813): flux state, torque state, sector, vector in force. -/
def dtcVector (dPsi dTq : Int) (n vec : Nat) : Nat :=
  if dTq = 0 then
    (if vec = 0 ∨ vec = 7 then vec else if vec % 2 = 0 then 7 else 0)
  else
    let off := if dPsi = 1 then (if dTq = 1 then 1 else 5) else (if dTq = 1 then 2 else 4)
    (n - 1 + off) % 6 + 1

/-- The estimator and the choice of the vector at a boundary (R808-R813), in binary32. -/
def dtcUpdate (m : Nat) (i : List Int) (s : State) : State :=
  let d := drv s m
  let b (x : Nat) : F32 := if vecBit d.vec x then f32Rat 1 1 else 0
  let tp := f32Rat 1 (8000 * d.perTick)
  let vdc := f32Rat (fld (dPar s 0x0F0 m) 0 16) 10
  let rs := f32Rat (fld (dPar s 0x0F0 m) 16 16) 1000
  let amp (x : Nat) : F32 := f32Div (f32Rat (i.getD x 0 * 400) 2048) (f32Rat d.rsh 1)
  let va := f32Mul (f32Mul (f32Rat 2 3) vdc) (f32Sub (b 0) (f32Div (f32Add (b 1) (b 2)) (f32Rat 2 1)))
  let vb := f32Mul (f32Mul (f32Div (f32Rat 1 1) (f32Sqrt (f32Rat 3 1))) vdc) (f32Sub (b 1) (b 2))
  let ia := amp 0
  let ib := f32Div (f32Sub (amp 1) (amp 2)) (f32Sqrt (f32Rat 3 1))
  let leak := fld (dPar s 0x120 m) 24 8
  let tl := f32Rat leak 100
  let upd (p v c : F32) : F32 :=
    let x := f32Add p (f32Mul tp (f32Sub v (f32Mul rs c)))
    if leak = 0 then x else f32Sub x (f32Div (f32Mul p tp) tl)
  let psa := upd d.psa va ia
  let psb := upd d.psb vb ib
  let tq := f32Mul (f32Mul (f32Rat 3 2) (f32Rat d.poles 1)) (f32Sub (f32Mul psa ib) (f32Mul psb ia))
  let mag := f32Sqrt (f32Add (f32Mul psa psa) (f32Mul psb psb))
  let ref := f32Rat (fld (dPar s 0x108 m) 0 16) 1000000
  let half := f32Rat (fld (dPar s 0x108 m) 16 16) 2000000
  let dPsi := if f32Le mag (f32Sub ref half) then 1 else if f32Le (f32Add ref half) mag then -1 else d.dPsi
  let e := f32Sub d.tref tq
  let band := f32Rat ((fld (dPar s 0x120 m) 16 8 * fld (dPar s 0x120 m) 0 16 : Nat)) 200000
  let dTq := if f32Le band e then 1 else if f32Le e (f32Minus band) then -1
    else if d.dTq = 1 ∧ f32Le e 0 then 0 else if d.dTq = -1 ∧ f32Le 0 e then 0 else d.dTq
  let zero := decide (f32Val psa = 0) && decide (f32Val psb = 0)
  let n := if zero then (Config.freeWord s.free).toNat % 6 + 1 else fluxSector psa psb
  let vec := dtcVector dPsi dTq n d.vec
  let turned := d.fluxSec != 0 && d.fluxSec != n
  let fwd := n == d.fluxSec % 6 + 1
  -- a low side that the new vector turns on is on 3 us after the boundary and a dead time later (R814)
  let d1 := d.withBridge (.vec vec) (now s + 120 + (deadCounts s m + 5) / 6)
  let s1 := setDrv m { d1 with
    psa := psa, psb := psb, torque := tq, dPsi := dPsi, dTq := dTq, vec := vec, vecOld := d.vec, sector := n
    fluxSec := n, fluxAt := if turned || d.fluxSec == 0 then now s else d.fluxAt
    steps := if turned then d.steps + 1 else d.steps }
    { s with free := if zero then s.free + 1 else s.free }
  if turned then measured m (now s - d.fluxAt) (!fwd) s1 else s1

/-- The largest magnitude of a list of codes. -/
def peak (l : List Int) : Nat := l.foldl (fun a x => max a x.natAbs) 0

/-- The peaks of the running revolution take a sample set (R849 in six-step: by the sectors that involve a phase; R850 in
DTC: by phase). -/
def notePeaks (d : DrvChan) (i : List Int) : DrvChan :=
  let p := peak i
  match d.bridge with
  | .six k =>
    { d with peakIn := (List.range 3).map fun x => if x = floatPhase k then d.peakIn.getD x 0 else max (d.peakIn.getD x 0) p
             peakOut := (List.range 3).map fun x => if x = floatPhase k then max (d.peakOut.getD x 0) p else d.peakOut.getD x 0 }
  | _ =>
    { d with peakIn := (List.range 3).map fun x => max (d.peakIn.getD x 0) (i.getD x 0).natAbs
             peakOut := (List.range 3).map fun x =>
               max (d.peakOut.getD x 0) (max (i.getD ((x + 1) % 3) 0).natAbs (i.getD ((x + 2) % 3) 0).natAbs) }

/-- At the end of an electrical revolution (6 sectors), MISSING_PHASE is judged over the last two (R849, R850). -/
def judgeRevolution (m : Nat) (s : State) : State :=
  let d := drv s m
  if d.steps < 6 then s
  else
    let thr := fld (dPar s 0x0D8 m) 24 8 * 8
    let low (x : Nat) : Bool := decide (d.peakIn.getD x 0 < thr) && decide (d.peakInOld.getD x 0 < thr) &&
      decide (4 * thr ≤ max (d.peakOut.getD x 0) (d.peakOutOld.getD x 0))
    let hit := if 1 ≤ d.revs then (List.range 3).filter low else []
    let s1 := setDrv m { d with steps := 0, revs := d.revs + 1, peakInOld := d.peakIn, peakOutOld := d.peakOut
                                peakIn := [0, 0, 0], peakOut := [0, 0, 0] } s
    if hit.isEmpty then s1
    else
      let d1 := drv s1 m
      faultHeld m 2 (setDrv m { d1 with flt := hit.foldl (fun w x => setBit w (3 + x) true) d1.flt } s1)

/-- Signs of the currents in BRAKE, their zero crossings (R833), and the phases whose GL is released (R832). -/
def brakeSample (m : Nat) (i : List Int) (s : State) : State :=
  let d := drv s m
  let thr := fld (dPar s 0x0D8 m) 12 12
  let sign := (List.range 3).foldl (fun (w : BitVec 3) x => setBit w x (decide (0 ≤ i.getD x 0))) 0
  let rel := (List.range 3).foldl (fun (w : BitVec 3) x => setBit w x (decide (thr ≤ (i.getD x 0).natAbs))) 0
  let crossed := (List.range 3).find? fun x => match d.curSign with
    | some w => w.getLsbD x != sign.getLsbD x
    | none => false
  let d1 : DrvChan := { d with curSign := some sign, released := rel }
  match crossed with
  | some x =>
    let p := crossSector d x (sign.getLsbD x)
    let seen := ((now s, p) :: d.seen).take 8
    let s1 := setDrv m { d1 with curCross := now s, seen := seen } s
    (match runOf 3 seen with
     | some (r, _, _) => if seen.length < 2 then s1 else measured m (now s - d.curCross) r s1
     | none => s1)
  | none => setDrv m d1 s

/-- Consecutive valid samples of a phase at or above OC (R848). -/
def ocRuns (s : State) (m : Nat) (v : List Bool) (i : List Int) : List Nat :=
  let d := drv s m
  let oc := fld (dPar s 0x0D8 m) 0 12
  (List.range 3).map fun x =>
    if v.getD x false then (if oc ≤ (i.getD x 0).natAbs then d.ocRun.getD x 0 + 1 else 0) else d.ocRun.getD x 0

/-- The sample set of a boundary takes its effects. -/
def boundarySet (m : Nat) (i : List Int) (s : State) : State :=
  let d := drv s m
  let v := (List.range 3).map fun x => sampleValid s m x
  let (c, pred) := sampleSet v i (setCodes s m 0) (setCodes s m 1)
  let oc := ocRuns s m v i
  let d1 : DrvChan := { d with
    sets := ((now s, c.getD 0 0, c.getD 1 0, c.getD 2 0) :: d.sets).take 12, pred := pred, ocRun := oc
    predRun := if pred ∧ d.st = .run ∧ d.wave = 2 then d.predRun + 1 else 0 }
  let s1 := setDrv m d1 { s with free := if d.sets.length < 2 then s.free + 6 else s.free }
  if oc.any fun n => decide (3 ≤ n) then
    faultHeld m 1 (setDrv m { d1 with ocRun := [0, 0, 0] } s1)
  else match d.st with
    | .brake => brakeSample m c s1
    | .run =>
      if d.bridge = .off then s1
      else if d.wave = 2 then
        let s2 := dtcUpdate m c s1
        if 8 ≤ d1.predRun then retryDrv m false (raiseFlt m 7 (setDrv m { drv s2 m with predRun := 0 } s2))
        else judgeRevolution m (setDrv m (notePeaks (drv s2 m) c) s2)
      else judgeRevolution m (setDrv m (notePeaks d1 c) s1)
    | _ => s1

/-- PWM_PERIOD_BOUNDARY (R792-R795): the k-th period boundary of channel m in this tick; u, v, w are the shunt codes. -/
def execPwmPeriodBoundary (m : Fin 24) (k : Nat) (u v w : Int) (s : State) : Res :=
  finish s (
    let n := (drv s m.val).perTick
    if k < n ∧ drvLive s m.val then
      boundarySet m.val [satI 12 u, satI 12 v, satI 12 w] (moveIn s (k * tickLen / n))
    else s)

/-! ### Crossings and commutation (R800-R806) -/

/-- A valid crossing in RUN: the interval, t60, the speed and the next commutation (R803, R807). -/
def runCrossing (m t : Nat) (s : State) : State :=
  let d := drv s m
  let s1 := match d.lastCross with
    | some t0 =>
      let ints := ((t - t0) :: d.ints).take 2
      let t60 := ints.foldl (· + ·) 0 / ints.length
      measured m (t - t0) d.rev (setDrv m { d with ints := ints, t60 := t60 } s)
    | none => s
  let d1 := drv s1 m
  setDrv m { d1 with lastCross := some t, crossed := true, tried := true, misses := 0
                     comm := some (t + d1.t60 * (30 - fld (dPar s 0x048 m) 0 4) / 60) } s1

/-- A crossing of the floating phase at time t in RUN or RAMP (R801, R802; after a crossing that is not valid the chain
begins anew: log 34). -/
def floatCrossing (m t : Nat) (s : State) : State :=
  let d := drv s m
  let ok := match d.lastCross with
    | some t0 => decide (3 * d.t60 ≤ 4 * (t - t0)) && decide (4 * (t - t0) ≤ 5 * d.t60)
    | none => true
  match d.st with
  | .run => if ok then runCrossing m t s else setDrv m { d with tried := true } s
  | _ =>
    if ok then
      let s1 := match d.lastCross with | some t0 => measured m (t - t0) d.rev s | none => s
      setDrv m { drv s1 m with lastCross := some t, tried := true, validRun := d.validRun + 1 } s1
    else setDrv m { d with lastCross := none, tried := true, validRun := 0 } s

/-- The comparator of the floating phase at P/2, outside blanking (R800, R801); a sector has one crossing (log 34). -/
def floatSample (m : Nat) (lv : BitVec 3) (s : State) : State :=
  let d := drv s m
  let blank := d.t60 * fld (dPar s 0x048 m) 4 5 / 60
  if now s < d.lastComm + blank then s
  else
    let x := floatPhase d.sector
    let want := expectRise d d.sector
    match d.raw with
    | some (t, l) =>
      let s1 := setDrv m { d with raw := some (now s, lv) } s
      if !d.tried && lv.getLsbD x == want && l.getLsbD x == want then floatCrossing m t s1 else s1
    | none => setDrv m { d with raw := some (now s, lv) } s

/-- Crossings of all three phases while the bridge is off (R801, R830, Table 14-8): a level confirmed by two samples that
differs from the level before. -/
def freeSample (m : Nat) (lv : BitVec 3) (s : State) : State :=
  let d := drv s m
  match d.raw, d.levels with
  | some (t, l), some c =>
    (List.range 3).foldl (fun st x =>
      if lv.getLsbD x == l.getLsbD x && lv.getLsbD x != c.getLsbD x then
        let dx := drv st m
        setDrv m { dx with levels := some (setBit (dx.levels.getD c) x (lv.getLsbD x))
                           seen := ((t, crossSector dx x (lv.getLsbD x)) :: dx.seen).take 64 } st
      else st) (setDrv m { d with raw := some (now s, lv) } s)
  | some (_, l), none =>
    setDrv m { d with raw := some (now s, lv), levels := if lv = l then some lv else none } s
  | none, _ => setDrv m { d with raw := some (now s, lv) } s

/-- A crossing found while a kick listens (Table 14-8, R835); the channel's next step judges it (R823). -/
def kickListen (m : Nat) (s : State) : State :=
  let d := drv s m
  match d.seen with
  | (t, p) :: (t0, p0) :: _ =>
    let step := (p + 6 - p0) % 3
    let fwd := (step == 1) != d.rev
    if 2 ≤ d.reverses ∨ d.hit.isSome then s
    else if fwd then
      (if reaches s m (t - t0) (handThr s m) then
        setDrv m { d with hit := some { DrvNext.plain .run with
          duty := speedDuty s m (t - t0), sector := p, t60 := t - t0, cross := some t } } s
      else s)
    else setDrv m { d with reverses := d.reverses + 1 } s
  | _ => s

/-- BEMF_SAMPLE (R800, R801): the comparators of channel m (U, V, W against the virtual neutral) at P/2 of its k-th period
in this tick. -/
def execBemfSample (m : Fin 24) (k : Nat) (lv : BitVec 3) (s : State) : Res :=
  finish s (
    let d := drv s m.val
    let n := d.perTick
    if k < n ∧ drvLive s m.val then
      let s1 := moveIn s ((2 * k + 1) * tickLen / (2 * n))
      match d.st with
      | .catching => if d.wave = 1 then s1 else freeSample m.val lv s1
      | .kick =>
        if d.listening && d.next.isNone then
          let s2 := freeSample m.val lv s1
          if (drv s2 m.val).seen.length = d.seen.length then s2 else kickListen m.val s2
        else s1
      | .ramp => floatSample m.val lv s1
      | .run => if d.wave = 0 then floatSample m.val lv s1 else s1
      | _ => s1
    else s)

/-- The sector advances at an instant (R799): blanking begins, the comparator samples begin anew. -/
def commutate (m t : Nat) (s : State) : State :=
  let d := drv s m
  let k := nextSector d d.sector
  setDrv m { d.withBridge (if d.bridge = .off then .off else .six k) (now s) with
    sector := k, lastComm := t, comm := none, crossed := false, tried := false, raw := none, steps := d.steps + 1 } s

/-- An instant lies in or before this tick. -/
def dueBy (s : State) (t : Nat) : Bool := decide (t < (tickNo s + 1) * tickLen)

/-- COMMUTATION (R803; Table 14-7): the scheduled commutation; in RAMP it follows the ramp's own interval. -/
def execCommutation (m : Fin 24) (s : State) : Res :=
  finish s (
    let d := drv s m.val
    match d.comm with
    | some t =>
      if dueBy s t && drvLive s m.val && (decide (d.st = .run) || decide (d.st = .ramp)) then
        let s1 := commutate m.val t (moveTo s t)
        if d.st = .ramp then
          let iv := sixty (rampFreq s m.val (t - d.since))
          let d1 := drv s1 m.val
          setDrv m.val { d1 with comm := some (t + iv), t60 := iv, validRun := if d.tried then d1.validRun else 0
                                 lastCross := if d.tried then d1.lastCross else none } s1
        else s1
      else s
    | none => s)

/-- BLIND_COMMUTATION (R804): without a valid crossing by 1.5 x t60 after a commutation, the sector advances as of that
commutation plus t60, a miss is counted, and DESYNC_N misses in a row raise DESYNC (log 34). -/
def execBlindCommutation (m : Fin 24) (s : State) : Res :=
  finish s (
    let d := drv s m.val
    let at_ := d.lastComm + d.t60 * 3 / 2
    if decide (d.st = .run) && d.wave == 0 && !d.crossed && dueBy s at_ && drvLive s m.val then
      let s1 := commutate m.val (d.lastComm + d.t60) (moveTo s at_)
      let d1 := drv s1 m.val
      let s2 := setDrv m.val { d1 with misses := d.misses + 1, lastCross := d.lastCross.map (· + d.t60) } s1
      if fld (dPar s 0x048 m.val) 9 4 ≤ d.misses + 1 then retryDrv m.val false (raiseFlt m.val 6 s2) else s2
    else s)

/-- The sector of a Hall code U V W (Table 14-2). -/
def hallSector (c : BitVec 3) : Option Nat :=
  match c.toNat with
  | 0b101 => some 0
  | 0b100 => some 1
  | 0b110 => some 2
  | 0b010 => some 3
  | 0b011 => some 4
  | 0b001 => some 5
  | _ => none

/-- HALL_EDGE (R805, R806): a filtered Hall edge to a code, which then lasts `hold` sub-ticks: the sector follows it; a
code that is not adjacent, or 0b000 or 0b111 held for 10 us, raises HALL_FAULT. -/
def execHallEdge (m : Fin 24) (code : BitVec 3) (hold : Nat) (s : State) : Res :=
  finish s (
    let d := drv s m.val
    if d.wave = 1 ∧ drvLive s m.val then
      let s0 := setDrv m.val { d with hall := code } s
      match hallSector code, hallSector d.hall with
      | some k, some k0 =>
        let step := (k + 6 - k0) % 6
        if step = 1 ∨ step = 5 then
          let iv := now s - d.fluxAt
          let turn := d.st = .run ∧ d.bridge ≠ .off
          measured m.val iv (step == 5) (setDrv m.val { (if turn then d.withBridge (.six k) (now s) else d) with
            hall := code, lastComm := now s, fluxAt := now s, sector := k, steps := d.steps + 1
            seen := if d.st = .catching then ((now s, k) :: d.seen).take 64 else d.seen } s)
        else if step = 0 then s0
        else faultHeld m.val 8 s0
      | some k, none => setDrv m.val { drv s0 m.val with sector := k, lastComm := now s, fluxAt := now s } s0
      | none, _ => if 400 ≤ hold then faultHeld m.val 8 s0 else setDrv m.val d s
    else s)

/-- NDFLT_ASSERT (R847): nDFLTm low for 200 ns turns every gate off and raises DRV_FAULT; the channel goes to HELD. -/
def execNdfltAssert (m : Fin 24) (s : State) : Res :=
  finish s (
    let d := drv s m.val
    if s.power.inReset then s
    else if d.st = .off then raiseFlt m.val 0 s else faultHeld m.val 0 s)

/-- SPEED_TIMEOUT (R807): 250 ms without a measurement. -/
def execSpeedTimeout (m : Fin 24) (s : State) : Res :=
  finish s (
    let d := drv s m.val
    if passed s d.speedAt (250 * ms) then setDrv m.val { d with speed := 0 } s else s)

/-! ### Timed transitions (R824, R830-R840) -/

/-- RUN at the Hall sector with a duty (Table 14-6). -/
def hallRun (m : Nat) (duty : Int) (s : State) : State :=
  decideDrv m { DrvNext.plain .run with
    duty := duty, sector := (hallSector (drv s m).hall).getD 0, t60 := sixty (ratedOf s m) } s

/-- RUN at the Hall sector where Table 14-6 gives no duty: a free one (log 137). -/
def hallRunFree (m : Nat) (s : State) : State :=
  hallRun m (BitVec.toNat (Config.freeWord s.free) % 2 ^ 31 : Nat) { s with free := s.free + 1 }

/-- What an "At rest" row does (Table 14-6). -/
def atRest (m : Nat) (s : State) : State :=
  let d := drv s m
  match d.wave with
  | 0 => goTo m (if d.kickStart then .kick else .align) s
  | 1 => hallRun m (duty16 (fld (dPar s 0x060 m) 0 16)) s
  | _ => goTo m .align s

/-- The flux of PSI_REF at the angle of a sector's centre less 90 degrees (Table 14-6): multiples of 60 degrees from
-30 + ... : cos and sin in binary32. -/
def fluxAtSector (s : State) (m k : Nat) : F32 × F32 :=
  let ref := f32Rat (fld (dPar s 0x108 m) 0 16) 1000000
  let h := f32Div (f32Sqrt (f32Rat 3 1)) (f32Rat 2 1)
  let half := f32Rat 1 2
  -- centres 60, 120, 180, 240, 300, 0 less 90: -30, 30, 90, 150, 210, 270
  let c : F32 × F32 := match k with
    | 0 => (h, f32Minus half) | 1 => (h, half) | 2 => (0, f32Rat 1 1)
    | 3 => (f32Minus h, half) | 4 => (f32Minus h, f32Minus half) | _ => (0, f32Rat (-1) 1)
  (f32Mul ref c.1, f32Mul ref c.2)

/-- CATCH_END (R830, R831, Table 14-6): after 48 ms of CATCH the step decides by the motion found. -/
def execCatchEnd (m : Fin 24) (s : State) : Res :=
  finish s (
    let d := drv s m.val
    if decide (d.st = .catching) && expired s (d.since + 48 * ms) && drvStep s m.val then
      match motion d with
      | some (false, iv) =>
        if reaches s m.val iv (catchThr s m.val) then
          if d.wave = 1 then hallRunFree m.val s
          else
            let k := match caught d with | (_, p) :: _ => p | [] => 0
            let t := match caught d with | (t, _) :: _ => t | [] => now s
            let f := fluxAtSector s m.val k
            decideDrv m.val { dst := .run, duty := speedDuty s m.val iv, sector := k, t60 := iv
                              cross := if d.wave = 0 then some t else none, psa := f.1, psb := f.2 } s
        else atRest m.val s
      | some (true, iv) =>
        if reaches s m.val iv 5 then goTo m.val .brake s
        else if d.wave = 1 then hallRunFree m.val s
        else atRest m.val s
      | none => atRest m.val s
    else s)

/-- BRAKE_EXIT (R833): no current crossing for the 60 degree interval at 5 % of RATED. -/
def execBrakeExit (m : Fin 24) (s : State) : Res :=
  finish s (
    let d := drv s m.val
    let iv := 400000000 * 20 / (6 * max (ratedOf s m.val) 1)
    if decide (d.st = .brake) && expired s (d.curCross + iv) && drvStep s m.val then atRest m.val s else s)

/-- BRAKE_TIMEOUT (R834): 4 s after BRAKE began, REVERSE_HELD and HELD. -/
def execBrakeTimeout (m : Fin 24) (s : State) : Res :=
  finish s (
    let d := drv s m.val
    if decide (d.st = .brake) && expired s (d.since + 4 * sec) && drvStep s m.val then
      goTo m.val .held (raiseFlt m.val 10 s)
    else s)

/-- ALIGN_END (Tables 14-6, 14-7): after T_ALIGN, RAMP; in DTC, RUN with the flux (PSI_REF, 0). -/
def execAlignEnd (m : Fin 24) (s : State) : Res :=
  finish s (
    let d := drv s m.val
    if decide (d.st = .align) && expired s (d.since + fld (dPar s 0x060 m.val) 16 16 * ms) && drvStep s m.val then
      if d.wave = 2 then
        decideDrv m.val { DrvNext.plain .run with psa := f32Rat (fld (dPar s 0x108 m.val) 0 16) 1000000 } s
      else goTo m.val .ramp s
    else s)

/-- RAMP_HANDOVER (Table 14-7, R839): F_END reached and the last N_VALID crossings valid. -/
def execRampHandover (m : Fin 24) (s : State) : Res :=
  finish s (
    let d := drv s m.val
    let w := dPar s 0x090 m.val
    if decide (d.st = .ramp) && expired s (d.since + fld (dPar s 0x078 m.val) 16 16 * ms) &&
        decide (fld w 16 4 ≤ d.validAtTick) && drvStep s m.val then
      decideDrv m.val { DrvNext.plain .run with
        duty := duty16 (fld w 0 16), sector := d.sector, t60 := d.t60, cross := d.lastCross } s
    else s)

/-- RAMP_TIMEOUT (Table 14-7, R836): T_RAMP + T_HOLD elapsed. -/
def execRampTimeout (m : Fin 24) (s : State) : Res :=
  finish s (
    let d := drv s m.val
    let span := fld (dPar s 0x078 m.val) 16 16 * ms + fld (dPar s 0x090 m.val) 20 12 * ms
    if decide (d.st = .ramp) && d.next.isNone && expired s (d.since + span) && drvStep s m.val then retryDrv m.val true s
    else s)

/-- KICK_PULSE_END (Table 14-8): after T_PULSE the channel listens with its bridge off. -/
def execKickPulseEnd (m : Fin 24) (s : State) : Res :=
  finish s (
    let d := drv s m.val
    if decide (d.st = .kick) && !d.listening && expired s (d.lastComm + fld (dPar s 0x0C0 m.val) 0 8 * 4000) &&
        drvStep s m.val then
      decideDrv m.val { DrvNext.plain .kick with sector := d.pulse, t60 := 1 } s
    else s)

/-- KICK_LISTEN_END (Table 14-8, R836): after T_LISTEN the next pulse, or a failed attempt after the last. -/
def execKickListenEnd (m : Fin 24) (s : State) : Res :=
  finish s (
    let d := drv s m.val
    let w := dPar s 0x0C0 m.val
    if decide (d.st = .kick) && d.listening && d.next.isNone && expired s (d.lastComm + fld w 8 8 * ms) &&
        drvStep s m.val then
      let s1 := kickDecide m.val s
      if (drv s1 m.val).next.isSome then s1
      else if d.pulse + 1 < fld w 16 4 then decideDrv m.val { DrvNext.plain .kick with sector := d.pulse + 1 } s
      else retryDrv m.val true s
    else s)

/-- PAUSE_END (R836): after PAUSE x 100 ms the channel goes to CATCH. -/
def execPauseEnd (m : Fin 24) (s : State) : Res :=
  finish s (
    let d := drv s m.val
    if decide (d.st = .pause) && expired s (d.since + fld (dPar s 0x0C0 m.val) 24 8 * 100 * ms) && drvStep s m.val then
      goTo m.val .catching s
    else s)

/-- RETRY_RESET (R838): after 10 s of RUN the retry count returns to 0. -/
def execRetryReset (m : Fin 24) (s : State) : Res :=
  finish s (
    let d := drv s m.val
    if decide (d.st = .run) && expired s (d.since + 10 * sec) && drvStep s m.val then setDrv m.val { d with retry := 0 } s else s)

/-- HELD_EXIT (R840): nDFLTm high, and the command low, the run state changed, or every bit that holds the channel
cleared. -/
def execHeldExit (m : Fin 24) (nDflt : Bool) (s : State) : Res :=
  finish s (
    let d := drv s m.val
    let low := !cmdAtLeast d.cmd (fld (cPar s 0 m.val) 8 8)
    if decide (d.st = .held) && nDflt && (low || decide (d.heldRun ≠ s.canvas.run) || decide (d.flt &&& heldFaults = 0)) &&
        drvStep s m.val then
      goTo m.val .idle s
    else s)

end Sys2Proof.Machine
end

