-- ==== Sys2Proof/Machine/KeyOps.lean ====
section
/-!
DEFINITION. KeyOps.lean: presenting, checking, closing and locking keys (07_host_bus.md R391-R397, R1207).
-/

namespace Sys2Proof.Machine

/-- Key IDs of Table 07-3. -/
def keyKnown (id : Nat) : Bool := decide (id < 8) || (decide (0x10 ≤ id) && decide (id < 0x18))

/-- The key ID that KEY_STAT.ID shows: IDs 0x10-0x17 as 0x08-0x0F (Table 07-7); and back. -/
def keyStatId (id : Nat) : Nat := if id < 8 then id else id - 8
def keyOfStat (k : Nat) : Nat := if k < 8 then k else k + 8

/-- The lock state of a key. -/
def keyLock (s : State) (id : Nat) : KeyLock := tblGet (fun _ => KeyLock.blank) s.host.locks id
def setKeyLock (id : Nat) (l : KeyLock) (s : State) : State :=
  { s with host := { s.host with locks := tblSet (fun _ => KeyLock.blank) s.host.locks id l } }

/-- When a key was accepted; none while it is not valid. -/
def setKeyValid (id : Nat) (t : Option Nat) (s : State) : State :=
  { s with host := { s.host with keyValid := tblSet (fun _ => none) s.host.keyValid id t } }

/-- KEY_STAT.RES and ID take a result. -/
def keyResult (id res : Nat) (s : State) : State :=
  { s with host := { s.host with keyRes := BitVec.ofNat 3 res, keyId := BitVec.ofNat 5 (keyStatId id) } }

/-- A write of KEY_IN outside a presentation: 0x58 closes the key it names. -/
def keyClose (v : Half) (s : State) : State :=
  if fld v 8 8 = 0x58 ∧ keyKnown (fld v 0 8) = true then keyResult (fld v 0 8) 4 (setKeyValid (fld v 0 8) none s) else s

/-- A write of KEY_IN (R391, R392, R394): 0x4B starts a presentation whatever is under way; the four writes that follow
are the key, low half first. -/
def keyInWrite (v : Half) (s : State) : State :=
  if fld v 8 8 = 0x4B then { s with host := { s.host with keyIn := some (fld v 0 8, []) } }
  else match s.host.keyIn with
    | none => keyClose v s
    | some (id, ws) =>
      let l := ws ++ [v]
      if l.length < 4 then { s with host := { s.host with keyIn := some (id, l) } }
      else
        let k : DWord := l.getD 3 0 ++ l.getD 2 0 ++ l.getD 1 0 ++ l.getD 0 0
        { s with host := { s.host with
          keyIn := none
          keyDone := if keyKnown id then s.host.keyDone ++ [(id, k, tickNo s)] else s.host.keyDone } }

/-- Length of the lock that a wrong presentation starts, in seconds (R395): none before the third; then 1 s, doubling up
to 3,600 s. -/
def lockLength (l : KeyLock) : Nat := if l.len ≠ 0 then min 3600 (2 * l.len) else if 2 ≤ l.wrong then 1 else 0

/-- A wrong presentation: the key is not valid, it is counted, and locks the key where R395 says (log code 0x080). -/
def keyWrong (id : Nat) (s : State) : State :=
  let l := keyLock s id
  let n := lockLength l
  let s1 := evt 285 (setIrq 11 (keyResult id 2 (setKeyValid id none s)))
  if n = 0 then setKeyLock id { l with wrong := l.wrong + 1 } s1
  else logPush 0x080 (BitVec.ofNat 32 (3 + id * 256))
    (setKeyLock id { wrong := l.wrong + 1, until_ := now s + n * sec, len := n, locks := l.locks + 1 } s1)

/-- A correct presentation (R394, R397, R962). -/
def keyAccept (id : Nat) (s : State) : State :=
  let s1 := keyResult id 1 (setKeyValid id (some (now s)) (setKeyLock id { keyLock s id with wrong := 0, len := 0 } s))
  { s1 with host := { s1.host with keyLast := some id } }

/-- A presentation checked: a locked key refuses it (R396), else it is compared with the key held in region A. -/
def keyTry (id : Nat) (k : DWord) (s : State) : State :=
  if now s < (keyLock s id).until_ then setIrq 11 (keyResult id 3 s)
  else if tblGet (fun _ => (0 : DWord)) s.store.keys id = k then keyAccept id s
  else keyWrong id s

/-- KEY_CHECK (R393): the oldest complete presentation is checked at the minor tick boundary that follows it. -/
def execKeyCheck (s : State) : Res :=
  finish s (match s.host.keyDone with
    | (id, k, t) :: rest =>
      if tickPast s t then keyTry id k { s with host := { s.host with keyDone := rest } } else s
    | [] => s)

/-- KEY_EXPIRY (R394): 60 s after its acceptance key `k` (numbered as KEY_STAT.ID) expires. -/
def execKeyExpiry (k : Fin 16) (s : State) : Res :=
  let id := keyOfStat k.val
  finish s (match tblGet (fun _ => none) s.host.keyValid id with
    | some t => if passed s t (60 * sec) then keyResult id 5 (setKeyValid id none s) else s
    | none => s)

/-- KEY_LOCK_EXPIRY (R395): the lock of key `k` ends; the count of wrong presentations and the lock length stay. -/
def execKeyLockExpiry (k : Fin 16) (s : State) : Res :=
  let id := keyOfStat k.val
  let l := keyLock s id
  finish s (if l.until_ ≠ 0 ∧ l.until_ ≤ now s then setKeyLock id { l with until_ := 0 } s else s)

end Sys2Proof.Machine
end

