-- ==== Sys2Proof/Machine/Store.lean ====
section
/-!
DEFINITION. Store.lean: the commands of the retained store (16_retained_store.md).
-/

namespace Sys2Proof.Machine

/-! ### Strokes -/

/-- ST_CNT (R269, R932): IN, read as signed, is added to counter TARGET + 2,048 x ARG[0], saturating at 0 and
0xFFFF_FFFF. -/
def execStCnt (i : Nat) (s : State) : Res :=
  finish s (runStroke 0x3E i (fun k s =>
    let c := k.e.target + 2048 * fld k.e.arg 0 1
    let v := (cntOf s c).toNat + readI s k k.e.inn
    setCnt c (BitVec.ofNat 32 (min v.toNat (2 ^ 32 - 1))) s) s)

/-- ST_LOGQ: one queued fault log entry is written to region D (R1091, R1095). -/
def execStLogq (i : Nat) (s : State) : Res :=
  finish s (runStroke 0x3F i (fun _ s => if arrayFree s && logFree s then writeOneLog s else s) s)

/-! ### DCTL and DBUF (R922-R930, R935, R1209, R1211) -/

/-- STORE.DCTL of a page, region and op. -/
def dctlWord (page : BitVec 13) (reg : BitVec 2) (op : Nat) : Word :=
  put 32 0 page.toNat ||| put 32 13 reg.toNat ||| put 32 15 op

/-- STORE.DSTAT.RES. -/
def dstat (n : Nat) (s : State) : State := { s with store := { s.store with dres := BitVec.ofNat 4 n } }

/-- STORE.DBUF. -/
def dbuf (s : State) : List Word := (List.range 16).map fun i => par s (parAddr 13 (0x0C + i))

/-- The page DCTL names, where it may be written: no store operation RUNNING (BUSY), inside its region and in a host
sector (ARG), not torn (BUSY); else the refusal. -/
def dctlPage (page : BitVec 13) (reg : BitVec 2) (s : State) : Except Nat Nat :=
  if storeOp s then .error 6
  else match pageOf reg.toNat page.toNat with
    | none => .error 5
    | some pg =>
      if !hostSector (pg / 64) then .error 5
      else if isTorn s (pg / 64) then .error 6
      else .ok pg

/-- A write of DCTL under the write key of its region (R387, R958): the value is taken and acts at once; without the key
the write is discarded and reported. -/
def dctlWrite (page : BitVec 13) (reg : BitVec 2) (op : Nat) (f : Nat → State → State) (s : State) : State :=
  let v := dctlWord page reg op
  if v = par s (parAddr 13 0x0A) || keyOk s (writeKey reg.toNat) then
    let s1 := evt 283 (pctlOut 0 (setPar (parAddr 13 0x0A) v s))
    match dctlPage page reg s1 with
    | .error r => dstat r s1
    | .ok pg => f pg s1
  else pctlOut 3 s

/-- nWAIT is held until the work of a DCTL write is done: a free number of minor ticks, at most `most` (R922, R923, R930; log 133). -/
def dctlHold (most : Nat) (s : State) : State :=
  { s with
    free := s.free + 1
    host := { s.host with dctlUntil := some (tickNo s + 1 + (Config.freeWord s.free).toNat % most), nWaitLow := true } }

/-- OP = 1: DBUF programmed into a blank page; `ok` says whether its margin verify passes. -/
def dctlProg (done : Nat) (ok : Bool) (pg : Nat) (s : State) : State :=
  if !pageBlank s.mem pg then dstat 4 s
  else if ok then dctlHold 64 (dstat done (progPage pg (dbuf s) s))
  else dctlHold 64 (dstat 7 (progPageBad pg s))

/-- OP = 2: DBUF copied into the shadow; while HOLD_LOW is 1 it acts as OP = 1 and reports WRITE_THROUGH (R924-R927, R935). -/
def dctlShadow (ok : Bool) (pg : Nat) (s : State) : State :=
  if s.power.holdLow then evt 305 (dctlProg 3 ok pg s)
  else if !pageBlank s.mem pg then dstat 4 s
  else if 64 ≤ s.store.pages.length && !(s.store.pages.any fun p => p.page == pg) then dstat 8 s
  else evt 304 (dstat 2 (shadowPage pg (dbuf s) s))

/-- OP = 3: the sector that holds the named page is erased under cause HOST (R923): INTENT now, the erase and DONE when
nWAIT is released; a power-fail warning before then leaves it torn (R975). -/
def dctlSector (pg : Nat) (s : State) : State :=
  let s1 := dctlHold 144 (jIntent (pg / 64) 1 s)
  { s1 with store := { s1.store with erasing := some (pg / 64) } }

/-- A write of STORE.DCTL by its OP; OP = 0 only takes the value. -/
def dctlAny (v : Word) (ok : Bool) (s : State) : State :=
  let page : BitVec 13 := v.setWidth 13
  let reg : BitVec 2 := v.extractLsb' 13 2
  match fld v 15 2 with
  | 0 => if v &&& 0x7FFF = par s (parAddr 13 0x0A) || keyOk s (writeKey reg.toNat) then
      evt 283 (pctlOut 0 (setPar (parAddr 13 0x0A) (v &&& 0x7FFF) s)) else pctlOut 3 s
  | 1 => dctlWrite page reg 1 (dctlProg 1 ok) s
  | 2 => dctlWrite page reg 2 (dctlShadow ok) s
  | _ => dctlWrite page reg 3 dctlSector s

/-- The counter named by an applied CNT_CLR value is cleared (Table 16-9); the parameter keeps its ID, GO reads 0. -/
def cntClear (v : Word) (s : State) : State :=
  let s1 := setPar (parAddr 13 0x1E) (v &&& 0xFFF) s
  if v.getLsbD 31 then setCnt (fld v 0 12) 0 s1 else s1

/-- CNT_CLR: the writes of STORE.CNT_CLR made in an earlier minor tick clear their counters (R389, R987). -/
def execCntClr (s : State) : Res :=
  let mine := fun (w : Nat × Nat × Word) => tickPast s w.1 && w.2.1 == parAddr 13 0x1E
  finish s (((s.host.imm.filter mine).foldl (fun st w => cntClear w.2.2 st)
    { s with host := { s.host with imm := s.host.imm.filter fun w => !mine w } }))

/-! ### Background work -/

/-- The place of the head of a queue in the order of R933. -/
def headOrd (s : State) : List (Nat × Nat) :=
  (match s.store.logQ with | e :: _ => [(e.ord, 0)] | [] => []) ++
  (match s.store.parQ with | r :: _ => [(r.ord, 1)] | [] => []) ++
  (match s.store.pages with | p :: _ => [(p.ord, 2)] | [] => [])

/-- The queue whose head was queued first. -/
def firstQueue (s : State) : Option Nat :=
  ((headOrd s).foldl (fun (a : Option (Nat × Nat)) q =>
    match a with
    | some b => if q.1 < b.1 then some q else some b
    | none => some q) none).map fun q => q.2

/-- SHADOW_WRITEBACK (R917, R919, R933, R938, R1095): the thing queued first is programmed in the array. -/
def execShadowWriteback (s : State) : Res :=
  finish s (if arrayFree s then
      match firstQueue s with
      | some 0 => if logFree s then writeOneLog s else s
      | some 1 => if parFree s then writeOnePar s else s
      | some _ => writeOnePage s
      | none => s
    else s)

/-- A checkpoint written into the copy that does not hold the latest (R936). -/
def writeCheckpoint (s : State) : State :=
  let c := !s.store.ckCopy
  let base := if c then 96 else 91
  let img := cntImage s
  let s1 := eraseSectors base 5 4 s
  let s2 := progWords (sectorBase base + 64) img
    (progWords (sectorBase base) [s.store.ckSeq + 1, s.time.calSec, crc32 img] s1)
  evt 303 (evtN 296 257 { s2 with store := { s2.store with
    ckCopy := c, ckSeq := s.store.ckSeq + 1, ckAt := now s, dirtyCnt := 0
    dumps := s2.store.dumps.map fun d => { d with rows := d.rows &&& 0xFFFF0000 } } })

/-- CHECKPOINT: every CKPT.HOURS hours of easel time, or while counter rows of a replayed dump are not yet durable. -/
def execCheckpoint (s : State) : Res :=
  let owed := s.store.dumps.any fun d => !d.survived && decide (d.rows &&& 0xFFFF ≠ 0)
  finish s (if arrayFree s && !(List.range 10).any (fun i => isTorn s (91 + i)) &&
        (owed || passed s s.store.ckAt (fld (par s (parAddr 13 6)) 0 5 * 3600 * sec)) then
      writeCheckpoint s
    else s)

/-- A dump is consumed: the shadow survived it, or every row it holds is durable (R942). -/
def dumpUsedUp (s : State) (d : Dump) : Bool :=
  d.survived || (decide (d.rows &&& 0xFFFF = 0) && s.store.logQ.all (fun e => decide (d.ord ≤ e.ord)) &&
    s.store.parQ.all (fun r => decide (d.ord ≤ r.ord)) && s.store.pages.all fun p => decide (d.ord ≤ p.ord))

/-- DUMP_CONSUMED (R942): DUMP_CLEAR for the area of the oldest consumed dump, and the area is erased. -/
def execDumpConsumed (s : State) : Res :=
  finish s (match s.store.dumps.find? (dumpUsedUp s) with
    | some d =>
      if arrayFree s then
        let s1 := eraseSectors (dumpBase d.area) 8 6 (jWrite (jRec 0x5A d.area.toNat 0 0) s)
        { s1 with store := { s1.store with dumps := s1.store.dumps.filter fun x => x.area != d.area } }
      else s
    | none => s)

/-! ### Refresh scan (R951-R957, R1102) -/

/-- The scan may go on: not in the emergency run state, no host request on the array (R957). -/
def scanGoes (s : State) : Bool := arrayFree s && !decide (s.canvas.run = .emergency)

/-- REFRESH_SCAN_START (R951, R952, R955): in the store step of Proof, or 8 days after the last scan started. `found` names the
groups that it finds weak where they were sound before (`decay`); each one in need of correction or beyond it that it reads is
counted (R945, R946). -/
def execRefreshScanStart (found : List (Nat × Fin 3)) (s : State) : Res :=
  let proof := s.proof.running && !proofPaused s && s.proof.step == 4 && s.proof.stepAt.isSome
  finish s (if scanGoes s && !s.store.scan && (proof || passed s s.store.scanAt (8 * 86400 * sec)) then
      let s1 := decay found { s with store := { s.store with
          scan := true, scanRef := 0, scanUe := 0, scanDone := false, scanTs := s.time.calSec, scanAt := now s
          scanProof := proof } }
      let n := (s1.store.flaws.filter fun p => p.2 == 2).length
      readGroups 0 65536 { s1 with store := { s1.store with scanUe := BitVec.ofNat 8 n } }
    else s)

/-- SECTOR_REFRESH (R952-R954): the running scan has found a group of the sector weak: it is copied into sector 2, erased,
programmed back with the same contents and verified; sector 2 is erased. -/
def execSectorRefresh (sec : Fin 128) (s : State) : Res :=
  finish s (if scanGoes s && s.store.scan && sec.val ≠ 2 && weakSector s sec.val && !isTorn s sec.val then
      let data := memWords s.mem (sectorBase sec.val) 1024
      let s2 := progWords (sectorBase 2) data s
      let s3 := if sec.val < 2 then clearFlaws (512 * sec.val) 512 { s2 with store := { s2.store with
                    ueLogged := tblSet (fun _ => false) s2.store.ueLogged sec.val false } }
                else progWords (sectorBase sec.val) data (eraseSector sec.val 5 s2)
      let s4 := eraseSector 2 5 (evtN 296 128 s3)
      evt 300 (logPush 0x060 (BitVec.ofNat 32 (sec.val + 2 * 256)) { s4 with store := { s4.store with
        refresh := s4.store.refresh + 1, scanRef := s4.store.scanRef + 1 } })
    else s)

/-- REFRESH_SCAN_DONE (R956). -/
def execRefreshScanDone (s : State) : Res :=
  finish s (if scanGoes s && s.store.scan then
      { s with store := { s.store with scan := false, scanDone := true } }
    else s)

/-! ### Restart (R950, R972, R980-R986, R1092, R1211) -/

/-- A group 0 that is a valid JROLL, and its roll sequence. -/
def jrollOf (m : Memory) (act : Bool) : Option Nat :=
  match (jRecords m act).head? with
  | some v => if jKind v = 0x69 then some (fld v 0 32) else none
  | none => none

/-- The journal read: the sector with the higher roll sequence; without any, both are erased, JROLL 1 goes into sector 0
and JRNL_FAULT sets (R950, R983). -/
def readJournal (s : State) : State :=
  let take (act : Bool) (q : Nat) : State :=
    let l := jRecords s.mem act
    let last := (l.filter fun v => jKind v == 0x1E || jKind v == 0x2D).getLast?
    { s with store := { s.store with
        jAct := act, jPos := l.length, rollSeq := BitVec.ofNat 32 q
        jSeq := match last with | some v => v.extractLsb' 0 32 + 1 | none => 0 } }
  match jrollOf s.mem false, jrollOf s.mem true with
  | some a, some b => if a < b then take true b else take false a
  | some a, none => take false a
  | none, some b => take true b
  | none, none =>
    let s1 : State := { eraseRaw 1 (eraseRaw 0 s) with mem := memErase s.mem 0 8192 }
    let s2 := jWrite (jRec 0x69 0 0 1) { s1 with store := { s1.store with
      jAct := false, jPos := 0, jSeq := 0, rollSeq := 1, jrnlFault := true } }
    logPush 0x060 (BitVec.ofNat 32 (6 * 256)) (raiseCause 897 0 false s2)

/-- The torn sectors of the active journal (R980): an INTENT with no later DONE, with its cause. -/
def tornIn (s : State) : Tbl Nat :=
  (jRecords s.mem s.store.jAct).foldl (fun t v =>
    if jKind v = 0x1E then tblSet (fun _ => 0) t (jByte v) (fld v 40 8)
    else if jKind v = 0x2D then tblSet (fun _ => 0) t (jByte v) 0
    else t) []

/-- Torn sectors are marked, counted and logged (R982). -/
def markTorn (s : State) : State :=
  (tornIn s).foldl (fun st p => evt 306 (logPush 0x060 (BitVec.ofNat 32 (p.1 + 256)) { st with store := { st.store with
      torn := tblSet (fun _ => 0) st.store.torn p.1 p.2, tornSec := p.1, tornCause := p.2
      tornCnt := st.store.tornCnt + 1, flagTorn := true } }))
    { s with store := { s.store with torn := [], flagTorn := false } }

/-- A checkpoint copy with a valid CRC and no torn sector: its sequence and image (R937, R986, Table 16-8). -/
def ckptOf (s : State) (c : Bool) : Option (Word × List Word) :=
  let k := if c then 96 else 91
  let base := sectorBase k
  let img := memWords s.mem (base + 64) 4096
  if crc32 img = memWord s.mem (base + 8) ∧ (List.range 5).all (fun i => !isTorn s (k + i)) = true then
    some (memWord s.mem base, img)
  else none

/-- The counters rebuilt from the latest checkpoint. -/
def readCkpt (s : State) : State :=
  let put_ (c : Bool) (q : Word) (img : List Word) : State := { s with store := { s.store with
    ckCopy := c, ckSeq := q, dirtyCnt := 0
    cnt := ((List.range 4096).map fun i => (i, img.getD i 0)).filter fun p => p.2 ≠ 0 } }
  match ckptOf s false, ckptOf s true with
  | some a, some b => if a.1.toNat < b.1.toNat then put_ true b.1 b.2 else put_ false a.1 a.2
  | some a, none => put_ false a.1 a.2
  | none, some b => put_ true b.1 b.2
  | none, none => { s with store := { s.store with ckCopy := true, ckSeq := 0, dirtyCnt := 0, cnt := [] } }

/-- One item of region B takes its value: a parameter in force, a kept client word, a service state, an erase count. -/
def applyItem (key : Nat) (v : Word) (s : State) : State :=
  let item := key % 65536
  match key / 65536 with
  | 0 =>
    if 0x2A00 ≤ item ∧ item ≤ 0x2A7F then setCh (item - 0x2A00) { convCh s (item - 0x2A00) with swapped := v.getLsbD 0 } s
    else if isPersistent item then setPar item (match rowOf item with | some r => v &&& rowMask r | none => v) s else s
  | 1 => putC (item / 32) (item % 32) (keptMask (item % 32)) v s
  | 2 =>
    let ix := item % 2048
    let oos := decide (v = 0)
    match item / 2048 with
    | 0 => { s with glaze := { s.glaze with oosDrv := setBit s.glaze.oosDrv ix oos } }
    | 1 => { s with glaze := { s.glaze with oosMod := setBit s.glaze.oosMod ix oos } }
    | 2 => { s with glaze := { s.glaze with oosLoop := tblSet (fun _ => false) s.glaze.oosLoop ix oos } }
    | 3 => { s with glaze := { s.glaze with oosPh := setBit s.glaze.oosPh ix oos } }
    | 4 => putC ix 0 0x4000 (if oos then 0x4000 else 0) s
    | _ => s
  | 3 => { s with store := { s.store with erases := tblSet (fun _ => (0 : Word)) s.store.erases item v } }
  | _ => s

/-- Record i of a half lies in a torn sector, or the half's compaction was torn: the old half remains (R986, Table 16-8). -/
def parTorn (s : State) (h : Bool) (i : Nat) : Bool :=
  let k := if h then 27 else 11
  isTorn s (k + i / 256) || (List.range 16).any fun j => tblGet (fun _ => 0) s.store.torn (k + j) == 2

/-- Records of a half that are not blank and whose CRC fails: their sectors (R918, R982). -/
def badRecords (s : State) (h : Bool) : List Nat :=
  (List.range 4096).filterMap fun i =>
    if parTorn s h i || (memWords s.mem (halfBase h + 16 * i) 4).all (fun w => w == 0xFFFFFFFF) ||
        (parRecAt s.mem h i).isSome then none
    else some ((if h then 27 else 11) + i / 256)

/-- The records used: the valid ones of both halves that are not torn; and whether half 1 holds the newest. -/
def parAll (s : State) : List (Nat × Word × Word) × Bool :=
  let top (l : List (Nat × Word × Word)) : Nat := l.foldl (fun n r => max n (r.2.2.toNat + 1)) 0
  let part (h : Bool) : List (Nat × Word × Word) :=
    (List.range 4096).filterMap fun i => if parTorn s h i then none else parRecAt s.mem h i
  (latest (part false ++ part true), decide (top (part false) < top (part true)))

/-- The next free record of a half: behind its last record that is not blank. -/
def parEnd (m : Memory) (h : Bool) : Nat :=
  (List.range 4096).foldl (fun n i =>
    if (memWords m (halfBase h + 16 * i) 4).all (fun w => w == 0xFFFFFFFF) then n else i + 1) 0

/-- The parameter log read: values, active half and sequence (R917, R918). -/
def readParLog (s : State) : State :=
  let (l, h) := parAll s
  let s1 : State := { s with store := { s.store with
    half := h, parPos := parEnd s.mem h, parSeq := l.foldl (fun n r => if n.toNat ≤ r.2.2.toNat then r.2.2 + 1 else n) 0 } }
  let s2 := l.foldl (fun st r => applyItem r.1 r.2.1 st) s1
  (badRecords s false ++ badRecords s true).foldl (fun st sec_ =>
    logPush 0x060 (BitVec.ofNat 32 (sec_ + 4 * 256)) st) s2

/-- Region D read: the entry behind the newest, and its sequence number (R1092); a torn sector is used by nothing (R986). -/
def readLogEnd (s : State) : State :=
  let slots := (List.range 2816).filterMap fun i =>
    let ws := memWords s.mem (sectorBase 117 + 16 * i) 4
    if isTorn s (117 + i / 256) || ws.all (fun w => w == 0xFFFFFFFF) then none else some (i, (ws.getD 0 0).toNat)
  let top := slots.foldl (fun (a : Option (Nat × Nat)) p =>
    match a with
    | some q => if q.2 ≤ p.2 then some p else some q
    | none => some p) none
  match top with
  | some (i, q) => { s with store := { s.store with logPos := (i + 1) % 2816, logSeq := BitVec.ofNat 32 (q + 1) } }
  | none => { s with store := { s.store with logPos := 0, logSeq := 0 } }

/-- The dumps without a DUMP_CLEAR, oldest first: area, bitmap, and whether it has DUMP_DONE (R984). -/
def openDumps (s : State) : List (Bool × Word × Bool) :=
  (dumpRecords s).foldl (fun (l : List (Bool × Word × Bool)) v =>
    let a := jByte v == 1
    let rest := l.filter fun d => d.1 != a
    if jKind v = 0x3C then rest ++ [(a, BitVec.ofNat 32 (fld v 40 8 * 2 ^ 24 + fld v 16 24), false)]
    else if jKind v = 0x4B then l.map fun d => if d.1 = a then (d.1, d.2.1, true) else d
    else rest) []

/-- The latest of them. -/
def openDump (s : State) : Option (Bool × Word × Bool) := (openDumps s).getLast?

/-- The words of a dumped row. -/
def dumpRow (m : Memory) (a : Bool) (r : Nat) : List Word :=
  memWords m (sectorBase (dumpBase a + r / 4) + 1024 * (r % 4)) 256

/-- A dumped row has an uncorrectable group, or one that reads differently at the two margins (R985). -/
def dumpRowBad (s : State) (a : Bool) (r : Nat) : Bool :=
  (List.range 128).any fun g => decide (2 ≤ flawOf s (512 * (dumpBase a + r / 4) + 128 * (r % 4) + g))

/-- One row of a dump overlaid on the shadow: counters, log entries, parameter records, host pages. -/
def overlayRow (a : Bool) (s : State) (r : Nat) : State :=
  let ws := dumpRow s.mem a r
  if r < 16 then
    (List.range 256).foldl (fun st i => setCnt (256 * r + i) (ws.getD i 0) st) s
  else if r < 24 then
    (List.range 64).foldl (fun st i =>
      if ws.getD (4 * i + 1) 0 = 0xFFFFFFFF ∧ ws.getD (4 * i + 2) 0 = 0xFFFFFFFF then st
      else { st with store := { st.store with ord := st.store.ord + 1, logQ := st.store.logQ ++
        [{ ord := st.store.ord, hyper := ws.getD (4 * i + 1) 0, word2 := ws.getD (4 * i + 2) 0, value := ws.getD (4 * i + 3) 0 }] } }) s
  else if r < 28 then
    (List.range 64).foldl (fun st i =>
      let rec_ := (ws.drop (4 * i)).take 3
      if crc32 rec_ = ws.getD (4 * i + 3) 0 then
        let key := (rec_.getD 0 0).toNat
        applyItem key (rec_.getD 1 0) (parPush (key / 65536) (key % 65536) (rec_.getD 1 0) st)
      else st) s
  else
    (List.range 16).foldl (fun st i =>
      match st.store.dumpTags[16 * (r - 28) + i]? with
      | some pg => shadowPage pg ((ws.drop (16 * i)).take 16) st
      | none => st) s

/-- The latest open dump replayed row by row; rows that cannot be trusted are discarded and logged (R982, R984, R985). -/
def replayDump (s : State) : State :=
  match openDump s with
  | some (a, d, done) =>
    let s1 : State := { s with store := { s.store with dumpUsed := true, dumpPart := !done } }
    let s2 := (List.range 32).foldl (fun st r =>
      if d.getLsbD r then
        if dumpRowBad s a r then logPush 0x060 (BitVec.ofNat 32 (dumpBase a + r / 4 + 5 * 256)) st
        else overlayRow a st r
      else st) s1
    { s2 with store := { s2.store with
        dumps := (openDumps s).map fun x => { area := x.1, rows := x.2.1, survived := false, ord := s2.store.ord } } }
  | none => { s with store := { s.store with dumpUsed := false, dumpPart := false } }

/-- The shadow rebuilt from the array (R984). What was queued since power came back follows the replayed entries. -/
def rebuildShadow (s : State) : State :=
  let queued := s.store.logQ
  let recs := s.store.parQ
  let s0 : State := { s with store := { s.store with logQ := [], parQ := [], pages := [] } }
  let s1 := replayDump (readParLog (readCkpt s0))
  let s2 := queued.foldl (fun st e => { st with store := { st.store with
    ord := st.store.ord + 1, logQ := st.store.logQ ++ [{ e with ord := st.store.ord }] } }) s1
  recs.foldl (fun st r => parPush r.cls r.item r.value st) s2

/-- Sectors that a restart reads: the journal, the end of region D and, where the shadow is rebuilt, the parameter log, the
checkpoints and the open dump (R984; log 122). -/
def restartReads (s : State) : List Nat :=
  [0, 1] ++ (List.range 11).map (117 + ·) ++
    (if s.store.kept then []
     else (List.range 32).map (11 + ·) ++ (List.range 10).map (91 + ·) ++
      match openDump s with
      | some (a, _, _) => (List.range 8).map (dumpBase a + ·)
      | none => [])

/-- Each flaw is counted where the restart reads it (R945, R946). -/
def restartCells (s : State) : State :=
  (restartReads s).foldl (fun st k => if isTorn st k then st else readGroups (512 * k) 512 st)
    { s with store := { s.store with ueLogged := [] } }

/-- STORE_RESTART_REBUILD (R336, R950, R980-R986, R988, R1203, Table 18-6 codes 0x001, 0x005): from 100 ms after the origin, with K and
N available: the journal is scanned and torn sectors marked; a shadow that K did not keep is rebuilt and the dump
replayed; READY; the restart is logged. `found` names the groups that have weakened. -/
def execStoreRestartRebuild (found : List (Nat × Fin 3)) (s : State) : Res :=
  finish s (if !s.store.ready && !s.power.flushing && (domAvail s).getLsbD 9 && (domAvail s).getLsbD 1 && s.power.vmain && !s.power.inReset then
      let s1 := readLogEnd (restartCells (markTorn (readJournal (decay found s))))
      let s2 := if s.store.kept then { s1 with store := { s1.store with dumpUsed := false, dumpPart := false } }
        else rebuildShadow s1
      let s3 : State := { s2 with
        store := { s2.store with ready := true, kept := true, ckAt := now s }
        mirror := { s2.mirror with pair := (par s2 0x7800).getLsbD 0 } }
      let s4 := logPush 0x001 (s.power.restartKind.setWidth 32) (refsPower s3)
      if s.time.calValid then logPush 0x005 s.time.calSec s4 else s4
    else s)

/-- TORN_SECTOR_REPAIR (R981, Table 16-8): a torn sector is erased again and recovered by its cause. -/
def execTornSectorRepair (sec : Fin 128) (s : State) : Res :=
  finish s (if s.store.ready && isTorn s sec.val && (domAvail s).getLsbD 9 then
      let cause := tblGet (fun _ => 0) s.store.torn sec.val
      let s1 := eraseSector sec.val cause s
      let s2 := if cause = 5 ∧ sec.val ≠ 2 then
          eraseSector 2 5 (progWords (sectorBase sec.val) (memWords s.mem (sectorBase 2) 1024) s1)
        else if cause = 7 then
          progWords (sectorBase sec.val) (memWords s.mem (sectorBase (if sec.val = 8 then 9 else 8)) 1024) s1
        else s1
      { s2 with store := { s2.store with torn := s2.store.torn.filter fun p => p.1 != sec.val } }
    else s)

end Sys2Proof.Machine
end

