-- ==== Sys2Proof/Machine/ParamWrite.lean ====
section
/-!
DEFINITION. ParamWrite.lean: a parameter written through PADDR and PDATA (R380-R390), and what an immediate write does at
the next minor tick.
-/

namespace Sys2Proof.Machine

/-! ### The write (R385-R389) -/

/-- The value staged for an address. -/
def stagedValue (s : State) (a : Nat) : Option Word := (s.glaze.set.find? fun w => w.addr == a).map fun w => w.value

/-- The keys that a write needs: of every WK field it would change from its value in force or from its staged value
(R387). -/
def writeKeys (s : State) (r : PRow) (a : Nat) (v : Word) : List Nat :=
  keysNeeded r (readParam s a) v ++ (match stagedValue s a with | some w => keysNeeded r w v | none => [])

/-- An immediate write that passed its checks (R389, R770, R1209, R209, R623, R1107): it waits for the next minor tick, but that a
write of the store's direct buffer acts at once (R1209), and one of CAL_SET waits in a queue of its own. -/
def immWrite (a : Nat) (v : Word) (s : State) : State :=
  if a = 0x0804 then calSetWrite v s
  else if 0x680C ≤ a ∧ a ≤ 0x681B then setPar a v s
  else if a = 0xA007 then
    let s1 : State := { s with host := { s.host with imm := s.host.imm ++ [(tickNo s, a, v &&& 0x7FF)] } }
    if v.getLsbD 31 then { s1 with clients := { s1.clients with forget := some (tickNo s, fld v 0 11) } } else s1
  else if a = 0x88C0 then { s with evt := { s.evt with clr := s.evt.clr ++ [(tickNo s, v.setWidth 64)] } }
  else if a = 0x88C1 then { s with evt := { s.evt with clr := s.evt.clr ++ [(tickNo s, v.setWidth 64 <<< 32)] } }
  else { s with host := { s.host with imm := s.host.imm ++ [(tickNo s, a, v)] } }

/-- A 32-bit write to an address: UNDEF, READ_ONLY (every parameter outside the MIRROR bank on a standby, R1043), KEY, RANGE,
else staged or immediate. -/
def paramWrite (a : Nat) (v : Word) (ok : Bool) (s : State) : State :=
  if !isDefined a then pctlOut 1 s
  else match rowOf a with
    | none => pctlOut 2 s
    | some r =>
      let w := v &&& rowMask r
      if isStandby s && a / 2048 != 15 then pctlOut 2 s
      else if a = 0x680A then dctlAny w ok s
      else if (writeKeys s r a w).any fun k => !keyOk s k then
        pctlOut 3 (if a = 0x189F then relatchRefused 4 s else s)
      else if !inRange r w then pctlOut 4 s
      else if r.staged then stageWrite a w s
      else immWrite a w (evt 283 (pctlOut 0 s))

/-- PADDR's index advances while AINC is 1 (R383, R1200). -/
def paddrNext (s : State) : State :=
  if s.host.ainc then { s with host := { s.host with
    paddr := (s.host.paddr &&& 0xF800) ||| ((s.host.paddr + 1) &&& 0x07FF) } }
  else s

/-- A write of PDATA_HI (R380, R381, R383): with a low half held the two halves are written to PADDR; else ORDER. -/
def pdataHiWrite (hi : Half) (ok : Bool) (s : State) : State :=
  paddrNext (match s.host.lowHeld with
    | none => pctlOut 5 s
    | some lo => paramWrite s.host.paddr.toNat (hi ++ lo) ok { s with host := { s.host with lowHeld := none } })

/-! ### Reads (R379, R384, R246, R700, R771) -/

/-- What a parameter's own chapter says a read of it does. -/
def readSide (a : Nat) (s : State) : State :=
  if a = 0x0800 then easelTaken s
  else if a = 0x2806 then qLoTaken s
  else if a = 0x2807 then qHiTaken s
  else if a = 0x40C1 then { s with loop := { s.loop with tabAddr := s.loop.tabAddr + 1 } }
  else s

/-- The host fetches a parameter: its low half is driven, its high half latched (R379). -/
def parTaken (a : Nat) (s : State) : State := readSide a (evt 282 (fetched (readParam s a) s))

/-- A read of PDATA_LO: the parameter at PADDR is fetched. -/
def pdataLoRead (s : State) : State := parTaken s.host.paddr.toNat s

/-- A read of PDATA_HI: the latched half; the outcome of the access; PADDR advances. -/
def pdataHiRead (s : State) : State :=
  let s1 : State := { s with host := { s.host with dOut := s.host.hiLatch } }
  paddrNext (pctlOut (if isDefined s.host.paddr.toNat then 0 else 1) s1)

/-! ### What an immediate write does at its tick (R389) -/

/-- Bits of a drive channel's DRIVE.FLT cleared by the host; each ends its trouble cause. -/
def clearDriveFlt (m : Nat) (v : Word) (s : State) : State :=
  let d := drv s m
  (List.range 12).foldl (fun st b => if v.getLsbD b && d.flt.getLsbD b then dropCause (576 + m) b st else st)
    (setDrv m { d with flt := d.flt &&& ~~~(v.setWidth 12) } s)

/-- Bits of a fan channel's FAN.FLT cleared. -/
def clearFanFlt (f : Nat) (v : Word) (s : State) : State :=
  let d := fan s f
  (List.range 3).foldl (fun st b => if v.getLsbD b && d.flt.getLsbD b then dropCause (640 + f) b st else st)
    (setFan f { d with flt := d.flt &&& ~~~(v.setWidth 3) } s)

/-- Flags of a LOOP flag word cleared. -/
def clearFlags (t : Tbl Bool) (i : Nat) (v : Word) : Tbl Bool :=
  (List.range 32).foldl (fun u b => if v.getLsbD b then tblSet (fun _ => false) u (32 * i + b) false else u) t

/-- LOOP.F_OVR, F_MISS and F_SAT. -/
def clearLoopFlags (i : Nat) (v : Word) (s : State) : State :=
  if i < 16 then { s with loop := { s.loop with fOvr := clearFlags s.loop.fOvr i v } }
  else if i < 32 then { s with loop := { s.loop with fMiss := clearFlags s.loop.fMiss (i - 16) v } }
  else { s with loop := { s.loop with fSat := clearFlags s.loop.fSat (i - 32) v } }

/-- CONV.CH_STAT.SWAPPED cleared: the normal input order from the next conversion, kept in region B (R712). -/
def clearSwapped (ch : Nat) (v : Word) (s : State) : State :=
  let c := convCh s ch
  if v.getLsbD 0 && c.swapped then parPush 0 (0x2A00 + ch) 0 (setCh ch { c with swapped := false } s) else s

/-- PWR.RST_STAT bits cleared; RST_STUCK stays a trouble cause while the pin is masked (R340). -/
def clearRstStat (v : Word) (s : State) : State :=
  let p := s.power
  let s1 : State := { s with power := { p with
    rstPor := p.rstPor && !v.getLsbD 0, rstNrst := p.rstNrst && !v.getLsbD 1, rstStuck := p.rstStuck && !v.getLsbD 2 } }
  if p.rstStuck && v.getLsbD 2 && !p.masked then dropCause (832 + 5) 0 s1 else s1

/-- A write of EVT.CFG[c] waits for the next major-frame boundary (R1090). -/
def evtCfgWrite (c : Nat) (v : Word) (s : State) : State :=
  let s1 := setPar (0x8800 + c) v s
  { s1 with evt := { s1.evt with changed := if s1.evt.changed.contains c then s1.evt.changed else s1.evt.changed ++ [c] } }

/-- The host moves RESULT.TAIL; waiting records go on (R415). -/
def tailWrite (v : BitVec 10) (s : State) : State := ringDrain { s with host := { s.host with tail := v } }

/-- Status and counter words of the channels (banks 5, 6, 8, 9 and 11). -/
def immChannels (a : Nat) (v : Word) (s : State) : State :=
  if a = 0x2805 then { s with conv := { s.conv with tail := v.setWidth 10 } }
  else if 0x2A00 ≤ a ∧ a ≤ 0x2A7F then clearSwapped (a - 0x2A00) v s
  else if 0x3790 ≤ a ∧ a ≤ 0x37BF then clearLoopFlags (a - 0x3790) v s
  else if a = 0x40C0 then { s with loop := { s.loop with tabAddr := v.setWidth 16 } }
  else if a = 0x40C1 then tabWrite v s
  else if 0x4950 ≤ a ∧ a ≤ 0x4967 then clearDriveFlt (a - 0x4950) v s
  else if 0x5950 ≤ a ∧ a ≤ 0x597F then clearFanFlt (a - 0x5950) v s
  else setPar a v s

/-- One immediate write takes effect. -/
def immApply (a : Nat) (v : Word) (s : State) : State :=
  if a = 0x0030 then svcWrite v s
  else if a = 0x0807 then { s with time := { s.time with easelRtc := s.time.easelRtc && !v.getLsbD 5 } }
  else if a = 0x1000 then { s with canvas := { s.canvas with 
    swapArm := v.getLsbD 0, allowOld := v.getLsbD 1, swapHeld := s.canvas.swapHeld && v.getLsbD 0 } }
  else if a = 0x189F then (if v.getLsbD 0 then requestRelatch s else s)
  else if a = 0x7017 then clearRstStat v s
  else if 0x8800 ≤ a ∧ a ≤ 0x883F then evtCfgWrite (a - 0x8800) v s
  else if 0xA860 ≤ a ∧ a ≤ 0xA86D then
    { s with field := { s.field with seen := s.field.seen &&& ~~~(v.setWidth 444 <<< (32 * (a - 0xA860))) } }
  else if a = 0xB801 then tailWrite (v.setWidth 10) s
  else if 0xB804 ≤ a ∧ a ≤ 0xBC03 then
    { s with host := { s.host with ring := tblSet (fun _ => (0 : Word)) s.host.ring (a - 0xB804) v } }
  else immChannels a v s

/-- The waiting immediate writes whose tick has come, but those of STORE.CNT_CLR, which have a command of their own. -/
def immDue (s : State) (w : Nat × Nat × Word) : Bool := tickPast s w.1 && w.2.1 != parAddr 13 0x1E

/-- IMMEDIATE_PARAM_APPLY (R389): the immediate writes made before this minor tick take effect, in the order written. -/
def execImmediateParamApply (s : State) : Res :=
  finish s ((s.host.imm.filter (immDue s)).foldl (fun st w => immApply w.2.1 w.2.2 st)
    { s with host := { s.host with imm := s.host.imm.filter fun w => !immDue s w } })

end Sys2Proof.Machine
end

