-- ==== Sys2Proof/Machine/PowerOps.lean ====
section
/-!
DEFINITION. PowerOps.lean: leaving a power state, the ceiling and the wake causes as the host sees them
(06_power_reset_and_first_second.md).
-/

namespace Sys2Proof.Machine

/-- Exit max of DOZE, NAP and SLEEP in sub-ticks (Table 06-3). -/
def exitMax : PowerState → Nat
  | .doze => 40
  | .nap => 1600
  | .sleep => 48000
  | _ => 0

/-- An exit begins at an instant, or when the entry under way completes: the device is back in RUN, and every gated domain has its
power and clocks again. An exit from SLEEP lasts 1.2 ms, in a wake sequence from its first cause on. -/
def exitFrom (t : Nat) (s : State) : State :=
  { s with
    power := { s.power with
      st := .run
      movingUntil := if s.power.st = .sleep ∧ s.power.wakeSeq = false then max t s.power.movingUntil + 48000
                     else s.power.movingUntil }
    sys := { s.sys with gated := 0 } }

/-- An exit begins now. -/
def exitState (s : State) : State := exitFrom (now s) s

/-- A state below RUN that the manager chose. -/
def below (s : State) : Bool := s.power.st = .doze || s.power.st = .nap || s.power.st = .sleep

/-- The scheduled exit of the state in force has come (R315). -/
def exitDue (s : State) : Bool := below s && decide (s.power.exitAt ≤ now s)

/-- A scheduled exit whose instant has passed began then: no state lasts over its horizon (R313, R315, R347). -/
def exitMade (s : State) : State := if exitDue s then exitFrom s.power.exitAt s else s

/-- The causes that latched in the bus cycle that runs: the next read returns them (R348, R431). -/
def wakeFresh (s : State) : BitVec 7 :=
  (List.range 7).foldl (fun w c => setBit w c (s.power.wake.getLsbD c && tblGet (fun _ => 0) s.power.wakeAt c == now s + 1)) (0 : BitVec 7)

/-- The causes that a read of WAKE_CAUSE returns, and FIRST. -/
def wakeShown (s : State) : BitVec 7 := s.power.wake &&& ~~~wakeFresh s
def firstShown (s : State) : BitVec 3 := if (wakeFresh s).getLsbD s.power.wakeFirst.toNat then 7 else s.power.wakeFirst

/-- The word of WAKE_CAUSE (Table 06-8). -/
def wakeCauseWord (s : State) : Half := (wakeShown s).setWidth 16 ||| ((firstShown s).setWidth 16 <<< 8)

/-- A read of WAKE_CAUSE clears the causes that it returns and their FIRST; the next latch of each is timed anew (R325, R348). -/
def wakeTaken (s : State) : State :=
  let keep := wakeFresh s
  { s with power := { s.power with
      wake := s.power.wake &&& keep, wakeTimed := s.power.wakeTimed &&& keep
      wakeFirst := if keep.getLsbD s.power.wakeFirst.toNat then s.power.wakeFirst else 7 } }

/-- A write of SLEEP_REQ (R317-R320): a CEIL above 3, or 3 while an alarm or a wake cause is latched, is refused with its RES
code and CEIL stays; an accepted one takes effect at the next minor tick. -/
def sleepReq (ceil : BitVec 3) (s : State) : State :=
  let refuse (n : Nat) : State := { s with power := { s.power with sleepRes := BitVec.ofNat 3 n } }
  if 3 < ceil.toNat then refuse 4
  else if ceil = 3 && anyAlarm s then refuse 3
  else if ceil = 3 && s.power.wake ≠ 0 then refuse 2
  else { s with power := { s.power with ceilPending := some (ceil, tickNo s) } }

end Sys2Proof.Machine
end

