-- ==== Sys2Proof/Machine/HostOps.lean ====
section
/-!
DEFINITION. HostOps.lean: the 48 direct registers as the host reads and writes them, and when an access is held
(07_host_bus.md, Tables 03-8, 06-8, 08-7, 17-7).
-/

namespace Sys2Proof.Machine

/-! ### Reading (Table 07-7) -/

/-- A cause of an area is present. -/
def areaPresent (s : State) (area : Nat) : Bool := s.safety.causes.any fun c => c.code / 64 == area

/-- TROUBLE_STAT (Table 03-8). -/
def troubleStat (s : State) : Half :=
  let w := [areaPresent s 2, areaPresent s 8, areaPresent s 19, codePresent s.safety.causes 260, s.safety.core,
    decide (readGesso s 0x98 ≠ 0), decide (s.sys.tier < 2)]
  let any := !s.safety.causes.isEmpty || w.any id
  ((any :: w ++ [unacked s]).zipIdx).foldl (fun h p => setBit h p.2 p.1) (0 : Half)

/-- The code of OPSTAT.STATE (Table 07-6). -/
def opCode : OpState → Nat
  | .idle => 0 | .running => 1 | .done => 2 | .failed => 3 | .aborted => 4

/-- OPSTAT. -/
def opStat (s : State) : Half :=
  let o := s.host.op
  put 16 0 (opCode o.st) ||| put 16 3 o.paused.toNat ||| put 16 4 o.part.toNat ||| put 16 5 o.cmdRes.toNat |||
    put 16 8 o.err.toNat

/-- STAT. -/
def statWord (s : State) : Half :=
  let h := s.host
  ([s.power.busrdy, h.silent, decide (h.op.st = .running), h.busErr, h.waitTmo, !s.glaze.set.isEmpty, s.legacy.mode].zipIdx).foldl
    (fun w p => setBit w p.2 p.1) (0 : Half)

/-- TICK_NOW. -/
def tickNow (s : State) : Half := put 16 0 (minorOf (now s)) ||| put 16 7 (subOf (now s) / 10)

/-- GLAZE_CTL, GLAZE_STAT, GLAZE_GRP (Table 08-7). -/
def glazeCtlWord (s : State) : Half :=
  let g := s.glaze
  put 16 2 g.sealed_.toNat ||| put 16 3 (g.sealed_ && decide (g.landed ||| g.refused ≠ 0) && !g.set.isEmpty).toNat |||
    put 16 4 g.set.length
def glazeStatWord (s : State) : Half := s.glaze.refused ++ s.glaze.landed
def glazeGrpWord (s : State) : Half :=
  put 16 0 s.glaze.grp.toNat ||| put 16 3 (groupWords s s.glaze.grp.toNat).length

/-- KEY_STAT. -/
def keyStat (s : State) : Half :=
  (List.range 8).foldl (fun w k => setBit w k (keyOk s k)) (0 : Half) ||| put 16 8 s.host.keyRes.toNat |||
    put 16 11 s.host.keyId.toNat

/-- FAULT_LOG_PTR: the sequence number of the latest entry, queued ones counted (log 53). -/
def logPtr (s : State) : Half :=
  let n := s.store.logSeq.toNat + s.store.logQ.length + s.store.lostDue.toNat
  BitVec.ofNat 16 (n - 1)

/-- The 32-bit word that EVT_SEL selects: snapshot, live count, configuration. -/
def evtWord (s : State) : Word :=
  let c := fld s.host.evtSel 0 6
  match fld s.host.evtSel 6 2 with
  | 0 => snapWord s c
  | 1 => tblGet (fun _ => 0) s.evt.live c
  | 2 => evtCfg s c
  | _ => 0

/-- The word that the client window shows. -/
def windowWord (s : State) : Word := tblGet (fun _ => (0 : Word)) s.host.window (fld s.host.clientSel 11 5)

/-- The bits of IRQ_STAT that a read returns: one that set in the same bus cycle shows at the next read (R431). -/
def irqShown (s : State) : Half :=
  (List.range 16).foldl (fun w b => setBit w b (s.host.irqStat.getLsbD b && tblGet (fun _ => 0) s.host.irqAt b != now s + 1)) (0 : Half)

/-- Registers 0x00-0x14. -/
def regLow (s : State) (off : Nat) : Half :=
  let h := s.host
  match off with
  | 0x00 => 0x2048
  | 0x01 => 0x0101
  | 0x02 => bit1 16 h.irqOd ||| put 16 1 h.hbEn.toNat
  | 0x03 => statWord s
  | 0x04 => irqShown s
  | 0x05 => h.irqEn
  | 0x06 => bit1 16 s.power.busrdy ||| put 16 1 h.held.toNat ||| put 16 4 h.tReady.toNat
  | 0x07 => tickNow s
  | 0x08 => h.frameNow
  | 0x09 => h.hyperLo
  | 0x0A => h.hyperHi
  | 0x0C => opStat s
  | 0x11 => h.op.res.getD 0 0
  | _ =>
    if 0x0D ≤ off ∧ off ≤ 0x10 then tblGet (fun _ => (0 : Half)) h.opArg (off - 0x0D)
    else if 0x12 ≤ off ∧ off ≤ 0x14 then h.op.resLatch.getD (off - 0x11) 0
    else 0

/-- Registers 0x15-0x1F. -/
def regMid (s : State) (off : Nat) : Half :=
  let h := s.host
  match off with
  | 0x15 => h.paddr
  | 0x16 => (readParam s h.paddr.toNat).extractLsb' 0 16
  | 0x17 => h.hiLatch
  | 0x18 => bit1 16 h.ainc ||| put 16 4 h.pctlRes.toNat ||| put 16 8 h.errCnt.toNat
  | 0x19 => glazeCtlWord s
  | 0x1A => glazeStatWord s
  | 0x1B => glazeGrpWord s
  | 0x1C => h.clientSel
  | 0x1D => (windowWord s).extractLsb' 0 16
  | 0x1E => h.clientHi
  | 0x1F => put 16 1 h.ready.toNat ||| put 16 2 h.cAinc.toNat ||| put 16 4 h.cAns.toNat ||| put 16 8 h.cN.toNat
  | _ => 0

/-- Registers 0x20-0x2F. -/
def regHigh (s : State) (off : Nat) : Half :=
  let p := s.power
  match off with
  | 0x20 => alarmStat s
  | 0x21 => troubleStat s
  | 0x23 => wakeCauseWord s
  | 0x24 => p.ceil.setWidth 16 ||| put 16 4 p.sleepRes.toNat
  | 0x25 => put 16 0 (powerCode p.st) ||| put 16 3 s.sys.tier ||| put 16 5 p.pfw.toNat ||| put 16 6 (onVbat s).toNat |||
      put 16 7 p.holdLow.toNat ||| put 16 8 p.vbatLow.toNat
  | 0x26 => mirrorStat s
  | 0x27 => put 16 8 s.mirror.ctlRes.toNat
  | 0x28 => s.host.evtSel
  | 0x29 => (evtWord s).extractLsb' 0 16
  | 0x2A => s.host.evtHi
  | 0x2C => keyStat s
  | 0x2D => logPtr s
  | 0x2E => s.host.hb
  | _ => 0

/-- What a register returns. -/
def regValue (s : State) (off : Nat) : Half :=
  if off < 0x15 then regLow s off else if off < 0x20 then regMid s off else if off < 0x30 then regHigh s off else 0

/-- An access at offset 0x30-0x3F, or with both strobes low, is counted (Table 07-5). -/
def busError (s : State) : State :=
  { s with host := { s.host with busErr := true, busErrCnt := s.host.busErrCnt + 1 } }

/-- The word index of the client window advances while AINC is 1 (R405). -/
def windowNext (s : State) : State :=
  if s.host.cAinc then { s with host := { s.host with clientSel := s.host.clientSel + 0x0800 } } else s

/-- What a read does beside returning its word (R376-R379, R384, R404, R405, R438, Table 00-2 RCL). -/
def readEffect (off : Nat) (s : State) : State :=
  let h := s.host
  match off with
  | 0x03 => { s with host := { h with busErr := false, waitTmo := false } }
  | 0x06 => { s with host := { h with held := false } }
  | 0x07 =>
    let e := now s
    { s with host := { h with
        frameNow := put 16 0 (majorOf e) ||| put 16 6 (runCode s.canvas.run)
        hyperLo := BitVec.ofNat 16 (hyperOf e), hyperHi := BitVec.ofNat 16 (hyperOf e / 65536) } }
  | 0x11 => { s with host := { h with op := { h.op with resLatch := h.op.res, part := false } } }
  | 0x16 => pdataLoRead s
  | 0x17 => pdataHiRead s
  | 0x18 => { s with host := { h with errCnt := 0 } }
  | 0x1D => { s with host := { h with clientHi := (windowWord s).extractLsb' 16 16 } }
  | 0x1E => windowNext s
  | 0x23 => wakeTaken s
  | 0x26 => { s with mirror := { s.mirror with swo := false, div := false } }
  | 0x29 => { s with host := { h with evtHi := (evtWord s).extractLsb' 16 16 } }
  | _ => if 0x30 ≤ off then busError s else s

/-- A read of a direct register. -/
def regRead (off : Nat) (s : State) : State :=
  let v := regValue s off
  let s1 := readEffect off s
  { s1 with host := { s1.host with dOut := v } }

/-! ### Writing -/

/-- CTRL: IRQ_OD, and HB_EN under the SYS key; without it HB_EN stays and the refusal is counted (Table 00-2). -/
def ctrlWrite (v : Half) (s : State) : State :=
  let s1 : State := { s with host := { s.host with irqOd := v.getLsbD 0 } }
  if v.getLsbD 1 = s.host.hbEn then s1
  else if keyOk s 0 then { s1 with host := { s1.host with hbEn := v.getLsbD 1 } }
  else evt 284 s1

/-- IRQ_STAT: bits written 1 clear, but those whose event came in this minor tick (R424). -/
def irqClear (v : Half) (s : State) : State :=
  let keep : Half := (List.range 16).foldl (fun w b =>
    setBit w b (tblGet (fun _ => 0) s.host.irqTick b == tickNo s + 1)) (0 : Half)
  { s with host := { s.host with irqStat := s.host.irqStat &&& ~~~(v &&& ~~~keep) } }

/-- GLAZE_CTL (R445, R446, R455): DISCARD acts at once, COMMIT at the next minor tick; a standby ignores the write (R1043). -/
def glazeDiscard (s : State) : State :=
  if s.glaze.sealed_ then { s with glaze := { s.glaze with withdrawn := true } }
  else { s with glaze := { s.glaze with set := [] } }
def glazeCtl (v : Half) (s : State) : State :=
  if isStandby s then s
  else
    let s1 := if v.getLsbD 1 then glazeDiscard s else s
    if v.getLsbD 0 then { s1 with glaze := { s1.glaze with commitAt := some (tickNo s) } } else s1

/-- CLIENT_SEL (R403): a change of the ID clears READY, and a copy under way is dropped. -/
def clientSelWrite (v : Half) (s : State) : State :=
  if fld v 0 11 = fld s.host.clientSel 0 11 then { s with host := { s.host with clientSel := v } }
  else { s with host := { s.host with clientSel := v, ready := false, snapAt := none } }

/-- CLIENT_DATA_HI (R405, R406): with a low half written, a command word w24-w27 of the window takes the pair, the fields
of w24 (R9, Table 11-1); word 3 with bit
[9] set asks for TRACK_CHG to be cleared; any other is ignored. -/
def clientHiWrite (hi : Half) (s : State) : State :=
  let w := fld s.host.clientSel 11 5
  let h := s.host
  let mask : Word := if w = 24 then 0xFFFF01FF else 0xFFFFFFFF
  windowNext (match h.clientLow with
    | none => s
    | some lo =>
      let s1 : State := { s with host := { h with clientLow := none } }
      if 24 ≤ w ∧ w ≤ 27 then
        { s1 with host := { s1.host with window := tblSet (fun _ => (0 : Word)) s1.host.window w ((hi ++ lo) &&& mask) } }
      else if w = 3 ∧ lo.getLsbD 9 then
        { s1 with host := { s1.host with trackClr := s1.host.trackClr ++ [(tickNo s, fld h.clientSel 0 11)] } }
      else s1)

/-- CLIENT_CTL.SNAP (R401, R436): READY clears and the copy is asked for. -/
def clientSnap (s : State) : State := { s with host := { s.host with ready := false, snapAt := some (tickNo s) } }

/-- CLIENT_CTL. -/
def clientCtl (v : Half) (s : State) : State :=
  let s1 : State := { s with host := { s.host with cAinc := v.getLsbD 2 } }
  let s2 := if v.getLsbD 0 then clientSnap s1 else s1
  if v.getLsbD 3 then { s2 with host := { s2.host with cmdGoAt := some (tickNo s) } } else s2

/-- HOST_HB (R425): a changed value is a beat. -/
def hostBeat (v : Half) (s : State) : State :=
  if v = s.host.hb then s
  else
    let first := if s.host.beatNew then s.host.beatFirst else now s
    evt 292 { s with host := { s.host with hb := v, beatAt := now s, beatNew := true, beatFirst := first } }

/-- A write of a direct register; RO registers and offsets 0x30-0x3F take nothing. -/
def regWrite (off : Nat) (v : Half) (ok : Bool) (s : State) : State :=
  let h := s.host
  match off with
  | 0x02 => ctrlWrite v s
  | 0x04 => irqClear v s
  | 0x05 => countIrq s { s with host := { h with irqEn := v } }
  | 0x0B => opStart (fld v 0 8) s
  | 0x15 => { s with host := { h with paddr := v, lowHeld := none } }
  | 0x16 => { s with host := { h with lowHeld := some v } }
  | 0x17 => pdataHiWrite v ok s
  | 0x18 => { s with host := { h with ainc := v.getLsbD 0 } }
  | 0x19 => glazeCtl v s
  | 0x1B => { s with glaze := { s.glaze with grp := v.setWidth 3 } }
  | 0x1C => clientSelWrite v s
  | 0x1D => { s with host := { h with clientLow := some v } }
  | 0x1E => clientHiWrite v s
  | 0x1F => clientCtl v s
  | 0x22 => { s with safety := { s.safety with ackPending := some (v, tickNo s) } }
  | 0x24 => sleepReq (v.setWidth 3) s
  | 0x27 => mirrorCtl v s
  | 0x28 => { s with host := { h with evtSel := v &&& 0x00FF } }
  | 0x2B => keyInWrite v s
  | 0x2E => hostBeat v s
  | _ =>
    if 0x0D ≤ off ∧ off ≤ 0x10 then
      { s with host := { h with opArg := tblSet (fun _ => (0 : Half)) h.opArg (off - 0x0D) v } }
    else if 0x30 ≤ off then busError s else s

end Sys2Proof.Machine
end

