-- ==== Sys2Proof/Machine/LegacyOps.lean ====
section
/-!
DEFINITION. LegacyOps.lean: the registers of the Plovul P8 compatibility window, as the host reads and writes them
(19_plovul_window.md).
-/

namespace Sys2Proof.Machine

/-! ### Reads (Table 19-1, R1110, R1115, R1116) -/

/-- The bits of LSTAT that a read returns: one that set in the same bus cycle shows at the next read (R1135). -/
def lstatShown (s : State) : Byte :=
  (List.range 8).foldl (fun w b => setBit w b (s.legacy.stat.getLsbD b && tblGet (fun _ => 0) s.legacy.statAt b != now s + 1)) (0 : Byte)

/-- LOPSTAT: STATE, DATA, ERR. -/
def lopStat (s : State) : Byte :=
  put 8 0 (opCode s.host.op.st) ||| put 8 3 (!s.legacy.opData.isEmpty).toNat |||
    put 8 4 (if s.legacy.opErr then 1 else s.host.op.err.toNat)

/-- The minute of the week, 0xFFFF without a calendar. -/
def legacyTime (s : State) : Word := if s.time.calValid then BitVec.ofNat 32 (weekMinute s.time.calSec.toNat) else 0xFFFF

/-- Measured speed in 1/255 of RPM_MAX (R1130). -/
def legacySpeed (s : State) : Byte :=
  BitVec.ofNat 8 (min 255 (fanRpm s s.legacy.fanSel * 255 / fld (fPar s 0x060 s.legacy.fanSel) 0 16))

/-- A register of one byte. -/
def legacyByte (s : State) (off : Nat) : Byte :=
  let l := s.legacy
  match off with
  | 0x00 => 0xA8
  | 0x01 => (regLow s 0x01).setWidth 8
  | 0x02 => lstatShown s
  | 0x03 => l.irqEn
  | 0x04 => (alarmStat s).setWidth 8
  | 0x05 => (troubleStat s).setWidth 8
  | 0x07 => l.hb
  | 0x08 => BitVec.ofNat 8 l.fanSel
  | 0x09 => legacySpeed s
  | 0x0A => put 8 0 (fanCode (fan s l.fanSel).st) ||| put 8 3 (fan s l.fanSel).flt.toNat
  | 0x0B => l.client
  | 0x0C => (cWord s l.client.toNat 3).setWidth 8
  | 0x10 => put 8 0 (cFld s l.client.toNat 28 0 2) ||| put 8 2 (cFld s l.client.toNat 28 16 3)
  | 0x11 => BitVec.ofNat 8 (cFld s l.client.toNat 28 8 8)
  | 0x18 => l.pres.setWidth 8
  | 0x1A => lopStat s
  | 0x1B => l.opData.headD 0
  | 0x1E => (wakeShown s).setWidth 8
  | 0x1F => put 8 0 l.queue.length ||| put 8 4 l.lastApply.toNat
  | _ => 0

/-- A value whose LO byte is read: LCL_ARG, LPADDR, LTIME, or the parameter that LPADDR names (R1115, R1119). -/
def legacyFetch (off : Nat) (s : State) : State :=
  let l := s.legacy
  let go (v : Word) (t : State) : State := { t with legacy := { t.legacy with rlatch := v } }
  match off with
  | 0x0E => go (l.arg.setWidth 32) s
  | 0x12 => go (l.paddr.setWidth 32) s
  | 0x1C => go (legacyTime s) s
  | _ =>
    let a := l.paddr.toNat
    let s1 := go (readParam s a) (readSide a (evt 282 s))
    { s1 with legacy := { s1.legacy with pres := if isDefined a then 0 else 1 } }

/-- LO registers; HI registers and upper parameter bytes with their byte of the latch. -/
def legacyLo (off : Nat) : Bool := off == 0x0E || off == 0x12 || off == 0x14 || off == 0x1C
def legacyHi (off : Nat) : Option Nat :=
  match off with
  | 0x0F | 0x13 | 0x1D | 0x15 => some 1
  | 0x16 => some 2
  | 0x17 => some 3
  | _ => none

/-- A byte on D[7:0]; D[15:8] is not driven (R1110). -/
def legacyOut (b : Byte) (s : State) : State := { s with host := { s.host with dOut := b.setWidth 16 } }

/-- What a read of a one-byte register does beside returning it: LSTAT, LALARM, LOP_DATA, LWAKE. -/
def legacyTaken (off : Nat) (s : State) : State :=
  match off with
  | 0x02 => { s with legacy := { s.legacy with stat := s.legacy.stat &&& ~~~lstatShown s } }
  | 0x04 => { s with legacy := { s.legacy with token := s.safety.token } }
  | 0x1B => { s with legacy := { s.legacy with opData := s.legacy.opData.drop 1 } }
  | 0x1E => wakeTaken s
  | _ => s

/-- A read of a legacy register; A[6] = 1 reads 0 and is an error (R1111). -/
def legacyRead (off : Nat) (s : State) : State :=
  if 32 ≤ off then setLstat 5 (busError (legacyOut 0 s))
  else if legacyLo off then
    let s1 := legacyFetch off s
    legacyOut (s1.legacy.rlatch.setWidth 8) s1
  else match legacyHi off with
    | some k => legacyOut (s.legacy.rlatch.extractLsb' (8 * k) 8) s
    | none => legacyTaken off (legacyOut (legacyByte s off) s)

/-! ### Legacy writes (R1112-R1123, R1128) -/

/-- The write latch takes a byte at its register's position. -/
def latchByte (k : Nat) (b : Byte) (s : State) : State :=
  let m : Word := 0xFF <<< (8 * k)
  { s with legacy := { s.legacy with
    wlatch := (s.legacy.wlatch &&& ~~~m) ||| (b.setWidth 32 <<< (8 * k)), wfresh := true } }

/-- A HI or LPD3 write that follows no LO write is stale (R1114). -/
def latchUsed (s : State) : State :=
  let s1 : State := { s with legacy := { s.legacy with wfresh := false } }
  if s.legacy.wfresh then s1
  else setLstat 6 { s1 with legacy := { s1.legacy with cntStale := s1.legacy.cntStale + 1 } }

/-- A legacy write, an LPD3 or LFAN_SPD write, separates an acknowledge under way from its second write (R1125). -/
def breakAck (s : State) : State :=
  { s with legacy := { s.legacy with ackAt := s.legacy.ackAt.map fun (p : Nat × Bool) => (p.1, true) } }

/-- A legacy write enters the queue, or is held by nWAIT, at most 16.04 ms, while the queue is full (R1121,
R1123). -/
def legacyQueue (w : LegWrite) (s : State) : State :=
  let l := s.legacy
  if l.queue.length < 8 then { s with legacy := { l with queue := l.queue ++ [w] } }
  else evt 281 { s with
    legacy := { l with waiting := some w }
    host := { s.host with nWaitLow := true, heldAt := now s, heldBound := 641600 } }

/-- An LPD3 write of a value (R1119, R1120): UNDEF and KEY are answered at once, every other one is queued. -/
def legacyParam (a : Nat) (v : Word) (s : State) : State :=
  let res (n : Nat) (t : State) : State := { t with legacy := { t.legacy with pres := BitVec.ofNat 3 n } }
  if !isDefined a then res 1 s
  else match rowOf a with
    | some r => if a = 0x680A ∨ writeKeys s r a (v &&& rowMask r) ≠ [] then res 3 s else legacyQueue (.param a v) (res 0 s)
    | none => legacyQueue (.param a v) (res 0 s)

/-- LFAN_SPD (R1128): the target, with the channel as it stands. -/
def legacyFan (b : Byte) (s : State) : State :=
  let f := s.legacy.fanSel
  legacyQueue (.fan f (b.toNat * fld (fPar s 0x060 f) 0 16 / 255)) s

/-! ### Acknowledge (R1125-R1127) -/

/-- The acknowledge sequence fails. -/
def ackFail (s : State) : State :=
  setLstat 7 { s with legacy := { s.legacy with ackAt := none, cntAckfail := s.legacy.cntAckfail + 1 } }

/-- A write of LACK. -/
def legacyAck (b : Byte) (s : State) : State :=
  let begin_ (t : State) : State := { t with legacy := { t.legacy with ackAt := some (now t, false) } }
  match s.legacy.ackAt with
  | none => if b = 0x5A then begin_ s else s
  | some (t, broken) =>
    if !broken && decide (now s ≤ t + ms) && (b == 0xA5 || b == 0xC3 || b == 0x96) then
      let s1 : State := { s with legacy := { s.legacy with ackAt := none } }
      if isStandby s then s1
      else { s1 with safety := { s1.safety with ackPending := some (b ++ s.legacy.token, tickNo s) } }
    else if b = 0x5A then begin_ (ackFail s) else ackFail s

/-! ### Commands and operations (R1131-R1133) -/

/-- LCL_CMD: a command with ARG0, on the channel that admission gives. -/
def legacyCommand (b : Byte) (s : State) : State :=
  let id := s.legacy.client.toNat
  (submitCmd id b.toNat (!admitted s id) [s.legacy.arg.setWidth 32, 0, 0, 0] s).1

/-- A legacy operation in its native form (Table 19-2): op code and arguments. -/
def legacyOp (b : Byte) (s : State) : Option (Nat × List Half) :=
  match b.toNat with
  | 1 => some (8, [0, 0, 16, 0])
  | 2 => some (7, [BitVec.ofNat 16 (fld (par s 0x8000) 14 8), 0, 0, 0])
  | 3 => some (9, [0, 0, 0, 0])
  | _ => none

/-- An operation can start: none is RUNNING, its domains are available, PROOF has no alarm and no standby. -/
def legacyOpFree (code : Nat) (s : State) : Bool :=
  decide (s.host.op.st ≠ .running) && decide (opDomains code &&& domAvail s = opDomains code) &&
    !(code == 7 && (anyAlarm s || isStandby s))

/-- A write of LOPCMD: an undefined code shows ERR = ARG; an operation that can not start changes nothing. -/
def legacyOpcmd (b : Byte) (s : State) : State :=
  if b = 0xFF then opAbort s
  else match legacyOp b s with
    | none => { s with legacy := { s.legacy with opErr := true } }
    | some (code, a) =>
      if legacyOpFree code s then
        opAccept code a true { s with legacy := { s.legacy with opErr := false, opData := [] } }
      else s

/-! ### Writes (Table 19-1) -/

/-- A write of a legacy register; A[6] = 1 has no effect and is an error (R1111). -/
def legacyWrite (off : Nat) (b : Byte) (s : State) : State :=
  let l := s.legacy
  if 32 ≤ off then setLstat 5 (busError s)
  else match off with
    | 0x03 => countIrq s { s with legacy := { l with irqEn := b } }
    | 0x06 => legacyAck b s
    | 0x07 => hostBeat (b.setWidth 16) { s with legacy := { l with hb := b } }
    | 0x08 => { s with legacy := { l with fanSel := if b.toNat % 64 < 48 then b.toNat % 64 else 0 } }
    | 0x09 => legacyFan b (breakAck s)
    | 0x0B => { s with legacy := { l with client := b } }
    | 0x0D => legacyCommand b s
    | 0x0E | 0x12 | 0x14 => latchByte 0 b s
    | 0x15 => latchByte 1 b s
    | 0x16 => latchByte 2 b s
    | 0x0F =>
      let s1 := latchUsed s
      { s1 with legacy := { s1.legacy with arg := b ++ l.wlatch.setWidth 8 } }
    | 0x13 =>
      let s1 := latchUsed s
      { s1 with legacy := { s1.legacy with paddr := b ++ l.wlatch.setWidth 8 } }
    | 0x17 => legacyParam l.paddr.toNat (b ++ l.wlatch.setWidth 24) (latchUsed (breakAck s))
    | 0x19 => legacyOpcmd b s
    | _ => s

/-! ### Application (R386, R453, R454, R1122) -/

/-- The outcome of a legacy write: 1 applied, 2 RANGE, 3 CONSIST, 4 HELD, 5 READ_ONLY. -/
def legacyOutcome (w : LegWrite) (s : State) : Nat :=
  if isStandby s then 5
  else match w with
    | .param a v =>
      (match rowOf a with
        | none => 5
        | some r =>
          if !inRange r (v &&& rowMask r) then 2
          else if namesHeld s a (v &&& rowMask r) then 4
          else if r.staged && !leavesConsistent [(a, v &&& rowMask r)] s then 3
          else 1)
    | .fan f _ => if emergencyHolds s 2 f then 4 else 1

/-- What an applied legacy write does. -/
def legacyEffect (w : LegWrite) (s : State) : State :=
  match w with
  | .param a v =>
    (match rowOf a with
      | none => s
      | some r => if r.staged then landWord a (v &&& rowMask r) s else immWrite a (v &&& rowMask r) s)
  | .fan f rpm => { s with legacy := { s.legacy with fanTgt := tblSet (fun _ => 0) s.legacy.fanTgt f rpm } }

/-- One queued write is applied or refused, and posted. -/
def legacyPost (w : LegWrite) (s : State) : State :=
  let n := legacyOutcome w s
  let s1 := if n = 1 then legacyEffect w s else s
  setLstat 3 { s1 with legacy := { s1.legacy with
    lastApply := BitVec.ofNat 3 n
    cntApply := if n = 1 then s1.legacy.cntApply + 1 else s1.legacy.cntApply
    cntRefused := if n = 1 then s1.legacy.cntRefused else s1.legacy.cntRefused + 1 } }

/-- A write that waits for room takes the free place (R1123). -/
def legacyRoom (s : State) : State :=
  match s.legacy.waiting with
  | some w =>
    if s.legacy.queue.length < 8 then
      { s with legacy := { s.legacy with waiting := none, queue := s.legacy.queue ++ [w] }
               host := { s.host with nWaitLow := false } }
    else s
  | none => s

/-- The oldest queued write of the legacy mode in its window (R1122). -/
def legacyApply (s : State) : State :=
  match s.legacy.queue with
  | w :: rest => legacyRoom (legacyPost w { s with legacy := { s.legacy with queue := rest } })
  | [] => s

end Sys2Proof.Machine
end

