-- ==== Sys2Proof/Machine/BusOps.lean ====
section
/-!
DEFINITION. BusOps.lean: host accesses: holding by nWAIT and carrying out (07_host_bus.md, 19_plovul_window.md).
-/

namespace Sys2Proof.Machine

/-! ### Holding and completing (R359, R370, R327, R401) -/

/-- An access carried out, on the direct registers or, in the legacy mode, on the legacy registers (R1108, R1109). -/
def busDo (a : BusAcc) (s : State) : State :=
  match a.par with
  | some (p, v) =>
    if s.legacy.mode then s else if a.write then paramWrite p v a.ok s else parTaken p s
  | none =>
    if s.legacy.mode then
      if a.write then legacyWrite a.off (a.v.setWidth 8) s else legacyRead a.off s
    else if a.write then regWrite a.off a.v a.ok s else regRead a.off s

/-- An access held by nWAIT, for at most `bound` sub-ticks (R372, Table 07-1). -/
def busHold (bound : Nat) (a : BusAcc) (s : State) : State :=
  evt 281 { s with host := { s.host with heldAcc := some a, heldAt := now s, heldBound := bound, nWaitLow := true } }

/-- A read of CLIENT_DATA_LO waits while READY is 0 (Table 07-1). -/
def awaitsCopy (a : BusAcc) (s : State) : Bool := !s.legacy.mode && a.par.isNone && !a.write && a.off == 0x1D && !s.host.ready

/-- A parameter access or an access of a Glaze register waits while an apply window is due (R434, R477). -/
def awaitsWindow (a : BusAcc) (s : State) : Bool :=
  !s.legacy.mode && windowDue s && (a.par.isSome || a.off == 0x16 || a.off == 0x17 || a.off == 0x19 || a.off == 0x1A || a.off == 0x1B)

/-- A host access: held before BUSRDY, in SLEEP and during a wake sequence, which it starts, while its window is not ready, and for
an apply window; else carried out. -/
def onBus (a : BusAcc) (s : State) : State :=
  if !s.power.vmain || s.host.nWaitLow then s
  else
    let s1 := evt 280 s
    if !s.power.busrdy then busHold (500 * ms) a { s1 with host := { s1.host with held := true } }
    else if s.power.st = .sleep ∨ now s < s.power.movingUntil then busHold 60008 a (latchWake 0 s1)
    else if awaitsCopy a s1 then busHold 10000 a s1
    else if awaitsWindow a s1 then busHold (120 + exitMax s.power.st + 1600) a s1
    else busDo a s1

/-- A write, and a read, of one 32-bit parameter by the host. -/
def parWr (p : Nat) (v : Word) (ok : Bool) : BusAcc := { write := true, off := 0x17, v := 0, ok := ok, par := some (p, v) }
def parRd (p : Nat) : BusAcc := { write := false, off := 0x16, v := 0, ok := true, par := some (p, 0) }

/-- A held access is carried out once nothing holds it any more. -/
def releaseHeld (s : State) : State :=
  match s.host.heldAcc with
  | some a =>
    if awaitsCopy a s || awaitsWindow a s then s else busDo a { s with host := { s.host with heldAcc := none, nWaitLow := false } }
  | none => s

/-- The apply window closes: an access it held is carried out on the values now in force (R434, R477). -/
def releaseWindow (s : State) : State :=
  if s.power.busrdy && decide (s.power.st ≠ .sleep) && decide (s.power.movingUntil ≤ now s) then releaseHeld s else s

end Sys2Proof.Machine
end

