-- ==== Sys2Proof/Machine/LongCmds.lean ====
section
/-!
DEFINITION. LongCmds.lean: the long operations: starting, first work, completion (07_host_bus.md, 16_retained_store.md,
10_broadband_line.md R592, 11_clients_and_capacity.md R662, 18_proof_and_counters.md R1096).
-/

namespace Sys2Proof.Machine

/-! ### Starting: a write of OPCMD (R409-R411, R420, Table 07-4) -/

/-- The bus access that writes an op code to OPCMD. -/
def opAccess (code : Nat) : BusAcc := { write := true, off := 0x0B, v := BitVec.ofNat 16 code, ok := true }

/-- STORE_WRITE: region, page index and length in OPARG0-OPARG2, the data in RESULT.RING. -/
def execStoreWrite (s : State) : Res := finish s (onBus (opAccess 1) s)
/-- STORE_ERASE: a host sector in OPARG0. -/
def execStoreErase (s : State) : Res := finish s (onBus (opAccess 2) s)
/-- STORE_READ: as STORE_WRITE. -/
def execStoreRead (s : State) : Res := finish s (onBus (opAccess 3) s)
/-- CANVAS_CHUNK: chunk and length in OPARG0 and OPARG1. -/
def execCanvasChunk (s : State) : Res := finish s (onBus (opAccess 4) s)
/-- CANVAS_VERIFY: the image length in bytes in OPARG0-OPARG1. -/
def execCanvasVerify (s : State) : Res := finish s (onBus (opAccess 5) s)
/-- LINE_SURVEY: front ends and beacon periods in OPARG0 and OPARG1. -/
def execLineSurvey (s : State) : Res := finish s (onBus (opAccess 6) s)
/-- PROOF_RUN: the step mask in OPARG0. -/
def execProofRun (s : State) : Res := finish s (onBus (opAccess 7) s)
/-- LOG_EXPORT: first sequence number and count in OPARG0-OPARG2. -/
def execLogExport (s : State) : Res := finish s (onBus (opAccess 8) s)
/-- CLIENT_QUERY: the kind in OPARG0. -/
def execClientQuery (s : State) : Res := finish s (onBus (opAccess 9) s)
/-- KEY_SET: the new key in OPARG0-OPARG3. -/
def execKeySet (s : State) : Res := finish s (onBus (opAccess 10) s)
/-- ABORT. -/
def execAbort (s : State) : Res := finish s (onBus (opAccess 0xFF) s)

/-! ### Records (Tables 16-5, 11-10, 10-8) -/

/-- State of group g as a read finds it (Table 16-5). -/
def groupState (s : State) (g : Nat) : Nat :=
  match eccOf s g with
  | 0 => if memWord s.mem (8 * g) = 0xFFFFFFFF ∧ memWord s.mem (8 * g + 4) = 0xFFFFFFFF then 3 else 0
  | f => f

/-- A STORE_READ record of the i-th page of the operation, page pg of the array. -/
def readRecord (s : State) (i pg : Nat) : List Word :=
  (put 32 0 ((opA s 1 + i) % 8192) ||| put 32 16 (opA s 0 % 4)) ::
    (List.range 8).foldl (fun (w : Word) g => w ||| put 32 (2 * g) (groupState s (8 * pg + g))) 0 :: pageWords s.mem pg

/-- The pages of a STORE_READ, each read with error correction. -/
def readPages (s : State) : State :=
  (((opPages s.host.op.args).getD []).zipIdx).foldl (fun st p =>
    readGroups (8 * p.1) 8 (opRecord 1 (readRecord st p.2 p.1) st)) s

/-- The entries of region D in ascending order: place of its first group and its four words. -/
def logHeld (s : State) : List (Nat × List Word) :=
  (List.range 2816).filterMap fun i =>
    let a := sectorBase 117 + 16 * ((s.store.logPos + i) % 2816)
    let ws := memWords s.mem a 4
    if ws.all (fun w => w == 0xFFFFFFFF) then none else some (a / 8, ws)

/-- Durable entries (R1104, R921): those of region D, then those the shadow holds while HOLD_LOW is 0: words and word 5. -/
def logDurable (s : State) : List (List Word × Nat) :=
  (logHeld s).map (fun e => (e.2, max (eccOf s e.1) (eccOf s (e.1 + 1)))) ++
    (if s.power.holdLow || s.store.lostDue then []
     else (List.range s.store.logQ.length).map fun i => (logRowWords s i, 0))

/-- LOG_EXPORT's records (R1096, R1097). -/
def logRecords (s : State) : List (Nat × List Word) :=
  let l := logDurable s
  let first : Word := BitVec.ofNat 32 (opA32 s)
  match l with
  | [] => [(2, [s.store.logSeq])]
  | e :: _ =>
    let oldest := e.1.getD 0 0
    (if (first - oldest).toInt < 0 then [(2, [oldest])] else []) ++
      (l.filter fun x => decide ((x.1.getD 0 0 - first).toNat < opA s 2)).map fun x => (1, x.1 ++ [BitVec.ofNat 32 x.2])

/-- The summary word of a client (Table 11-10). -/
def summaryWord (s : State) (id : Nat) : Word :=
  put 32 0 (allowed s id).toNat ||| put 32 1 (admitted s id).toNat ||| put 32 2 (cFld s id 3 3 5) |||
    put 32 7 (cFld s id 3 8 1) ||| put 32 8 (cFld s id 3 0 3) ||| put 32 11 (cFld s id 8 0 4) |||
    put 32 15 (cFld s id 0 16 2) ||| put 32 17 (cFld s id 6 16 2) ||| put 32 19 (cFld s id 0 15 1)

/-- IDs of a record query: kind 1 allowed or admitted, kind 2 with a sign of trouble. -/
def queryIds (s : State) (kind : Nat) : List Nat :=
  (List.range 2048).filter fun id =>
    if kind = 1 then allowed s id || admitted s id
    else decide (cFld s id 3 3 2 ≠ 0 ∨ cFld s id 3 6 3 ≠ 0 ∨ cFld s id 8 0 4 ≠ 0)

/-- CLIENT_QUERY's records (R662). -/
def queryRecords (s : State) : List (Nat × List Word) :=
  if opA s 0 = 0 then
    (List.range 32).map fun b => (1, BitVec.ofNat 32 (64 * b) :: (List.range 64).map fun i => summaryWord s (64 * b + i))
  else (queryIds s (opA s 0)).map fun id => (2, BitVec.ofNat 32 id :: (List.range 32).map fun w => recordWord s id w)

/-- A client's word in a links record (Table 10-8). -/
def linkWord (s : State) (id : Nat) : Word :=
  put 32 0 (cFld s id 6 0 20) ||| put 32 20 (quarantined s id).toNat ||| put 32 21 (cFld s id 6 20 11)

/-- LINE_SURVEY's records: noise by front end, then links in blocks of 64 IDs that hold an admitted client (log 58). -/
def surveyRecords (noise : List (Nat × List Word)) (s : State) : List (Nat × List Word) :=
  ((List.range 3).filter fun t => (opA s 0).testBit t).map (fun t => (1, noiseRecord t (opA s 1) noise)) ++
    ((List.range 32).filter fun b => (admittedIds s).any fun id => id / 64 == b).map fun b =>
      (2, BitVec.ofNat 32 (64 * b) :: (List.range 64).map fun i =>
        if admitted s (64 * b + i) then linkWord s (64 * b + i) else 0)

/-- Records handed to the ring. -/
def giveRecords (l : List (Nat × List Word)) (s : State) : State :=
  ringDrain { s with host := { s.host with op := { s.host.op with out := s.host.op.out ++ l } } }

/-! ### Bytes of the legacy operations (Table 19-2) -/

/-- A word's bytes, least significant first. -/
def wordBytes (w : Word) : List Byte := [w.extractLsb' 0 8, w.extractLsb' 8 8, w.extractLsb' 16 8, w.extractLsb' 24 8]

/-- LOG_READ: the 16 newest entries, newest first. -/
def legacyLog (s : State) : List Byte := ((logDurable s).reverse.take 16).flatMap fun e => e.1.flatMap wordBytes

/-- CLIENT_SCAN's byte of a client. -/
def scanByte (s : State) (id : Nat) : Byte :=
  put 8 0 (admitted s id).toNat ||| put 8 1 (cFld s id 3 3 2) ||| put 8 3 (cFld s id 3 7 1) ||| put 8 4 (cFld s id 3 0 3) |||
    put 8 7 (if cFld s id 8 0 4 = 0 then 0 else 1)

/-- The bytes of a legacy operation. -/
def legacyBytes (s : State) : List Byte :=
  match s.host.op.code with
  | 8 => legacyLog s
  | 9 => (List.range 256).map (scanByte s)
  | _ => []

/-! ### First work (R409) -/

/-- An operation whose reserves have served it makes its records: what STORE_READ, LOG_EXPORT and CLIENT_QUERY read. -/
def opProduce (s : State) : State :=
  let op := s.host.op
  if op.st = .running ∧ op.worked = true ∧ op.paused = false ∧ op.legacy = false ∧ op.progress = 0 ∧ opServed s = true then
    let made (st : State) : State := { st with host := { st.host with op := { st.host.op with progress := 1 } } }
    match op.code with
    | 3 => made (ringDrain (readPages s))
    | 8 => made (giveRecords (logRecords s) s)
    | 9 => made (giveRecords (queryRecords s) s)
    | _ => s
  else s

/-- A verification asks for its share of the reserve of CORE_B, of a cost that 4 hyperframes of that share can serve (R271). -/
def askVerify (s : State) : State :=
  useReserve 1 1 ((Config.freeWord s.free).toNat % (4 * 8192 * 1500 + 1)) { s with
    free := s.free + 1, canvas := { s.canvas with verBusy := true, verSlot := !s.canvas.slot, verFrames := 0 } }

/-- What an operation does at its first boundary. -/
def opBegin (s0 : State) : State :=
  let op := s0.host.op
  let s := opAsks s0
  if op.legacy then
    let s1 : State := { s with legacy := { s.legacy with opData := legacyBytes s } }
    if op.code = 7 then proofStart false (opA s 0) s1 else s1
  else match op.code with
    | 2 => let s1 := jIntent (opA s 0 % 128) 1 s
           { s1 with store := { s1.store with erasing := some (opA s 0 % 128) } }
    | 4 => let k := slotBase (!s.canvas.slot) / 4096 + opA s 0
           let s1 := mirrorForward (jIntent k 1 s)
           { s1 with store := { s1.store with erasing := some k }, mirror := { s1.mirror with pChunk := false } }
    | 5 => askVerify s
    | 7 => proofStart false (opA s 0) s
    | _ => s

/-- OP_FIRST_WORK: at the first major-frame boundary after its acceptance; an operation waits for the repair of a torn sector
it targets (R986, R1211). -/
def execOpFirstWork (s : State) : Res :=
  let op := s.host.op
  finish s (if op.st = .running ∧ op.worked = false ∧ op.paused = false ∧ op.abortReq = false ∧ atFrame s = true ∧
            tickPast s op.acceptedAt = true ∧ (opSectors s).all (fun k => !isTorn s k) = true then
      opBegin { s with host := { s.host with op := { op with worked := true } } }
    else s)

/-! ### Completion (R412, R421, R966-R968) -/

/-- A CANVAS_CHUNK of a primary waits until the partner has written its free slot too (R1040). -/
def awaitsPartner (s : State) : Bool := s.mirror.pair && decide (s.mirror.role = .primary) && !s.mirror.pChunk

/-- The pages of an operation are written, or its next page cannot be: it ends (R968). `bad` says that the margin verify of
the next page failed; what that page then holds is free (log 35). -/
def endPages (bad : Bool) (s : State) : State :=
  match (workPages s)[s.host.op.progress]? with
  | none => if s.store.erasing.isSome || s.host.op.code == 4 && awaitsPartner s then s else opEnd .done 0 s
  | some pg =>
    let fail (t : State) : State := opEnd .failed 4 (opRes
      [BitVec.ofNat 16 s.host.op.progress, BitVec.ofNat 16 (pg - 64 * regionBase (if s.host.op.code = 1 then opA s 0 % 4 else 1)),
        0, 0] t)
    if s.store.erasing.isSome then s
    else if !pageBlank s.mem pg then fail s
    else if bad then fail (progPageBad pg s)
    else s

/-- An operation that has done its work ends, once the reserves have served it. -/
def opFinish (bad : Bool) (s : State) : State :=
  if !opServed s then s
  else match s.host.op.code with
  | 1 | 4 => endPages bad s
  | 2 => if s.store.erasing.isSome then s else opEnd .done 0 s
  | 5 =>
    if s.canvas.verBusy then s
    else if s.canvas.verCode = 0 then opEnd .done 0 s
    else opEnd .failed 5 (opRes [s.canvas.verCode.setWidth 16, 0, 0, 0] s)
  | 6 => if s.host.op.progress = 0 ∨ s.host.op.out ≠ [] then s else opEnd .done 0 s
  | 7 => s
  | 10 => opEnd .done 0 (keySet s)
  | _ => if s.host.op.out ≠ [] ∨ (s.host.op.progress = 0 ∧ s.host.op.legacy = false) then s else opEnd .done 0 s

/-- OP_COMPLETE: a RUNNING operation that has done all its work leaves RUNNING; PROOF_RUN has its own command. -/
def execOpComplete (bad : Bool) (s : State) : Res :=
  let op := s.host.op
  finish s (if op.st = .running ∧ op.worked = true ∧ op.paused = false then opFinish bad s else s)

end Sys2Proof.Machine
end

