-- ==== Sys2Proof/Machine/Mirror.lean ====
section
/-!
DEFINITION. Mirror.lean: roles, records, replay, comparison, state transfer and switchover of a mirror pair
(17_mirror_pair.md).
-/

namespace Sys2Proof.Machine

/-- Level of the trouble causes of the pair (Table 17-6): 0 lane, 1 link loss, 2 DIV_FAULT, 3 image, 4 time lock, 5 side. -/
def mirrorCause (i : Nat) (on : Bool) (s : State) : State := setCause (1024 + i) 0 on s

/-! ### Output digest and state (R1007, R1008) -/

/-- The commands in force of relay drivers 16-31, fan channels and drive channels, a word each (log 64). -/
def commandWords (s : State) : List Word :=
  ((List.range 16).map fun i => bit1 32 (s.pads.crly.getLsbD i)) ++
    ((List.range 48).map fun f => BitVec.ofInt 32 (fanOut s f)) ++
    (List.range 24).map fun m => put 32 0 (drvCode (drv s m).st) ^^^ BitVec.ofInt 32 ((drv s m).duty * 16)

/-- O(f) at the end of a frame. -/
def outputDigest (s : State) : Word :=
  crc32 (((List.range 0x7EF).map fun i => signalNow s (i + 1)) ++ commandWords s)

/-- Compensator histories, profile states and Pentimento samples. -/
def loopWords (s : State) : List Word :=
  (s.loop.slots.flatMap fun p => BitVec.ofNat 32 p.1 ::
      [p.2.x1, p.2.x2, p.2.x3, p.2.y1, p.2.y2, p.2.y3].map (BitVec.ofInt 32)) ++
    (s.loop.gens.flatMap fun p => BitVec.ofNat 32 p.1 ::
      [p.2.p, p.2.p / 2 ^ 32, p.2.v, p.2.v / 2 ^ 32, p.2.a, p.2.a / 2 ^ 32].map (BitVec.ofInt 32)) ++
    s.loop.table.flatMap fun p => [BitVec.ofNat 32 p.1, BitVec.ofInt 32 p.2]

/-- The end of canvas frame f on this chip: its digest, its state and its own errors are kept for the comparison. -/
def closeFrame (f : Nat) (s : State) : State :=
  { s with mirror := { s.mirror with
    results := (f, outputDigest s, loopWords s, s.mirror.errNow) :: s.mirror.results.take 3, errNow := false } }

/-- DIGEST (R1007): the SUMMARY of the frame before is built and sent to the partner. -/
def execDigest (i : Nat) (s : State) : Res :=
  finish s (runStroke 0x12 i (fun _ s =>
    match s.mirror.results.find? fun r => r.1 + 1 == canvasTime s / frameLen with
    | some (f, d, l, e) =>
      if s.mirror.pair && decide (s.mirror.role = .primary) then
        mirrorTx 2 { s with mirror := { s.mirror with built := some { frame := f, digest := d, state := l, err := e } } }
      else s
    | none => s) s)

/-! ### Records (R1001-R1006, R1039-R1042) -/

/-- A valid record arrives: records flow (R1023, Table 17-7). -/
def recordIn (s : State) : State :=
  let s1 := evt 329 { s with mirror := { s.mirror with lastRec := tickNo s, linkUp := true, linkLoss := false } }
  mirrorNote s (mirrorCause 1 false s1)

/-- INPUT_RECORD (R1006): what the primary read in pair tick k. The values reach strokes as the operands of the commands that
replay the tick (log 65). -/
def execInputRecord (k : Nat) (ws : List Word) (s : State) : Res :=
  finish s (if isStandby s then
      let s1 := recordIn s
      { s1 with mirror := { s1.mirror with inputs := tblSet (fun _ => []) s1.mirror.inputs k (ws ++ [1]) } }
    else s)

/-- SUMMARY_RECORD (R1007). -/
def execSummaryRecord (f : Nat) (digest : Word) (state : List Word) (err : Bool) (s : State) : Res :=
  finish s (if isStandby s then
      let s1 := recordIn s
      { s1 with mirror := { s1.mirror with
          summaries := { frame := f, digest := digest, state := state, err := err } ::
            (s1.mirror.summaries.filter fun x => x.frame != f).take 3 } }
    else s)

/-- A forwarded chunk is written into the free slot (R1040, R1041). -/
def chunkIn (sector : Nat) (data : List Word) (s : State) : State :=
  let k := slotBase (!s.canvas.slot) / 4096 + sector
  let s1 := eraseSector k 1 { s with canvas := { s.canvas with swapArm := false, stagedOk := false, swapHeld := false } }
  (List.range ((data.length + 15) / 16)).foldl (fun st i =>
    progPage (64 * k + i) ((List.range 16).map fun j => data.getD (16 * i + j) 0xFFFFFFFF) st) s1

/-- What a FORWARD record does on the standby. -/
def forwardIn (x : Forward) (s : State) : State :=
  match x with
  | .glaze ws =>
    let st := ws.map fun w => ({ addr := w.1, value := w.2.1, group := w.2.2 } : Staged)
    let s1 : State := { s with glaze := { s.glaze with set := st }, mirror := { s.mirror with fwdSet := [] } }
    { s1 with glaze := { s1.glaze with
        sealed_ := true, withdrawn := false, landed := 0, refused := 0, persistWait := [], commitAt := none
        res := (openGroups s1).foldl (fun r k => tblSet (fun _ => GroupRes.blank) r k
          { GroupRes.blank with st := .waiting, words := BitVec.ofNat 7 (groupWords s1 k).length }) [] } }
  | .decision g r => { s with mirror := { s.mirror with fwdSet := s.mirror.fwdSet ++ [(g, r)] } }
  | .service kind ret ix tag ans reason =>
    if ans = 2 ∧ unitExists kind ix = true then
      svcDone tag 2 0 (if ret then unitReturns kind ix s else unitLeaves kind ix s)
    else svcDone tag 3 reason s
  | .chunk sector data => if sector < 24 then chunkIn sector data s else s
  | .ack op token => { s with safety := { s.safety with ackPending := some (op ++ token, tickNo s) } }

/-- FORWARD_RECORD (R1039-R1042). -/
def execForwardRecord (x : Forward) (s : State) : Res :=
  finish s (if isStandby s then forwardIn x (recordIn s) else s)

/-- STATE_RECORD (R1020): an item of the running transfer; the items take effect together when frame 63 is replayed. -/
def execStateRecord (x : StateItem) (s : State) : Res :=
  finish s (if isStandby s && s.mirror.xfer then
      let s1 := recordIn s
      { s1 with mirror := { s1.mirror with xferState := x :: s1.mirror.xferState } }
    else s)

/-- OFFSET and ZC_OFF are set once, at link-up (R996, R997, R1000). -/
def alignPair (m : MirrorStatus) (s : State) : State :=
  if s.mirror.offSet ∨ s.mirror.role = .primary then s
  else { s with mirror := { s.mirror with
    offSet := true, offset := (m.pairTicks : Int) - tickNo s
    zcOff := (List.range 3).foldl (fun t k =>
      tblSet (fun _ => 0) t k ((m.cyc.getD k 0 + 32 - (track s k).cyc.toNat % 32) % 32)) [] } }

/-- What a STATUS record states of the partner. -/
def statusIn (m : MirrorStatus) (s : State) : State :=
  let primary := decide (s.mirror.role = .primary)
  let s1 : State := { s with mirror := { s.mirror with
    pRole := m.role, pTier := m.tier, pAlarm := m.alarm, pTrouble := m.trouble, pFault := m.fault
    pToken := m.alarm.extractLsb' 8 8, pImgCrc := m.imgCrc, pGen := m.gen, pStaged := m.staged, pOut := some m.outs
    inStep := if primary then m.inStep else s.mirror.inStep
    tlock := if primary then m.tlock else s.mirror.tlock
    ackRes := if m.ack = 0 then s.mirror.ackRes else m.ack
    pChunk := s.mirror.pChunk || m.chunk
    sideConf := s.mirror.sideConf && m.role == 1 } }
  let s2 := mirrorCause 5 s1.mirror.sideConf s1
  let s3 := match m.div with
    | some (f, item, blame) => if primary then mirrorDiverge f item blame s2 else s2
    | none => s2
  match m.trig with
  | some (c, force) => mirrorTrigger c force s3
  | none => if m.fault && !primary && s3.mirror.inStep then mirrorTrigger 2 false s3 else s3

/-- STATUS_RECORD (R1005). -/
def execStatusRecord (m : MirrorStatus) (s : State) : Res :=
  finish s (if s.mirror.pair then mirrorNote s (statusIn m (alignPair m (recordIn s))) else s)

/-- RECORD_RESEND (R1003): a record unacknowledged for 20 us is sent again, up to 3 times; an acknowledge operation that is
then still unacknowledged was not delivered (R1042). -/
def execRecordResend (seq : Byte) (s : State) : Res :=
  finish s (match s.mirror.unacked.find? fun r => r.seq == seq with
    | some r =>
      let others := s.mirror.unacked.filter fun x => x.seq != seq
      if r.resends < 3 then
        cntMirror 4 (evt 328 { s with mirror := { s.mirror with unacked := { r with resends := r.resends + 1 } :: others } })
      else { s with mirror := { s.mirror with
        unacked := others, ackRes := if r.typ = 19 then 3 else s.mirror.ackRes } }
    | none => s)

/-- MIRROR_LANE_FAIL (R1004): a lane of a direction has failed; the direction runs on the other. -/
def execMirrorLaneFail (s : State) : Res :=
  finish s (if s.mirror.pair then mirrorCause 0 true { s with mirror := { s.mirror with laneFault := true } } else s)

/-! ### State transfer (R1018-R1021) -/

/-- The state code of a drive channel; of a fan channel. -/
def drvStates : List DrvState := [.off, .idle, .catching, .brake, .align, .ramp, .kick, .pause, .run, .held]
def fanStates : List FanState := [.off, .idle, .start, .run, .wait, .test, .openLoop, .blocked]
def runOfCode : Nat → RunState
  | 1 => .runIn
  | 2 => .comfort
  | 3 => .emergency
  | _ => .stopped

/-- One item takes effect. -/
def itemIn (x : StateItem) (s : State) : State :=
  match x with
  | .param a v => if par s a = v then s else landWord a v s
  | .sample a v => tabSet a v s
  | .client id w v => setC id w 0xFFFFFFFF v s
  | .counter i v => setCnt i v s
  | .signal g v => setSignal g v s
  | .slot n x1 x2 x3 y1 y2 y3 p => setSlot n
      { x1 := x1, x2 := x2, x3 := x3, y1 := y1, y2 := y2, y3 := y3, pend := p.map fun q => (q.1, q.2, tickNo s - 1) } s
  | .gen g p v a => setGen g { gen s g with p := p, v := v, a := a } s
  | .drive m st d => setDrv m { drv s m with st := drvStates.getD st .off, duty := d, next := none, since := now s } s
  | .fan f st d => setFan f { fan s f with st := fanStates.getD st .off, duty := d, cmdAt := cmdTime s f d, next := none, since := now s } s
  | .run c => if s.canvas.run = .stopped then s else { s with canvas := { s.canvas with run := runOfCode c } }
  | .command id q code zc cls args n => { s with clients := { s.clients with queue := s.clients.queue ++
      [{ id := id, seq := q, code := code, zc := zc, cls := cls, args := args, frame := frameNo s, sends := n }] } }
  | .route id hops => setRun id { cRun s id with route := hops, nextRoutes := [] } s
  | .toneMap id down rate codes =>
      let m : ToneMap := { rate := rate, codes := codes }
      setRun id (if down then { cRun s id with mapDn := some m } else { cRun s id with mapUp := some m }) s
  | .hubFrame t p1 ty a st =>
      let f : HubFrame := { typ := ty, addr := a, st := st, queuedAt := now s, sent := 0 }
      if p1 then queueP1 t f s else queueP2 t f s

/-- A transfer's items take effect in the order received; the queue of commands and the hub's queues are replaced. -/
def transferIn (s : State) : State :=
  let s1 : State := { s with
    clients := { s.clients with queue := [] }
    zc := { s.zc with tracks := s.zc.tracks.map fun p => (p.1, { p.2 with q1 := [], q2 := [] }) }
    mirror := { s.mirror with xfer := false, xferState := [] } }
  let s2 := s.mirror.xferState.reverse.foldl (fun st x => itemIn x st) s1
  { s2 with zc := { s2.zc with tracks := s2.zc.tracks.filter fun p => p.2 != ZcTrack.blank } }

/-- STATE_TRANSFER_START (R1018, R1019): at a pair hyperframe boundary with TLOCK. Unequal images set IMG_MISMATCH. The primary
follows its standby, which asks. -/
def execStateTransferStart (s : State) : Res :=
  let m := s.mirror
  let own : Word := match s.canvas.image with | some i => i.crc | none => 0
  let asked := if m.role = .primary then m.xferReq || (m.pRole == 2 && !m.inStep) else isStandby s && m.xferReq
  finish s (if atHyper s && m.pair && asked && decide (m.askedAt < now s) && m.tlock && m.linkUp && !m.xfer then
      if own = m.pImgCrc then
        mirrorNote s (mirrorCause 3 false { s with mirror := { m with
          xfer := true, xferReq := false, xferStart := frameNo s, xferState := [], xferCheck := false, imgMis := false } })
      else mirrorCause 3 true { s with mirror := { m with imgMis := true } }
    else s)

/-- STATE_TRANSFER_DONE (R1021): the comparison of frame 63 has passed: IN_STEP. -/
def execStateTransferDone (s : State) : Res :=
  finish s (if isStandby s && s.mirror.xferCheck then
      mirrorNote s (cntMirror 1 (logPush 0x090 3 { s with mirror := { s.mirror with
        inStep := true, xferReq := false, xferCheck := false } }))
    else s)

/-! ### Replay and comparison (R1009-R1017) -/

/-- Frame f is judged: the standby is IN_STEP, or f is the last frame of its transfer (log 66). -/
def judged (s : State) (f : Nat) : Bool := s.mirror.inStep || f == s.mirror.xferStart + 63

/-- Every INPUT record of canvas frame f is present (R1012). -/
def inputsAll (s : State) (f : Nat) : Bool :=
  (List.range 128).all fun k => !(tblGet (fun _ => []) s.mirror.inputs (128 * f + k)).isEmpty

/-- The replay of the frame before ends. -/
def endReplay (s : State) : State :=
  match s.mirror.replaying with
  | some f => let s1 := closeFrame f s
              { s1 with mirror := { s1.mirror with replayed := f, replaying := none } }
  | none => s

/-- FRAME_REPLAY (R1009-R1012): at a pair frame boundary the replay under way ends and that of the frame before this one
begins, unless its INPUT records are incomplete, which is a divergence while the link is up. -/
def execFrameReplay (s : State) : Res :=
  finish s (if isStandby s && atFrame s then
      let s1 := endReplay s
      let f := frameNo s - 1
      let s2 := if s1.mirror.xfer && f == s1.mirror.xferStart + 63 then mirrorNote s1 (transferIn s1) else s1
      let s3 : State := { s2 with mirror := { s2.mirror with
        inputs := s2.mirror.inputs.filter fun p => decide (128 * f ≤ p.1)
        replaying := if inputsAll s2 f then some f else none } }
      if !inputsAll s2 f && s2.mirror.linkUp && judged s2 f then mirrorDiverge f 4 0 s3 else s3
    else s)

/-- DIGEST_COMPARE (R1013-R1017): at a minor tick with O(f), state and SUMMARY of a frame present, they are compared. -/
def execDigestCompare (s : State) : Res :=
  finish s (match s.mirror.summaries.findSome? fun x => (s.mirror.results.find? fun r => r.1 == x.frame).map fun r => (x, r) with
    | some (x, r) =>
      if isStandby s && atTick s then
        let s1 : State := { s with mirror := { s.mirror with
          summaries := s.mirror.summaries.filter fun y => y.frame != x.frame
          results := s.mirror.results.filter fun q => q.1 != x.frame } }
        let blame := if x.err == r.2.2.2 then 0 else if x.err then 1 else 2
        if !judged s x.frame then s1
        else if x.digest ≠ r.2.1 then mirrorDiverge x.frame 1 blame s1
        else if x.state ≠ r.2.2.1 then mirrorDiverge x.frame 2 blame s1
        else if x.frame = s.mirror.xferStart + 63 ∧ s.mirror.inStep = false then
          { s1 with mirror := { s1.mirror with xferCheck := true } }
        else s1
      else s
    | none => s)

/-- SUMMARY_TIMEOUT (R1014): a SUMMARY of frame f that has not arrived by the end of pair frame f + 2. -/
def execSummaryTimeout (s : State) : Res :=
  finish s (match s.mirror.results.find? fun r => decide (r.1 + 3 ≤ frameNo s) with
    | some r =>
      if isStandby s then
        let s1 : State := { s with mirror := { s.mirror with results := s.mirror.results.filter fun q => q.1 != r.1 } }
        if judged s r.1 then mirrorDiverge r.1 3 0 s1 else s1
      else s
    | none => s)

/-! ### Commands of the host (Table 17-7) -/

/-- MIRROR_SWITCH (R1025): a write of MIRROR_CTL with SWITCH = 1. -/
def execMirrorSwitch (force : Bool) (s : State) : Res :=
  finish s (onBus { write := true, off := 0x27, v := if force then 3 else 1, ok := true } s)

/-- MIRROR_XFER_REQ (R1018): a write of MIRROR_CTL with XFER_REQ = 1. -/
def execMirrorXferReq (s : State) : Res := finish s (onBus { write := true, off := 0x27, v := 4, ok := true } s)

/-! ### Roles and switchover (R988-R996, R1022-R1037, R1052) -/

/-- MIRROR_ROLE_DECISION (R993, R996, "At start-up"): side A at its Canvas start, side B at the first major-frame boundary at
least 64 ms after it; the level of nMACT_P is the operand. -/
def execMirrorRoleDecision (nmactP : Bool) (s : State) : Res :=
  let m := s.mirror
  let ready := match s.power.canvasStarted with
    | some t => if m.mside then atFrame s && passed s t (64 * ms) else passed s s.power.origin (400 * ms)
    | none => false
  finish s (if m.pair && decide (m.role = .none_) && ready then
      if nmactP && (!m.mside || m.pRole != 1) then
        mirrorNote s { s with
          mirror := { m with role := .primary, nmactP := nmactP, offset := 0, zcOff := [], offSet := true }
          bb := { s.bb with coord := true } }
      else mirrorNote s { s with
        mirror := { m with role := .standby, nmactP := nmactP, xferReq := true, askedAt := now s }
        bb := { s.bb with coord := false } }
    else s)

/-- MIRROR_HEARTBEAT_LOSS (R1022, R1023, Table 17-4): no valid record for 256 minor ticks. With nMACT_P low it is a loss of the
link; with it high a standby at Tier 2 takes over. -/
def execMirrorHeartbeatLoss (nmactP : Bool) (s : State) : Res :=
  finish s (if isStandby s && decide (s.mirror.lastRec + 256 ≤ tickNo s) then
      let s1 : State := { s with mirror := { s.mirror with nmactP := nmactP, linkUp := false, pOut := none } }
      let s2 := if s.mirror.linkUp then cntMirror 3 s1 else s1
      mirrorNote s (if !nmactP then mirrorCause 1 true { s2 with mirror := { s2.mirror with linkLoss := true } }
        else if s2.sys.tier = 2 then mirrorTrigger 1 false s2 else s2)
    else s)

/-- A switchover is recorded: SWO, LAST_SWO with the pair hyperframe of B2, CNT_SWO, the fault log. -/
def noteSwitchover (b2 : Nat) (s : State) : State :=
  let (c, f, st) := s.mirror.trig.getD (1, false, false)
  cntMirror 2 (logPush 0x090 (BitVec.ofNat 32 (1 + 256 * c)) { s with mirror := { s.mirror with
    swo := true, swoCause := c, swoForce := f, swoStep := st, swoHyp := b2 / 64 % 65536, trig := none } })

/-- A primary becomes standby: its outputs take the standby states, it stops transmitting and asks for a transfer (R991,
R1032, R1036). -/
def becomeStandby (s : State) : State :=
  let s1 := driveStop { s with
    mirror := { s.mirror with
      role := .standby, xferReq := true, askedAt := now s, inStep := false, replaying := none, results := [], summaries := [], inputs := []
      handLeft := 0, handBsn := s.bb.bsn.setWidth 16 }
    bb := { s.bb with coord := false } }
  noteSwitches s (settleOuts s1)

/-- SWITCHOVER_B1 (Table 17-5): at an odd pair frame boundary after a trigger. -/
def execSwitchoverB1 (s : State) : Res :=
  finish s (if atFrame s && frameNo s % 2 == 1 && s.mirror.pair && s.mirror.trig.isSome && decide (s.mirror.trigAt < now s) then
      if s.mirror.role = .primary then mirrorNote s (becomeStandby (noteSwitchover (frameNo s + 1) s))
      else if s.mirror.role = .standby ∧ s.sys.tier = 2 then
        let s1 := endReplay s
        mirrorNote s { s1 with mirror := { s1.mirror with
          role := .taking, b1 := some (frameNo s), xfer := false, xferState := [], xferCheck := false } }
      else s
    else s)

/-- Drive channels that are not OFF, IDLE or HELD go to CATCH (R1028): bridge off, from the next tick as the worked example of
17_mirror_pair.md has it. -/
def catchDrives (s : State) : State :=
  (List.range 24).foldl (fun st m =>
    let d := drv st m
    match d.st with
    | .off | .idle | .held => st
    | _ => setDrv m { d.withBridge .off (now st) with next := some (DrvNext.plain .catching) } st) s

/-- The run state of a new primary (R1030). -/
def newRun (s : State) : State :=
  let r := if coreHolds s || decide (s.gesso.trip ≠ 0) then RunState.emergency else .comfort
  if s.canvas.run = .stopped ∨ s.canvas.run = r then s else enterRun r s

/-- SWITCHOVER_B2 (R1026-R1031, R1035): one frame after B1 the new primary drives the outputs, runs its Canvas live and sends
the beacon and the slot marks. -/
def execSwitchoverB2 (s : State) : Res :=
  finish s (match s.mirror.b1 with
    | some b =>
      if atFrame s && decide (s.mirror.role = .taking) && frameNo s == b + 1 then
        let step := s.mirror.inStep
        let s1 := noteSwitchover (b + 1) { s with
          mirror := { s.mirror with role := .primary, b1 := none, handLeft := 64, xferReq := false, inStep := false }
          bb := { s.bb with coord := true }
          host := { s.host with beatAt := now s, beatNew := false } }
        let s2 := if step then s1 else returnNew id (entries s1) [] s1
        mirrorNote s (catchDrives (newRun (noteSwitches s s2)))
      else s
    | none => s)

/-- The crystal pull of a standby in 0.01 ppm: at most 150 ppm either way (R998). Easel time counts the cycles of the pulled crystal
(R200), so the pull moves minor-tick boundaries in real time, not in easel time. -/
def pullOf (p : Int) : Half := BitVec.ofInt 16 (clampI (-15000) 15000 p)

/-- TLOCK_SET (R998, R999): the alignment error has stayed within 1 us for 16 major frames; `phase` in ns, `pull` the pull asked for,
in 0.01 ppm. -/
def execTlockSet (phase pull : Int) (s : State) : Res :=
  finish s (if isStandby s && decide (phase.natAbs ≤ 1000) then
      mirrorNote s (mirrorCause 4 false { s with mirror := { s.mirror with
        tlock := true, phase := BitVec.ofInt 16 phase, pull := pullOf pull } })
    else s)

/-- TLOCK_CLEAR (R999): the alignment error exceeds 5 us. -/
def execTlockClear (phase pull : Int) (s : State) : Res :=
  finish s (if isStandby s && decide (5000 < phase.natAbs) then
      mirrorNote s (mirrorCause 4 true { s with mirror := { s.mirror with
        tlock := false, phase := BitVec.ofInt 16 phase, pull := pullOf pull } })
    else s)

/-- SIDE_CONFLICT_RESOLVE (R1052): both chips are primary at an odd pair frame boundary; the one with the higher serial number
(`higher`) becomes standby. It is seen in a STATUS record, or by nMACT_P (`nmactP`) low while this chip's nMACT is low. -/
def execSideConflictResolve (higher nmactP : Bool) (s : State) : Res :=
  finish s (if atFrame s && frameNo s % 2 == 1 && decide (s.mirror.role = .primary) && (s.mirror.pRole == 1 || macLow s && !nmactP) then
      let s1 := mirrorCause 5 true (logPush 0x090 4 { s with mirror := { s.mirror with sideConf := true, nmactP := nmactP } })
      mirrorNote s (if higher then becomeStandby s1 else s1)
    else s)

/-! ### Joined sounders (R1045, R1046) -/

/-- MSYNC_I_RISE (R1046): a rising edge of MSYNC_I after `lowFor` sub-ticks of low level restarts the ALARM cycle of a side B
chip. -/
def execMsyncIRise (lowFor : Nat) (s : State) : Res :=
  finish s (if s.mirror.mside && decide (sec ≤ lowFor) && s.pads.cycleStart.isSome then
      noteSwitches s { s with pads := { s.pads with cycleStart := some (now s), interval := 0 } }
    else s)

end Sys2Proof.Machine
end

