-- ==== Sys2Proof/Machine/ProofCmds.lean ====
section
/-!
DEFINITION. ProofCmds.lean: the commands of Proof and of the event counters (18_proof_and_counters.md).
-/

namespace Sys2Proof.Machine

/-! ### Starting (R1058-R1060, R437, R1220) -/

/-- PROOF_SCHEDULED_START: a due run starts at Tier 2, with no alarm, no operation RUNNING and not on a standby, as a
PROOF_RUN with the scheduled mask; else it is postponed. -/
def execProofScheduledStart (s : State) : Res :=
  finish s (if s.proof.due.isSome && !s.proof.running then
      if s.sys.tier = 2 ∧ anyAlarm s = false ∧ s.host.op.st ≠ .running ∧ isStandby s = false then
        let mask := fld (par s 0x8000) 14 8
        let s1 := opAccept 7 [BitVec.ofNat 16 mask] false { s with proof := { s.proof with
          due := none, postponed := false, ranAt := some (now s, s.proof.dueT) } }
        proofStart true mask (opAsks <| dropCause (64 * 18 + 8) 0 { s1 with host := { s1.host with
          op := { s1.host.op with worked := true, cmdRes := s.host.op.cmdRes } } })
      else { s with proof := { s.proof with postponed := true } }
    else s)

/-- PROOF_POSTPONE_24H: a run postponed over 24 h is a trouble cause while the postponement lasts. -/
def execProofPostpone24h (s : State) : Res :=
  finish s (match s.proof.due with
    | some t => if s.proof.postponed && passed s t (86400 * sec) then raiseCause (64 * 18 + 8) 0 false s else s
    | none => s)

/-! ### SAFETY (R1065-R1068) -/

/-- A sentinel that SAFETY injects (R1065): enabled, in NORMAL, with an alarm dwell of 5 ms or more. -/
def eligible (s : State) (k : Nat) : Bool :=
  recEn s.gesso.record k && decide ((gSen s k).band = .normal) && decide (5 ≤ recAdw s.gesso.record k)

/-- SENTINEL_INJECTION: the last Gesso sample before a major-frame boundary shows an eligible sentinel at mv, the voltage to
which the test source pulls it; both sides sample it. -/
def execSentinelInjection (n : Fin 16) (mv : Nat) (s : State) : Res :=
  let k := n.val
  finish s (if stepUnderWay s 0 && eligible s k && decide (120 ≤ minorOf (now s)) &&
            !s.proof.injDone.contains k then
      let s1 : State := { s with proof := { s.proof with
        tested := s.proof.tested + 1, inj := s.proof.inj ++ [(k, false)], injDone := k :: s.proof.injDone } }
      monitorSample k mv (gessoSample k mv s1)
    else s)

/-- One injection judged at a major-frame boundary (R1066). -/
def judgeInjection (s : State) (x : Nat × Bool) : State :=
  let want : Band := if x.2 then .normal else .alarm
  let rest := s.proof.inj.filter fun p => p.1 != x.1
  if (gSen s x.1).band = want ∧ (mSen s x.1).band = want then
    { s with proof := { s.proof with inj := if x.2 then rest else rest ++ [(x.1, true)] } }
  else { s with proof := { s.proof with inj := rest, fails := s.proof.fails ++ [(x.1, 0)] } }

/-- The injections judged at a major-frame boundary. -/
def judgeInjections (s : State) : State := s.proof.inj.foldl judgeInjection s

/-- The frame body fed to the receivers of Gesso and of the safety core on one front end (R1067). -/
def feedFrame (t singles : Nat) (s : State) : State :=
  let bits := makeFrame 5 0 (BitVec.ofNat 11 (fld (par s 0x8002) 0 11)) 5
  let slot := zcSlot s t
  let s1 := gessoZcFrame t slot bits singles .x1 s
  if !(s1.safety.run && (domAvail s1).getLsbD 8) then s1
  else if singles ≤ 2 then zcAccept t slot bits singles .x1 false s1
  else
    let z := zcTrack s1 t
    evt (51 + t) (setZc t { z with cntDrop := z.cntDrop + 1 } s1)

/-- The hub has won the running slot of a track for an injected frame and sent its start mark (R1067); no real frame has decoded in
the slot (R1100). -/
def hubWon (s : State) (t : Nat) : Bool :=
  let z := zcTrack s t
  z.injMarked && decide (z.injSlot = some (zcSlot s t)) && decide (z.decodedIn ≠ some (zcSlot s t))

/-- INJECTED_FRAME (R1067, R1068, R1100): in a slot that the hub wins, the first frame of a front end passes when both sides accept it,
the second, with 3 single-burst bits, when both drop it. When a real frame decodes in the slot it is abandoned, and sent again in
the next slot won. Each frame has a slot of its own. -/
def execInjectedFrame (t : Fin 3) (second : Bool) (s : State) : Res :=
  let k := t.val
  finish s (if stepUnderWay s 0 && frameDue s k second && hubWon s k then
      let s1 := feedFrame k (if second then 3 else 0) s
      let acc := decide (s1.gesso.cntAcc ≠ s.gesso.cntAcc) && decide ((zcTrack s1 k).cntAcc ≠ (zcTrack s k).cntAcc)
      let drop := decide (s1.gesso.cntDrop ≠ s.gesso.cntDrop) && decide ((zcTrack s1 k).cntDrop ≠ (zcTrack s k).cntDrop)
      let pass := if second then drop else acc
      { s1 with proof := { s1.proof with
        tested := s1.proof.tested + 1, fails := if pass then s1.proof.fails else s1.proof.fails ++ [(k, 0)]
        injIn := tblSet (fun _ => none) s1.proof.injIn k (some (zcSlot s k, pass))
        injDone := (16 + 2 * k + second.toNat) :: s1.proof.injDone } }
    else s)

/-! ### HEADS (R1080) -/

/-- HEAD_TIMEOUT: a head that has not answered within HEAD_TMO of the step's start is marked NO_ANSWER. -/
def execHeadTimeout (id : Fin 2048) (s : State) : Res :=
  let k := id.val
  finish s (match s.proof.stepAt with
    | some t =>
      if stepUnderWay s 7 && (s.proof.heads.contains k || s.proof.headsLeft.contains k) &&
          passed s t (fld (par s 0x8001) 4 12 * sec) then
        let s1 := markHead k 3 0 s
        { s1 with proof := { s1.proof with
          heads := s1.proof.heads.filter fun i => i != k, headsLeft := s1.proof.headsLeft.filter fun i => i != k
          fails := s1.proof.fails ++ [(k, 0)] } }
      else s
    | none => s)

/-! ### Ends (R1084, R1085) -/

/-- SAFETY has tested every eligible sentinel and both frames of every enabled front end on which the hub may transmit (Table
18-1; log 124). -/
def safetyDone (s : State) : Bool :=
  s.proof.inj.isEmpty && (List.range 16).all (fun k => !eligible s k || s.proof.injDone.contains k) &&
    (List.range 3).all fun t => !(recZph s.gesso.record t && zcMayTx s t) || s.proof.injDone.contains (17 + 2 * t)

/-- The items of a step that the machine itself has judged: SAFETY, CONV and HEADS have none outstanding; STORE's scan and
SOUNDER's chirps are over; the items of the others are the operands. -/
def stepComplete (s : State) : Bool :=
  match s.proof.step with
  | 0 => safetyDone s
  | 1 => s.proof.headsLeft.isEmpty && (List.range 4).all fun k => !((sounder s k).chirpEnd.isSome && (sounder s k).chirpProof)
  | 3 => s.proof.headsLeft.isEmpty && s.conv.arbWait.all (fun a => a.2.isSome) &&
      (match (modulator s 15).conv with | some c => decide (c.kind ≠ .arbiter) | none => true)
  | 4 => s.store.scanProof && !s.store.scan
  | 7 => s.proof.heads.isEmpty && s.proof.headsLeft.isEmpty
  | _ => true

/-- SOUNDER (R1069, R1070): a sounder fails when its ball lies below 2.0 V or, with CHIRP, its probe is not valid or below 1,000 uA. -/
def sounderFails (s : State) (m : ProofMeas) : List (Nat × Half) :=
  let chirp := (par s 0x8001).getLsbD 0
  (List.range 4).filterMap fun k =>
    let mv := m.snd.getD k 0
    if mv < 2000 then some (k, BitVec.ofNat 16 mv)
    else if chirp && (!(sounder s k).probeValid || decide ((sounder s k).probeI.toNat < 1000)) then some (k, (sounder s k).probeI)
    else none

/-- The drivers that RELAY tests (R1072). -/
def relaysTested (s : State) : List Nat := (List.range 32).filter fun n => !(par s 0x8003).getLsbD n

/-- RELAY (R1071): an energised driver passes with 5 mA or more, a de-energised one with 2 mA or more at the end of its pulse. -/
def relayFails (s : State) (m : ProofMeas) : List (Nat × Half) :=
  (relaysTested s).filterMap fun n =>
    let ua := m.rly.getD n 0
    if ua < (if relayOn s n then 5000 else 2000) then some (n, BitVec.ofNat 16 (min ua 65535)) else none

/-- The non-alarm command of driver n set. -/
def setNonAlarm (n : Nat) (on : Bool) (s : State) : State :=
  if n < 16 then { s with pads := { s.pads with nonAlarm := setBit s.pads.nonAlarm n on } }
  else { s with pads := { s.pads with crly := setBit s.pads.crly (n - 16) on } }

/-- A de-energised driver is energised for 500 us as its non-alarm command (R1071): it turns on and off again. -/
def relayPulse (s : State) (n : Nat) : State :=
  if relayOn s n then s
  else
    let s1 := noteSwitches s (setNonAlarm n true s)
    noteSwitches s1 (setNonAlarm n false s1)

/-- The channels that GATE tests (R1075, R1077): IDLE, at rest, with nDFLT high, not having left IDLE during the test. -/
def gateTested (s : State) (m : ProofMeas) : List Nat :=
  (List.range 24).filter fun c =>
    decide ((drv s c).st = .idle) && decide ((drv s c).speed = 0) && m.nDflt.getLsbD c && !m.leftIdle.getLsbD c

/-- GATE (R1076): an output passes when its ball reads back high in its pulse and low after it. -/
def gateFails (s : State) (m : ProofMeas) : List (Nat × Half) :=
  (gateTested s m).flatMap fun c => (List.range 6).filterMap fun o =>
    let i := 6 * c + o
    if m.gateHigh.getLsbD i && m.gateLow.getLsbD i then none else some (i, 0)

/-- Items that step k tested, and those that failed. -/
def stepItems (s : State) (k : Nat) (m : ProofMeas) : Nat × List (Nat × Half) :=
  match k with
  | 1 => (4, sounderFails s m)
  | 2 => ((relaysTested s).length, relayFails s m)
  | 4 => (m.tested, m.fails)
  | 5 => (6 * (gateTested s m).length, gateFails s m)
  | 6 => (((List.range 3).filter fun t => recZph s.gesso.record t).length, [])
  | _ => (s.proof.tested, s.proof.fails)

/-- What a step does as it is measured: the pulses of RELAY, the noise records of LINE (R1078). -/
def stepWork (k : Nat) (m : ProofMeas) (s : State) : State :=
  match k with
  | 2 => (relaysTested s).foldl relayPulse s
  | 6 => (List.range 3).foldl (fun st t =>
      if recZph st.gesso.record t then proofRecord 1 (noiseRecord t 8 m.noise) st else st) s
  | _ => s

/-- PROOF_STEP_END (R1062, R1069-R1078, R1084): the step in progress ends with what it measured, and the next selected one begins. -/
def execProofStepEnd (m : ProofMeas) (s : State) : Res :=
  let k := s.proof.step
  finish s (if stepUnderWay s k && decide (k < 8) && stepComplete s then
      let r := stepItems s k m
      let s2 := endStep k (if r.2.isEmpty then 0 else 1) r.1 r.2 (stepWork k m s)
      proofNext (if k = 7 then headRecords s2 else s2)
    else s)

/-- A run whose steps have all ended, with its work served and every record in the ring, ends: code 0x0C0, RUNS; the operation ends DONE, or
FAILED with ERR PROOF where a step failed (log 57). -/
def runEnds (s : State) : State :=
  if s.proof.running && decide (s.proof.mask = 0) && s.host.op.out.isEmpty && !s.host.op.paused && opServed s then
    let s1 := proofClose false (opRes (proofRes s) s)
    if s.proof.fail = 0 then opEnd .done 0 s1 else opEnd .failed 0x0B s1
  else s

/-- PROOF_RUN_END: the run ends. -/
def execProofRunEnd (s : State) : Res := finish s (runEnds s)

/-! ### Event counters (R1090, R1107) -/

/-- EVT_CFG_APPLY: at a major-frame boundary the changed configurations take effect and clear their counters. -/
def execEvtCfgApply (s : State) : Res :=
  finish s (if atFrame s then
      { s with evt := s.evt.changed.foldl (fun e c => { e with
          cfg := tblSet (fun _ => parReset 0x8800) e.cfg c (par s (0x8800 + c))
          live := tblSet (fun _ => (0 : Word)) e.live c 0
          last := BitVec.ofNat 6 c }) { s.evt with changed := [] } }
    else s)

/-- EVT_CLR: the counters whose bits were written before this minor tick are cleared. -/
def execEvtClr (s : State) : Res :=
  let due := s.evt.clr.filter fun p => tickPast s p.1
  finish s { s with evt := { s.evt with
    clr := s.evt.clr.filter fun p => !tickPast s p.1
    live := due.foldl (fun l p => l.filter fun q => !p.2.getLsbD q.1) s.evt.live } }

end Sys2Proof.Machine
end

