-- ==== Sys2Proof/Machine/Frame.lean ====
section
/-!
DEFINITION. Frame.lean: the boundaries of minor ticks, major frames and hyperframes: what happens at each that is no command of
its own (04_time_base_and_teeth.md R195, R196).
-/

namespace Sys2Proof.Machine

/-! ### Minor tick -/

/-- RELAY strokes and HOSTPUB writes of the tick before take effect (R408, R891). -/
def tickOutputs (s : State) : State :=
  let s1 := s.pads.crlyNext.foldl (fun st p => setCrly (16 + p.1) p.2 st) { s with pads := { s.pads with crlyNext := [] } }
  noteSwitches s { s1 with host := { s1.host with
    pub := s1.host.pubNext.foldl (fun t p => tblSet (fun _ => (0 : Word)) t p.1 p.2) s1.host.pub, pubNext := [] } }

/-- An accepted SLEEP_REQ takes effect (R317). -/
def tickCeil (s : State) : State :=
  match s.power.ceilPending with
  | some (c, t) =>
    if tickPast s t then { s with power := { s.power with ceil := c, sleepRes := 1, ceilPending := none } } else s
  | none => s

/-- A program or erase of STORE.DCTL is done: nWAIT is released (R922, R923). -/
def tickDctl (s : State) : State :=
  match s.host.dctlUntil with
  | some t =>
    if t ≤ tickNo s then
      let s1 := if s.store.erasing.isSome then dstat 1 (workOne s) else s
      { s1 with host := { s1.host with dctlUntil := none, nWaitLow := false } }
    else s
  | none => s

/-- Writes that clear TRACK_CHG take effect (R406). -/
def tickTrackClr (s : State) : State :=
  (s.host.trackClr.filter fun p => tickPast s p.1).foldl (fun st p => setC p.2 3 0x200 0 st)
    { s with host := { s.host with trackClr := s.host.trackClr.filter fun p => !tickPast s p.1 } }

/-- ACK_KEY with an operation that is not defined is refused with ACK_RES 3, whatever its token (R171, Table 03-8; log 79). -/
def tickAck (s : State) : State :=
  match s.safety.ackPending with
  | some (w, t) =>
    let op := fld w 8 8
    if s.safety.run && tickPast s t && op != 0xA5 && op != 0xC3 && op != 0x96 then ackDone op 3 s else s
  | none => s

/-- A chip of a pair sends its STATUS record of the tick, a primary its INPUT record too (Table 17-3); its self-declared fault
is judged (R1024). -/
def tickMirror (s : State) : State :=
  if s.mirror.pair && (domAvail s).getLsbD 11 then
    let s1 := mirrorTx 5 { s with mirror := { s.mirror with unacked := [] } }
    mirrorSelfFault (if s1.mirror.linkUp && decide (s1.mirror.role = .primary) then mirrorTx 1 s1 else s1)
  else s

/-! ### Reserve (R248, R252-R254, R291) -/

/-- What the waiting work of a user still asks of a lane; that of a paused operation asks nothing (R414). -/
def demand (s : State) (lane user : Nat) : Nat :=
  ((s.canvas.work.filter fun w => w.lane == lane && w.user == user && !(s.host.op.paused && opsWork w)).map fun w =>
    w.left).foldl (· + ·) 0

/-- What each user takes of a lane's reserve in a tick: on the core lanes alarm handling all that it needs; the second its share
and what the third leaves of its own, within what alarm handling leaves; the third its share, within what both leave (R253,
R254, R291; log 83). On STORE the words of the fault log go before those of a long operation (log 83). -/
def reserveUse (s : State) (lane : Nat) : List Nat :=
  if lane = 7 then
    let a := min s.store.logWords (laneReserve 7)
    [a, 0, min (demand s 7 2) (laneReserve 7 - a)]
  else match laneShares lane with
  | [_, second, third] =>
    let a := min (demand s lane 0) (laneReserve lane)
    let late := min (demand s lane 2) third
    let b := min (min (demand s lane 1) (second + (third - late))) (laneReserve lane - a)
    [a, b, min late (laneReserve lane - a - b)]
  | _ => [min (demand s lane 0) (laneReserve lane)]

/-- The work of a user on a lane served within `room`, oldest first: what still waits, and what is done. -/
def serveUser (lane user : Nat) : Nat → List Work → List Work × List Work
  | _, [] => ([], [])
  | room, w :: r =>
    if w.lane = lane ∧ w.user = user then
      let (wait, done) := serveUser lane user (room - w.left) r
      if w.left ≤ room then (wait, w :: done) else ({ w with left := w.left - room } :: wait, done)
    else
      let (wait, done) := serveUser lane user room r
      (w :: wait, done)

/-- A user of a lane is served: finished items are counted (sources 8-15) and give their join answers (R659). -/
def serveOne (lane user room : Nat) (s : State) : State :=
  let (wait, done) := serveUser lane user room s.canvas.work
  let acks := (done.filterMap fun w => w.ack).map fun p => ({ id := p.1, ans := p.2, c0 := false, join := true } : Ack)
  evtN (8 + lane) done.length { s with
    canvas := { s.canvas with work := wait }
    bb := { s.bb with acks := s.bb.acks ++ acks } }

/-- The fault log's words that the STORE reserve has written; each entry has 4 (Table 18-5). -/
def serveLog (n : Nat) (s : State) : State :=
  evtN 15 (n / 4) { s with store := { s.store with logWords := s.store.logWords - n } }

/-- The reserve of a lane at the end of its tick, after its committed window (R248). -/
def serveLane (s : State) (lane : Nat) : State :=
  let use := reserveUse s lane
  let s0 := if lane = 7 then serveLog (use.headD 0) s else s
  let s1 := use.zipIdx.foldl (fun st p => serveOne lane p.2 p.1 st) s0
  let most := max (tblGet (fun _ => 0) s.canvas.resMax lane) (use.foldl (· + ·) 0)
  { s1 with canvas := { s1.canvas with resMax := tblSet (fun _ => 0) s1.canvas.resMax lane most } }

/-- The reserves of the tick that ends serve the event work that waits for them; the rest waits for later ticks (R291). An operation
that they have served makes its records. -/
def tickReserve (s : State) : State :=
  opProduce ((List.range 8).foldl serveLane s)

/-- The safety core's requests for re-samples of the tick that ends go to the arbiter in criterion order, those left over before
first, 2 steps of the CONV reserve each (R189, R715); CONV_ARB strokes have gone before (R716). -/
def issueAsks (s : State) : State :=
  let due := (s.conv.asks.filter fun a => decide (a.1 < tickNo s)).take (laneReserve 3 / 2)
  due.foldl (fun st a => useReserve 3 0 2 (arbRequest (tickNo s - 1) (crCh st a.2) (some a.2) st))
    { s with conv := { s.conv with asks := s.conv.asks.drop due.length, asked := due.length } }

/-- Domains other than G act on a boundary: the 40.000 MHz crystal runs (R1206) and nRST does not hold them (R335). -/
def boundaryWork (s : State) : Bool := tickWork s && !s.power.inReset

/-- Easel time at the next minor-tick boundary: its sub-tick 0 while the 40.000 MHz crystal runs, else the first cycle of the
source in use past it (R195, R200, R201). -/
def nextTick (s : State) : State :=
  if s.time.source = .x40 then moveTo s ((tickNo s + 1) * tickLen)
  else { s with time := slowTick (tickNo s) 6 s.time }

/-- MINOR_TICK (R195, R248, R256, R291, R317, R406, R408, R770, R823, R891, R1206, log 67): easel time reaches the next minor-tick boundary,
a scheduled exit that the tick has passed has begun (R315), and what happens at every such boundary happens. In OFF the counter does not run. -/
def execMinorTick (s : State) : Res :=
  finish s (if s.power.st = .off then s
    else
      let s0 := exitMade (nextTick s)
      if boundaryWork s0 then
        let s1 := tickOutputs (commitSignals (issueAsks (evt 376 s0)))
        let s2 := fansTick (driveTick s1)
        tickMirror (tickReserve (proofFeed (tickAck (tickTrackClr (tickDctl (tickCeil s2))))))
      else s0)

/-! ### Major frame -/

/-- Gesso's own side of the feedback row (TROUBLE.OUT_FB, Table 02-9; log 80): the feedback differs from the combined command in
2 snapshots in a row, 2 ms after a command change left out; a trouble cause (3, 3) while it lasts. -/
def feedbackJudged (s : State) : State :=
  let run := if !passed s s.safety.cmdChanged (2 * ms) then s.gesso.fbRun
             else if s.pads.fbErr = 0 then 0 else s.gesso.fbRun + 1
  let bad := decide (2 ≤ run)
  let s1 : State := { s with gesso := { s.gesso with fbRun := min run 2, fbMismatch := bad } }
  if bad = s.gesso.fbMismatch then s1
  else
    let s2 := setCause (192 + 3) 0 bad s1
    if bad then gessoChirp s2 else s2

/-- Gesso's state as a snapshot captures it; `live` says that it carries a challenge. -/
def captured (live : Bool) (s : State) : Snapshot :=
  let g := s.gesso
  { at_ := now s, challenge := if live then Config.challenge g.chalCount else g.snap.challenge, published := live, answered := false
    bands := (List.range 16).map fun n => (gSen s n).band
    codes := (List.range 16).map fun n => (gSen s n).code
    trip := g.trip, outCmd := g.outCmd, outFb := driverFb s, comb := combinedCmd s
    settled := passed s s.safety.cmdChanged (2 * ms), crc := g.cfgCrc, nth := g.sinceRelatch + 1 }

/-- GESSO_SNAPSHOT (R95, R96, R163): a challenge left unanswered counts; a snapshot is captured, while domain S is powered with the
next challenge, and Gesso judges its feedback. -/
def gessoSnapshot (s : State) : State :=
  let g := s.gesso
  let missed := g.snap.published && !g.snap.answered
  let g1 : Gesso := if missed then { g with goodRun := 0, badRun := if g.firstAnswer then g.badRun + 1 else g.badRun } else g
  let live := s.sys.applied.getLsbD 3
  feedbackJudged { s with gesso := { g1 with
    chalCount := g.chalCount + (if live then 1 else 0), snap := captured live s, sinceRelatch := g.sinceRelatch + 1 } }

/-- The non-alarm command of safe-state relay driver n (R889, R890). -/
def normLevel (s : State) (n : Nat) : Bool :=
  let w := par s (parAddr 12 n)
  match fld w 1 2 with
  | 0 => false
  | 1 => true
  | _ =>
    if s.canvas.run = .comfort ∨ s.canvas.run = .emergency then decide (signalNow s (fld w 3 11) ≠ 0)
    else match fld (par s (parAddr 4 (0x010 + n))) 0 2 with
      | 0 => s.pads.nonAlarm.getLsbD n
      | 2 => (recRpol s.gesso.record).getLsbD n
      | _ => false

/-- A change of the combined command notes its instant (Table 02-6). -/
def cmdNoted (old s : State) : State :=
  if combinedCmd s = combinedCmd old then s else { s with safety := { s.safety with cmdChanged := now s } }

/-- PATH_LATCH_REFRESH (R158, R192): the safety core refreshes its non-alarm commands and the safe values of Table 03-2. -/
def refreshPath (s : State) : State :=
  if s.safety.run && s.safety.answeredOnce && !s.pads.pathStopped then
    cmdNoted s <| noteSwitches s { s with pads := { s.pads with
      nonAlarm := (List.range 16).foldl (fun w n => setBit w n (normLevel s n)) 0
      ssRly := (List.range 16).foldl (fun w n => w ||| put 32 (2 * n) (fld (par s (parAddr 4 (0x010 + n))) 0 2)) 0
      ssCrly := (List.range 16).foldl (fun w n => setBit w n ((par s (parAddr 4 (0x020 + n))).getLsbD 0)) 0
      ssFan := (List.range 48).foldl (fun w f => setBit w f ((par s (parAddr 4 (0x030 + f))).getLsbD 0)) 0 } }
  else s

/-- EVENT_COUNTER_SNAPSHOT (R1089): every counter is captured, and one with CLR_SNAP starts again from 0. -/
def snapCounters (s : State) : State :=
  { s with evt := { s.evt with
    snap := s.evt.live, snapTs := ts32 s, snapAt := some (now s), late := []
    live := s.evt.live.filter fun p => !(evtCfg s p.1).getLsbD 15 } }

/-- Partial results (R417, R1083): pages written, records produced, or the state of a run. -/
def partialRes (s : State) : List Half :=
  match s.host.op.code with
  | 1 | 4 => [BitVec.ofNat 16 s.host.op.progress, 0, 0, 0]
  | 7 => if s.host.op.worked then proofRes s else [0, 0, 0, 0]
  | 3 | 6 | 8 | 9 => [s.host.recs, 0, 0, 0]
  | _ => [0, 0, 0, 0]

/-- OP_PARTIAL_UPDATE (R417): OPRES0-OPRES3 take the partial result; a change sets PART and its interrupt. -/
def opPartial (s : State) : State :=
  if s.host.op.st = .running ∧ partialRes s ≠ s.host.op.res then
    setIrq 3 { s with host := { s.host with op := { s.host.op with res := partialRes s, part := true } } }
  else s

/-- The running operation's work of a frame: array work, at most the 512 pages that 64 words a tick can program (Table 05-1); a
verification, which ends after 4 hyperframes at the latest (R271); the records of a survey whose periods have passed; a run that
goes on after a pause. -/
def opWork (units : Nat) (noise : List (Nat × List Word)) (s : State) : State :=
  let op := s.host.op
  if op.st = .running ∧ op.worked = true ∧ op.paused = false then
    match op.code with
    | 1 | 2 | 4 => workUnits (min units 512) s
    | 5 =>
      let s1 : State := { s with canvas := { s.canvas with verFrames := s.canvas.verFrames + 1 } }
      if s.canvas.verBusy && decide (4 * 64 ≤ s1.canvas.verFrames) then verifyEnds s1 else s1
    | 6 =>
      if op.progress = 0 ∧ passed s (op.acceptedAt * tickLen) (2 * frameLen * opA s 1) = true then
        let s1 := giveRecords (surveyRecords noise s) s
        { s1 with host := { s1.host with op := { s1.host.op with progress := 1 } } }
      else s
    | 7 => if s.proof.running && s.proof.stepAt.isNone && decide (s.proof.mask ≠ 0) then proofNext s else s
    | _ => s
  else s

/-- An ABORT ends the operation (R413, R1102): an erase under way completes first; an operation that completes at the same
boundary ends DONE (R430). -/
def opAbortEnd (s : State) : State :=
  if s.host.op.st = .running ∧ s.host.op.abortReq = true ∧ s.host.op.abortAt < now s then
    let s1 := if s.store.erasing.isSome then workOne s else s
    let d := if s1.host.op.worked && !s1.host.op.paused then runEnds (opFinish false s1) else s1
    if d.host.op.st = .running then opEnd .aborted 7 (proofAbort s1) else d
  else s

/-- In the emergency state every running operation but LOG_EXPORT pauses (R414). -/
def opPause (s : State) : State :=
  if s.host.op.st = .running ∧ s.canvas.run = .emergency ∧ s.host.op.code ≠ 8 then
    { s with host := { s.host with op := { s.host.op with paused := true } } }
  else s

/-- HOLD_LOW is a trouble cause from 1 s after the origin on (Table 06-6). -/
def frameHold (s : State) : State :=
  if s.power.holdLow && s.power.vmain && passed s s.power.origin sec then raiseCause (832 + 2) 0 false s else s

/-- The primary of a pair keeps O(f) and the state of the frame that ends, for its SUMMARY (R1007). -/
def frameDigest (s : State) : State :=
  if s.mirror.pair && decide (s.mirror.role = .primary) && decide (s.canvas.run ≠ .stopped) then closeFrame (frameNo s - 1) s else s

/-- The condition of a trouble cause whose flag stands in a register no longer holds (R1221). The flags of the converters, the
channels, the line, the host, the pair, the field and the clients reset where the set of causes stays (R1222). -/
def causeEnded (s : State) (c : Cause) : Bool :=
  let i := c.code % 64
  !c.event && match c.code / 64 with
    | 2 => decide (c.src = 1) && !(mSen s i).trouble
    | 4 =>
      match i with
      | 1 => !s.safety.lockstep
      | 2 => !s.safety.fwFail
      | _ => !s.safety.disNow.contains c.src
    | 5 | 6 => !((convCh s (c.code - 320)).ow && (chOrder s (c.code - 320)).getLsbD 9)
    | 7 => !(modulator s i).refFault
    | 8 => !dfTrouble s i
    | 9 => !(drv s i).flt.getLsbD c.src
    | 10 => !(fan s i).flt.getLsbD c.src
    | 11 => !(loadDiag s i).flags.getLsbD c.src
    | 12 =>
      if i < 4 then !(zcTrack s i).txFault
      else if i < 8 then !(zcTrack s (i - 4)).noisy
      else if i < 12 then !(frontEnd s (i - 8)).txFault
      else if i < 16 then !(frontEnd s (i - 12)).noisy
      else false
    | 15 => decide (c.code = 960) && !s.host.silent
    | 16 =>
      let m := s.mirror
      match i with
      | 0 => !m.laneFault
      | 1 => !m.linkLoss
      | 2 => !m.divFault
      | 3 => !m.imgMis
      | 4 => m.tlock || decide (m.role ≠ .standby)
      | 5 => !m.sideConf
      | _ => false
    | 17 => !ballTrouble (ball s c.src).state
    | a =>
      let id := c.src / 8
      decide (19 ≤ a) && (match c.src % 8 with
        | 5 => cFld s id 8 0 4 == 0
        | k => !(cWord s id 3).getLsbD (k + 3))

/-- A running core ends the causes whose conditions a reset or a restart has ended (R1221, R1222; log 108), and finds the detection
functions whose criteria stand on channels out of service (R151). -/
def settleCauses (s : State) : State :=
  if s.safety.run then
    let s1 := (s.safety.causes.filter (causeEnded s)).foldl (fun st c => dropCause c.code c.src st) s
    (List.range 64).foldl (fun st d => if dfTrouble st d then raiseCause (512 + d) 0 false st else st) s1
  else s

/-- SAFE.FW_TEST takes the control-flow signature of the frame that ends, of which the spec gives no formula: a free value (log 3). -/
def frameSignature (s : State) : State :=
  if s.safety.run then
    { s with free := s.free + 1, safety := { s.safety with fwTest := Config.freeWord s.free } }
  else s

/-- A landed group whose record is not durable four frames after the landing is recorded again (R459, Table 08-6; log 115). -/
def glazeLate (s : State) : State :=
  (s.glaze.persistWait.filter fun p => (ts32 s - (groupRes s p.1).ts).toNat == 4 * frameLen).foldl
    (fun st p => logPush 0x022 (BitVec.ofNat 32 (p.1 + groupCode .landed * 8)) st) s

/-- The age of every client that has been admitted once is judged (R650). -/
def eolSweep (s : State) : State :=
  (s.clients.words.filter fun e => e.1 % 32 == 22 && e.2 != 0).foldl (fun st e => eolCheck (e.1 / 32) st) s

/-- MAJOR_FRAME_BOUNDARY (R95, R158, R196, R413-R417, R1066, R1089, R1206): in easel time Gesso's snapshot and the path latch; in
`fbErr` is what the driver feedback read at the snapshot shows wrong, in the bits of OUT_FB: 0 in sound hardware (R898). In
pair time the event counters, the injections of Proof and the long operation, which does `units` of array work and finds
`noise` on the line, and the end of a primary's frame. Each boundary has it once. -/
def execMajorFrameBoundary (units : Nat) (noise : List (Nat × List Word)) (fbErr : BitVec 20) (s : State) : Res :=
  finish s (if s.time.frameDone = some (tickNo s) then s
    else
      let own := tickNo s % 128 = 0 && (atTick s || decide (s.time.source ≠ .x40))
      let s0 : State := { s with time := { s.time with frameDone := some (tickNo s) } }
      let s1 := if own then
          let g := gessoSnapshot { s0 with pads := { s0.pads with fbErr := fbErr } }
          if boundaryWork s then frameHold (settleCauses (frameSignature (refreshPath (evt 377 g)))) else g
        else s0
      if atFrame s && boundaryWork s then
        let s2 := judgeInjections (snapCounters (frameDigest (glazeLate (eolSweep s1))))
        setIrq 12 (opPartial (opPause (opAbortEnd (opWork units noise s2))))
      else if own then s1
      else s)

/-! ### Hyperframe -/

/-- HYPERFRAME_BOUNDARY (R293, R580, Tables 05-11, 10-11, 11-11): routes are evaluated; OVR_HIGH clears after a hyperframe in
which every lane had 16 overruns or fewer; the peaks of the hyperframe are published. -/
def execHyperframeBoundary (s : State) : Res :=
  finish s (if atHyper s && boundaryWork s && decide (s.time.hyperDone ≠ some (tickNo s)) then
      let c := s.canvas
      let quiet := (List.range 8).all fun l => decide (ovrIn s l ≤ 16)
      mirrorNote s <| evalRoutes { s with
        time := { s.time with hyperDone := some (tickNo s) }
        canvas := { c with ovrHigh := c.ovrHigh && !quiet, ovrHyper := [], resPeak := c.resMax, resMax := [] }
        bb := { s.bb with sMaxPrev := s.bb.sMax, sMax := 0 }
        clients := { s.clients with qPeak := s.clients.qMax, qMax := s.clients.queue.length }
        mirror := { s.mirror with
          xfer := s.mirror.xfer && !(decide (s.mirror.role = .primary) && decide (s.mirror.xferStart < frameNo s)) } }
    else s)

end Sys2Proof.Machine
end

