-- ==== Sys2Proof/Machine/GlazeCmds.lean ====
section
/-!
DEFINITION. GlazeCmds.lean: sealing, apply windows, durability and repeater probing (08_glaze_and_service_changes.md).
-/

namespace Sys2Proof.Machine

/-- GLAZE_COMMIT (R446): at the minor tick after the write of COMMIT the set is sealed and GLAZE_STAT and every group's
report are cleared. A COMMIT written while the set is sealed has no effect (log 55). -/
def execGlazeCommit (s : State) : Res :=
  finish s (match s.glaze.commitAt with
    | some t =>
      if tickPast s t then
        let g := { s.glaze with commitAt := none }
        if s.glaze.sealed_ then { s with glaze := g }
        else mirrorForward { s with glaze := { g with
          sealed_ := true, withdrawn := false, landed := 0, refused := 0, persistWait := []
          sealedWin := if atFrame s then some (frameNo s) else none
          res := (openGroups s).foldl (fun r k => tblSet (fun _ => GroupRes.blank) r k
            { GroupRes.blank with st := .waiting, words := BitVec.ofNat 7 (groupWords s k).length }) [] } }
      else s
    | none => s)

/-- GLAZE_APPLY (R33, R287, R434, R447-R458, R461, R476, R477): one apply window, after the change of run state and the swap of its
boundary: groups of the sealed set, then service requests; then an access held for the window. -/
def execGlazeApply (s : State) : Res :=
  finish s (if windowDue s then
      let s1 := decideServices (applyWindow (settleFrame s))
      releaseWindow { s1 with glaze := { s1.glaze with lastWin := some (frameNo s) } }
    else s)

/-- GLAZE_PERSIST (R459): the region B records of a landed group are durable. -/
def execGlazePersist (g : Fin 8) (s : State) : Res :=
  finish s (match s.glaze.persistWait.find? fun p => p.1 == g.val with
    | some p =>
      if p.2.all fun a => parDurable s 0 a then
        { s with glaze := { s.glaze with
          persistWait := s.glaze.persistWait.filter fun q => q.1 != g.val
          res := tblSet (fun _ => GroupRes.blank) s.glaze.res g.val { groupRes s g.val with persist := true } } }
      else s
    | none => s)

/-- Probing ends with an answer. -/
def probeEnd (ans reason : Nat) (s : State) : State :=
  svcDone s.glaze.probeTag ans reason { s with glaze := { s.glaze with probeActive := false } }

/-- REPEATER_PROBE_PERIOD (R471-R474, R486): a beacon period of probing ends; `lq` is the link quality with which the probe was
relayed and acknowledged, none where it was not. -/
def execRepeaterProbePeriod (lq : Option Byte) (s : State) : Res :=
  finish s (if s.glaze.probeActive && atBeacon s && decide (s.glaze.probeBsn ≠ some (bsnNow s)) then
      if !admitted s s.glaze.probeClient.toNat then probeEnd 3 3 s
      else
        let pass := match lq with | some q => decide (fld (par s 0x9826) 0 8 ≤ q.toNat) | none => false
        let s1 : State := { s with glaze := { s.glaze with
          probePassed := if pass then s.glaze.probePassed + 1 else 0, probePeriods := s.glaze.probePeriods + 1
          probeBsn := some (bsnNow s) } }
        if s1.glaze.probePassed = 4 then probeEnd 2 0 (setUnit 4 s.glaze.probeClient.toNat false s1)
        else if s1.glaze.probePeriods = 16 then probeEnd 3 8 s1
        else s1
    else s)

end Sys2Proof.Machine
end

