-- ==== Sys2Proof/Machine/HostBus.lean ====
section
/-!
DEFINITION. HostBus.lean: the commands of the host bus: accesses, BUSRDY, the end of a wake sequence, the host's heartbeat,
the client window (07_host_bus.md; BUSRDY and WAKE_SEQUENCE_END of 06_power_reset_and_first_second.md).
-/

namespace Sys2Proof.Machine

/-! ### Bus errors (R373, R374, Table 07-5) -/

/-- UNMAPPED_OFFSET_ACCESS (R373): an access at offset 0x30 + `off` reads 0, or has no effect, and is counted. -/
def execUnmappedOffsetAccess (write : Bool) (off : Fin 16) (v : Half) (s : State) : Res :=
  finish s (onBus { write := write, off := 0x30 + off.val, v := v, ok := true } s)

/-- BUS_ACCESS_DISCARD (R374): nRD and nWR low together: nothing is done, the word read is 0, and it is counted. -/
def execBusAccessDiscard (s : State) : Res :=
  finish s (if s.power.vmain && s.power.busrdy && !s.host.nWaitLow then
      busError (evt 280 { s with host := { s.host with dOut := 0 } })
    else s)

/-- NWAIT_TIMEOUT (R372, Table 07-5): a hold exceeds its bound by more than 10 %: nWAIT is released, a read returns 0, a
write is discarded; counted, shown in STAT.WAIT_TMO and logged (code 0x080). A legacy write that waits for room is discarded
too. -/
def execNwaitTimeout (s : State) : Res :=
  finish s (if (s.host.heldAcc.isSome || s.legacy.waiting.isSome) &&
        decide (11 * s.host.heldBound < 10 * (now s - s.host.heldAt)) then
      logPush 0x080 4 { s with
        host := { s.host with
          heldAcc := none, nWaitLow := false, waitTmo := true, waitCnt := s.host.waitCnt + 1
          dOut := match s.host.heldAcc with | some a => if a.write then s.host.dOut else 0 | none => s.host.dOut }
        legacy := { s.legacy with waiting := none } }
    else s)

/-! ### Direct registers -/

/-- REGISTER_WRITE (R8, R375, R440): a write of any direct register by its offset. -/
def execRegisterWrite (off : Fin 48) (v : Half) (s : State) : Res :=
  finish s (onBus { write := true, off := off.val, v := v, ok := true } s)

/-- RCL_REGISTER_READ (R8): a read of a direct register by its offset returns its word and clears its RCL fields. -/
def execRclRegisterRead (off : Fin 48) (s : State) : Res :=
  finish s (onBus { write := false, off := off.val, v := 0, ok := true } s)

/-- TICK_NOW_READ (R376). -/
def execTickNowRead (s : State) : Res := finish s (onBus { write := false, off := 0x07, v := 0, ok := true } s)

/-- EVT_DATA_LO_READ (R377). -/
def execEvtDataLoRead (s : State) : Res := finish s (onBus { write := false, off := 0x29, v := 0, ok := true } s)

/-- OPRES0_READ (R378, R418). -/
def execOpres0Read (s : State) : Res := finish s (onBus { write := false, off := 0x11, v := 0, ok := true } s)

/-- STAT_READ (R438). -/
def execStatRead (s : State) : Res := finish s (onBus { write := false, off := 0x03, v := 0, ok := true } s)

/-- PADDR_WRITE (R382). -/
def execPaddrWrite (v : Half) (s : State) : Res := finish s (onBus { write := true, off := 0x15, v := v, ok := true } s)

/-- PDATA_LO_READ (R379, R390). -/
def execPdataLoRead (s : State) : Res := finish s (onBus { write := false, off := 0x16, v := 0, ok := true } s)

/-- PDATA_LO_WRITE (R380). -/
def execPdataLoWrite (v : Half) (s : State) : Res := finish s (onBus { write := true, off := 0x16, v := v, ok := true } s)

/-- PDATA_HI_READ (R379, R383, R384). -/
def execPdataHiRead (s : State) : Res := finish s (onBus { write := false, off := 0x17, v := 0, ok := true } s)

/-- PDATA_HI_WRITE (R380-R389): `ok` says, for a write of STORE.DCTL, whether the margin verify of its program passes. -/
def execPdataHiWrite (v : Half) (ok : Bool) (s : State) : Res :=
  finish s (onBus { write := true, off := 0x17, v := v, ok := ok } s)

/-- KEY_IN_WRITE (R391, R392, R394). -/
def execKeyInWrite (v : Half) (s : State) : Res := finish s (onBus { write := true, off := 0x2B, v := v, ok := true } s)

/-- HOST_HB_WRITE (R425). -/
def execHostHbWrite (v : Half) (s : State) : Res := finish s (onBus { write := true, off := 0x2E, v := v, ok := true } s)

/-- GLAZE_DISCARD (R445, R455): a write of GLAZE_CTL with DISCARD = 1. -/
def execGlazeDiscard (s : State) : Res := finish s (onBus { write := true, off := 0x19, v := 2, ok := true } s)

/-- SLEEP_REQ_WRITE (R317-R320): a CEIL above 3, or 3 while an alarm or a wake cause is latched, is refused with its RES code and
CEIL stays; an accepted one takes effect at the next minor tick. -/
def execSleepReqWrite (ceil : BitVec 3) (s : State) : Res :=
  finish s (onBus { write := true, off := 0x24, v := ceil.setWidth 16, ok := true } s)

/-- WAKE_CAUSE_READ (R325, R348): returns the causes and clears them, FIRST to 7. -/
def execWakeCauseRead (s : State) : Res := finish s (onBus { write := false, off := 0x23, v := 0, ok := true } s)

/-! ### Parameters with a command of their own -/

/-- SVC_REQ_WRITE (R460, R492): a write of SYS.SVC_REQ under the SYS key; it takes effect at the next minor tick. -/
def execSvcReqWrite (kind : BitVec 3) (ret : Bool) (index : BitVec 11) (tag : Byte) (s : State) : Res :=
  finish s (onBus (parWr 0x0030 (kind.setWidth 32 ||| put 32 3 ret.toNat ||| put 32 4 index.toNat ||| put 32 16 tag.toNat) true) s)

/-- RESULT_TAIL_WRITE (R415, R389): the host advances RESULT.TAIL; it takes effect at the next minor tick. -/
def execResultTailWrite (v : BitVec 10) (s : State) : Res := finish s (onBus (parWr 0xB801 (v.setWidth 32) true) s)

/-- CAL_SET (R209): a write of TIME.CAL_SET under the TIME key; the value is held for the next second boundary, and a
later write replaces it. -/
def execCalSet (v : Word) (s : State) : Res := finish s (onBus (parWr 0x0804 v true) s)

/-- EASEL_LO_READ (R246): a read of TIME.EASEL_LO latches bits [63:32] of the same instant. -/
def execEaselLoRead (s : State) : Res := finish s (onBus (parRd 0x0800) s)

/-- CONV_Q_LO_READ (R700): the low word of the entry at Q_TAIL; its high word is latched. -/
def execConvQLoRead (s : State) : Res := finish s (onBus (parRd 0x2806) s)

/-- CONV_Q_HI_READ (R700): the latched word; Q_TAIL advances unless the queue is empty. -/
def execConvQHiRead (s : State) : Res := finish s (onBus (parRd 0x2807) s)

/-- PENT_TAB_DATA_READ (R770, R771): the sample at TAB_ADDR, sign-extended; the address advances. -/
def execPentTabDataRead (s : State) : Res := finish s (onBus (parRd 0x40C1) s)

/-- PENT_TAB_DATA_WRITE (R770, R771): the sample at TAB_ADDR takes the value, saturated to 24 bits, at the next tick; the
address advances. -/
def execPentTabDataWrite (v : Word) (s : State) : Res := finish s (onBus (parWr 0x40C1 v true) s)

/-- DCTL_PROGRAM (R922, R926): nWAIT is held until the program and its margin verify are done. -/
def execDctlProgram (page : BitVec 13) (reg : BitVec 2) (ok : Bool) (s : State) : Res :=
  finish s (onBus (parWr 0x680A (dctlWord page reg 1) ok) s)

/-- DCTL_SHADOW_PROGRAM (R924-R927, R935). -/
def execDctlShadowProgram (page : BitVec 13) (reg : BitVec 2) (ok : Bool) (s : State) : Res :=
  finish s (onBus (parWr 0x680A (dctlWord page reg 2) ok) s)

/-- DCTL_ERASE (R923): nWAIT is held until the journalled erase is done. -/
def execDctlErase (page : BitVec 13) (reg : BitVec 2) (s : State) : Res :=
  finish s (onBus (parWr 0x680A (dctlWord page reg 3) true) s)

/-- DBUF_WRITE (R1209): a DBUF word is in force from its own write. -/
def execDbufWrite (i : Fin 16) (v : Word) (s : State) : Res := finish s (onBus (parWr (0x680C + i.val) v true) s)

/-! ### Silence (R426-R432, Table 07-5) -/

/-- The time of SYS.HOST_TMO. -/
def hostTmo (s : State) : Nat := fld (par s 0x0010) 0 12 * sec

/-- HOST_SILENCE_DECLARED (R426, R428, R429, R432): at a major-frame boundary with HOST_TMO elapsed since the last beat. -/
def execHostSilenceDeclared (s : State) : Res :=
  finish s (if atFrame s && s.power.busrdy && s.host.hbEn && !s.host.silent && passed s s.host.beatAt (hostTmo s) then
      let s1 : State := { s with host := { s.host with silent := true, silentCnt := s.host.silentCnt + 1, beatNew := false } }
      evt 293 (raiseCause 960 0 false (logPush 0x080 1 (setLstat 4 (setIrq 13 s1))))
    else s)

/-- HOST_SILENCE_END (R427, R1205): at the first major-frame boundary strictly after a beat. -/
def execHostSilenceEnd (s : State) : Res :=
  finish s (if atFrame s && s.host.silent && s.host.beatNew && decide (s.host.beatFirst < now s) then
      chirpSettle <| dropCause 960 0 (logPush 0x080 2 (setIrq 13 { s with host := { s.host with silent := false, beatNew := false } }))
    else s)

/-! ### The client window (R401-R407) -/

/-- CLIENT_SNAP (R401, R436): a write of CLIENT_CTL with SNAP = 1, AINC kept. -/
def execClientSnap (s : State) : Res :=
  finish s (onBus { write := true, off := 0x1F, v := 1 ||| put 16 2 s.host.cAinc.toNat, ok := true } s)

/-- CLIENT_SNAP_COMPLETE (R401, R402): at the minor tick after the write all 32 words of the record are copied; READY; a read
that waited is completed. -/
def execClientSnapComplete (s : State) : Res :=
  finish s (match s.host.snapAt with
    | some t =>
      if tickPast s t then
        let id := fld s.host.clientSel 0 11
        let w := (List.range 32).foldl (fun u i => tblSet (fun _ => (0 : Word)) u i (recordWord s id i)) []
        releaseHeld (setIrq 10 { s with host := { s.host with snapAt := none, window := w, ready := true } })
      else s
    | none => s)

/-- CLIENT_SEL_WRITE (R403). -/
def execClientSelWrite (v : Half) (s : State) : Res := finish s (onBus { write := true, off := 0x1C, v := v, ok := true } s)

/-- CLIENT_DATA_LO_READ (R404, Table 07-1). -/
def execClientDataLoRead (s : State) : Res := finish s (onBus { write := false, off := 0x1D, v := 0, ok := true } s)

/-- CLIENT_DATA_HI_READ (R405). -/
def execClientDataHiRead (s : State) : Res := finish s (onBus { write := false, off := 0x1E, v := 0, ok := true } s)

/-- CLIENT_DATA_HI_WRITE (R405, R406). -/
def execClientDataHiWrite (v : Half) (s : State) : Res := finish s (onBus { write := true, off := 0x1E, v := v, ok := true } s)

/-- CLIENT_CMD_GO (R407, R627-R637): at the minor tick after the write the command words of the window are submitted to the
selected client, and the answer appears in CLIENT_CTL. -/
def execClientCmdGo (s : State) : Res :=
  finish s (match s.host.cmdGoAt with
    | some t =>
      if tickPast s t then
        let w (i : Nat) : Word := tblGet (fun _ => (0 : Word)) s.host.window i
        let (s1, ans, n) := submitCmd (fld s.host.clientSel 0 11) (fld (w 24) 0 8) ((w 24).getLsbD 8)
          [BitVec.ofNat 32 (fld (w 24) 16 16), w 25, w 26, w 27]
          { s with host := { s.host with cmdGoAt := none } }
        { s1 with host := { s1.host with cAns := BitVec.ofNat 2 ans, cN := BitVec.ofNat 8 n } }
      else s
    | none => s)

/-! ### BUSRDY and the wake sequence -/

/-- The wake sequence ends: CEIL becomes NAP, RES 5, IRQ_STAT.WAKE sets (R324, R1217). -/
def endWake (s : State) : State :=
  let s1 := if s.power.st = .doze ∨ s.power.st = .nap ∨ s.power.st = .sleep then exitState s else s
  evt 315 (setIrq 7 { s1 with
    power := { s1.power with wakeSeq := false, ceil := 2, sleepRes := 5, ceilPending := none, movingUntil := 0 } })

/-- WAKE_SEQUENCE_END (R324, R327): the exit from SLEEP has completed; held accesses complete. A sequence that exits VIGIL ends
at BUSRDY. -/
def execWakeSequenceEnd (s : State) : Res :=
  finish s (if s.power.wakeSeq && (s.power.busrdy || s.power.st = .sleep) then
      (if s.power.busrdy then releaseHeld (endWake s) else endWake s)
    else s)

/-- BUSRDY (R358, R359, R363, R426, R439, R490, R1217): the host interface is ready at most 50 ms after the Canvas starts (or
stays stopped for want of an image): keys invalid, PADDR 0, no snapshot, ring empty, Glaze empty; the silence timer starts; a
wake sequence that exits VIGIL ends; held accesses complete. -/
def execBusrdy (s : State) : Res :=
  finish s (if s.power.vmain && !s.power.inReset && !s.power.busrdy && (domAvail s).getLsbD 10 &&
        (s.power.canvasStarted.isSome || (s.canvas.noImage && passed s s.power.origin (400 * ms))) then
      let h := s.host
      let s1 := setIrq 8 { s with
        power := { s.power with busrdy := true }
        host := { h with
          tReady := BitVec.ofNat 12 ((now s - s.power.origin) / ms), keyValid := [], paddr := 0, lowHeld := none
          ready := false, window := [], head := 0, tail := 0, stall := false, seq := 0, beatAt := now s, beatNew := false }
        glaze := { s.glaze with set := [], sealed_ := false, commitAt := none, landed := 0, refused := 0, svc := [] } }
      releaseHeld (if s1.power.wakeSeq then endWake s1 else s1)
    else s)

end Sys2Proof.Machine
end

