-- ==== Sys2Proof/Machine/LegacyCmds.lean ====
section
/-!
DEFINITION. LegacyCmds.lean: the commands of the Plovul P8 compatibility window (19_plovul_window.md).
-/

namespace Sys2Proof.Machine

/-! ### Accesses of the legacy bus -/

/-- A write of legacy register `off`. -/
def legacyWr (off : Nat) (b : Byte) : BusAcc := { write := true, off := off, v := b.setWidth 16, ok := true }

/-- A read of legacy register `off`. -/
def legacyRd (off : Nat) : BusAcc := { write := false, off := off, v := 0, ok := true }

/-- An access that only the legacy mode has (R1108). -/
def onLegacy (a : BusAcc) (s : State) : State := if s.legacy.mode then onBus a s else s

/-- LEGACY_BAD_ADDRESS (R1111): an access with A[6] = 1 reads 0, has no effect when written, and sets LSTAT.BUS_ERR. -/
def execLegacyBadAddress (write : Bool) (off : Fin 32) (b : Byte) (s : State) : Res :=
  finish s (onLegacy (if write then legacyWr (32 + off.val) b else legacyRd (32 + off.val)) s)

/-- The LO registers and LPD0 to LPD2, whose write goes to the write latch (R1112). -/
def loWrites (off : Nat) : Bool := off == 0x0E || off == 0x12 || off == 0x14 || off == 0x15 || off == 0x16

/-- LEGACY_LO_WRITE (R1112): the byte enters the shared write latch at its register's position. -/
def execLegacyLoWrite (off : Fin 32) (b : Byte) (s : State) : Res :=
  finish s (if loWrites off.val then onLegacy (legacyWr off.val b) s else s)

/-- The HI registers and LPD3, whose write takes effect with the write latch (R1113). -/
def hiWrites (off : Nat) : Bool := off == 0x0F || off == 0x13 || off == 0x17

/-- LEGACY_HI_WRITE (R1113, R1114, R1119-R1121): the byte combines with the write latch and takes effect. -/
def execLegacyHiWrite (off : Fin 32) (b : Byte) (s : State) : Res :=
  finish s (if hiWrites off.val then onLegacy (legacyWr off.val b) s else s)

/-- LEGACY_LO_READ (R1115): the whole value is fetched and fills the read latch. -/
def execLegacyLoRead (off : Fin 32) (s : State) : Res :=
  finish s (if legacyLo off.val then onLegacy (legacyRd off.val) s else s)

/-- LEGACY_HI_READ (R1116): the matching byte of the read latch. -/
def execLegacyHiRead (off : Fin 32) (s : State) : Res :=
  finish s (if (legacyHi off.val).isSome then onLegacy (legacyRd off.val) s else s)

/-- LFAN_SPD_WRITE (R1128). -/
def execLfanSpdWrite (b : Byte) (s : State) : Res := finish s (onLegacy (legacyWr 0x09 b) s)

/-- LEGACY_QUEUE_FULL_WAIT (R1123): a legacy write, LPD3 or LFAN_SPD, that finds the queue full is held by nWAIT. -/
def execLegacyQueueFullWait (fanSpd : Bool) (b : Byte) (s : State) : Res :=
  finish s (if 8 ≤ s.legacy.queue.length then onLegacy (legacyWr (if fanSpd then 0x09 else 0x17) b) s else s)

/-- LALARM_READ (R1124): the token is copied into the legacy acknowledge token. -/
def execLalarmRead (s : State) : Res := finish s (onLegacy (legacyRd 0x04) s)

/-- LACK_WRITE (R1125-R1127, R1138): one write of the two-write acknowledge. -/
def execLackWrite (b : Byte) (s : State) : Res := finish s (onLegacy (legacyWr 0x06 b) s)

/-- LCL_CMD (R1131): a command to client LCLIENT. -/
def execLclCmd (b : Byte) (s : State) : Res := finish s (onLegacy (legacyWr 0x0D b) s)

/-- LEGACY_LOG_READ (R1132): LOPCMD 0x01. -/
def execLegacyLogRead (s : State) : Res := finish s (onLegacy (legacyWr 0x19 0x01) s)

/-- LEGACY_PROOF (R1132): LOPCMD 0x02. -/
def execLegacyProof (s : State) : Res := finish s (onLegacy (legacyWr 0x19 0x02) s)

/-- CLIENT_SCAN (R1132): LOPCMD 0x03. -/
def execClientScan (s : State) : Res := finish s (onLegacy (legacyWr 0x19 0x03) s)

/-- LEGACY_ABORT (R1132): LOPCMD 0xFF. -/
def execLegacyAbort (s : State) : Res := finish s (onLegacy (legacyWr 0x19 0xFF) s)

/-- LOP_DATA_READ (R1133): the next result byte. -/
def execLopDataRead (s : State) : Res := finish s (onLegacy (legacyRd 0x1B) s)

/-- LSTAT_READ (R1118, R1135): LSTAT is returned and cleared. -/
def execLstatRead (s : State) : Res := finish s (onLegacy (legacyRd 0x02) s)

/-- LWAKE_READ (R1117): WAKE_CAUSE, as its own read. -/
def execLwakeRead (s : State) : Res := finish s (onLegacy (legacyRd 0x1E) s)

/-! ### Events of the window -/

/-- LEGACY_APPLY (R1122, R1136, R1138, R1139): in each apply window the oldest queued write is applied on its own. -/
def execLegacyApply (s : State) : Res :=
  finish s (if s.legacy.mode && atFrame s && passed s s.power.origin (400 * ms) && s.power.vmain && !s.power.inReset &&
      decide (s.legacy.lastFrame ≠ some (frameNo s)) then
      let s1 := settleFrame s
      legacyApply { s1 with legacy := { s1.legacy with lastFrame := some (frameNo s) } }
    else s)

/-- LACK_TIMEOUT (R1125, R1127): the second write has not come within 1 ms. -/
def execLackTimeout (s : State) : Res :=
  finish s (match s.legacy.ackAt with
    | some (t, _) => if t + ms < now s then ackFail s else s
    | none => s)

end Sys2Proof.Machine
end

