-- ==== Sys2Proof/Machine/Power.lean ====
section
/-!
DEFINITION. Power.lean: the commands of supplies, power states, wake, nRST and the first second
(06_power_reset_and_first_second.md).
-/

namespace Sys2Proof.Machine

/-! ### Supplies -/

/-- VMAIN_VALID (R303, R326, R333, R357, R1210, R1222): VMAIN rises to valid. During a flush the restart waits for it;
after VIGIL the VMAIN wake cause latches and the restart begins; from OFF the power-on reset of domain G follows as its
own command. While a warning is in force and no brown-out has come, the return is PFW_RECOVERED. -/
def execVmainValid (s : State) : Res :=
  finish s (if s.power.vmain then s
    else
      let s1 := nrstResumes { s with power := { s.power with vmain := true, mainAt := now s } }
      if s.power.flushing then { s1 with power := { s1.power with restartWaits := true } }
      else if s.power.st = .vigil then leaveReset 3 (latchWake 5 s1)
      else if s.power.st = .off then s1
      else mainRises s1)

/-- The power-fail warning (R419, R484, R939, R940, R1102, R1137, Table 06-4): PFW and its interrupt, the power-fail
record, the flush begins; the running operation fails with PFW; Glaze groups not landed are refused with PFW. -/
def powerFail (s : State) : State :=
  let s1 : State := { s with power := { s.power with pfw := true, flushing := true, flushStart := now s,
                                                     flushComplete := false, flushValid := true } }
  let s2 := evt 316 <| logPush 0x004 (s.power.vhold.setWidth 32) (setIrq 6 s1)
  legacyPfw (storeFlush (glazeAbort 5 (opFail 0x08 (proofAbort s2))))

/-- POWER_FAIL_WARNING: VMAIN below PFW for 20 us, in any state except VIGIL and OFF (R350, R354). -/
def execPowerFailWarning (s : State) : Res :=
  finish s (if s.power.vmain && !s.power.pfw && s.power.st ≠ .vigil && s.power.st ≠ .off then powerFail s else s)

/-- PFW_RECOVERED (R332): VMAIN is back above its valid threshold before brown-out. -/
def execPfwRecovered (s : State) : Res :=
  finish s (if s.power.pfw && s.power.vmain then
      { s with power := { s.power with pfw := false, dips := s.power.dips + 1 } }
    else s)

/-- A brown-out is over with its flush: K and N are removed; VIGIL, or OFF with nothing powered while VBAT is absent (Table 06-4,
R309, R311). -/
def fallEnds (s : State) : State :=
  let off := s.power.vbatAbsent
  let s1 := loseRetention { s with
    power := { s.power with
      pfw := false, storeReset := false, st := if off then .off else .vigil
      entryCnt := if off then s.power.entryCnt
        else tblSet (fun _ => 0) s.power.entryCnt 4 (tblGet (fun _ => 0) s.power.entryCnt 4 + 1) }
    sys := { s.sys with applied := if off then 0 else 1, checked := if off then 0 else s.sys.checked &&& 1, failed := 0, gated := 0 } }
  if off then groundOff s1 else s1

/-- BROWN_OUT (R25, R43, R112, R159, R303, R311, R769, R1216, Table 06-4): with no warning in force the warning is raised
at this instant; all domains but G, K and N are removed, outputs take their safe states, Tier 0 without a chirp. Domain
G goes on from VBAT, or from VHOLD until the flush completes; a flush that completed before the brown-out leaves nothing to wait
for. A restart that waited for VMAIN waits for it again (R333). -/
def execBrownOut (s : State) : Res :=
  finish s (if s.power.vmain then
      let s0 := if s.power.pfw then s else powerFail s
      let s1 : State := { s0 with
        power := { s0.power with vmain := false, brown := s0.power.brown + 1, restartWaits := false
                                 nrstHeld := now s - s.power.nrstLow.getD (now s) }
        sys := { s0.sys with applied := s0.sys.applied &&& 0x203, checked := s0.sys.checked &&& 0x203,
                             failed := s0.sys.failed &&& 0x203, gated := 0 } }
      let s2 := evt 317 (tierChange s0 (dropDomains s1))
      if s2.power.flushing then s2 else fallEnds s2
    else s)

/-- N takes the nRST that came during the flush (R351). -/
def storeResets (s : State) : State :=
  if s.power.storeReset then
    { s with
      power := { s.power with storeReset := false }
      store := { s.store with ready := false, scan := false, erasing := none } }
  else s

/-- FLUSH_COMPLETE (R23, R311, R329, R333, R351, R1206): FLUSH_LAST is written, and N takes an nRST that waited. After a brown-out K
and N are removed and the device enters VIGIL, or OFF while VBAT is absent; a return of VMAIN that waited restarts it. -/
def execFlushComplete (s : State) : Res :=
  finish s (if s.power.flushing then
      let s1 := storeResets (storeFlushDone { s with power := { s.power with
        flushing := false, flushComplete := true, flushValid := true
        flushDur := BitVec.ofNat 16 ((now s - s.power.flushStart) / 400) } })
      if s.power.restartWaits then
        leaveReset 3 (latchWake 5 { s1 with power := { s1.power with restartWaits := false, pfw := false, st := .vigil } })
      else if s.power.vmain then s1
      else fallEnds s1
    else s)

/-- VCORE_VANA_LOSS (R307): VCORE or VANA falls while VMAIN is valid; `core` and `ana` say what remains valid. The
domains fed from it are unavailable and unpowered; their outputs take their safe states; the tier falls. A flush keeps K and N
(R308). -/
def execVcoreVanaLoss (core ana : Bool) (s : State) : Res :=
  finish s (
    let p := { s.power with vcore := s.power.vcore && core, vana := s.power.vana && ana }
    let keep := fedDomains p.vmain p.vcore p.vana ||| heldUp s
    let s1 : State := { s with
      power := p
      sys := { s.sys with applied := s.sys.applied &&& keep, checked := s.sys.checked &&& keep,
                          failed := s.sys.failed &&& keep } }
    tierChange s (latchWake 6 (dropDomains s1)))

/-- VCORE_VANA_RETURN (R303): the supply rises to valid: a power-on reset of each domain it feeds, which clears every
fault latched within the domain; each is available again once its self-check passes. What the device removed at a brown-out stays
removed until the restart. -/
def execVcoreVanaReturn (core ana : Bool) (s : State) : Res :=
  finish s (
    let p := { s.power with vcore := s.power.vcore || core, vana := s.power.vana || ana }
    let fed := fedDomains p.vmain p.vcore p.vana
    let fresh := if !p.vmain || p.restartWaits then 0 else fed &&& ~~~s.sys.applied
    let s1 : State := { s with
      power := p, sys := { s.sys with applied := s.sys.applied ||| fresh, checked := s.sys.checked &&& ~~~fresh,
                                      failed := s.sys.failed &&& ~~~fresh } }
    tierChange s (domainsReset fresh s1))

/-- VFIELD_VALID_CHANGE (R1179): VFIELD valid or not, and its voltage; the OVERV qualification of every ball restarts. -/
def execVfieldValidChange (ok : Bool) (mv : Half) (s : State) : Res :=
  finish s (tierChange s (fieldOvervRestart { s with
    power := { s.power with vfield := ok }, field := { s.field with vfieldMv := mv } }))

/-- VBAT_ABSENT (R311, R356, R1225): VBAT has fallen below its absent threshold; without VMAIN the device enters OFF,
except during a flush, which keeps domain G until it completes. -/
def execVbatAbsent (s : State) : Res :=
  finish s (
    let s1 : State := { s with power := { s.power with vbat := false, vbatAbsent := true, vbatLow := false } }
    let s2 := raiseCause (832 + 1) 0 false (dropCause 832 0 s1)
    if !s.power.vmain && !s.power.flushing then
      groundOff { s2 with power := { s2.power with st := .off }, sys := { s2.sys with applied := 0, checked := 0 } }
    else tierChange s s2)

/-- VBAT_RETURN (R311): VBAT has risen above its power-on reset threshold; from OFF the power-on reset of domain G
follows as its own command. -/
def execVbatReturn (s : State) : Res :=
  finish s (tierChange s (dropCause (832 + 1) 0 { s with power := { s.power with vbat := true, vbatAbsent := false } }))

/-- VBAT_LOW (R356, R1225). -/
def execVbatLow (s : State) : Res :=
  finish s (if s.power.vbatAbsent then s
    else raiseCause 832 0 false { s with power := { s.power with vbatLow := true } })

/-- VBAT_LOW_RECOVER (R356, R1220). -/
def execVbatLowRecover (s : State) : Res :=
  finish s (dropCause 832 0 { s with power := { s.power with vbatLow := false } })

/-- VHOLD_THRESHOLD (R328, R356, R925): VHOLD crosses its charged threshold. HOLD_LOW is a trouble cause from 1 s after
the origin on, and write-through is in force while it is 1. -/
def execVholdThreshold (charged : Bool) (mv : Half) (s : State) : Res :=
  finish s (
    let s1 : State := { s with power := { s.power with holdLow := !charged, vhold := mv } }
    if charged then dropCause (832 + 2) 0 s1
    else if passed s s.power.origin sec then raiseCause (832 + 2) 0 false s1 else s1)

/-- X40_STOP (R201, R1204, R239, Table 04-3): the counter first advances by the sub-ticks from the last counted cycle to
the first edge of the new source; X40_FAIL while VMAIN is present, a trouble cause (13, 3), decided at the stop (log 129). No work of
another domain is tied to its boundaries (R1206): outputs without their function take the safe states (R25). -/
def execX40Stop (sub : Nat) (s : State) : Res :=
  finish s (if s.time.source = .x40 then
      let s1 : State := { s with time := { s.time with
        easel := s.time.easel + (if s.power.st = .off then 0 else sub), x40Ok := false, easelRtc := true, x40Fail := s.power.vmain
        source := if s.time.x32Since.isSome then .x32 else .rc, winOpen := none, discardCount := false } }
      let s2 := settleOuts (driveStop (crlySafe s1))
      tierChange s (if s.power.vmain then raiseCause (832 + 3) 0 false s2 else s2)
    else s)

/-! ### Power states (Table 06-3, R309-R316, R347) -/

/-- Entry max, plus exit max, plus 125 us, of DOZE, NAP and SLEEP in sub-ticks (R314). -/
def stateCost : PowerState → Nat
  | .doze => 5060
  | .nap => 7200
  | .sleep => 65000
  | _ => 0

/-- Domains a state removes: DOZE and NAP stop C and L, SLEEP removes all but G, K, S, Z and N. -/
def stateRemoves : PowerState → BitVec 12
  | .doze | .nap => 0x014
  | .sleep => 0xCF4
  | _ => 0

/-- Lanes whose entries lie in the domains a state removes (R284's domains). -/
def stateLanes : PowerState → List Nat
  | .doze | .nap => [0, 1, 2]
  | .sleep => [0, 1, 2, 3, 4, 5]
  | _ => []

/-- An entry of the given lanes is still to run in this tick. -/
def stillDue (s : State) (lanes : List Nat) : Bool :=
  canvasRuns s && (entries s).zipIdx.any fun p => lanes.contains p.1.lane && setActive s.canvas.run p.1.set &&
    p.1.due (majorOf (canvasTime s)) (minorOf (canvasTime s)) && laneRuns s p.1.lane && laneOrder s p.1.lane p.2

/-- The horizon of a state in sub-ticks (R313): the earliest of the next entry of a removed lane, the next RTC event
(`rtc`, from now) and the next major-frame boundary; 0 when it would remove a busy domain (R312) or an entry of a removed lane is
still to run in this tick. -/
def horizonOf (st : PowerState) (rtc : Option Nat) (s : State) : Nat :=
  if busyDomains s &&& stateRemoves st ≠ 0 ∨ stillDue s (stateLanes st) = true then 0
  else
    let frame := frameLen - pairTime s % frameLen
    let entry := match nextDueTick s (stateLanes st) with | some k => k * tickLen - now s | none => frame
    min frame (min entry (rtc.getD frame))

/-- POWER_STATE_CHOICE: the power manager enters the deepest state no deeper than CEIL whose cost fits its horizon
(R314); BUSY_LIM says that a busy domain excludes a deeper one, whether or not CEIL allows it (Table 06-9, worked example of
chapter 06). -/
def execPowerStateChoice (rtc : Option Nat) (at_ : Nat) (s : State) : Res :=
  let s0 := moveIn s at_
  finish s (if s0.power.st = .run && s0.power.vmain && !s0.power.inReset &&
        decide (s0.power.movingUntil ≤ now s0) then
      let fits (st : PowerState) (code : Nat) : Bool :=
        decide (code ≤ s0.power.ceil.toNat) && decide (stateCost st ≤ horizonOf st rtc s0)
      let busy (st : PowerState) : Bool := decide (busyDomains s0 &&& stateRemoves st ≠ 0)
      let enter (st : PowerState) (code : Nat) : State := evt (311 + code) { s0 with
        power := { s0.power with
          st := st, horizon := BitVec.ofNat 24 (horizonOf st rtc s0), horizonState := BitVec.ofNat 3 code
          exitAt := now s0 + horizonOf st rtc s0 - exitMax st
          busyLim := busy .sleep && decide (code < 3) || busy .nap && decide (code < 2)
          entryCnt := tblSet (fun _ => 0) s0.power.entryCnt code (tblGet (fun _ => 0) s0.power.entryCnt code + 1)
          movingUntil := if code = 3 then now s0 + 12000 else s0.power.movingUntil }
        sys := { s0.sys with gated := if code = 1 then 0 else stateRemoves st &&& s0.sys.applied } }
      if fits .sleep 3 then enter .sleep 3
      else if fits .nap 2 then enter .nap 2
      else if fits .doze 1 then enter .doze 1
      else s0
    else s0)

/-- SCHEDULED_EXIT (R315, R347): at the event time less the exit max; one that has not been commanded when its tick ends has begun
at that instant (MINOR_TICK). -/
def execScheduledExit (at_ : Nat) (s : State) : Res := finish s (exitMade (moveIn s at_))

/-- UNSCHEDULED_EXIT (R316): an event that needs a removed domain. -/
def execUnscheduledExit (at_ : Nat) (s : State) : Res :=
  let s0 := moveIn s at_
  finish s (if below s0 then exitState s0 else s0)

/-! ### Sleep requests and wake causes (R317-R327, R348, R349, R1217, R1218) -/

/-- WAKE_CAUSE_LATCH (R321, R323, R325, R326, R349): a cause of Table 06-8 occurs. -/
def execWakeCauseLatch (c : Fin 7) (s : State) : Res := finish s (latchWake c.val s)

/-! ### Power-on reset of domain G -/

/-- GESSO_POR (R84, R85, R83, R120, R197, R243, R335, R343, R989, R1155): power-on reset of domain G. Everything but the
non-volatile array takes its reset value; easel time starts at 0, advanced from the RC oscillator; the straps and the
supplies present are taken; Gesso latches the first valid copy of its record, or the default record. With domain S powered
its safety core leaves reset (R164). -/
def execGessoPor (mside p8 x32 : Bool) (s : State) : Res :=
  let (r, crc, dup, dflt) := recLatch s.mem
  let z := State.reset
  let fed := if s.power.vmain then fedDomains true s.power.vcore s.power.vana else 1
  finish s <| (if s.power.vmain then nrstStands else id) { z with
    pending := s.pending, mem := s.mem, free := s.free
    power := { z.power with nrstLow := if s.power.nrstLow.isSome || (s.power.masked && s.power.nrstHigh.isNone) then some 0 else none
                            vmain := s.power.vmain, vcore := s.power.vcore, vana := s.power.vana,
                            vfield := s.power.vfield, vbat := s.power.vbat, vhold := s.power.vhold,
                            vbatLow := s.power.vbatLow, vbatAbsent := s.power.vbatAbsent,
                            st := if s.power.vmain then .run else .vigil }
    sys := { z.sys with applied := fed }
    field := { z.field with scanAt := if s.power.vmain then some (2 * ms) else none }
    store := { z.store with
      keys := s.store.keys, erases := s.store.erases, flaws := s.store.flaws, dumpTags := s.store.dumpTags }
    safety := { z.safety with causes :=
      (s.safety.causes.filter fun c => decide (832 ≤ c.code) && decide (c.code < 834)).map fun c => { c with acked := false } }
    legacy := { z.legacy with p8 := p8, mode := p8 }
    time := { z.time with x32Run := x32, x32Since := if x32 then some 0 else none }
    mirror := { z.mirror with mside := mside }
    gesso := { z.gesso with record := r, cfgCrc := crc, copyDup := dup, dflt := dflt, cfgDefault := dflt
                            coreReset := if fed.getLsbD 3 then some 0 else none } }

/-! ### nRST (R334-R344, R351-R353) -/

/-- NRST_ASSERT: nRST has been low for `ns` nanoseconds. Below 1 us nothing; from 2 us on it takes effect; between, the
free value decides. It has no effect in VIGIL or OFF or while masked; a level that stands when VMAIN returns acts then (R344). -/
def execNrstAssert (ns : Nat) (s : State) : Res :=
  finish s (
    let s0 : State := if ns < 2000 then { s with free := s.free + 1 } else s
    let acts := if ns < 1000 then false else if ns < 2000 then (Config.freeWord s.free).getLsbD 0 else true
    if !acts then s0
    else if s.power.masked then { s0 with power := { s0.power with nrstHigh := none } }
    else if s.power.nrstLow.isSome then s0
    else if !s.power.vmain || s.power.restartWaits then
      { s0 with power := { s0.power with nrstLow := some (now s0), nrstHeld := 0 } }
    else tierChange s0 (enterReset { s0 with power := { s0.power with
      nrstLow := some (now s0), nrstCnt := s0.power.nrstCnt + 1 } }))

/-- NRST_RELEASE (R344, R353, R362): the restart runs; while the pin is masked the release only starts its 100 ms (R342). -/
def execNrstRelease (s : State) : Res :=
  finish s (if s.power.masked then { s with power := { s.power with nrstHigh := some (now s) } }
    else if !s.power.vmain || s.power.restartWaits then { s with power := { s.power with nrstLow := none, nrstHeld := 0 } }
    else if s.power.nrstLow.isSome then leaveReset 1 { s with power := { s.power with
      nrstLow := none, rstNrst := true, rstPor := false } }
    else s)

/-- NRST_MASK (R338-R341): nRST held 8.0 s (no less than 7.6 s): masked, RST_STUCK, the domains are released and the
restart runs; the safety core logs RST_STUCK and chirps every trouble sounder once. -/
def execNrstMask (s : State) : Res :=
  finish s (match s.power.nrstLow with
    | some t =>
      if passed s t (7600 * ms) && s.power.vmain && !s.power.restartWaits then
        let s1 := leaveReset 2 { s with power := { s.power with
          nrstLow := none, nrstHigh := none, masked := true, rstStuck := true, rstNrst := true, rstPor := false } }
        chirpMask (BitVec.ofNat 4 (fld (par s (parAddr 4 0)) 2 4))
          (raiseCause (832 + 5) 0 false (logPush 0x003 0 s1))
      else s
    | none => s)

/-- NRST_UNMASK (R341, R342): the pin has been seen released for 100 ms. -/
def execNrstUnmask (s : State) : Res :=
  finish s (match s.power.nrstHigh with
    | some t =>
      if s.power.masked && passed s t (100 * ms) then
        let s1 : State := { s with power := { s.power with masked := false, nrstHigh := none } }
        if s.power.rstStuck then s1 else dropCause (832 + 5) 0 s1
      else s
    | none => s)

/-! ### The first second (R359, R363, R364, R439, R490, R605, R617) -/

/-- TIER2_FIRST_BEACON (R364, R605, R617): at the first even-numbered major-frame boundary at least 80 ms after the
Canvas started, Tier 2 is reached and the admission phase of 64 beacon periods begins with the first beacon, read back at the levels
`back`. -/
def execTier2FirstBeacon (back : List Int) (s : State) : Res :=
  finish s (match s.power.canvasStarted with
    | some t =>
      if s.power.beaconDue && atBeacon s && passed s t (80 * ms) then
        firstBeacon back (tierChange s { s with power := { s.power with starting := false, beaconDue := false } })
      else s
    | none => s)

end Sys2Proof.Machine
end

