-- ==== Sys2Proof/Machine/Dispatch.lean ====
section
/-!
DEFINITION. Dispatch.lean: the effect of every command on everything but the queue: one arm for each row.
-/

namespace Sys2Proof.Machine

def exec (i : Instr) (s : State) : Host.Outcome State Fault Refusal :=
  match i with
  | .domainSelfCheckDone d pass => Sys2Proof.Machine.execDomainSelfCheckDone d pass s
  | .gessoPor mside p8 x32 => Sys2Proof.Machine.execGessoPor mside p8 x32 s
  | .gessoSentinelSample n mv => Sys2Proof.Machine.execGessoSentinelSample n mv s
  | .gessoAlarmDwellExpiry n => Sys2Proof.Machine.execGessoAlarmDwellExpiry n s
  | .gessoTroubleDwellExpiry n => Sys2Proof.Machine.execGessoTroubleDwellExpiry n s
  | .gessoTroubleClear n => Sys2Proof.Machine.execGessoTroubleClear n s
  | .gessoZcFrame fe slot lv => Sys2Proof.Machine.execGessoZcFrame fe slot lv s
  | .gessoFirstFrameExpiry a => Sys2Proof.Machine.execGessoFirstFrameExpiry a s
  | .heartbeatAnswer err => Sys2Proof.Machine.execHeartbeatAnswer err s
  | .gessoSilence mask => Sys2Proof.Machine.execGessoSilence mask s
  | .gessoReset mask => Sys2Proof.Machine.execGessoReset mask s
  | .gessoChirp k proof => Sys2Proof.Machine.execGessoChirp k proof s
  | .gessoRecordCrcCheck mismatch => Sys2Proof.Machine.execGessoRecordCrcCheck mismatch s
  | .lockstepMismatch fault => Sys2Proof.Machine.execLockstepMismatch fault s
  | .safetyCoreRestartDone setOk => Sys2Proof.Machine.execSafetyCoreRestartDone setOk s
  | .monitorSample n mv => Sys2Proof.Machine.execMonitorSample n mv s
  | .scSentinelAlarmLatch n => Sys2Proof.Machine.execScSentinelAlarmLatch n s
  | .criterionDwellExpiry j => Sys2Proof.Machine.execCriterionDwellExpiry j s
  | .arbTimeout j => Sys2Proof.Machine.execArbTimeout j s
  | .majorFrameBoundary units noise fbErr => Sys2Proof.Machine.execMajorFrameBoundary units noise fbErr s
  | .x40Stop sub => Sys2Proof.Machine.execX40Stop sub s
  | .x40Restart cycles => Sys2Proof.Machine.execX40Restart cycles s
  | .disciplineCount n => Sys2Proof.Machine.execDisciplineCount n s
  | .calendarSecond cycles => Sys2Proof.Machine.execCalendarSecond cycles s
  | .calSet v => Sys2Proof.Machine.execCalSet v s
  | .comparatorEdge t level at_ => Sys2Proof.Machine.execComparatorEdge t level at_ s
  | .toothCandidate t at_ => Sys2Proof.Machine.execToothCandidate t at_ s
  | .toothSynthesis t rising at_ => Sys2Proof.Machine.execToothSynthesis t rising at_ s
  | .toothAnchoredEvent t h lv backE backL => Sys2Proof.Machine.execToothAnchoredEvent t h lv backE backL s
  | .copy ix => Sys2Proof.Machine.execCopy ix s
  | .scale ix => Sys2Proof.Machine.execScale ix s
  | .limit ix => Sys2Proof.Machine.execLimit ix s
  | .compare ix => Sys2Proof.Machine.execCompare ix s
  | .logic ix => Sys2Proof.Machine.execLogic ix s
  | .timer ix => Sys2Proof.Machine.execTimer ix s
  | .lowpass ix => Sys2Proof.Machine.execLowpass ix s
  | .median ix => Sys2Proof.Machine.execMedian ix s
  | .table8 ix => Sys2Proof.Machine.execTable8 ix s
  | .sched ix => Sys2Proof.Machine.execSched ix s
  | .clientIn ix => Sys2Proof.Machine.execClientIn ix s
  | .clientOut ix => Sys2Proof.Machine.execClientOut ix s
  | .fanSup ix => Sys2Proof.Machine.execFanSup ix s
  | .drvSup ix => Sys2Proof.Machine.execDrvSup ix s
  | .relay ix => Sys2Proof.Machine.execRelay ix s
  | .hostpub ix => Sys2Proof.Machine.execHostpub ix s
  | .log ix => Sys2Proof.Machine.execLog ix s
  | .digest ix => Sys2Proof.Machine.execDigest ix s
  | .cmp2 ix done => Sys2Proof.Machine.execCmp2 ix done s
  | .cmp3 ix done => Sys2Proof.Machine.execCmp3 ix done s
  | .prof ix => Sys2Proof.Machine.execProf ix s
  | .pent ix => Sys2Proof.Machine.execPent ix s
  | .convStart ix => Sys2Proof.Machine.execConvStart ix s
  | .convRead ix => Sys2Proof.Machine.execConvRead ix s
  | .convArb ix => Sys2Proof.Machine.execConvArb ix s
  | .openwire ix => Sys2Proof.Machine.execOpenwire ix s
  | .pwm ix => Sys2Proof.Machine.execPwm ix s
  | .sixstep ix => Sys2Proof.Machine.execSixstep ix s
  | .dtc ix => Sys2Proof.Machine.execDtc ix s
  | .shunt ix => Sys2Proof.Machine.execShunt ix s
  | .cmdin ix mv high period edges level => Sys2Proof.Machine.execCmdin ix mv high period edges level s
  | .fanPwm ix => Sys2Proof.Machine.execFanPwm ix s
  | .tach ix => Sys2Proof.Machine.execTach ix s
  | .bbBeacon ix => Sys2Proof.Machine.execBbBeacon ix s
  | .bbSlot ix => Sys2Proof.Machine.execBbSlot ix s
  | .bbRx ix => Sys2Proof.Machine.execBbRx ix s
  | .bbTx ix => Sys2Proof.Machine.execBbTx ix s
  | .zcTx ix => Sys2Proof.Machine.execZcTx ix s
  | .zcRx ix => Sys2Proof.Machine.execZcRx ix s
  | .stCnt ix => Sys2Proof.Machine.execStCnt ix s
  | .stLogq ix => Sys2Proof.Machine.execStLogq ix s
  | .strokeOverrun ix => Sys2Proof.Machine.execStrokeOverrun ix s
  | .laneFault lane => Sys2Proof.Machine.execLaneFault lane s
  | .vcoreVanaLoss core ana => Sys2Proof.Machine.execVcoreVanaLoss core ana s
  | .vholdThreshold charged mv => Sys2Proof.Machine.execVholdThreshold charged mv s
  | .powerStateChoice rtc at_ => Sys2Proof.Machine.execPowerStateChoice rtc at_ s
  | .scheduledExit at_ => Sys2Proof.Machine.execScheduledExit at_ s
  | .unscheduledExit at_ => Sys2Proof.Machine.execUnscheduledExit at_ s
  | .sleepReqWrite ceil => Sys2Proof.Machine.execSleepReqWrite ceil s
  | .wakeCauseLatch c => Sys2Proof.Machine.execWakeCauseLatch c s
  | .nrstAssert ns => Sys2Proof.Machine.execNrstAssert ns s
  | .tier2FirstBeacon back => Sys2Proof.Machine.execTier2FirstBeacon back s
  | .unmappedOffsetAccess write off v => Sys2Proof.Machine.execUnmappedOffsetAccess write off v s
  | .registerWrite off v => Sys2Proof.Machine.execRegisterWrite off v s
  | .paddrWrite v => Sys2Proof.Machine.execPaddrWrite v s
  | .pdataLoWrite v => Sys2Proof.Machine.execPdataLoWrite v s
  | .pdataHiWrite v ok => Sys2Proof.Machine.execPdataHiWrite v ok s
  | .keyInWrite v => Sys2Proof.Machine.execKeyInWrite v s
  | .keyExpiry k => Sys2Proof.Machine.execKeyExpiry k s
  | .keyLockExpiry k => Sys2Proof.Machine.execKeyLockExpiry k s
  | .clientSelWrite v => Sys2Proof.Machine.execClientSelWrite v s
  | .clientDataHiWrite v => Sys2Proof.Machine.execClientDataHiWrite v s
  | .opComplete bad => Sys2Proof.Machine.execOpComplete bad s
  | .resultTailWrite v => Sys2Proof.Machine.execResultTailWrite v s
  | .hostHbWrite v => Sys2Proof.Machine.execHostHbWrite v s
  | .glazePersist g => Sys2Proof.Machine.execGlazePersist g s
  | .svcReqWrite kind ret index tag => Sys2Proof.Machine.execSvcReqWrite kind ret index tag s
  | .repeaterProbePeriod lq => Sys2Proof.Machine.execRepeaterProbePeriod lq s
  | .zcFrameReceived t slot lv => Sys2Proof.Machine.execZcFrameReceived t slot lv s
  | .zcSlotCombine t slot => Sys2Proof.Machine.execZcSlotCombine t slot s
  | .noiseFloorMeasure t core gesso => Sys2Proof.Machine.execNoiseFloorMeasure t core gesso s
  | .hubFrameAged t => Sys2Proof.Machine.execHubFrameAged t s
  | .zcTxRetry t backE backL => Sys2Proof.Machine.execZcTxRetry t backE backL s
  | .beaconBoundary back silentRpt => Sys2Proof.Machine.execBeaconBoundary back silentRpt s
  | .repeaterWithdrawn id => Sys2Proof.Machine.execRepeaterWithdrawn id s
  | .bbTxRetry t back => Sys2Proof.Machine.execBbTxRetry t back s
  | .bbNoisy t level => Sys2Proof.Machine.execBbNoisy t level s
  | .bbFrameReceived win p d ok bytes est lqDn => Sys2Proof.Machine.execBbFrameReceived win p d ok bytes est lqDn s
  | .clientDrop id => Sys2Proof.Machine.execClientDrop id s
  | .supervLost id => Sys2Proof.Machine.execSupervLost id s
  | .conversionBegin m => Sys2Proof.Machine.execConversionBegin m s
  | .convResultDelivery m v ref ovl => Sys2Proof.Machine.execConvResultDelivery m v ref ovl s
  | .referenceCheck m good => Sys2Proof.Machine.execReferenceCheck m good s
  | .openwireTestResult m v ref ovl => Sys2Proof.Machine.execOpenwireTestResult m v ref ovl s
  | .streamRestart m => Sys2Proof.Machine.execStreamRestart m s
  | .arbiterResult v ref ovl => Sys2Proof.Machine.execArbiterResult v ref ovl s
  | .delay1Output n => Sys2Proof.Machine.execDelay1Output n s
  | .pentTabDataWrite v => Sys2Proof.Machine.execPentTabDataWrite v s
  | .pentWaitClear ix => Sys2Proof.Machine.execPentWaitClear ix s
  | .pwmPeriodBoundary m k u v w => Sys2Proof.Machine.execPwmPeriodBoundary m k u v w s
  | .bemfSample m k lv => Sys2Proof.Machine.execBemfSample m k lv s
  | .commutation m => Sys2Proof.Machine.execCommutation m s
  | .blindCommutation m => Sys2Proof.Machine.execBlindCommutation m s
  | .hallEdge m code hold => Sys2Proof.Machine.execHallEdge m code hold s
  | .ndfltAssert m => Sys2Proof.Machine.execNdfltAssert m s
  | .speedTimeout m => Sys2Proof.Machine.execSpeedTimeout m s
  | .cmdinStaticTimeout m level => Sys2Proof.Machine.execCmdinStaticTimeout m level s
  | .cmdinAutoDetect m period => Sys2Proof.Machine.execCmdinAutoDetect m period s
  | .catchEnd m => Sys2Proof.Machine.execCatchEnd m s
  | .brakeExit m => Sys2Proof.Machine.execBrakeExit m s
  | .brakeTimeout m => Sys2Proof.Machine.execBrakeTimeout m s
  | .alignEnd m => Sys2Proof.Machine.execAlignEnd m s
  | .rampHandover m => Sys2Proof.Machine.execRampHandover m s
  | .rampTimeout m => Sys2Proof.Machine.execRampTimeout m s
  | .kickPulseEnd m => Sys2Proof.Machine.execKickPulseEnd m s
  | .kickListenEnd m => Sys2Proof.Machine.execKickListenEnd m s
  | .pauseEnd m => Sys2Proof.Machine.execPauseEnd m s
  | .retryReset m => Sys2Proof.Machine.execRetryReset m s
  | .heldExit m nDflt => Sys2Proof.Machine.execHeldExit m nDflt s
  | .tachEdge f => Sys2Proof.Machine.execTachEdge f s
  | .fanStartTimeout f => Sys2Proof.Machine.execFanStartTimeout f s
  | .fanStallTimeout f => Sys2Proof.Machine.execFanStallTimeout f s
  | .tachLineTestPhase f mv => Sys2Proof.Machine.execTachLineTestPhase f mv s
  | .fanWaitEnd f => Sys2Proof.Machine.execFanWaitEnd f s
  | .fanAttemptReset f => Sys2Proof.Machine.execFanAttemptReset f s
  | .fanBlockedExit f => Sys2Proof.Machine.execFanBlockedExit f s
  | .loadFlagSet n flag ix => Sys2Proof.Machine.execLoadFlagSet n flag ix s
  | .loadFlagClear n flag ix => Sys2Proof.Machine.execLoadFlagClear n flag ix s
  | .proofChirpMeasure k ua => Sys2Proof.Machine.execProofChirpMeasure k ua s
  | .msyncIRise lowFor => Sys2Proof.Machine.execMsyncIRise lowFor s
  | .dctlProgram page reg ok => Sys2Proof.Machine.execDctlProgram page reg ok s
  | .dctlShadowProgram page reg ok => Sys2Proof.Machine.execDctlShadowProgram page reg ok s
  | .dctlErase page reg => Sys2Proof.Machine.execDctlErase page reg s
  | .dbufWrite ix v => Sys2Proof.Machine.execDbufWrite ix v s
  | .refreshScanStart found => Sys2Proof.Machine.execRefreshScanStart found s
  | .sectorRefresh sec => Sys2Proof.Machine.execSectorRefresh sec s
  | .storeRestartRebuild found => Sys2Proof.Machine.execStoreRestartRebuild found s
  | .tornSectorRepair sec => Sys2Proof.Machine.execTornSectorRepair sec s
  | .inputRecord k ws => Sys2Proof.Machine.execInputRecord k ws s
  | .summaryRecord f digest state err => Sys2Proof.Machine.execSummaryRecord f digest state err s
  | .forwardRecord x => Sys2Proof.Machine.execForwardRecord x s
  | .stateRecord x => Sys2Proof.Machine.execStateRecord x s
  | .statusRecord m => Sys2Proof.Machine.execStatusRecord m s
  | .recordResend seq => Sys2Proof.Machine.execRecordResend seq s
  | .mirrorHeartbeatLoss nmactP => Sys2Proof.Machine.execMirrorHeartbeatLoss nmactP s
  | .mirrorSwitch force => Sys2Proof.Machine.execMirrorSwitch force s
  | .tlockSet phase pull => Sys2Proof.Machine.execTlockSet phase pull s
  | .tlockClear phase pull => Sys2Proof.Machine.execTlockClear phase pull s
  | .sideConflictResolve higher nmactP => Sys2Proof.Machine.execSideConflictResolve higher nmactP s
  | .mirrorRoleDecision nmactP => Sys2Proof.Machine.execMirrorRoleDecision nmactP s
  | .sentinelInjection n mv => Sys2Proof.Machine.execSentinelInjection n mv s
  | .injectedFrame t second => Sys2Proof.Machine.execInjectedFrame t second s
  | .headTimeout id => Sys2Proof.Machine.execHeadTimeout id s
  | .proofStepEnd m => Sys2Proof.Machine.execProofStepEnd m s
  | .legacyBadAddress write off b => Sys2Proof.Machine.execLegacyBadAddress write off b s
  | .legacyLoWrite off b => Sys2Proof.Machine.execLegacyLoWrite off b s
  | .legacyHiWrite off b => Sys2Proof.Machine.execLegacyHiWrite off b s
  | .legacyQueueFullWait fanSpd b => Sys2Proof.Machine.execLegacyQueueFullWait fanSpd b s
  | .legacyLoRead off => Sys2Proof.Machine.execLegacyLoRead off s
  | .legacyHiRead off => Sys2Proof.Machine.execLegacyHiRead off s
  | .lfanSpdWrite b => Sys2Proof.Machine.execLfanSpdWrite b s
  | .lackWrite b => Sys2Proof.Machine.execLackWrite b s
  | .lclCmd b => Sys2Proof.Machine.execLclCmd b s
  | .ringScan scan vana vf tj => Sys2Proof.Machine.execRingScan scan vana vf tj s
  | .ballStateSet b c => Sys2Proof.Machine.execBallStateSet b c s
  | .ballStateClear b c => Sys2Proof.Machine.execBallStateClear b c s
  | .reverseProbe n mv => Sys2Proof.Machine.execReverseProbe n mv s
  | .vcoreVanaReturn core ana => Sys2Proof.Machine.execVcoreVanaReturn core ana s
  | .vfieldValidChange ok mv => Sys2Proof.Machine.execVfieldValidChange ok mv s
  | .chirpEnd k => Sys2Proof.Machine.execChirpEnd k s
  | .rclRegisterRead off => Sys2Proof.Machine.execRclRegisterRead off s
  | .emergencySetChange => Sys2Proof.Machine.execEmergencySetChange s
  | .comfortSetReturn => Sys2Proof.Machine.execComfortSetReturn s
  | .canvasRunInEnd => Sys2Proof.Machine.execCanvasRunInEnd s
  | .gessoArmed => Sys2Proof.Machine.execGessoArmed s
  | .gessoZcDecodeLive => Sys2Proof.Machine.execGessoZcDecodeLive s
  | .scFaultLatch => Sys2Proof.Machine.execScFaultLatch s
  | .scFaultClear => Sys2Proof.Machine.execScFaultClear s
  | .scFirstAnswerTimeout => Sys2Proof.Machine.execScFirstAnswerTimeout s
  | .gessoRelatch => Sys2Proof.Machine.execGessoRelatch s
  | .gessoRelatchDone => Sys2Proof.Machine.execGessoRelatchDone s
  | .gessoTroubleChirp => Sys2Proof.Machine.execGessoTroubleChirp s
  | .safeRecordReload => Sys2Proof.Machine.execSafeRecordReload s
  | .regionACheck => Sys2Proof.Machine.execRegionACheck s
  | .snapshotCompare => Sys2Proof.Machine.execSnapshotCompare s
  | .safetyTroubleChirp => Sys2Proof.Machine.execSafetyTroubleChirp s
  | .ackSilence => Sys2Proof.Machine.execAckSilence s
  | .ackReset => Sys2Proof.Machine.execAckReset s
  | .ackTroubleAck => Sys2Proof.Machine.execAckTroubleAck s
  | .minorTick => Sys2Proof.Machine.execMinorTick s
  | .hyperframeBoundary => Sys2Proof.Machine.execHyperframeBoundary s
  | .x32Stop => Sys2Proof.Machine.execX32Stop s
  | .x32RunResume => Sys2Proof.Machine.execX32RunResume s
  | .x32OkReturn => Sys2Proof.Machine.execX32OkReturn s
  | .easelLoRead => Sys2Proof.Machine.execEaselLoRead s
  | .verificationDone => Sys2Proof.Machine.execVerificationDone s
  | .canvasSwap => Sys2Proof.Machine.execCanvasSwap s
  | .canvasStart => Sys2Proof.Machine.execCanvasStart s
  | .vmainValid => Sys2Proof.Machine.execVmainValid s
  | .powerFailWarning => Sys2Proof.Machine.execPowerFailWarning s
  | .flushComplete => Sys2Proof.Machine.execFlushComplete s
  | .pfwRecovered => Sys2Proof.Machine.execPfwRecovered s
  | .brownOut => Sys2Proof.Machine.execBrownOut s
  | .vbatAbsent => Sys2Proof.Machine.execVbatAbsent s
  | .vbatReturn => Sys2Proof.Machine.execVbatReturn s
  | .vbatLow => Sys2Proof.Machine.execVbatLow s
  | .wakeSequenceEnd => Sys2Proof.Machine.execWakeSequenceEnd s
  | .wakeCauseRead => Sys2Proof.Machine.execWakeCauseRead s
  | .nrstRelease => Sys2Proof.Machine.execNrstRelease s
  | .nrstMask => Sys2Proof.Machine.execNrstMask s
  | .nrstUnmask => Sys2Proof.Machine.execNrstUnmask s
  | .busrdy => Sys2Proof.Machine.execBusrdy s
  | .busAccessDiscard => Sys2Proof.Machine.execBusAccessDiscard s
  | .nwaitTimeout => Sys2Proof.Machine.execNwaitTimeout s
  | .tickNowRead => Sys2Proof.Machine.execTickNowRead s
  | .evtDataLoRead => Sys2Proof.Machine.execEvtDataLoRead s
  | .opres0Read => Sys2Proof.Machine.execOpres0Read s
  | .statRead => Sys2Proof.Machine.execStatRead s
  | .pdataLoRead => Sys2Proof.Machine.execPdataLoRead s
  | .pdataHiRead => Sys2Proof.Machine.execPdataHiRead s
  | .immediateParamApply => Sys2Proof.Machine.execImmediateParamApply s
  | .keyCheck => Sys2Proof.Machine.execKeyCheck s
  | .clientSnap => Sys2Proof.Machine.execClientSnap s
  | .clientSnapComplete => Sys2Proof.Machine.execClientSnapComplete s
  | .clientDataLoRead => Sys2Proof.Machine.execClientDataLoRead s
  | .clientDataHiRead => Sys2Proof.Machine.execClientDataHiRead s
  | .clientCmdGo => Sys2Proof.Machine.execClientCmdGo s
  | .storeWrite => Sys2Proof.Machine.execStoreWrite s
  | .storeErase => Sys2Proof.Machine.execStoreErase s
  | .storeRead => Sys2Proof.Machine.execStoreRead s
  | .canvasChunk => Sys2Proof.Machine.execCanvasChunk s
  | .canvasVerify => Sys2Proof.Machine.execCanvasVerify s
  | .lineSurvey => Sys2Proof.Machine.execLineSurvey s
  | .proofRun => Sys2Proof.Machine.execProofRun s
  | .logExport => Sys2Proof.Machine.execLogExport s
  | .clientQuery => Sys2Proof.Machine.execClientQuery s
  | .keySet => Sys2Proof.Machine.execKeySet s
  | .abort => Sys2Proof.Machine.execAbort s
  | .opFirstWork => Sys2Proof.Machine.execOpFirstWork s
  | .hostSilenceDeclared => Sys2Proof.Machine.execHostSilenceDeclared s
  | .hostSilenceEnd => Sys2Proof.Machine.execHostSilenceEnd s
  | .glazeCommit => Sys2Proof.Machine.execGlazeCommit s
  | .glazeDiscard => Sys2Proof.Machine.execGlazeDiscard s
  | .glazeApply => Sys2Proof.Machine.execGlazeApply s
  | .maskChange => Sys2Proof.Machine.execMaskChange s
  | .routeUpdateEffect => Sys2Proof.Machine.execRouteUpdateEffect s
  | .admissionPhaseEnd => Sys2Proof.Machine.execAdmissionPhaseEnd s
  | .admitForget => Sys2Proof.Machine.execAdmitForget s
  | .clientRecordUpdate => Sys2Proof.Machine.execClientRecordUpdate s
  | .commandAged => Sys2Proof.Machine.execCommandAged s
  | .arbiterResampleBegin => Sys2Proof.Machine.execArbiterResampleBegin s
  | .convQLoRead => Sys2Proof.Machine.execConvQLoRead s
  | .convQHiRead => Sys2Proof.Machine.execConvQHiRead s
  | .pentTabDataRead => Sys2Proof.Machine.execPentTabDataRead s
  | .alarmPatternInterval => Sys2Proof.Machine.execAlarmPatternInterval s
  | .cntClr => Sys2Proof.Machine.execCntClr s
  | .shadowWriteback => Sys2Proof.Machine.execShadowWriteback s
  | .checkpoint => Sys2Proof.Machine.execCheckpoint s
  | .dumpConsumed => Sys2Proof.Machine.execDumpConsumed s
  | .refreshScanDone => Sys2Proof.Machine.execRefreshScanDone s
  | .mirrorLaneFail => Sys2Proof.Machine.execMirrorLaneFail s
  | .frameReplay => Sys2Proof.Machine.execFrameReplay s
  | .digestCompare => Sys2Proof.Machine.execDigestCompare s
  | .summaryTimeout => Sys2Proof.Machine.execSummaryTimeout s
  | .stateTransferStart => Sys2Proof.Machine.execStateTransferStart s
  | .stateTransferDone => Sys2Proof.Machine.execStateTransferDone s
  | .mirrorXferReq => Sys2Proof.Machine.execMirrorXferReq s
  | .switchoverB1 => Sys2Proof.Machine.execSwitchoverB1 s
  | .switchoverB2 => Sys2Proof.Machine.execSwitchoverB2 s
  | .proofScheduledStart => Sys2Proof.Machine.execProofScheduledStart s
  | .proofPostpone24h => Sys2Proof.Machine.execProofPostpone24h s
  | .proofRunEnd => Sys2Proof.Machine.execProofRunEnd s
  | .evtCfgApply => Sys2Proof.Machine.execEvtCfgApply s
  | .evtClr => Sys2Proof.Machine.execEvtClr s
  | .legacyApply => Sys2Proof.Machine.execLegacyApply s
  | .lalarmRead => Sys2Proof.Machine.execLalarmRead s
  | .lackTimeout => Sys2Proof.Machine.execLackTimeout s
  | .legacyLogRead => Sys2Proof.Machine.execLegacyLogRead s
  | .legacyProof => Sys2Proof.Machine.execLegacyProof s
  | .clientScan => Sys2Proof.Machine.execClientScan s
  | .legacyAbort => Sys2Proof.Machine.execLegacyAbort s
  | .lopDataRead => Sys2Proof.Machine.execLopDataRead s
  | .lstatRead => Sys2Proof.Machine.execLstatRead s
  | .lwakeRead => Sys2Proof.Machine.execLwakeRead s
  | .vbatLowRecover => Sys2Proof.Machine.execVbatLowRecover s

end Sys2Proof.Machine
end

