-- ==== Sys2Proof/Safety.lean ====
section
/-!
DEFINITION. Safety.lean: the words in which statements speak of a command: what it answers, the settled tier, and a state
without what the reports of the block write, and the parts of the state that each command can write.
-/

namespace Sys2Proof.Machine

/-- Command c at state s answers a next state, and P holds of it. -/
def Answers (c : Instr) (s : State) (P : State → Prop) : Prop := ∃ t, exec c s = .next t ∧ P t

/-- The tier in force is the highest whose domains, supplies and inputs are available (R20). -/
abbrev Settled (s : State) : Prop := s.sys.tier = tierOf s

/-- A sentinel input is in use or a mains phase present; the domains of Tier 1 are available (G, K, S, Z, N), its three supplies are
valid and the 40 MHz crystal runs and is valid (Table 01-1). -/
def Tier1Inputs (s : State) : Prop :=
  ((∃ n < 16, recEn s.gesso.record n = true) ∨ ∃ t < 3, phaseOn s t = true) ∧
    (∀ d ∈ [0, 1, 3, 8, 9], (domAvail s).getLsbD d = true) ∧ s.power.vmain = true ∧ s.power.vcore = true ∧
    s.power.vana = true ∧ s.time.x40Ok = true

/-- What Tier 2 needs beside Tier 1: all twelve domains, VBAT and VFIELD, the running 32.768 kHz crystal, the three mains
phases, and the start-up behind it (Table 01-1, R364). -/
def Tier2Inputs (s : State) : Prop :=
  (∀ d < 12, (domAvail s).getLsbD d = true) ∧ s.power.vbat = true ∧ s.power.vfield = true ∧ s.time.x32Run = true ∧
    (∀ t < 3, phaseOn s t = true) ∧ s.power.starting = false

/-- A host access to the direct registers is carried out at once: VMAIN is valid, BUSRDY is reached, nothing holds the bus
and no wake sequence runs (R359, R370, R327), and no apply window is due (R434). -/
abbrev BusOpen (s : State) : Prop :=
  s.power.vmain = true ∧ s.power.busrdy = true ∧ s.host.nWaitLow = false ∧ s.power.st ≠ .sleep ∧
    s.power.movingUntil ≤ now s ∧ windowDue s = false

/-- A state without what reports write: event counters, the fault log's queue, interrupt flags and their ticks, wake causes,
hub frames, trouble causes, the last broadcast, the last chirps, the event work that waits for a reserve, which entries the lanes
have run, sounders, the instants of driver switching and the load counters, and the model's counter of free values. -/
def sansReports (s : State) : State := { s with
  free := 0
  evt := { s.evt with live := [], late := [] }
  store := { s.store with ord := 0, logQ := [], logWords := 0, logLost := 0, lostDue := false }
  host := { s.host with irqStat := 0, irqTick := [], irqAt := [] }
  legacy := { s.legacy with stat := 0, statAt := [] }
  power := { s.power with wake := 0, wakeFirst := 0, wakeTimed := 0, wakeTs := [], wakeAt := [], wakeSeq := false, movingUntil := 0 }
  zc := { s.zc with tracks := [] }
  safety := { s.safety with causes := [], lastBcast := none, lastChirp := none }
  canvas := { s.canvas with work := [], ran := [], ranAt := 0, overran := [] }
  gesso := { s.gesso with tier0Fault := false, lastChirp := none }
  pads := { s.pads with snd := [], lastSwitch := [] }
  fans := { s.fans with loads := [] } }

/-- A state without what reports and a tier change write: two states that agree in it differ in reports and tier only. -/
def bare (s : State) : State :=
  let u := sansReports s
  { u with sys := { u.sys with tier := 0, tierLog := [] } }

/-- A state without what reports, a tier change and the following of outputs write. -/
def inner (s : State) : State :=
  let u := bare s
  { u with
    gesso := { u.gesso with outCmd := 0 }
    pads := { u.pads with cycleStart := none, interval := 0 }
    safety := { u.safety with cmdChanged := 0 } }

/-! ### What a command can write -/

/-- The parts of the state: the queue, the array, the parameters and the units. -/
inductive Part where
  | pending | mem | params | gesso | pads | safety | time | canvas | sys | power | host | glaze | zc | bb | clients
  | evt | conv | loop | drive | fans | store | mirror | field | proof | legacy
  deriving DecidableEq, Repr

/-- Two states agree in a part. -/
def Part.same (p : Part) (a b : State) : Prop :=
  match p with
  | .pending => a.pending = b.pending
  | .mem => a.mem = b.mem
  | .params => a.params = b.params
  | .gesso => a.gesso = b.gesso
  | .pads => a.pads = b.pads
  | .safety => a.safety = b.safety
  | .time => a.time = b.time
  | .canvas => a.canvas = b.canvas
  | .sys => a.sys = b.sys
  | .power => a.power = b.power
  | .host => a.host = b.host
  | .glaze => a.glaze = b.glaze
  | .zc => a.zc = b.zc
  | .bb => a.bb = b.bb
  | .clients => a.clients = b.clients
  | .evt => a.evt = b.evt
  | .conv => a.conv = b.conv
  | .loop => a.loop = b.loop
  | .drive => a.drive = b.drive
  | .fans => a.fans = b.fans
  | .store => a.store = b.store
  | .mirror => a.mirror = b.mirror
  | .field => a.field = b.field
  | .proof => a.proof = b.proof
  | .legacy => a.legacy = b.legacy

/-- The parts that a command can write, beside what `inner` leaves out: a command of the direct registers counts as an access
to any of them. -/
def writes (c : Instr) : List Part :=
  match c with
  | .domainSelfCheckDone .. => [.mirror, .safety, .sys]
  | .gessoPor .. | .vmainValid | .flushComplete | .nrstRelease | .nrstMask =>
    [.bb, .canvas, .clients, .conv, .drive, .evt, .fans, .field, .gesso, .glaze, .host, .legacy, .loop, .mem, .mirror,
     .pads, .params, .power, .proof, .safety, .store, .sys, .time, .zc]
  | .gessoTroubleDwellExpiry .. | .gessoTroubleClear .. | .gessoFirstFrameExpiry ..
  | .noiseFloorMeasure .. | .gessoSilence .. | .gessoReset .. | .gessoRecordCrcCheck .. | .gessoZcDecodeLive | .gessoRelatch =>
    [.gesso]
  | .gessoAlarmDwellExpiry .. | .gessoZcFrame .. => [.gesso, .proof]
  | .heartbeatAnswer .. => [.gesso, .pads, .safety]
  | .scFaultClear => [.gesso, .pads]
  | .gessoChirp .. | .log .. | .wakeCauseLatch .. | .hubFrameAged ..
  | .gessoTroubleChirp | .safetyTroubleChirp | .proofPostpone24h => []
  | .safetyCoreRestartDone .. => [.conv, .gesso, .safety]
  | .gessoRelatchDone => [.gesso, .safety]
  | .safeRecordReload => [.pads, .safety]
  | .monitorSample .. | .regionACheck | .snapshotCompare => [.safety]
  | .scSentinelAlarmLatch .. | .arbTimeout .. => [.pads, .proof, .safety]
  | .criterionDwellExpiry .. | .arbiterResult .. => [.conv, .pads, .proof, .safety]
  | .majorFrameBoundary .. =>
    [.canvas, .clients, .conv, .evt, .gesso, .host, .mem, .mirror, .pads, .proof, .safety, .store, .time]
  | .x40Stop .. => [.drive, .fans, .pads, .time]
  | .x40Restart .. | .disciplineCount .. | .comparatorEdge .. | .toothCandidate ..
  | .toothAnchoredEvent .. | .proofChirpMeasure .. | .chirpEnd .. | .x32RunResume | .zcTxRetry .. => [.time]
  | .toothSynthesis .. => [.gesso, .time]
  | .copy .. | .scale .. | .limit .. | .compare .. | .logic .. | .timer .. | .lowpass .. | .median .. | .table8 ..
  | .sched .. | .clientIn .. | .shunt .. | .tach .. | .verificationDone => [.canvas]
  | .clientOut .. | .bbRx .. | .zcRx .. | .supervLost .. | .clientRecordUpdate | .commandAged => [.clients, .store]
  | .fanSup .. => [.canvas, .fans]
  | .drvSup .. | .dtc .. | .cmdin .. => [.canvas, .drive]
  | .relay .. | .msyncIRise .. => [.pads]
  | .hostpub .. | .keyExpiry .. | .keyLockExpiry .. | .busAccessDiscard | .keyCheck
  | .hostSilenceDeclared | .hostSilenceEnd => [.host]
  | .digest .. | .inputRecord .. | .summaryRecord .. | .stateRecord .. | .statusRecord .. | .recordResend ..
  | .mirrorHeartbeatLoss .. | .tlockSet .. | .tlockClear .. | .mirrorLaneFail | .digestCompare
  | .summaryTimeout | .stateTransferStart | .stateTransferDone => [.mirror]
  | .cmp2 .. | .cmp3 .. | .prof .. | .pent .. | .delay1Output .. => [.canvas, .loop]
  | .convStart .. | .convArb .. | .openwire .. | .conversionBegin .. | .referenceCheck .. | .openwireTestResult ..
  | .streamRestart .. | .arbiterResampleBegin => [.conv]
  | .convRead .. => [.canvas, .conv]
  | .pwm .. | .sixstep .. | .hallEdge .. | .ndfltAssert .. | .speedTimeout .. | .cmdinStaticTimeout ..
  | .cmdinAutoDetect .. | .catchEnd .. | .brakeExit .. | .brakeTimeout .. | .alignEnd .. | .rampHandover ..
  | .rampTimeout .. | .kickPulseEnd .. | .kickListenEnd .. | .pauseEnd .. | .retryReset .. | .heldExit .. => [.drive]
  | .fanPwm .. | .tachEdge .. | .fanStartTimeout .. | .fanStallTimeout .. | .fanWaitEnd .. | .fanAttemptReset ..
  | .fanBlockedExit .. | .loadFlagSet .. | .loadFlagClear .. => [.fans]
  | .bbBeacon .. | .bbSlot .. | .bbTx .. | .bbTxRetry .. | .bbNoisy .. => [.bb]
  | .zcTx .. | .clientDrop .. | .admitForget => [.bb, .clients, .glaze, .store]
  | .stCnt .. | .refreshScanDone => [.store]
  | .stLogq .. | .refreshScanStart .. | .sectorRefresh .. | .tornSectorRepair .. | .shadowWriteback | .checkpoint | .dumpConsumed =>
    [.mem, .store]
  | .strokeOverrun .. => [.canvas, .loop, .mirror]
  | .laneFault .. => [.bb, .canvas, .conv, .drive, .fans, .host, .mirror, .pads, .proof, .safety, .zc]
  | .vcoreVanaLoss .. =>
    [.bb, .canvas, .conv, .drive, .fans, .field, .gesso, .host, .loop, .mirror, .pads, .power, .proof, .safety, .sys, .zc]
  | .vholdThreshold .. | .pfwRecovered | .vbatReturn | .vbatLow | .nrstUnmask | .vbatLowRecover =>
    [.power]
  | .powerStateChoice .. | .scheduledExit .. | .unscheduledExit .. => [.power, .sys, .time]
  | .nrstAssert .. =>
    [.bb, .canvas, .clients, .conv, .drive, .evt, .fans, .gesso, .glaze, .host, .legacy, .loop, .mem, .mirror, .pads,
     .params, .power, .proof, .safety, .store, .sys, .zc]
  | .unmappedOffsetAccess .. | .registerWrite .. | .paddrWrite .. | .pdataLoWrite .. | .pdataHiWrite ..
  | .keyInWrite .. | .clientSelWrite .. | .clientDataHiWrite .. | .hostHbWrite .. | .legacyBadAddress ..
  | .legacyLoWrite .. | .legacyHiWrite .. | .legacyQueueFullWait .. | .legacyLoRead .. | .legacyHiRead ..
  | .lfanSpdWrite .. | .lackWrite .. | .lclCmd .. | .rclRegisterRead .. | .tickNowRead | .evtDataLoRead | .opres0Read
  | .statRead | .pdataLoRead | .pdataHiRead | .clientSnap | .clientSnapComplete | .clientDataLoRead | .clientDataHiRead
  | .storeWrite | .storeErase | .storeRead | .canvasChunk | .canvasVerify | .lineSurvey | .proofRun | .logExport
  | .clientQuery | .keySet | .abort | .glazeDiscard | .lalarmRead | .legacyLogRead | .legacyProof | .clientScan
  | .legacyAbort | .lopDataRead | .lstatRead | .lwakeRead | .calSet .. | .easelLoRead | .resultTailWrite ..
  | .sleepReqWrite .. | .svcReqWrite .. | .pentTabDataWrite .. | .pentTabDataRead | .dctlProgram .. | .dctlShadowProgram ..
  | .dctlErase .. | .dbufWrite .. | .wakeCauseRead | .convQLoRead | .convQHiRead | .mirrorSwitch .. | .mirrorXferReq =>
    [.canvas, .clients, .conv, .evt, .gesso, .glaze, .host, .legacy, .loop, .mem, .mirror, .params, .power, .safety,
     .store, .time]
  | .opComplete .. => [.canvas, .host, .mem, .store]
  | .glazePersist .. => [.glaze]
  | .repeaterProbePeriod .. => [.clients, .glaze, .store]
  | .zcFrameReceived .. | .zcSlotCombine .. => [.clients, .pads, .proof, .safety, .store, .zc]
  | .beaconBoundary .. => [.bb, .clients, .glaze, .mirror, .store]
  | .repeaterWithdrawn .. | .routeUpdateEffect => [.bb, .clients, .store]
  | .bbFrameReceived .. => [.bb, .clients, .glaze, .pads, .proof, .safety, .store]
  | .convResultDelivery .. => [.conv, .pads, .proof, .safety, .store]
  | .pentWaitClear .. => [.loop]
  | .pwmPeriodBoundary .. | .bemfSample .. | .commutation .. | .blindCommutation .. => [.drive, .time]
  | .tachLineTestPhase .. => [.fans, .time]
  | .forwardRecord .. =>
    [.bb, .canvas, .clients, .conv, .drive, .glaze, .loop, .mem, .mirror, .pads, .proof, .safety, .store]
  | .sideConflictResolve .. | .switchoverB1 => [.bb, .drive, .fans, .mirror]
  | .mirrorRoleDecision .. => [.bb, .mirror]
  | .sentinelInjection .. => [.field, .gesso, .proof, .safety]
  | .injectedFrame .. => [.clients, .gesso, .pads, .proof, .safety, .store, .zc]
  | .headTimeout .. => [.clients, .proof, .store]
  | .proofStepEnd .. => [.clients, .conv, .host, .pads, .proof, .store]
  | .ringScan .. | .ballStateSet .. | .ballStateClear .. => [.field]
  | .gessoSentinelSample .. | .gessoArmed => [.field, .gesso]
  | .reverseProbe .. => [.field]
  | .vcoreVanaReturn .. => [.bb, .canvas, .conv, .drive, .fans, .gesso, .loop, .mirror, .power, .safety, .sys, .zc]
  | .vfieldValidChange .. => [.field, .power]
  | .emergencySetChange | .canvasRunInEnd | .canvasSwap => [.canvas, .clients, .drive, .fans, .host, .loop, .pads, .store]
  | .comfortSetReturn => [.canvas, .drive, .fans, .host, .loop, .pads]
  | .scFaultLatch | .scFirstAnswerTimeout => [.gesso, .pads]
  | .lockstepMismatch .. => [.pads, .safety]
  | .ackSilence | .ackReset => [.gesso, .mirror, .pads, .safety]
  | .ackTroubleAck => [.mirror, .safety]
  | .minorTick =>
    [.bb, .canvas, .clients, .conv, .drive, .fans, .host, .mem, .mirror, .pads, .power, .proof, .safety, .store, .sys,
      .time]
  | .hyperframeBoundary => [.bb, .canvas, .clients, .mirror, .time]
  | .x32Stop | .x32OkReturn => [.gesso, .time]
  | .calendarSecond .. => [.clients, .proof, .store, .time]
  | .canvasStart => [.canvas, .loop, .power]
  | .powerFailWarning => [.canvas, .glaze, .host, .legacy, .mem, .power, .proof, .store]
  | .brownOut =>
    [.bb, .canvas, .conv, .drive, .fans, .field, .gesso, .glaze, .host, .legacy, .loop, .mem, .mirror, .pads, .power,
     .proof, .safety, .store, .sys, .zc]
  | .vbatAbsent => [.gesso, .pads, .power, .sys]
  | .wakeSequenceEnd | .busrdy =>
    [.canvas, .clients, .conv, .evt, .gesso, .glaze, .host, .legacy, .loop, .mem, .mirror, .params, .power, .safety,
     .store, .sys, .time]
  | .tier2FirstBeacon .. => [.bb, .clients, .mirror, .power, .store]
  | .nwaitTimeout => [.host, .legacy]
  | .immediateParamApply =>
    [.canvas, .conv, .drive, .evt, .fans, .field, .gesso, .glaze, .host, .loop, .mirror, .params, .power, .store, .time]
  | .clientCmdGo => [.clients, .host, .store]
  | .opFirstWork => [.canvas, .clients, .conv, .host, .legacy, .mem, .mirror, .proof, .store]
  | .glazeCommit => [.glaze, .mirror]
  | .glazeApply =>
    [.bb, .canvas, .clients, .conv, .drive, .evt, .fans, .gesso, .glaze, .host, .legacy, .loop, .mem, .mirror, .pads, .params,
     .power, .proof, .safety, .store, .time]
  | .maskChange => [.bb, .clients]
  | .admissionPhaseEnd => [.clients]
  | .alarmPatternInterval => [.pads, .time]
  | .cntClr => [.host, .params, .store]
  | .storeRestartRebuild .. => [.clients, .conv, .glaze, .mem, .mirror, .params, .store]
  | .frameReplay =>
    [.bb, .canvas, .clients, .conv, .drive, .fans, .loop, .mirror, .pads, .params, .proof, .safety, .store, .time, .zc]
  | .switchoverB2 => [.bb, .canvas, .clients, .drive, .fans, .host, .loop, .mirror, .pads, .store]
  | .proofScheduledStart => [.canvas, .clients, .conv, .host, .proof, .store]
  | .proofRunEnd => [.canvas, .host, .proof]
  | .evtCfgApply | .evtClr => [.evt]
  | .legacyApply =>
    [.bb, .canvas, .clients, .conv, .drive, .evt, .fans, .glaze, .host, .legacy, .loop, .mirror, .pads, .params, .proof,
     .safety, .store, .time]
  | .lackTimeout => [.legacy]

/-- Byte address a lies in none of the spans (first byte, length). -/
def Outside (l : List (Nat × Nat)) (a : Nat) : Prop := ∀ p ∈ l, a < p.1 ∨ p.1 + p.2 ≤ a

/-- A sector of the array; the two sectors of the journal (Table 16-1). -/
def sectorSpan (k : Nat) : Nat × Nat := (sectorBase k, 4096)
def journalSpan : Nat × Nat := (0, 8192)

/-- Every byte of the array outside the spans reads as before. -/
def MemKept (l : List (Nat × Nat)) (s t : State) : Prop := ∀ a, Outside l a → memRead t.mem a = memRead s.mem a

end Sys2Proof.Machine
end

