-- ==== Sys2Proof/Certificates/Slice0/Obligations.lean ====
section
/-!
DEFINITION. Obligations.lean: the statements for the provers. `Answers c s P`: command c at state s answers a next state, and
P holds of it. `bare`: a state without what reports and a tier change write (Safety.lean).
-/

open Sys2Proof Sys2Proof.Machine

/-! ### The queue and the tier -/

/-- A step takes the command at the front of the queue and runs it with the rest of the queue (log 1: the model's queue). -/
def Obligations.StepTakesFront : Prop :=
  ∀ (c : Instr) (rest : List Instr) (s : State), step { s with pending := c :: rest } = exec c { s with pending := rest }

/-- On an empty queue the block idles (log 1: the model's choice). -/
def Obligations.StepIdles : Prop := ∀ s : State, s.pending = [] → step s = .next s

/-- The tier is settled after reset: Tier 0, with no supply but G's own. -/
def Obligations.ResetTierSettled : Prop := Settled State.reset ∧ State.reset.sys.tier = 0

/-- R20, Table 01-1: after every step the tier in force is the highest whose domains, supplies and inputs are available. -/
def Obligations.StepKeepsTierSettled : Prop :=
  ∀ s t : State, Settled s → step s = .next t →
    Settled t ∧ t.sys.tier ≤ 2 ∧ (1 ≤ t.sys.tier ↔ Tier1Inputs t) ∧ (t.sys.tier = 2 ↔ Tier1Inputs t ∧ Tier2Inputs t)

/-- The frame of every command: every part of the state that is not its own, the queue among them, is left as it was, but
for what reports, a change of tier and the following of outputs write. -/
def Obligations.Frames : Prop :=
  ∀ (c : Instr) (s t : State), exec c s = .next t → ∀ p : Part, p ∉ writes c → p.same (inner t) (inner s)

/-! ### Gesso -/

/-- The commands that start Gesso or make it take its record again. -/
def Obligations.GessoStarts : Prop :=
  ∀ s : State,
    (∀ mside p8 x32, Answers (.gessoPor mside p8 x32) s fun t =>
      (t.gesso.record, t.gesso.cfgCrc, t.gesso.copyDup, t.gesso.dflt) = recLatch s.mem ∧ t.gesso.armed = false ∧
      t.gesso.trip = 0 ∧ t.time.easel = 0 ∧ t.mirror.mside = mside ∧ t.legacy.mode = p8 ∧ t.mem = s.mem ∧
      t.pending = s.pending) ∧
    (s.gesso.armed = false → s.gesso.rlBusy = false → Answers .gessoArmed s fun t =>
      t.gesso.armed = true ∧ t.gesso.record = s.gesso.record ∧ t.gesso.trip = s.gesso.trip ∧ t.gesso.sen = s.gesso.sen) ∧
    (s.gesso.armed = true → recZen s.gesso.record = true →
      (∃ fe < 3, recZph s.gesso.record fe = true ∧ phaseOn s fe = true) → Answers .gessoZcDecodeLive s fun t => bare t = bare { s with gesso := { s.gesso with zcLive := true } }) ∧
    (s.gesso.armed = true → keyOk s 3 = true → s.gesso.trip = 0 →
      (∀ n < 16, recEn s.gesso.record n = true → (gSen s n).band = .normal) → Answers .gessoRelatch s fun t =>
        bare t = bare { s with gesso := { s.gesso with armed := false, rlBusy := true } }) ∧
    (s.gesso.rlBusy = true → Answers .gessoRelatchDone s fun t =>
      (t.gesso.record, t.gesso.cfgCrc, t.gesso.copyDup, t.gesso.dflt) = recLatch s.mem ∧ t.gesso.armed = true ∧
      t.gesso.rlBusy = false ∧ t.gesso.rlResult = 1 ∧ t.gesso.confirm = [] ∧ t.gesso.trip = s.gesso.trip) ∧
    (s.gesso.armed = true → Answers (.gessoRecordCrcCheck true) s fun t =>
      t.gesso.armed = false ∧ t.gesso.rlBusy = true ∧ t.gesso.relatchCnt = satInc s.gesso.relatchCnt ∧
      t.gesso.trip = s.gesso.trip ∧ t.gesso.outCmd = s.gesso.outCmd)

/-- R87: RELATCH is refused while any trip is latched: nothing is unarmed or latched, and with the key RL_RESULT reads 2 and
nothing else changes. -/
def Obligations.RelatchRefusedOnTrip : Prop :=
  ∀ s : State, s.gesso.trip ≠ 0 →
    Answers .gessoRelatch s (fun t =>
      t.gesso.armed = s.gesso.armed ∧ t.gesso.rlBusy = s.gesso.rlBusy ∧ t.gesso.record = s.gesso.record ∧
      t.gesso.trip = s.gesso.trip) ∧
    (s.gesso.armed = true → keyOk s 3 = true → Answers .gessoRelatch s fun t =>
      bare t = bare { s with gesso := { s.gesso with rlResult := 2 } })

/-- R85: when neither copy of the record is valid, Gesso latches the default record and sets DEFAULT, at power-on reset and at
RELATCH. -/
def Obligations.DefaultRecordLatched : Prop :=
  ∀ s : State, recCopyOk s.mem false = false → recCopyOk s.mem true = false →
    (∀ mside p8 x32 : Bool, Answers (.gessoPor mside p8 x32) s fun t =>
      t.gesso.record = defaultRecord ∧ t.gesso.dflt = true ∧ t.gesso.cfgDefault = true) ∧
    (s.gesso.rlBusy = true → Answers .gessoRelatchDone s fun t =>
      t.gesso.record = defaultRecord ∧ t.gesso.dflt = true ∧ t.gesso.cfgDefault = true)

/-- Samples, dwells and frames of Gesso. -/
def Obligations.GessoQualifies : Prop :=
  ∀ s : State,
    (∀ (n : Fin 16) (mv : Nat), s.gesso.armed = true → Answers (.gessoSentinelSample n mv) s fun t =>
      (∃ d : Sentinel, t.gesso.sen = tblSet (fun _ => Sentinel.blank) s.gesso.sen n.val d ∧ d.known = true ∧
        d.band = nextBand s.gesso.record n.val mv (gSen s n.val)) ∧
      bare { t with gesso := { t.gesso with sen := s.gesso.sen } } = bare (swapTakes n.val s)) ∧
    (∀ n : Fin 16, s.gesso.armed = true → recEn s.gesso.record n.val = true →
      dwellDone (gSen s n.val).alarmRun (recAdw s.gesso.record n.val) = true → s.gesso.trip.getLsbD n.val = false →
      Answers (.gessoAlarmDwellExpiry n) s fun t =>
        t.gesso.trip = setBit s.gesso.trip n.val true ∧ t.gesso.silenced = setBit s.gesso.silenced n.val false ∧
        t.gesso.lastSrc = BitVec.ofNat 5 n.val ∧ t.gesso.sen = s.gesso.sen ∧ t.gesso.record = s.gesso.record) ∧
    (∀ n : Fin 16, s.gesso.armed = true → recEn s.gesso.record n.val = true →
      dwellDone (gSen s n.val).troubleRun (recTdw s.gesso.record n.val) = true → (gSen s n.val).trouble = false →
      Answers (.gessoTroubleDwellExpiry n) s fun t =>
        bare t = bare (setSen n.val { gSen s n.val with trouble := true } s)) ∧
    (∀ n : Fin 16, dwellDone (gSen s n.val).clearRun (recTdw s.gesso.record n.val) = true →
      (gSen s n.val).trouble = true → Answers (.gessoTroubleClear n) s fun t =>
        bare t = bare (setSen n.val { gSen s n.val with trouble := false } s)) ∧
    (∀ (fe : Fin 3) (slot : Nat) (lv : List (Int × Int)) (r : Reading) (c : Nat) (comb : Bool) (bits : BitVec 24),
      r = readBody (gessoTh s fe.val) slot (synUsed s fe.val) (lv.drop 1) → s.gesso.armed = true → s.gesso.zcLive = true →
      recZen s.gesso.record = true → recZph s.gesso.record fe.val = true → phaseOn s fe.val = true →
      startMark (gessoTh s fe.val) lv = true → s.gesso.trip.getLsbD (16 + c) = false →
      (comb = false → readingOk r = true ∧ r.copy.bits = bits ∧
        combineSlot (keepCopy r.copy (tblGet (fun _ => []) s.gesso.copies fe.val)) slot = none ∧
        confirmAlive (now s) (tblGet (fun _ => none) s.gesso.confirm (frameAddr bits)) ≠ none) →
      (comb = true → readingOk r = false ∧ ∃ n y x,
        combineSlot (keepCopy r.copy (tblGet (fun _ => []) s.gesso.copies fe.val)) slot = some (bits, n, y, x)) →
      slotKinds (if comb then s.gesso.takenComb else s.gesso.taken) (if comb then s.gesso.taken else s.gesso.takenComb)
        (frameAddr bits) slot fe.val (frameState bits) = .first →
      frameType bits = 0 → classOf (frameState bits) = some c → recZmask s.gesso.record (frameAddr bits) = false →
      Answers (.gessoZcFrame fe slot lv) s fun t =>
        t.gesso.cntAcc = s.gesso.cntAcc + 1 ∧ t.gesso.trip = setBit s.gesso.trip (16 + c) true ∧
        t.gesso.lastAddr = BitVec.ofNat 11 (frameAddr bits) ∧
        t.gesso.cntDrop = (if comb && !r.erased && typeRead (gessoTh s fe.val) lv && frameType r.copy.bits == 0
          then s.gesso.cntDrop + 1 else s.gesso.cntDrop))

/-- R65: a first frame not confirmed within 6.0 s expires and is counted; nothing else changes. -/
def Obligations.FirstFrameExpires : Prop :=
  ∀ (s : State) (a : Fin 2048) (at_ : Nat), tblGet (fun _ => none) s.gesso.confirm a.val = some (at_, true) →
    at_ + 6 * sec < now s → Answers (.gessoFirstFrameExpiry a) s fun t =>
      bare t = bare { s with gesso := { s.gesso with
        cntUnconf := s.gesso.cntUnconf + 1, confirm := tblSet (fun _ => none) s.gesso.confirm a.val none } }

/-- R161: in sound hardware the answer is the challenge rotated left by 3 bits and XORed with 0xA7, and it is counted as a
correct answer. -/
def Obligations.HeartbeatAnswered : Prop :=
  ∀ s : State, s.safety.run = true → s.gesso.snap.published = true → s.gesso.snap.answered = false →
    Answers (.heartbeatAnswer 0) s fun t =>
      t.safety.hbLast = s.gesso.snap.challenge.rotateLeft 3 ^^^ 0xA7 ∧ t.safety.hbCnt = s.safety.hbCnt + 1 ∧
      t.gesso.goodRun = s.gesso.goodRun + 1 ∧ t.gesso.badRun = 0 ∧ t.gesso.snap.answered = true ∧
      t.gesso.trip = s.gesso.trip

/-- How Gesso judges the safety core: SC_FAULT latches on two bad challenges or on 200 ms without a first answer, the path
stops with it, and 64 correct answers clear it. -/
def Obligations.GessoJudgesCore : Prop :=
  ∀ s : State,
    (∀ err : Byte, err ≠ 0 → s.safety.run = true → s.gesso.snap.published = true → s.gesso.snap.answered = false →
      Answers (.heartbeatAnswer err) s fun t =>
        t.gesso.badRun = s.gesso.badRun + 1 ∧ t.gesso.goodRun = 0 ∧ t.gesso.trip = s.gesso.trip) ∧
    (2 ≤ s.gesso.badRun → s.gesso.scFault = false → Answers .scFaultLatch s fun t =>
      t.gesso.scFault = true ∧ t.pads.pathStopped = true ∧ t.gesso.trip = s.gesso.trip ∧ t.pads.pathRly = s.pads.pathRly) ∧
    (64 ≤ s.gesso.goodRun → s.gesso.scFault = true → Answers .scFaultClear s fun t =>
      t.gesso.scFault = false ∧ t.pads.pathStopped = s.safety.lockstep ∧ t.gesso.trip = s.gesso.trip) ∧
    (∀ from_, s.gesso.coreReset = some from_ → from_ + 200 * ms ≤ now s → s.gesso.scFault = false →
      s.sys.applied.getLsbD 3 = true →
      Answers .scFirstAnswerTimeout s fun t => t.gesso.scFault = true ∧ t.pads.pathStopped = true)

/-- SILENCE, RESET and chirps: what each writes, and the trips, records and samples it leaves. -/
def Obligations.GessoWrites : Prop :=
  ∀ s : State,
    (∀ mask : BitVec 19, ackWrites s = true → Answers (.gessoSilence mask) s fun t =>
      t.gesso.silenced = s.gesso.silenced ||| (s.gesso.trip &&& mask &&& ~~~justTripped s) ∧ t.gesso.trip = s.gesso.trip ∧
      t.gesso.record = s.gesso.record ∧ t.gesso.sen = s.gesso.sen ∧ t.pads.pathRly = s.pads.pathRly) ∧
    (∀ mask : BitVec 19, ackWrites s = true → Answers (.gessoReset mask) s fun t =>
      t.gesso.trip = s.gesso.trip &&& ~~~(mask &&& resettable s &&& ~~~justHit s) ∧
      t.gesso.silenced = s.gesso.silenced &&& t.gesso.trip ∧
      t.gesso.record = s.gesso.record ∧ t.gesso.sen = s.gesso.sen ∧ t.pads.pathRly = s.pads.pathRly) ∧
    (ackWrites s = false → ∀ mask, ∀ c ∈ [Instr.gessoSilence mask, .gessoReset mask], Answers c s fun t => bare t = bare s) ∧
    (∀ k : Fin 4, Settled s → s.safety.run = true → outputsLive s = true → (sounder s k.val).alarm = false → (sounder s k.val).chirpEnd = none →
      s.gesso.outCmd.getLsbD k.val = false → Answers (.gessoChirp k false) s fun t =>
        t.pads.snd = tblSet (fun _ => Sounder.blank) s.pads.snd k.val
          { sounder s k.val with chirpEnd := some (now s + 40 * ms), chirpProof := false } ∧ bare t = bare s) ∧
    (Settled s → s.sys.tier = 0 → chirpDue s = true → gessoTrouble s = true → outputsLive s = true → Answers .gessoTroubleChirp s fun t =>
      t.gesso.lastChirp = some (now s) ∧ bare t = bare s)

/-- R81, R82: RESET clears the latched trip of a class source; a latched source that it names but cannot clear stays latched
and is shown in GESSO.TRIP. RESET acts in the acknowledge sequence of the safety core (`ackWrites`), before a trip of the same 1 ms
period, one that came again included (R105). -/
def Obligations.ResetOfTrips : Prop :=
  ∀ (s : State) (mask : BitVec 19), Answers (.gessoReset mask) s fun t =>
    (ackWrites s = true → ∀ c < 3, mask.getLsbD (16 + c) = true → (justHit s).getLsbD (16 + c) = false →
      t.gesso.trip.getLsbD (16 + c) = false) ∧
    ∀ n < 19, mask.getLsbD n = true → s.gesso.trip.getLsbD n = true →
      (ackWrites s = false ∨ (resettable s).getLsbD n = false ∨ (justHit s).getLsbD n = true) →
      t.gesso.trip.getLsbD n = true ∧ (readParam t (parAddr 3 0x97)).getLsbD n = true

/-- R905: a chirp for a sounder that chirps or sounds ALARM is discarded and counted (saturating at 127); nothing else
changes. -/
def Obligations.ChirpDiscarded : Prop :=
  ∀ (s : State) (k : Fin 4) (proof : Bool), Settled s → s.safety.run = true → outputsLive s = true →
    (sounder s k.val).alarm = true ∨ (sounder s k.val).chirpEnd ≠ none → Answers (.gessoChirp k proof) s fun t =>
      t = setSounder k.val { sounder s k.val with disc := satInc (sounder s k.val).disc } s

/-! ### Safety core -/

/-- Self-checks, lockstep, restarts and record reloads of the safety core. -/
def Obligations.SafetyCoreRestarts : Prop :=
  ∀ s : State,
    (∀ (d : Domain) (pass : Bool), s.sys.applied.getLsbD d.bit = true → (s.power.inReset = true → d.bit ≤ 1) → Answers (.domainSelfCheckDone d pass) s fun t =>
      t.sys.checked = setBit s.sys.checked d.bit pass ∧ t.sys.failed = setBit s.sys.failed d.bit (!pass) ∧
      t.sys.applied = s.sys.applied ∧ t.gesso.trip = s.gesso.trip ∧ t.safety.alarms = s.safety.alarms) ∧
    (∀ fault : CoreFault, s.sys.applied.getLsbD 3 = true → s.power.inReset = false → s.safety.lockstep = false →
      s.safety.fwFail = false → Answers (.lockstepMismatch fault) s fun t =>
      t.safety.lsCnt = (if fault = .mismatch then s.safety.lsCnt + 1 else s.safety.lsCnt) ∧
      t.safety.sram = (if fault = .sram then true else s.safety.sram) ∧ t.safety.fwFail = decide (fault = .rom) ∧
      t.safety.run = false ∧ t.safety.core = true ∧ t.safety.alarms = s.safety.alarms ∧ t.pads.pathSnd = s.pads.pathSnd ∧ t.pads.pathRly = s.pads.pathRly) ∧
    (∀ setOk : Bool, s.safety.run = false → s.safety.lockstep = false → s.safety.fwFail = false →
      s.sys.applied.getLsbD 3 = true → s.power.inReset = false →
      Answers (.safetyCoreRestartDone setOk) s fun t =>
        t.safety.run = true ∧ t.safety.record = (coreRecord s).1 ∧ t.safety.recordCrc = (coreRecord s).2 ∧
        t.safety.alarms = (if setOk && !s.safety.setLost then s.safety.alarms else 0) ∧
        t.safety.sil = (if setOk && !s.safety.setLost then s.safety.sil else 0) ∧
        t.safety.mon = troubleOnly s.safety.mon ∧ bare { t with pads := s.pads } = bare t ∧ t.gesso.firstAnswer = false) ∧
    (s.safety.run = true → s.safety.reloadDue.isSome = true → atFrame s = true → Answers .safeRecordReload s fun t =>
      t.safety.record = (coreRecord s).1 ∧ t.safety.reloadDue = none ∧ t.safety.confirm = [] ∧
      t.safety.alarms = s.safety.alarms) ∧
    (s.safety.run = true → Answers .regionACheck s fun t =>
      bare t = bare { s with safety := { s.safety with recPend := decide ((recLatch s.mem).2.1 ≠ s.gesso.cfgCrc) } })

/-- R110: a restart of the safety core, from the mismatch to the resumption, leaves Gesso's trips and output commands. -/
def Obligations.CoreRestartSparesGesso : Prop :=
  ∀ (s t : State), ((∃ fault, exec (.lockstepMismatch fault) s = .next t) ∨
      ∃ setOk, exec (.safetyCoreRestartDone setOk) s = .next t) →
    t.gesso.trip = s.gesso.trip ∧ t.gesso.silenced = s.gesso.silenced ∧ t.gesso.outCmd = s.gesso.outCmd

/-- R188: when the alarm set in domain K fails its CRC, every path latch command is kept and UNKNOWN is set. -/
def Obligations.UnknownAlarmSet : Prop :=
  ∀ s : State, s.safety.run = false → s.safety.lockstep = false → s.safety.fwFail = false →
    s.sys.applied.getLsbD 3 = true → s.power.inReset = false → Answers (.safetyCoreRestartDone false) s fun t =>
      t.pads.pathSnd = s.pads.pathSnd ∧ t.pads.pathRly = s.pads.pathRly ∧ (readParam t (parAddr 4 9)).getLsbD 31 = true

/-- Monitors, snapshots, criteria and the core's chirp. -/
def Obligations.SafetyCoreQualifies : Prop :=
  ∀ s : State,
    (∀ (n : Fin 16) (mv : Nat), s.safety.run = true → Answers (.monitorSample n mv) s fun t =>
      (∃ d : Sentinel, t.safety.mon = tblSet (fun _ => Sentinel.blank) s.safety.mon n.val d ∧ d.known = true ∧
        d.band = nextBand s.safety.record n.val mv (mSen s n.val)) ∧
      bare { t with safety := { t.safety with mon := s.safety.mon } } = bare s) ∧
    (∀ n : Fin 16, s.safety.run = true → recEn s.safety.record n.val = true →
      dwellDone (mSen s n.val).alarmRun (recAdw s.safety.record n.val) = true → s.safety.alarms.getLsbD n.val = false →
      s.safety.tokenTick ≠ some (tickNo s) → Answers (.scSentinelAlarmLatch n) s fun t =>
        t.safety.alarms = setBit s.safety.alarms n.val true ∧ t.safety.sil = setBit s.safety.sil n.val false ∧
        t.safety.token = s.safety.token + 1 ∧ t.safety.mon = s.safety.mon ∧ t.gesso.trip = s.gesso.trip) ∧
    (s.safety.run = true → s.gesso.snap.published = true → s.safety.lastCmp ≠ s.gesso.chalCount →
      Answers .snapshotCompare s fun t =>
      t.safety.lastCmp = s.gesso.chalCount ∧
      t.safety.gessoOnly = s.gesso.snap.trip &&& s.gesso.trip &&& ~~~(s.safety.alarms.setWidth 19) ∧
      t.safety.alarms = s.safety.alarms ∧ bare { t with safety := s.safety } = bare s) ∧
    (∀ (j : Fin 256) (since : Nat), s.safety.run = true → (crKind s j.val = 1 ∨ crKind s j.val = 2) →
      (crit s j.val).since = some since → since + crTime s j.val ≤ now s → (crit s j.val).isTrue = false →
      crArb s j.val = false → Answers (.criterionDwellExpiry j) s fun t =>
        t.safety.crit = tblSet (fun _ => Criterion.blank) s.safety.crit j.val
          { crit s j.val with isTrue := true, confirmed := true }) ∧
    (∀ (j : Fin 256) (due : Nat), s.safety.run = true → (crit s j.val).arbDue = some due → due ≤ now s → (crit s j.val).isTrue = true →
      Answers (.arbTimeout j) s fun t =>
        t.safety.crit = tblSet (fun _ => Criterion.blank) s.safety.crit j.val
          { crit s j.val with confirmed := true, unarb := true, arbDue := none }) ∧
    (s.safety.run = true → unacked s = true → fld (par s (parAddr 4 0)) 0 2 = 2 → Settled s →
      s.safety.lastChirp = none → atTick s = true → Answers .safetyTroubleChirp s fun t =>
        bare t = bare s ∧ t.safety.lastChirp = some (now s))

/-- The acknowledge operations, each with the right token: what SILENCE, RESET and TROUBLE_ACK do on both sides. -/
def Obligations.Acknowledged : Prop :=
  ∀ s : State,
    (ackDue s 0xA5 = some s.safety.token.toNat → s.sys.tier = 2 → Answers .ackSilence s fun t =>
      t.safety.ackRes = 1 ∧ t.safety.ackPending = none ∧ t.safety.sil = s.safety.sil ||| s.safety.alarms ∧
      t.safety.alarms = s.safety.alarms ∧ t.gesso.silenced = s.gesso.silenced ||| (s.gesso.trip &&& ~~~justTripped s) ∧
      t.gesso.trip = s.gesso.trip) ∧
    (ackDue s 0xC3 = some s.safety.token.toNat → s.sys.tier = 2 → allSilenced s = true → Answers .ackReset s fun t =>
      t.safety.ackRes = 1 ∧ t.safety.ackPending = none ∧ t.safety.alarms = stillHeld s ∧ t.safety.unknown = false ∧
      t.gesso.trip = s.gesso.trip &&& ~~~(resettable s &&& ~~~justHit s)) ∧
    (Settled s → ackDue s 0x96 = some s.safety.token.toNat → Answers .ackTroubleAck s fun t =>
      t.safety.ackRes = 1 ∧ t.safety.ackPending = none ∧ t.safety.core = false ∧
      t.safety.causes = (s.safety.causes.filter fun c => !c.event).map (fun c => { c with acked := true }) ∧
      t.safety.alarms = s.safety.alarms)

/-- R172: an ACK_KEY write whose token differs is refused and reported; nothing is silenced, reset or acknowledged. -/
def Obligations.WrongTokenRefused : Prop :=
  ∀ (s : State) (tok : Nat), tok ≠ s.safety.token.toNat →
    ∀ c ∈ [(Instr.ackSilence, 0xA5), (Instr.ackReset, 0xC3), (Instr.ackTroubleAck, 0x96)], ackDue s c.2 = some tok →
      Answers c.1 s fun t => bare t = bare { s with safety := { s.safety with ackRes := 2, ackPending := none } }

/-- R173, R180: RESET is refused while a latched alarm of either side is unsilenced; silence and reset are available only at
Tier 2. -/
def Obligations.AcknowledgeRefused : Prop :=
  ∀ s : State,
    (ackDue s 0xC3 = some s.safety.token.toNat → allSilenced s = false → Answers .ackReset s fun t =>
      bare t = bare { s with safety := { s.safety with ackRes := 3, ackPending := none } }) ∧
    (s.sys.tier ≠ 2 → ∀ c ∈ [(Instr.ackSilence, 0xA5), (Instr.ackReset, 0xC3)],
      ackDue s c.2 = some s.safety.token.toNat → Answers c.1 s fun t =>
        bare t = bare { s with safety := { s.safety with ackRes := 3, ackPending := none } })

/-! ### Time -/

/-- The boundaries of minor ticks, major frames and hyperframes. -/
def Obligations.TimeBoundaries : Prop :=
  ∀ s : State,
    (s.power.st ≠ .off → s.time.source = .x40 → Answers .minorTick s fun t =>
      t.time.easel = (s.time.easel / 5000 + 1) * 5000) ∧
    (∀ units noise fbErr, s.time.frameDone ≠ some (tickNo s) → tickNo s % 128 = 0 → s.sys.applied.getLsbD 3 = true →
      s.time.source ≠ .x40 → Answers (.majorFrameBoundary units noise fbErr) s fun t =>
        t.time.frameDone = some (tickNo s) ∧ t.gesso.chalCount = s.gesso.chalCount + 1 ∧ t.gesso.snap.published = true ∧
        t.gesso.snap.answered = false ∧ t.gesso.snap.trip = s.gesso.trip ∧ t.gesso.trip = s.gesso.trip) ∧
    (∀ units noise fbErr, s.time.frameDone ≠ some (tickNo s) → s.mirror.pair = false → atFrame s = true →
      s.sys.applied.getLsbD 3 = true → s.time.source = .x40 → s.power.inReset = false → s.host.op.st ≠ .running →
      s.proof.inj = [] → Answers (.majorFrameBoundary units noise fbErr) s fun t =>
        t.time.frameDone = some (tickNo s) ∧ t.gesso.chalCount = s.gesso.chalCount + 1 ∧ t.gesso.snap.published = true ∧
        t.evt.snapTs = ts32 s ∧ t.gesso.trip = s.gesso.trip ∧ t.time.easel = s.time.easel) ∧
    (atHyper s = true → s.time.source = .x40 → s.power.inReset = false → s.time.hyperDone ≠ some (tickNo s) →
      Answers .hyperframeBoundary s fun t =>
        t.time.hyperDone = some (tickNo s) ∧ t.canvas.ovrHyper = [] ∧ t.clients.qPeak = s.clients.qMax ∧
        t.canvas.resPeak = s.canvas.resMax ∧ t.bb.sMaxPrev = s.bb.sMax)

/-- The oscillators and the calendar. -/
def Obligations.Clocks : Prop :=
  ∀ s : State,
    (∀ sub, s.time.source = .x40 → Answers (.x40Stop sub) s fun t =>
      t.time.easel = s.time.easel + (if s.power.st = .off then 0 else sub) ∧ t.time.x40Ok = false ∧ t.time.easelRtc = true ∧
      t.time.source = (if s.time.x32Since.isSome then .x32 else .rc)) ∧
    (∀ cycles, s.time.source ≠ .x40 → Answers (.x40Restart cycles) s fun t =>
      t.time.source = .x40 ∧ t.time.x40Ok = true ∧ t.time.x40Fail = false ∧
      t.time.easel = (if s.power.st = .off then s.time else slowCycles cycles s.time).easel) ∧
    (s.time.x32Since.isSome = true → Answers .x32Stop s fun t =>
      t.time.calValid = false ∧ t.time.x32Ok = false ∧ t.time.x32Run = false ∧ t.time.x32Since = none ∧
      t.gesso.clkTrouble = true ∧ t.time.calSec = s.time.calSec ∧ t.gesso.trip = s.gesso.trip) ∧
    (s.time.x32Since = none → Answers .x32RunResume s fun t =>
      t.time.x32Since = some (now s) ∧ t.time.calSec = s.time.calSec) ∧
    (∀ since, s.time.x32Since = some since → since + sec ≤ now s → s.time.x32Ok = false → Answers .x32OkReturn s fun t =>
      t.time.x32Ok = true ∧ t.time.x32Run = true ∧ t.gesso.clkTrouble = false ∧ t.time.source ≠ .rc) ∧
    (∀ n w : Nat, s.time.winOpen = some w → (w + n) / tickLen ≤ tickNo s → (par s (parAddr 1 6)).getLsbD 0 = true →
      (par s (parAddr 1 6)).getLsbD 1 = false → s.time.discardCount = false → s.time.xtalDev = false →
      39992000 ≤ n → n ≤ 40008000 → Answers (.disciplineCount n) s fun t =>
        t.time.trim = clampI (-trimMax) trimMax (s.time.trim + asr ((40000000 - (n : Int)) * 640 - s.time.trim) 4) ∧
        t.time.goodRun = s.time.goodRun + 1 ∧ t.time.xtalDev = false ∧ t.time.winOpen = some (w + n)) ∧
    (s.time.x32Since.isSome = true → s.time.calSet = none → Answers (.calendarSecond s.time.secLen) s fun t =>
      t.time.calSec = s.time.calSec + 1 ∧ t.time.secStart = now s ∧
      ∃ n : Int, n = Int.tdiv (s.time.calCorr + s.time.trim) 781250 ∧ t.time.secLen = (32768 + n).toNat ∧
        t.time.calCorr = s.time.calCorr + s.time.trim - n * 781250) ∧
    (∀ v : Word, BusOpen s → s.legacy.mode = false → isStandby s = false → keyOk s 1 = true → Answers (.calSet v) s fun t =>
      t.time.calSet = some v ∧ t.time.calSec = s.time.calSec ∧ t.host.pctlRes = 0) ∧
    (BusOpen s → s.legacy.mode = false → Answers .easelLoRead s fun t =>
      t.time.easel = s.time.easel ∧ t.host.dOut = (easelWord (now s)).extractLsb' 0 16 ∧
      t.host.hiLatch = (easelWord (now s)).extractLsb' 16 16)

/-- R246: a read of TIME.EASEL_LO latches bits [63:32] of the same instant into TIME.EASEL_HI. -/
def Obligations.EaselReadLatchesHigh : Prop :=
  ∀ s : State, BusOpen s → s.legacy.mode = false → Answers .easelLoRead s fun t =>
    bare t = bare { s with
      time := { s.time with easelHi := (easelWord (now s)).extractLsb' 32 32 }
      host := { s.host with
        dOut := (easelWord (now s)).extractLsb' 0 16, hiLatch := (easelWord (now s)).extractLsb' 16 16 } }

/-- The comparator, candidates and synthetic teeth of a track, decided at instant `at_` of the running tick. -/
def Obligations.ToothTracker : Prop :=
  ∀ (s s0 : State) (k : Fin 3) (at_ : Nat), s0 = moveIn s at_ →
    (∀ level : Bool, trkEn s k.val = true → outputsLive s = true → (track s k.val).level ≠ some level →
      (track s k.val).edge = none → Answers (.comparatorEdge k level at_) s fun t =>
        t.time.tracks = tblSet (fun _ => Track.blank) s.time.tracks k.val
          { track s k.val with edge := some (now s0, level), edgeSlow := decide (s.time.source ≠ .x40) } ∧ t.time.easel = now s0) ∧
    (∀ edge (level : Bool), (track s k.val).edge = some (edge, level) → edge + 8000 ≤ now s0 →
      (track s k.val).st = .locked → inWindow (if level != trkInv s k.val then (track s k.val).rising else (track s k.val).falling)
        (16 * (stamp s0 k.val edge : Int)) = false → Answers (.toothCandidate k at_) s fun t =>
        t.time.tracks = tblSet (fun _ => Track.blank) s.time.tracks k.val
          { track s k.val with level := some level, edge := none, cntRej := (track s k.val).cntRej + 1 }) ∧
    (∀ edge (level : Bool) (c : Chain), (track s k.val).edge = some (edge, level) → edge + 8000 ≤ now s0 →
      (track s k.val).st = .locked → c = (if level != trkInv s k.val then (track s k.val).rising else (track s k.val).falling) →
      inWindow c (16 * (stamp s0 k.val edge : Int)) = true → Answers (.toothCandidate k at_) s fun t =>
        ∃ d : Track, t.time.tracks = tblSet (fun _ => Track.blank) s.time.tracks k.val d ∧ d.st = .locked ∧
          d.level = some level ∧ d.edge = none ∧ d.synRun = 0 ∧ d.cntRej = (track s k.val).cntRej ∧
          (if level != trkInv s k.val then d.rising else d.falling) = chainNext c (16 * (stamp s0 k.val edge : Int) - c.p) ∧
          (if level != trkInv s k.val then d.falling = (track s k.val).falling ∧ d.cyc = (track s k.val).cyc + 1
           else d.rising = (track s k.val).rising ∧ d.cyc = (track s k.val).cyc)) ∧
    (∀ edge (level : Bool) c1 c2, (track s k.val).edge = some (edge, level) → edge + 8000 ≤ now s0 →
      (track s k.val).st = .acq → (track s k.val).cands = [c1, c2] → locks (stamp s0 k.val edge, level) c1 c2 = true →
      Answers (.toothCandidate k at_) s fun t => (track t k.val).st = .locked) ∧
    ((track s k.val).st = .locked → (track s k.val).edge = none → fld (par s (parAddr 1 0x024)) 0 5 = 20 →
      (track s k.val).synRun = 0 →
      3 * (track s k.val).falling.per < 100 * (16 * (now s0 : Int) - (track s k.val).falling.p) →
      Answers (.toothSynthesis k false at_) s fun t =>
        ∃ d : Track, t.time.tracks = tblSet (fun _ => Track.blank) s.time.tracks k.val d ∧ d.st = .locked ∧
          d.synRun = 1 ∧ d.cntSyn = (track s k.val).cntSyn + 1 ∧ d.falling = chainNext (track s k.val).falling 0 ∧
          d.rising = (track s k.val).rising) ∧
    (∀ p16 e lv c, Settled s → toothP s k.val 3 = some p16 → e = toothInstant none false p16 → now s ≤ e →
      e / tickLen = tickNo s → zcReceives s = true → c = classify (coreTh s k.val) (combinedTooth s lv) →
      Answers (.toothAnchoredEvent k 3 lv 0 0) s fun t =>
        t.zc.tracks = tblSet (fun _ => ZcTrack.blank) s.zc.tracks k.val { zcTrack s k.val with
          heard := (zcTrack s k.val).heard || decide (c ≠ .none)
          receiving := (zcTrack s k.val).receiving || decide (c = .both) } ∧
        bare t = bare (moveTo s e))

/-! ### Canvas strokes: entry i of the running image is stroke k in this tick (`strokeAt s op i = some k`) -/

/-- R264, R286: a stroke command whose entry does not run in this tick (another op, another SET, not due, its lane or the Canvas
stopped) changes nothing. -/
def Obligations.StrokeNotDue : Prop :=
  ∀ (s : State) (i done mv high period : Nat) (edges level : Bool), ∀ c ∈ [(Instr.copy i, 0x01), (.scale i, 0x02), (.limit i, 0x03), (.compare i, 0x04), (.logic i, 0x05),
    (.timer i, 0x06), (.lowpass i, 0x07), (.median i, 0x08), (.table8 i, 0x09), (.sched i, 0x0A), (.clientIn i, 0x0B),
    (.clientOut i, 0x0C), (.fanSup i, 0x0D), (.drvSup i, 0x0E), (.relay i, 0x0F), (.hostpub i, 0x10), (.log i, 0x11),
    (.digest i, 0x12), (.prof i, 0x22), (.pent i, 0x23), (.convStart i, 0x28), (.convRead i, 0x29), (.convArb i, 0x2A),
    (.openwire i, 0x2B), (.pwm i, 0x30), (.sixstep i, 0x31), (.dtc i, 0x32), (.shunt i, 0x33), (.fanPwm i, 0x35),
    (.tach i, 0x36), (.bbBeacon i, 0x38), (.bbSlot i, 0x39), (.bbRx i, 0x3A), (.bbTx i, 0x3B), (.zcTx i, 0x3C),
    (.zcRx i, 0x3D), (.stCnt i, 0x3E), (.stLogq i, 0x3F), (.cmp2 i done, 0x20), (.cmp3 i done, 0x21),
    (.cmdin i mv high period edges level, 0x34)],
    strokeAt s c.2 i = none → Answers c.1 s fun t => bare t = bare s

/-- The signal strokes of the core lanes: the value each writes to its OUT signal, and that it writes nothing else; an entry that
has run does not run again in the same tick. -/
def Obligations.SignalStrokes : Prop :=
  ∀ (s : State) (i : Nat) (k : Stroke),
    (strokeAt s 0x01 i = some k → Answers (.copy i) s fun t =>
      bare t = bare (writeSig k k.e.out (readSig s k k.e.inn) s)) ∧
    (strokeAt s 0x02 i = some k → Answers (.scale i) s fun t =>
      bare t = bare (writeSig k (blkOut s k)
        (sat32 (asr (argI s k 2 * readI s k (blkIn s k)) (min (argWord s k.e 4).toNat 63) + argI s k 3)) s)) ∧
    (strokeAt s 0x03 i = some k → argI s k 2 ≤ argI s k 3 → Answers (.limit i) s fun t =>
      ∃ v : Word, bare t = bare (writeSig k (blkOut s k) v s) ∧ argI s k 2 ≤ sgn v ∧ sgn v ≤ argI s k 3 ∧
        (argI s k 2 ≤ readI s k (blkIn s k) → readI s k (blkIn s k) ≤ argI s k 3 → v = readSig s k (blkIn s k))) ∧
    (strokeAt s 0x04 i = some k → argI s k 2 ≤ readI s k (blkIn s k) → Answers (.compare i) s fun t =>
      bare t = bare (writeSig k (blkOut s k) 1 s)) ∧
    (strokeAt s 0x04 i = some k → readI s k (blkIn s k) < argI s k 2 → readI s k (blkIn s k) < argI s k 2 - argI s k 3 →
      Answers (.compare i) s fun t => bare t = bare (writeSig k (blkOut s k) 0 s)) ∧
    (strokeAt s 0x05 i = some k → Answers (.logic i) s fun t =>
      bare t = bare (writeSig k (fld (argWord s k.e 1) 0 11)
        (bit1 32 ((argWord s k.e (6 + logicIndex s k / 32)).getLsbD (logicIndex s k % 32))) s)) ∧
    (strokeAt s 0x06 i = some k → Answers (.timer i) s fun t =>
      ∃ d : Bool × Nat,
        d = timerStep (tblGet (fun _ => (false, 0)) s.canvas.timers k.e.target) (decide (readSig s k (blkIn s k) ≠ 0))
          (argWord s k.e 2).toNat (argWord s k.e 3).toNat ∧
        bare t = bare (writeSig k (blkOut s k) (bit1 32 d.1)
          { s with canvas := { s.canvas with timers := tblSet (fun _ => (false, 0)) s.canvas.timers k.e.target d } })) ∧
    (strokeAt s 0x07 i = some k → Answers (.lowpass i) s fun t =>
      ∃ y y' : Int, y = tblGet (fun _ => (0 : Int)) s.canvas.lowpass k.e.target ∧
        y' = y + asr (readI s k (blkIn s k) - y) (min (argWord s k.e 2).toNat 63) ∧
        bare t = bare (writeSig k (blkOut s k) (sat32 y')
          { s with canvas := { s.canvas with lowpass := tblSet (fun _ => (0 : Int)) s.canvas.lowpass k.e.target y' } })) ∧
    (strokeAt s 0x08 i = some k → Answers (.median i) s fun t =>
      (medianIn s k = [] → bare t = bare (writeSig k (fld (argWord s k.e 1) 0 11 + 1) 0 s)) ∧
      (∀ m, medianOf (medianIn s k) = some m → bare t = bare (writeSig k (fld (argWord s k.e 1) 0 11) (BitVec.ofInt 32 m)
        (writeSig k (fld (argWord s k.e 1) 0 11 + 1) (BitVec.ofNat 32 (medianIn s k).length) s)))) ∧
    (strokeAt s 0x09 i = some k → Answers (.table8 i) s fun t =>
      bare t = bare (writeSig k (blkOut s k) (sat32 (interp (readI s k (blkIn s k))
        ((List.range 8).map fun j => (argI s k (2 + 2 * j), argI s k (3 + 2 * j))))) s)) ∧
    (Settled s → ∀ c ∈ [(Instr.copy i, 0x01), (.relay i, 0x0F), (.hostpub i, 0x10)], strokeAt s c.2 i = some k →
      Answers c.1 s fun t => strokeAt t c.2 i = none) ∧
    (∀ p, strokeAt s 0x0A i = some k → schedPick (weekMinute s.time.calSec.toNat)
        ((List.range ((fld (argWord s k.e 0) 0 8 - 2) / 2)).map fun j =>
          ((argWord s k.e (2 + 2 * j)).toNat, argWord s k.e (3 + 2 * j))) = some p → Answers (.sched i) s fun t =>
      bare t = bare (writeSig k (fld (argWord s k.e 1) 0 11) p.2 s))

/-- The strokes between the core lanes and records, relays, the host's values, the fault log, digests and converters. -/
def Obligations.RecordStrokes : Prop :=
  ∀ (s : State) (i : Nat) (k : Stroke),
    (strokeAt s 0x0B i = some k → k.e.inn = 1 → Answers (.clientIn i) s fun t =>
      bare t = bare (writeSig k k.e.out (recordWord s k.e.target 3) s)) ∧
    (strokeAt s 0x0C i = some k → Answers (.clientOut i) s fun t =>
      bare t = bare (setC k.e.target 30 0xFFFFFFFF (readSig s k k.e.inn) s)) ∧
    (strokeAt s 0x0F i = some k → Answers (.relay i) s fun t =>
      bare t = bare { s with pads := { s.pads with
        crlyNext := s.pads.crlyNext ++ [(k.e.target - 16, decide (readSig s k k.e.inn ≠ 0))] } }) ∧
    (strokeAt s 0x10 i = some k → Answers (.hostpub i) s fun t =>
      bare t = bare { s with host := { s.host with pubNext := s.host.pubNext ++ [(k.e.target, readSig s k k.e.inn)] } }) ∧
    (strokeAt s 0x11 i = some k → Settled s → s.store.logQ.length < 512 → Answers (.log i) s fun t =>
      bare t = bare s ∧ ∃ e : LogEntry, t.store.logQ = s.store.logQ ++ [e] ∧ e.value = readSig s k k.e.inn ∧
        fld e.word2 13 11 = 0x400 + k.e.out % 1024) ∧
    (∀ r, strokeAt s 0x12 i = some k → s.mirror.pair = true → s.mirror.role = .primary →
      (s.mirror.results.find? fun r => r.1 + 1 == canvasTime s / frameLen) = some r → Answers (.digest i) s fun t =>
        t.mirror.built = some { frame := r.1, digest := r.2.1, state := r.2.2.1, err := r.2.2.2 } ∧
        t.mirror.txSeq = s.mirror.txSeq + 1) ∧
    (strokeAt s 0x28 i = some k → chInService s k.e.target = true → (modulator s (k.e.target % 16)).conv = none →
      Answers (.convStart i) s fun t =>
        bare t = bare (setMod (k.e.target % 16) { modulator s (k.e.target % 16) with
          want := (modulator s (k.e.target % 16)).want ++ [(k.e.target, false, tickNo s)] } s)) ∧
    (∀ r, strokeAt s 0x29 i = some k → s.glaze.oosMod.getLsbD (k.e.target % 16) = false →
      visibleResult s k.e.target = some r → Answers (.convRead i) s fun t =>
        bare t = bare (writeSig k (k.e.out + 1) (readTag r (decide ((convCh s k.e.target).read ≠ some r.no)))
          (writeSig k k.e.out (BitVec.ofInt 32 r.code)
            (setCh k.e.target { convCh s k.e.target with read := some r.no } s)))) ∧
    (strokeAt s 0x2A i = some k → isArbiter s = true → chInService s k.e.target = true → s.conv.arbWait.length < 16 →
      Answers (.convArb i) s fun t =>
        bare t = bare { s with conv := { s.conv with
          arbWait := s.conv.arbWait ++ [(k.e.target, none)], arbAt := s.conv.arbAt ++ [tickNo s] } }) ∧
    (strokeAt s 0x2B i = some k → chInService s k.e.target = true → owCurrent s k.e.target true = true → Answers (.openwire i) s fun t =>
        bare t = bare (setMod (k.e.target % 16) { modulator s (k.e.target % 16) with
          want := (modulator s (k.e.target % 16)).want ++ [(k.e.target, true, tickNo s)] } s))

/-- R717: the arbiter holds up to 16 waiting requests, of CONV_ARB strokes and of the safety core; a further one is dropped and
counted in CONV.Q_STAT.ARB_DROP. -/
def Obligations.ArbiterQueueFull : Prop :=
  ∀ s : State, isArbiter s = true →
    (∀ (i : Nat) (k : Stroke), strokeAt s 0x2A i = some k → chInService s k.e.target = true →
      (s.conv.arbWait.length < 16 → Answers (.convArb i) s fun t =>
        t.conv.arbWait = s.conv.arbWait ++ [(k.e.target, none)] ∧ t.conv.arbDrop = s.conv.arbDrop) ∧
      (16 ≤ s.conv.arbWait.length → Answers (.convArb i) s fun t =>
        t.conv.arbWait = s.conv.arbWait ∧ t.conv.arbDrop = satInc s.conv.arbDrop)) ∧
    (∀ (tick ch j : Nat), chInService s ch = true →
      (s.conv.arbWait.length < 16 → (arbRequest tick ch (some j) s).conv.arbWait = s.conv.arbWait ++ [(ch, some j)] ∧
        (arbRequest tick ch (some j) s).conv.arbDrop = s.conv.arbDrop) ∧
      (16 ≤ s.conv.arbWait.length → (arbRequest tick ch (some j) s).conv.arbWait = s.conv.arbWait ∧
        (arbRequest tick ch (some j) s).conv.arbDrop = satInc s.conv.arbDrop))

/-- R743: the output of a compensator evaluation is the raw output clamped to LO to HI of the slot's set: in DELAY1 it waits as
the pending output, in a met ASAP evaluation it is written. -/
def Obligations.CompensatorClamped : Prop :=
  ∀ (s : State) (i done : Nat) (k : Stroke) (cmp3 : Bool),
    strokeAt s (if cmp3 then 0x21 else 0x20) i = some k → slotInService s k.e.target = true →
    (slotAsap s k.e.target = false → Answers (if cmp3 then .cmp3 i done else .cmp2 i done) s fun t =>
      ∃ d : Slot, t.loop.slots = tblSet (fun _ => Slot.blank) s.loop.slots k.e.target d ∧
        d.pend = some (clampI (slotLo s k.e.target) (slotHi s k.e.target) (rawOut s cmp3 k.e.target (readI s k k.e.inn)).1,
          k.e.out, tickNo s) ∧ t.canvas.fresh = s.canvas.fresh) ∧
    (slotAsap s k.e.target = true → k.start + opCost k.e.op ≤ slotDeadline s k.e.target → done ≤ slotDeadline s k.e.target →
      0 < k.e.out → k.e.out < 0x7F0 → Answers (if cmp3 then .cmp3 i done else .cmp2 i done) s fun t =>
        ∃ dl y, y = clampI (slotLo s k.e.target) (slotHi s k.e.target) (rawOut s cmp3 k.e.target (readI s k k.e.inn)).1 ∧
          t.canvas.fresh = { sig := k.e.out, lane := k.e.lane, dl := dl, value := BitVec.ofInt 32 y } :: s.canvas.fresh)

/-- R767: an instance whose LEN.L is 0 writes 0 to OUT and learns nothing. -/
def Obligations.PentWithoutTable : Prop :=
  ∀ (s : State) (i : Nat) (k : Stroke), strokeAt s 0x23 i = some k → pentL s k.e.target = 0 →
    Answers (.pent i) s fun t => bare t = bare (writeSig k k.e.out 0 s)

/-- Profile, drive and fan strokes. -/
def Obligations.OutputStrokes : Prop :=
  ∀ (s : State) (i : Nat) (k : Stroke),
    (strokeAt s 0x22 i = some k → Answers (.prof i) s fun t =>
      ∃ d : Gen, d = profStep (gen s k.e.target) (readI s k k.e.inn) (profV s k.e.target) (profA s k.e.target)
          (profJ s k.e.target) (profS s k.e.target) ∧
        bare t = bare (writeSig k k.e.out (profOut d) (setGen k.e.target d s))) ∧
    (strokeAt s 0x30 i = some k → s.glaze.oosDrv.getLsbD k.e.target = false → Answers (.pwm i) s fun t =>
      bare t = bare (setDrv k.e.target { drv s k.e.target with
        demand := some (clampI 0 (2 ^ 31) (readI s k k.e.inn), tickNo s) } s)) ∧
    (strokeAt s 0x31 i = some k → s.glaze.oosDrv.getLsbD k.e.target = false → sixStates (drv s k.e.target) = true →
      Answers (.sixstep i) s fun t =>
        bare t = bare (setDrv k.e.target ((drv s k.e.target).withBridge (.six (drv s k.e.target).sector) (now s)) s)) ∧
    (strokeAt s 0x32 i = some k → s.glaze.oosDrv.getLsbD k.e.target = false → Answers (.dtc i) s fun t =>
      bare t = bare (writeSig k k.e.out (toQ31 (f32Div (drv s k.e.target).torque (tqMax s k.e.target)))
        (setDrv k.e.target { drv s k.e.target with
          trefNext := some (f32Mul (f32Rat (readI s k k.e.inn) (2 ^ 31)) (tqMax s k.e.target), tickNo s) } s))) ∧
    (∀ at_ u v w, strokeAt s 0x33 i = some k → s.glaze.oosDrv.getLsbD k.e.target = false →
      ((drv s k.e.target).sets.find? fun e => decide (e.1 + 120 ≤ tickNo s * tickLen)) = some (at_, u, v, w) →
      Answers (.shunt i) s fun t =>
        bare t = bare (writeSig k (k.e.out + 2) (BitVec.ofInt 32 (w * 2 ^ 20)) (writeSig k (k.e.out + 1)
          (BitVec.ofInt 32 (v * 2 ^ 20)) (writeSig k k.e.out (BitVec.ofInt 32 (u * 2 ^ 20)) s)))) ∧
    (∀ mv high period (edges level : Bool), strokeAt s 0x34 i = some k → s.glaze.oosDrv.getLsbD k.e.target = false →
      Answers (.cmdin i mv high period edges level) s fun t =>
        ∃ v : Word, t.canvas.fresh = (writeSig k k.e.out v s).canvas.fresh ∧ t.canvas.signals = s.canvas.signals ∧
          t.params = s.params ∧ t.conv = s.conv) ∧
    (strokeAt s 0x0E i = some k → s.glaze.oosDrv.getLsbD k.e.target = false → drvLive s k.e.target = true →
      (drv s k.e.target).st ≠ .run → Answers (.drvSup i) s fun t =>
        ∃ b c : Word, t.canvas.fresh = (writeSig k (k.e.out + 2) c (writeSig k (k.e.out + 1) b
          (writeSig k k.e.out 0 s))).canvas.fresh) ∧
    (strokeAt s 0x35 i = some k → Answers (.fanPwm i) s fun t =>
      bare t = bare (setDuty k.e.target (clampI 0 (2 ^ 31) (readI s k k.e.inn)) s)) ∧
    (strokeAt s 0x36 i = some k → Answers (.tach i) s fun t =>
      bare t = bare (writeSig k k.e.out (BitVec.ofNat 32 (fanRpmAt s k.e.target (tickStart s))) s)) ∧
    (strokeAt s 0x0D i = some k → fanLive s k.e.target = true → (fan s k.e.target).st = .off →
      Answers (.fanSup i) s fun t =>
        ∃ b c : Word, t.canvas.fresh = (writeSig k (k.e.out + 2) c (writeSig k (k.e.out + 1) b
          (writeSig k k.e.out (BitVec.ofNat 32 (fanRpmAt s k.e.target (tickStart s))) s))).canvas.fresh)

/-- The strokes of the line and store lanes. -/
def Obligations.LineAndStoreStrokes : Prop :=
  ∀ (s : State) (i : Nat) (k : Stroke),
    (strokeAt s 0x38 i = some k → Answers (.bbBeacon i) s fun t =>
      bare t = bare { s with bb := { s.bb with list := s.bb.gather, gather := [], built := true } }) ∧
    (strokeAt s 0x39 i = some k → Answers (.bbSlot i) s fun t =>
      bare t = bare { s with bb := { s.bb with
        gather := s.bb.gather ++ [{ id := k.e.target, down := false, carried := false }] } }) ∧
    (∀ ws, strokeAt s 0x3A i = some k → (cRun s k.e.target).report = some ws → Answers (.bbRx i) s fun t =>
      t.clients.run = tblSet (fun _ => ClientRun.blank) s.clients.run k.e.target { cRun s k.e.target with report := none }) ∧
    (strokeAt s 0x3B i = some k → downQueued s k.e.target = true → Answers (.bbTx i) s fun t =>
      bare t = bare { s with bb := { s.bb with
        gather := s.bb.gather ++ [{ id := k.e.target, down := true, carried := false }] } }) ∧
    (∀ q rest trk, strokeAt s 0x3C i = some k → cmdsFor s k.e.target true = q :: rest → cFld s k.e.target 0 16 2 = trk + 1 →
      Answers (.zcTx i) s fun t =>
        (∀ e ∈ t.clients.queue, ¬(e.id = q.id ∧ e.seq = q.seq ∧ e.zc = true)) ∧
        ∀ e ∈ s.clients.queue, ¬(e.id = q.id ∧ e.seq = q.seq ∧ e.zc = true) → e ∈ t.clients.queue) ∧
    (∀ id st, strokeAt s 0x3D i = some k → s.glaze.oosPh.getLsbD k.e.target = false →
      (zcTrack s k.e.target).rx = [(2, id, st)] → tblWf cBlank s.clients.words = true →
      cFld s id 9 0 16 = 0 → cFld s id 8 16 16 = 0 → Answers (.zcRx i) s fun t =>
        bare t = bare (setC id 8 0x70 (BitVec.ofNat 32 (st * 16)) s)) ∧
    (strokeAt s 0x3E i = some k → Answers (.stCnt i) s fun t =>
      bare t = bare (setCnt (k.e.target + 2048 * fld k.e.arg 0 1) (BitVec.ofNat 32
        (min ((cntOf s (k.e.target + 2048 * fld k.e.arg 0 1)).toNat + readI s k k.e.inn).toNat (2 ^ 32 - 1))) s)) ∧
    (∀ e rest, strokeAt s 0x3F i = some k → arrayFree s = true → logFree s = true → s.store.lostDue = false →
      s.store.logQ = e :: rest → s.store.logPos % 256 ≠ 0 → Answers (.stLogq i) s fun t =>
        t.store.logPos = (s.store.logPos + 1) % 2816 ∧ t.store.logSeq = s.store.logSeq + 1 ∧
        t.mem = (progWords (sectorBase 117 + 16 * s.store.logPos) [s.store.logSeq, e.hyper, e.word2, e.value] s).mem)

/-! ### Control of the Canvas -/

/-- The changes of run state at a major-frame boundary of the Canvas. -/
def Obligations.RunStates : Prop :=
  ∀ s : State, atFrame s = true → canvasRuns s = true →
    (s.canvas.run = .comfort → heldBefore s = true → Answers .emergencySetChange s fun t =>
      t.canvas.run = .emergency ∧ t.gesso.trip = s.gesso.trip ∧ t.safety.alarms = s.safety.alarms) ∧
    (s.canvas.run = .emergency → heldBefore s = false → isStandby s = false → Answers .comfortSetReturn s fun t =>
      t.canvas.run = .comfort ∧ t.canvas.held = [] ∧ t.host.op.paused = false) ∧
    (s.canvas.run = .runIn → s.sys.tier = 2 → heldBefore s = false → Answers .canvasRunInEnd s fun t =>
      t.canvas.run = .comfort ∧ t.canvas.held = [])

/-- Start, verification, swap, overruns and lane faults. -/
def Obligations.CanvasControl : Prop :=
  ∀ s : State,
    (s.power.vmain = true → s.power.inReset = false → atFrame s = true → s.canvas.run = .stopped →
      s.power.canvasStarted = none → s.store.ready = true → (domAvail s).getLsbD 2 = true →
      s.power.origin + 400 * ms ≤ now s → verifyImage s s.canvas.slot true = none → Answers .canvasStart s fun t =>
        t.canvas.run = .runIn ∧ t.power.canvasStarted = some (now s) ∧ t.canvas.fallback = false ∧
        t.canvas.image = some (readImage s s.canvas.slot)) ∧
    (s.canvas.verBusy = true → reserveFree s 1 1 = true → s.host.op.paused = false → Answers .verificationDone s fun t =>
      t.canvas.verBusy = false ∧ t.canvas.stagedGen = imgWord s s.canvas.verSlot 3 ∧
      t.canvas.stagedOk = ((verifyImage s s.canvas.verSlot false).isNone && decide (s.canvas.verSlot ≠ s.canvas.slot)) ∧
      t.canvas.run = s.canvas.run ∧ t.canvas.image = s.canvas.image) ∧
    (runDue s = s.canvas.run → s.canvas.run = .comfort → swapDue s = true → s.canvas.swapHeld = false →
      Answers .canvasSwap s fun t =>
        t.canvas.slot = !s.canvas.slot ∧ t.canvas.image = some (readImage s (!s.canvas.slot)) ∧
        t.canvas.run = .comfort ∧ t.canvas.swapArm = false ∧ t.canvas.swapCnt = s.canvas.swapCnt + 1) ∧
    (∀ (i : Nat) (e : Entry) (k : Stroke), (entries s)[i]? = some e → e.op ≠ 0x20 → e.op ≠ 0x21 → entrySkipped s e = false →
      strokeAt s e.op i = some k → Answers (.strokeOverrun i) s fun t =>
        t.canvas.ovrCnt = tblSet (fun _ => (0 : Word)) s.canvas.ovrCnt k.e.lane
          (tblGet (fun _ => (0 : Word)) s.canvas.ovrCnt k.e.lane + 1) ∧
        t.canvas.signals = s.canvas.signals ∧ t.canvas.fresh = s.canvas.fresh) ∧
    (∀ lane : Fin 8, (s.sys.applied &&& ~~~s.sys.gated).getLsbD (laneDom lane.val) = true →
      s.canvas.laneFlt.getLsbD lane.val = false → Answers (.laneFault lane) s fun t =>
        t.canvas.laneFlt = setBit s.canvas.laneFlt lane.val true ∧ (2 ≤ lane.val → t.canvas.run = s.canvas.run))

/-- R31: a swap that is due while the emergency set is active is held. -/
def Obligations.SwapHeldInEmergency : Prop :=
  ∀ s : State, runDue s = s.canvas.run → s.canvas.run = .emergency → swapDue s = true → Answers .canvasSwap s fun t =>
    bare t = bare { s with canvas := { s.canvas with swapHeld := true } }

/-- R285: the Canvas stops when CORE_A or CORE_B is faulted. -/
def Obligations.CoreFaultStopsCanvas : Prop :=
  ∀ (s : State) (lane : Fin 8), lane.val < 2 → (s.sys.applied &&& ~~~s.sys.gated).getLsbD 2 = true →
    s.canvas.laneFlt.getLsbD lane.val = false → Answers (.laneFault lane) s fun t =>
      t.canvas.run = .stopped ∧ t.canvas.laneFlt.getLsbD lane.val = true

/-- R282: any overrunning stroke other than a compensator is abandoned, writes nothing, and is counted and recorded; an entry of a
unit out of service is no stroke and does not overrun (R464). -/
def Obligations.OverrunAbandoned : Prop :=
  ∀ (s : State) (i : Nat) (e : Entry) (k : Stroke), (entries s)[i]? = some e → e.op ≠ 0x20 → e.op ≠ 0x21 →
    entrySkipped s e = false → strokeAt s e.op i = some k → Answers (.strokeOverrun i) s fun t =>
      t.canvas.ovrCnt = tblSet (fun _ => (0 : Word)) s.canvas.ovrCnt k.e.lane
        (tblGet (fun _ => (0 : Word)) s.canvas.ovrCnt k.e.lane + 1) ∧
      t.canvas.ovrLast = put 32 0 i ||| put 32 14 k.e.lane ∧ t.canvas.signals = s.canvas.signals ∧
      t.canvas.fresh = s.canvas.fresh ∧ t.loop = s.loop ∧ t.drive = s.drive ∧ t.conv = s.conv ∧ t.clients = s.clients ∧
      t.bb = s.bb ∧ t.mem = s.mem

/-! ### Supplies, power states and resets -/

/-- The supplies come, fall and fail. -/
def Obligations.Supplies : Prop :=
  ∀ s : State,
    (s.power.vmain = false → s.power.flushing = false → s.power.st = .run → Answers .vmainValid s fun t =>
      t.power.vmain = true ∧ t.power.origin = now s ∧ t.power.starting = true ∧ t.gesso.trip = s.gesso.trip) ∧
    (s.power.vmain = false → s.power.flushing = false → s.power.st = .vigil → Answers .vmainValid s fun t =>
      t.power.vmain = true ∧ t.power.st = .run ∧ t.power.restartKind = 3 ∧ t.gesso.trip = s.gesso.trip ∧
      t.gesso.record = s.gesso.record ∧ t.mem = s.mem) ∧
    (s.power.vmain = true → s.power.pfw = false → s.power.st = .run → s.store.jPos < 512 →
      Answers .powerFailWarning s fun t =>
        t.power.pfw = true ∧ t.power.flushing = true ∧ t.power.flushStart = now s ∧ t.power.vmain = true ∧
        t.gesso.trip = s.gesso.trip ∧
        MemKept (journalSpan :: (List.range 8).map fun i => sectorSpan (dumpBase (nextArea s) + i)) s t) ∧
    (s.power.pfw = true → s.power.vmain = true → Answers .pfwRecovered s fun t =>
      bare t = bare { s with power := { s.power with pfw := false, dips := s.power.dips + 1 } }) ∧
    (s.power.vmain = true → s.power.pfw = true → s.power.flushing = true → Answers .brownOut s fun t =>
      t.power.vmain = false ∧ t.power.brown = s.power.brown + 1 ∧ t.sys.applied = s.sys.applied &&& 0x203 ∧
      t.gesso.trip = s.gesso.trip ∧ t.gesso.outCmd = s.gesso.outCmd) ∧
    (s.power.vmain = true → s.power.pfw = true → s.power.flushing = false → s.power.vbatAbsent = false →
      Answers .brownOut s fun t =>
        t.power.vmain = false ∧ t.power.brown = s.power.brown + 1 ∧ t.power.st = .vigil ∧ t.sys.applied = 1 ∧
        t.power.pfw = false ∧ t.gesso.trip = s.gesso.trip) ∧
    (s.power.flushing = true → s.power.restartWaits = false → s.power.vmain = false → s.power.vbatAbsent = false →
      s.store.jPos < 512 → Answers .flushComplete s fun t =>
        t.power.st = .vigil ∧ t.power.flushing = false ∧ t.power.flushComplete = true ∧ t.sys.applied = 1 ∧
        t.gesso.trip = s.gesso.trip ∧ MemKept [journalSpan] s t) ∧
    (∀ core ana, Answers (.vcoreVanaLoss core ana) s fun t =>
      t.power.vcore = (s.power.vcore && core) ∧ t.power.vana = (s.power.vana && ana) ∧
      t.sys.applied = s.sys.applied &&&
        (fedDomains s.power.vmain (s.power.vcore && core) (s.power.vana && ana) ||| heldUp s)) ∧
    (∀ core ana, s.power.vmain = true → s.power.restartWaits = false → Answers (.vcoreVanaReturn core ana) s fun t =>
      t.power.vcore = (s.power.vcore || core) ∧ t.power.vana = (s.power.vana || ana) ∧
      t.sys.applied = s.sys.applied ||| fedDomains s.power.vmain (s.power.vcore || core) (s.power.vana || ana)) ∧
    (∀ ok mv, Answers (.vfieldValidChange ok mv) s fun t => t.power.vfield = ok ∧ t.field.vfieldMv = mv) ∧
    (s.power.vmain = true → Answers .vbatAbsent s fun t =>
      bare t = bare { s with power := { s.power with vbat := false, vbatAbsent := true, vbatLow := false } }) ∧
    (Answers .vbatReturn s fun t => bare t = bare { s with power := { s.power with vbat := true, vbatAbsent := false } }) ∧
    (s.power.vbatAbsent = false → Answers .vbatLow s fun t =>
      bare t = bare { s with power := { s.power with vbatLow := true } }) ∧
    (Answers .vbatLowRecover s fun t => bare t = bare { s with power := { s.power with vbatLow := false } }) ∧
    (∀ charged mv, Answers (.vholdThreshold charged mv) s fun t =>
      bare t = bare { s with power := { s.power with holdLow := !charged, vhold := mv } })

/-- R332: when VMAIN returns above its valid threshold before brown-out, the dip is counted and the flush goes on; when it
completes, the device stays in its state without restarting. -/
def Obligations.DipWithoutRestart : Prop :=
  ∀ s : State, s.power.vmain = true →
    (s.power.pfw = true → Answers .pfwRecovered s fun t =>
      t.power.dips = s.power.dips + 1 ∧ t.power.flushing = s.power.flushing ∧ t.power.st = s.power.st ∧
      t.power.origin = s.power.origin ∧ t.power.inReset = s.power.inReset) ∧
    (s.power.flushing = true → s.power.restartWaits = false → Answers .flushComplete s fun t =>
      t.power.flushing = false ∧ t.power.flushComplete = true ∧ t.power.st = s.power.st ∧
      t.power.origin = s.power.origin ∧ t.power.inReset = s.power.inReset ∧ t.sys.applied = s.sys.applied)

/-- Power states, wake causes, nRST and the steps of the restart. -/
def Obligations.PowerStates : Prop :=
  ∀ s : State,
    (∀ rtc at_, s.power.st = .run → s.power.vmain = true → s.power.inReset = false →
      s.power.movingUntil ≤ now s → s.power.ceil = 1 → 5060 ≤ horizonOf .doze rtc (moveIn s at_) → Answers (.powerStateChoice rtc at_) s fun t =>
        t.power.st = .doze ∧ t.power.horizonState = 1 ∧ t.power.ceil = 1 ∧ t.sys.applied = s.sys.applied) ∧
    (∀ at_, exitDue (moveIn s at_) = true →
      Answers (.scheduledExit at_) s fun t => bare t = bare (exitFrom s.power.exitAt (moveIn s at_))) ∧
    (∀ at_, below s = true → Answers (.unscheduledExit at_) s fun t => t.power.st = .run ∧ t.sys.gated = 0) ∧
    (∀ ceil : BitVec 3, BusOpen s → s.legacy.mode = false → ceil.toNat < 3 → Answers (.sleepReqWrite ceil) s fun t =>
      bare t = bare { s with power := { s.power with ceilPending := some (ceil, tickNo s) } }) ∧
    (∀ c : Fin 7, Settled s → wakeLatches s = true → Answers (.wakeCauseLatch c) s fun t =>
      t.power.wake = setBit s.power.wake c.val true ∧ bare t = bare s) ∧
    (s.power.wakeSeq = true → s.power.st = .sleep → s.power.busrdy = false → Answers .wakeSequenceEnd s fun t =>
      t.power.st = .run ∧ t.power.ceil = 2 ∧ t.power.sleepRes = 5 ∧ t.sys.gated = 0) ∧
    (BusOpen s → s.legacy.mode = false → Settled s → Answers .wakeCauseRead s fun t =>
      t.host.dOut = wakeCauseWord s ∧ t.power.wake = s.power.wake &&& wakeFresh s ∧
      t.power.wakeTimed = s.power.wakeTimed &&& wakeFresh s ∧ (wakeFresh s = 0 → t.power.wakeFirst = 7)) ∧
    (∀ ns, 2000 ≤ ns → s.power.vmain = true → s.power.restartWaits = false → s.power.masked = false → s.power.nrstLow = none →
      Answers (.nrstAssert ns) s fun t =>
        t.power.inReset = true ∧ t.power.nrstLow = some (now s) ∧ t.power.busrdy = false ∧ t.power.ceil = 2 ∧
        t.power.sleepRes = 0 ∧ t.safety.alarms = s.safety.alarms ∧ t.safety.run = false) ∧
    (s.power.masked = false → s.power.vmain = true → s.power.restartWaits = false → s.power.nrstLow.isSome = true →
      Answers .nrstRelease s fun t =>
      t.power.inReset = false ∧ t.power.nrstLow = none ∧ t.power.rstNrst = true ∧ t.power.origin = now s ∧
      t.power.restartKind = 1) ∧
    (∀ since, s.power.nrstLow = some since → since + 7600 * ms ≤ now s → s.power.vmain = true →
      s.power.restartWaits = false → Answers .nrstMask s fun t =>
      t.power.masked = true ∧ t.power.rstStuck = true ∧ t.power.inReset = false ∧ t.power.origin = now s ∧
      t.power.restartKind = 2) ∧
    (∀ since, s.power.nrstHigh = some since → s.power.masked = true → since + 100 * ms ≤ now s → Answers .nrstUnmask s fun t =>
      bare t = bare { s with power := { s.power with masked := false, nrstHigh := none } }) ∧
    (s.power.vmain = true → s.power.inReset = false → s.power.busrdy = false → (domAvail s).getLsbD 10 = true →
      (s.power.canvasStarted.isSome = true ∨ s.canvas.noImage = true ∧ s.power.origin + 400 * ms ≤ now s) →
      s.power.wakeSeq = false → s.host.heldAcc = none → s.legacy.waiting = none → Answers .busrdy s fun t =>
        t.power.busrdy = true ∧ t.host.keyValid = [] ∧ t.host.paddr = 0 ∧ t.host.ready = false ∧ t.host.window = [] ∧
        t.host.head = 0 ∧ t.host.tail = 0 ∧ t.glaze.set = [] ∧ t.glaze.sealed_ = false ∧ t.glaze.svc = []) ∧
    (∀ back started, s.power.canvasStarted = some started → s.power.beaconDue = true → atBeacon s = true →
      started + 80 * ms ≤ now s → Answers (.tier2FirstBeacon back) s fun t =>
        t.power.starting = false ∧ t.power.beaconDue = false ∧ t.power.canvasStarted = some started)

/-- R109: nRST, asserted, released, masked or unmasked, leaves Gesso's latched record, its trips and its output commands. -/
def Obligations.ResetSparesGesso : Prop :=
  ∀ (s t : State) (ns : Nat), ∀ c ∈ [Instr.nrstAssert ns, .nrstRelease, .nrstMask, .nrstUnmask], exec c s = .next t →
    t.gesso.record = s.gesso.record ∧ t.gesso.cfgCrc = s.gesso.cfgCrc ∧ t.gesso.trip = s.gesso.trip ∧
    t.gesso.silenced = s.gesso.silenced ∧ t.gesso.sen = s.gesso.sen ∧ t.gesso.confirm = s.gesso.confirm ∧
    t.gesso.outCmd = s.gesso.outCmd

/-- R318, R319, R320, R1218: the refusals of a SLEEP_REQ write; CEIL stays as it is. -/
def Obligations.SleepRequestsRefused : Prop :=
  ∀ (s : State) (ceil : BitVec 3), BusOpen s → s.legacy.mode = false →
    (3 < ceil.toNat → Answers (.sleepReqWrite ceil) s fun t =>
      bare t = bare { s with power := { s.power with sleepRes := 4 } }) ∧
    (anyAlarm s = true → Answers (.sleepReqWrite 3) s fun t =>
      bare t = bare { s with power := { s.power with sleepRes := 3 } }) ∧
    (anyAlarm s = false → s.power.wake ≠ 0 → Answers (.sleepReqWrite 3) s fun t =>
      bare t = bare { s with power := { s.power with sleepRes := 2 } })

/-- R324: at the end of each wake sequence, at the end of an exit from SLEEP or at BUSRDY after VIGIL (R1217), SLEEP_REQ.CEIL is 2
(NAP) and SLEEP_REQ.RES is 5. -/
def Obligations.WakeSequenceEnds : Prop :=
  ∀ s : State, s.power.wakeSeq = true → s.host.heldAcc = none → s.legacy.waiting = none →
    (s.power.busrdy = true ∨ s.power.st = .sleep → Answers .wakeSequenceEnd s fun t =>
      t.power.ceil = 2 ∧ t.power.sleepRes = 5) ∧
    (s.power.vmain = true → s.power.inReset = false → s.power.busrdy = false → (domAvail s).getLsbD 10 = true →
      s.power.canvasStarted.isSome = true → Answers .busrdy s fun t => t.power.ceil = 2 ∧ t.power.sleepRes = 5)

/-! ### The host interface -/

/-- Accesses to the direct registers, each carried out at once: what a read answers and takes, what a write changes. -/
def Obligations.HostAccesses : Prop :=
  ∀ s : State, BusOpen s → s.legacy.mode = false →
    (∀ (off : Fin 48) (v : Half), Answers (.registerWrite off v) s fun t => bare t = bare (regWrite off.val v true (evt 280 s))) ∧
    (∀ (off : Fin 48) (v : Half), off.val ∈ [0x00, 0x01, 0x03, 0x06, 0x07, 0x08, 0x0C, 0x11, 0x1A, 0x20, 0x23, 0x25, 0x2D] →
      Answers (.registerWrite off v) s fun t => bare t = bare s) ∧
    (∀ v : Half, Settled s → Answers (.registerWrite 4 v) s fun t => ∀ b < 16,
      t.host.irqStat.getLsbD b = (s.host.irqStat.getLsbD b &&
        !(v.getLsbD b && decide (tblGet (fun _ => 0) s.host.irqTick b ≠ tickNo s + 1)))) ∧
    (∀ off : Fin 48, (off.val = 0x1D → s.host.ready = true) → Answers (.rclRegisterRead off) s fun t =>
      t.host.dOut = regValue (evt 280 s) off.val ∧ t.host.nWaitLow = s.host.nWaitLow) ∧
    (Answers .tickNowRead s fun t =>
      t.host.dOut = tickNow s ∧ t.host.frameNow = (put 16 0 (majorOf (now s)) ||| put 16 6 (runCode s.canvas.run)) ∧
      t.host.hyperLo = BitVec.ofNat 16 (hyperOf (now s)) ∧ t.host.hyperHi = BitVec.ofNat 16 (hyperOf (now s) / 65536)) ∧
    (Answers .evtDataLoRead s fun t =>
      t.host.dOut = (evtWord (evt 280 s)).extractLsb' 0 16 ∧ t.host.evtHi = (evtWord (evt 280 s)).extractLsb' 16 16) ∧
    (Answers .opres0Read s fun t =>
      t.host.dOut = s.host.op.res.getD 0 0 ∧ t.host.op.resLatch = s.host.op.res ∧ t.host.op.part = false) ∧
    (Answers .statRead s fun t =>
      t.host.dOut = statWord s ∧ t.host.busErr = false ∧ t.host.waitTmo = false) ∧
    (∀ v : Half, Answers (.paddrWrite v) s fun t =>
      bare t = bare { s with host := { s.host with paddr := v, lowHeld := none } }) ∧
    (Answers .pdataLoRead s fun t =>
      t.host.dOut = (readParam (evt 280 s) s.host.paddr.toNat).extractLsb' 0 16 ∧
      t.host.hiLatch = (readParam (evt 280 s) s.host.paddr.toNat).extractLsb' 16 16 ∧ t.host.paddr = s.host.paddr) ∧
    (∀ v : Half, Answers (.pdataLoWrite v) s fun t => bare t = bare { s with host := { s.host with lowHeld := some v } }) ∧
    (s.host.ainc = true → Answers .pdataHiRead s fun t =>
      t.host.dOut = s.host.hiLatch ∧ t.host.pctlRes = (if isDefined s.host.paddr.toNat then 0 else 1) ∧
      t.host.paddr = (s.host.paddr &&& 0xF800) ||| ((s.host.paddr + 1) &&& 0x07FF)) ∧
    (∀ (v : Half) (ok : Bool), s.host.lowHeld = none → Answers (.pdataHiWrite v ok) s fun t =>
      t.host.pctlRes = 5 ∧ t.params = s.params ∧ t.glaze = s.glaze ∧ t.host.imm = s.host.imm) ∧
    (∀ (v lo : Half) (ok : Bool) (r : PRow), s.host.lowHeld = some lo → isDefined s.host.paddr.toNat = true →
      rowOf s.host.paddr.toNat = some r → r.staged = true → isStandby s = false → s.host.paddr ≠ 0x680A →
      (∀ k ∈ writeKeys s r s.host.paddr.toNat ((v ++ lo) &&& rowMask r), keyOk s k = true) →
      inRange r ((v ++ lo) &&& rowMask r) = true → s.glaze.sealed_ = false → s.glaze.set.length < 64 →
      Answers (.pdataHiWrite v ok) s fun t =>
        t.host.pctlRes = 0 ∧ t.params = s.params ∧
        t.glaze.set = (s.glaze.set.filter fun w => w.addr != s.host.paddr.toNat) ++
          [{ addr := s.host.paddr.toNat, value := (v ++ lo) &&& rowMask r, group := s.glaze.grp.toNat }]) ∧
    (∀ v : Half, fld v 8 8 = 0x4B → Answers (.keyInWrite v) s fun t =>
      bare t = bare { s with host := { s.host with keyIn := some (fld v 0 8, []) } }) ∧
    (∀ v : Half, v ≠ s.host.hb → Answers (.hostHbWrite v) s fun t =>
      bare t = bare { s with host := { s.host with
        hb := v, beatAt := now s, beatNew := true, beatFirst := if s.host.beatNew then s.host.beatFirst else now s } }) ∧
    (isStandby s = false → s.glaze.sealed_ = false → Answers .glazeDiscard s fun t =>
      bare t = bare { s with glaze := { s.glaze with set := [] } }) ∧
    (isStandby s = false → s.glaze.sealed_ = true → Answers .glazeDiscard s fun t =>
      bare t = bare { s with glaze := { s.glaze with withdrawn := true } }) ∧
    (Answers .clientSnap s fun t =>
      bare t = bare { s with host := { s.host with ready := false, snapAt := some (tickNo s) } }) ∧
    (∀ v : Half, fld v 0 11 ≠ fld s.host.clientSel 0 11 → Answers (.clientSelWrite v) s fun t =>
      bare t = bare { s with host := { s.host with clientSel := v, ready := false, snapAt := none } }) ∧
    (s.host.ready = true → Answers .clientDataLoRead s fun t =>
      t.host.dOut = (windowWord s).extractLsb' 0 16 ∧ t.host.clientHi = (windowWord s).extractLsb' 16 16) ∧
    (Answers .clientDataHiRead s fun t =>
      t.host.dOut = s.host.clientHi ∧
      t.host.clientSel = (if s.host.cAinc then s.host.clientSel + 0x0800 else s.host.clientSel)) ∧
    (∀ v lo : Half, s.host.clientLow = some lo → 24 ≤ fld s.host.clientSel 11 5 → fld s.host.clientSel 11 5 ≤ 27 →
      Answers (.clientDataHiWrite v) s fun t =>
        t.host.window = tblSet (fun _ => (0 : Word)) s.host.window (fld s.host.clientSel 11 5)
          ((v ++ lo) &&& (if fld s.host.clientSel 11 5 = 24 then 0xFFFF01FF else 0xFFFFFFFF)) ∧
        t.host.clientLow = none) ∧
    (∀ (write : Bool) (off : Fin 16) (v : Half), Answers (.unmappedOffsetAccess write off v) s fun t =>
      t.host.busErr = true ∧ t.host.busErrCnt = s.host.busErrCnt + 1 ∧ (write = false → t.host.dOut = 0)) ∧
    (Answers .busAccessDiscard s fun t =>
      bare t = bare { s with host := { s.host with dOut := 0, busErr := true, busErrCnt := s.host.busErrCnt + 1 } })

/-- What the host interface does at a tick or a frame: held accesses, immediate writes, keys, the client window, silence. -/
def Obligations.HostEvents : Prop :=
  ∀ s : State,
    (∀ a, s.host.heldAcc = some a → 11 * s.host.heldBound < 10 * (now s - s.host.heldAt) → Answers .nwaitTimeout s fun t =>
      t.host.heldAcc = none ∧ t.host.nWaitLow = false ∧ t.host.waitTmo = true ∧ t.host.waitCnt = s.host.waitCnt + 1 ∧
      t.host.dOut = (if a.write then s.host.dOut else 0) ∧ t.params = s.params) ∧
    (∀ at_ v, s.host.imm = [(at_, 0x1000, v)] → tickPast s at_ = true → Answers .immediateParamApply s fun t =>
      t.host.imm = [] ∧ t.canvas.swapArm = v.getLsbD 0 ∧ t.canvas.allowOld = v.getLsbD 1 ∧ t.params = s.params) ∧
    (∀ (kind : BitVec 3) (ret : Bool) (index : BitVec 11) (tag : Byte), BusOpen s → s.legacy.mode = false →
      isStandby s = false → keyOk s 0 = true → Answers (.svcReqWrite kind ret index tag) s fun t =>
        t.host.pctlRes = 0 ∧ t.glaze = s.glaze ∧ t.host.imm = s.host.imm ++ [(tickNo s, 0x0030,
          kind.setWidth 32 ||| put 32 3 ret.toNat ||| put 32 4 index.toNat ||| put 32 16 tag.toNat)]) ∧
    (∀ (at_ : Nat) (v : Word), s.host.imm = [(at_, 0x0030, v)] → tickPast s at_ = true → s.glaze.svc.length < 8 →
      Answers .immediateParamApply s fun t =>
        t.host.imm = [] ∧ t.glaze.svcTag = s.glaze.svcTag ∧ t.glaze.svcAns = 1 ∧ t.glaze.svcReason = 0 ∧
        t.glaze.svc = s.glaze.svc ++ [{ kind := fld v 0 3, ret := v.getLsbD 3, index := fld v 4 11
                                        tag := v.extractLsb' 16 8, tick := tickNo s }]) ∧
    (∀ v : BitVec 10, BusOpen s → s.legacy.mode = false → isStandby s = false → Answers (.resultTailWrite v) s fun t =>
      t.host.pctlRes = 0 ∧ t.host.tail = s.host.tail ∧
      t.host.imm = s.host.imm ++ [(tickNo s, 0xB801, v.setWidth 32)]) ∧
    (∀ (at_ : Nat) (v : Word), s.host.imm = [(at_, 0xB801, v)] → tickPast s at_ = true → s.host.op.out = [] →
      s.host.op.paused = false → Answers .immediateParamApply s fun t =>
        t.host.imm = [] ∧ t.host.tail = v.setWidth 10 ∧ t.host.stall = false) ∧
    (∀ id k at_ rest, s.host.keyDone = (id, k, at_) :: rest → tickPast s at_ = true → (keyLock s id).until_ ≤ now s →
      tblGet (fun _ => (0 : DWord)) s.store.keys id = k → Answers .keyCheck s fun t =>
        t.host.keyRes = 1 ∧ t.host.keyDone = rest ∧ t.host.keyLast = some id ∧
        t.host.keyValid = tblSet (fun _ => none) s.host.keyValid id (some (now s))) ∧
    (∀ id k at_ rest, s.host.keyDone = (id, k, at_) :: rest → tickPast s at_ = true → (keyLock s id).until_ ≤ now s →
      tblGet (fun _ => (0 : DWord)) s.store.keys id ≠ k → Answers .keyCheck s fun t =>
        t.host.keyRes = 2 ∧ t.host.keyDone = rest ∧ t.host.keyLast = s.host.keyLast ∧
        t.host.keyValid = tblSet (fun _ => none) s.host.keyValid id none) ∧
    (∀ (k : Fin 16) (at_ : Nat), tblGet (fun _ => none) s.host.keyValid (keyOfStat k.val) = some at_ → at_ + 60 * sec ≤ now s →
      Answers (.keyExpiry k) s fun t =>
        t.host.keyRes = 5 ∧ t.host.keyValid = tblSet (fun _ => none) s.host.keyValid (keyOfStat k.val) none ∧
        t.host.locks = s.host.locks) ∧
    (∀ k : Fin 16, (keyLock s (keyOfStat k.val)).until_ ≠ 0 → (keyLock s (keyOfStat k.val)).until_ ≤ now s →
      Answers (.keyLockExpiry k) s fun t =>
        bare t = bare (setKeyLock (keyOfStat k.val) { keyLock s (keyOfStat k.val) with until_ := 0 } s)) ∧
    (∀ at_, s.host.snapAt = some at_ → tickPast s at_ = true → s.host.heldAcc = none → Answers .clientSnapComplete s fun t =>
      t.host.snapAt = none ∧ t.host.ready = true ∧ t.clients = s.clients) ∧
    (∀ at_ code, s.host.cmdGoAt = some at_ → tickPast s at_ = true →
      code = fld (tblGet (fun _ => (0 : Word)) s.host.window 24) 0 8 → code ≠ 8 → s.clients.queue.length < 512 →
      cmdReason (fld s.host.clientSel 0 11) code ((tblGet (fun _ => (0 : Word)) s.host.window 24).getLsbD 8) s = 0 →
      Answers .clientCmdGo s fun t => t.host.cmdGoAt = none ∧ t.host.cAns ≠ 2 ∧
        ∃ q : QCmd, t.clients.queue = s.clients.queue ++ [q] ∧ q.id = fld s.host.clientSel 0 11 ∧ q.code = code ∧
          q.zc = (tblGet (fun _ => (0 : Word)) s.host.window 24).getLsbD 8) ∧
    (Settled s → atFrame s = true → s.power.busrdy = true → s.host.hbEn = true → s.host.silent = false →
      s.host.beatAt + hostTmo s ≤ now s → Answers .hostSilenceDeclared s fun t =>
        t.host.silent = true ∧ t.host.silentCnt = s.host.silentCnt + 1 ∧ t.host.irqStat.getLsbD 13 = true ∧
        codePresent t.safety.causes 960 = true) ∧
    (atFrame s = true → s.host.silent = true → s.host.beatNew = true → s.host.beatFirst < now s → Answers .hostSilenceEnd s fun t =>
      bare t = bare { s with host := { s.host with silent := false, beatNew := false } })

/-- Long operations: a write of OPCMD that passes its checks starts the operation of its row; a failing one changes CMD_RES
only; ABORT; the first work and the completion. -/
def Obligations.LongOperations : Prop :=
  ∀ s : State,
    (∀ c ∈ [(Instr.storeWrite, 1), (.storeErase, 2), (.storeRead, 3), (.canvasChunk, 4), (.canvasVerify, 5), (.lineSurvey, 6),
      (.proofRun, 7), (.logExport, 8), (.clientQuery, 9), (.keySet, 10)], BusOpen s → s.legacy.mode = false →
      (opRefusal c.2 ((List.range 4).map fun i => tblGet (fun _ => (0 : Half)) s.host.opArg i) s = 1 →
        Answers c.1 s fun t =>
          t.host.op.st = .running ∧ t.host.op.code = c.2 ∧ t.host.op.acceptedAt = tickNo s ∧ t.host.op.worked = false ∧
          t.host.op.cmdRes = 1 ∧ t.mem = s.mem ∧ t.params = s.params) ∧
      ∀ n, n ≠ 1 → opRefusal c.2 ((List.range 4).map fun i => tblGet (fun _ => (0 : Half)) s.host.opArg i) s = n →
        Answers c.1 s fun t => bare t = bare (cmdRes n s)) ∧
    (BusOpen s → s.legacy.mode = false → isStandby s = false → s.host.op.st = .running → Answers .abort s fun t =>
      t.host.op.abortReq = true ∧ t.host.op.cmdRes = 1 ∧ t.host.op.st = .running) ∧
    (s.host.op.st = .running → s.host.op.worked = false → s.host.op.paused = false → s.host.op.abortReq = false →
      atFrame s = true → tickPast s s.host.op.acceptedAt = true → s.host.op.legacy = false →
      (s.host.op.code = 5 → Answers .opFirstWork s fun t =>
        t.host.op.worked = true ∧ t.canvas.verBusy = true ∧ t.canvas.verSlot = !s.canvas.slot) ∧
      (s.host.op.code = 2 → (opSectors s).all (fun k => !isTorn s k) = true → Answers .opFirstWork s fun t =>
        t.host.op.worked = true ∧ t.store.erasing = some (opA s 0 % 128)) ∧
      (s.host.op.code = 6 → Answers .opFirstWork s fun t =>
        t.host.op.worked = true ∧ t.host.op.progress = s.host.op.progress ∧ t.mem = s.mem)) ∧
    (∀ bad, s.host.op.st = .running → s.host.op.worked = true → s.host.op.paused = false → opServed s = true →
      (s.host.op.code = 5 → s.canvas.verBusy = false → s.canvas.verCode = 0 → Answers (.opComplete bad) s fun t =>
        t.host.op.st = .done ∧ t.host.op.err = 0) ∧
      (s.host.op.code = 5 → s.canvas.verBusy = false → s.canvas.verCode ≠ 0 → Answers (.opComplete bad) s fun t =>
        t.host.op.st = .failed ∧ t.host.op.err = 5 ∧ t.host.op.res = [s.canvas.verCode.setWidth 16, 0, 0, 0]) ∧
      ((s.host.op.code = 3 ∨ s.host.op.code = 8 ∨ s.host.op.code = 9) → s.host.op.out = [] →
        (s.host.op.progress ≠ 0 ∨ s.host.op.legacy = true) → Answers (.opComplete bad) s fun t => t.host.op.st = .done ∧ t.host.op.err = 0 ∧ t.mem = s.mem))

/-! ### Glaze and service changes -/

/-- Sealing, the apply window, durability and the probing of a repeater. -/
def Obligations.GlazeWindows : Prop :=
  ∀ s : State,
    (∀ at_, s.glaze.commitAt = some at_ → tickPast s at_ = true → s.glaze.sealed_ = false → Answers .glazeCommit s fun t =>
      t.glaze.sealed_ = true ∧ t.glaze.commitAt = none ∧ t.glaze.landed = 0 ∧ t.glaze.refused = 0 ∧
      t.glaze.set = s.glaze.set ∧ t.params = s.params) ∧
    (windowDue s = true → runDue s = s.canvas.run → swapDue s = false → s.glaze.svc = [] → s.glaze.sealed_ = false →
      s.host.heldAcc = none → Answers .glazeApply s fun t => bare t = bare { s with glaze := { s.glaze with lastWin := some (frameNo s) } }) ∧
    (∀ (a g : Nat) (v : Word), windowDue s = true → runDue s = s.canvas.run → swapDue s = false → s.glaze.svc = [] →
      s.glaze.sealed_ = true → s.glaze.sealedWin ≠ some (frameNo s) → s.glaze.withdrawn = false → isStandby s = false → g < 8 →
      s.glaze.set = [{ addr := a, value := v, group := g }] → s.host.heldAcc = none →
      (namesHeld s a v = false → leavesConsistent [(a, v)] s = true → a / 2048 = 4 → Answers .glazeApply s fun t =>
        t.glaze.set = [] ∧ t.glaze.sealed_ = false ∧ t.glaze.landed = setBit s.glaze.landed g true ∧
        t.glaze.refused = s.glaze.refused ∧ t.params = (setPar a v s).params) ∧
      (namesHeld s a v = true → Answers .glazeApply s fun t =>
        t.glaze.set = [] ∧ t.glaze.sealed_ = false ∧ t.glaze.refused = setBit s.glaze.refused g true ∧
        t.glaze.landed = s.glaze.landed ∧ t.params = s.params) ∧
      (namesHeld s a v = false → leavesConsistent [(a, v)] s = false → Answers .glazeApply s fun t =>
        t.glaze.set = [] ∧ t.glaze.sealed_ = false ∧ t.glaze.refused = setBit s.glaze.refused g true ∧
        t.glaze.landed = s.glaze.landed ∧ t.params = s.params)) ∧
    (∀ (g : Fin 8) (l : List Nat), (s.glaze.persistWait.find? fun p => p.1 == g.val) = some (g.val, l) →
      (∀ a ∈ l, parDurable s 0 a = true) → Answers (.glazePersist g) s fun t =>
        t.glaze.persistWait = s.glaze.persistWait.filter (fun q => q.1 != g.val) ∧
        t.glaze.res = tblSet (fun _ => GroupRes.blank) s.glaze.res g.val { groupRes s g.val with persist := true } ∧
        t.params = s.params) ∧
    (∀ q : Byte, s.glaze.probeActive = true → atBeacon s = true → s.glaze.probeBsn ≠ some (bsnNow s) →
      admitted s s.glaze.probeClient.toNat = true → fld (par s 0x9826) 0 8 ≤ q.toNat → s.glaze.probePassed.toNat < 3 →
      s.glaze.probePeriods.toNat < 15 → Answers (.repeaterProbePeriod (some q)) s fun t =>
        bare t = bare { s with glaze := { s.glaze with
          probePassed := s.glaze.probePassed + 1, probePeriods := s.glaze.probePeriods + 1, probeBsn := some (bsnNow s) } })

/-! ### The line channels and the clients -/

/-- The zero-crossing channel: accepted frames, combining, noise floors, ageing, retries. -/
def Obligations.ZeroCrossingLine : Prop :=
  ∀ (s : State) (tr : Fin 3),
    (∀ (slot : Nat) (lv : List TeethLevels) (r : Reading),
      r = readBody (coreTh s tr.val) slot (synUsed s tr.val) ((combinedTeeth s lv).drop 1) → zcReceives s = true →
      phaseOn s tr.val = true → startMark (coreTh s tr.val) (combinedTeeth s lv) = true → readingOk r = true → frameType r.copy.bits = 2 →
      recordCopy s.zc.taken (frameAddr r.copy.bits) slot tr.val (16 + frameState r.copy.bits) .x1 = .first →
      Answers (.zcFrameReceived tr slot lv) s fun t =>
        t.zc.taken = tblSet (fun _ => none) s.zc.taken (frameAddr r.copy.bits)
          (some { slot := slot, fe := tr.val, content := 16 + frameState r.copy.bits, before := none }) ∧
        t.clients.updates = s.clients.updates ++ [{ tick := tickNo s, id := frameAddr r.copy.bits, writes := zcSeen s
                                                    counts := false, track := some tr.val }] ∧
        t.safety.alarms = s.safety.alarms ∧ t.gesso.trip = s.gesso.trip) ∧
    (∀ (slot n : Nat) (bits : BitVec 24) (syn : Bool) (comb : Combine), zcReceives s = true →
      ((zcTrack s tr.val).copies.head?.map fun c => c.slot) = some slot →
      combineSlot (zcTrack s tr.val).copies slot = some (bits, n, syn, comb) → frameType bits = 2 →
      recordCopy s.zc.taken (frameAddr bits) slot tr.val (16 + frameState bits) comb = .first →
      Answers (.zcSlotCombine tr slot) s fun t =>
        t.zc.taken = tblSet (fun _ => none) s.zc.taken (frameAddr bits)
          (some { slot := slot, fe := tr.val, content := 16 + frameState bits, before := none }) ∧
        t.safety.alarms = s.safety.alarms ∧ t.gesso.trip = s.gesso.trip) ∧
    (∀ core gesso : Nat, Settled s → phaseOn s tr.val = true → outputsLive s = true → s.safety.run = true →
      (domAvail s).getLsbD 8 = true →
      noisyNext ((core :: (zcTrack s tr.val).noise).take 8) (zcTrack s tr.val).noisy = (zcTrack s tr.val).noisy →
      Answers (.noiseFloorMeasure tr core gesso) s fun t =>
        t = setZc tr.val { zcTrack s tr.val with noise := (core :: (zcTrack s tr.val).noise).take 8 }
          { s with gesso := { s.gesso with
              noise := tblSet (fun _ => []) s.gesso.noise tr.val ((gesso :: gessoNoise s tr.val).take 8) } }) ∧
    (∀ f, Settled s → (zcTrack s tr.val).under = none → (zcTrack s tr.val).q1 = [f] → (zcTrack s tr.val).q2 = [] →
      f.queuedAt + fld (par s (parAddr 18 0)) 8 8 * sec < now s → Answers (.hubFrameAged tr) s fun t =>
        t = setZc tr.val { zcTrack s tr.val with q1 := [], cntAged := (zcTrack s tr.val).cntAged + 1 } s) ∧
    (tblWf (fun _ => ZcTrack.blank) s.zc.tracks = true → ∀ (p16 backE backL : Int) (e : Nat) (syn : Bool),
      toothP s tr.val 0 = some p16 → e = toothInstant (some .mark) false p16 → now s ≤ e → e / tickLen = tickNo s →
      syn = burstSyn (moveTo s e) tr.val 0 →
      (∀ lv, burstMissing s backE = false → burstMissing s backL = false → toothSend s tr.val 0 = some .mark →
        toothSend (moveTo s e) tr.val 0 = some .mark → Answers (.toothAnchoredEvent tr 0 lv backE backL) s fun t =>
          (zcTrack t tr.val).bursts = [{ h := 0, late := false, start := (p16 / 16 - 16000).toNat, syn := syn },
            { h := 0, late := true, start := (p16 / 16 + 10182).toNat, syn := syn }]) ∧
      (retryDue s tr.val = true → (zcTrack s tr.val).retryRun < 3 → Answers (.zcTxRetry tr backE backL) s fun t =>
          (zcTrack t tr.val).retryRun =
            (if burstMissing s backE = false ∧ burstMissing s backL = false then (zcTrack s tr.val).retryRun + 1 else 0) ∧
          (zcTrack t tr.val).slotsSinceRetry = 0 ∧ (zcTrack t tr.val).txFault = true ∧
          (zcTrack t tr.val).bursts = [{ h := 0, late := false, start := (p16 / 16 - 16000).toNat, syn := syn },
            { h := 0, late := true, start := (p16 / 16 + 10182).toNat, syn := syn }]))

/-- The broadband channel: the image of a beacon, beacon boundaries, routes, masks, retries, received frames. -/
def Obligations.BroadbandLine : Prop :=
  ∀ s : State,
    (∀ b : Beacon, (beaconImage b).length = 360 ∧ (beaconImage b)[14]? = some b.load ∧ (beaconImage b)[17]? = some b.maskId ∧
      (beaconImage b)[0]? = some (b.netId.setWidth 8)) ∧
    (∀ back silentRpt, atBeacon s = true → bbRuns s = true → s.bb.bsn.toNat < bsnNow s →
      Answers (.beaconBoundary back silentRpt) s fun t =>
        t.bb.bsn = BitVec.ofNat 32 (bsnNow s) ∧ t.bb.coord = true ∧ t.bb.built = false ∧ t.gesso.trip = s.gesso.trip) ∧
    (∀ k m rest, atBeacon s = true → s.bb.pend = (k, m) :: rest → k ≤ bsnNow s → (∀ p ∈ rest, bsnNow s < p.1) →
      Answers .maskChange s fun t =>
        t.bb.pend = rest ∧ t.bb.pre = m.pre ∧ t.bb.notch = m.notch ∧ t.bb.gi = m.gi ∧ t.bb.bsn = s.bb.bsn ∧
        t.params = s.params) ∧
    ((∀ p ∈ s.bb.pend, bsnNow s < p.1) → Answers .maskChange s fun t => bare t = bare s) ∧
    (∀ id d r b, atBeacon s = true → s.clients.run = [(id, d)] → d.nextRoutes = [(r, b)] → b ≤ bsnNow s →
      Answers .routeUpdateEffect s fun t => cRun t id = { d with route := r, nextRoutes := [] } ∧ t.bb.bsn = s.bb.bsn) ∧
    (∀ id : Fin 2048, id.val ∈ s.bb.rpt → 4 ≤ (cRun s id.val).relayMiss → Answers (.repeaterWithdrawn id) s fun t =>
      t.bb.rpt = s.bb.rpt.filter (fun i => i != id.val) ∧ t.bb.bsn = s.bb.bsn) ∧
    (∀ (fe : Fin 3) (back : Int), (frontEnd s fe.val).txFault = true → s.bb.bsn.toNat % 64 = 0 → bbRuns s = true →
      (frontEnd s fe.val).retryBsn ≠ some s.bb.bsn.toNat → (frontEnd s fe.val).retryRun < 3 →
      Answers (.bbTxRetry fe back) s fun t =>
        bare t = bare (setFe fe.val { frontEnd s fe.val with
          retryRun := if beaconMissing s fe.val back then 0 else (frontEnd s fe.val).retryRun + 1
          retryBsn := some s.bb.bsn.toNat } s)) ∧
    (∀ (fe : Fin 3) (level : Byte), (frontEnd s fe.val).hist = [] → Answers (.bbNoisy fe level) s fun t =>
      bare t = bare (setFe fe.val { frontEnd s fe.val with hist := [level.toNat], noise := level } s)) ∧
    (∀ (p : Nat) (q : Position) (d : Int) (bytes : List Byte) (est : List (List Nat)) (lqDn : Byte),
      s.bb.beacon.slots[p]? = some q → q.tx < 2048 → (domAvail s).getLsbD 7 = true →
      s.safety.run = true → isStandby s = false → bbRuns s = true → bbRxFes s ≠ [] → 0 ≤ d → d ≤ 400 →
      reportOk true bytes = true → rByte bytes 1 / 64 = 0 → classOf (rByte bytes 6) = none → s.proof.running = false →
      Answers (.bbFrameReceived 1 p d true bytes est lqDn) s fun t =>
        (∃ lq : Word, t.clients.updates = s.clients.updates ++
          [{ tick := tickNo s, id := q.tx, writes := [(6, 0xFF, lq)], counts := false, track := none },
           { tick := tickNo s, id := rHalf bytes 0 % 2048, counts := true, track := none
             writes := reportWrites s bytes 0 ++ [(6, 0xFF00, BitVec.ofNat 32 (lqDn.toNat * 256)), (3, 0x8, 0)] }]) ∧
        t.bb.cnt = tblSet (fun _ => 0) s.bb.cnt 1 (tblGet (fun _ => 0) s.bb.cnt 1 + 1) ∧
        t.safety.alarms = s.safety.alarms)

/-- Admission, records and commands of the clients. -/
def Obligations.ClientEvents : Prop :=
  ∀ s : State,
    (atBeacon s = true → s.clients.phaseLeft ≤ 1 → s.bb.bsn.toNat < bsnNow s → Answers .admissionPhaseEnd s fun t =>
      bare t = bare { s with clients := { s.clients with phaseLeft := 0 } }) ∧
    (∀ id : Fin 2048, admitted s id.val = true → fld (par s (parAddr 20 5)) 0 13 ≤ (cRun s id.val).silent →
      Answers (.clientDrop id) s fun t =>
        t.clients.cnt = tblSet (fun _ => 0) s.clients.cnt 7 (tblGet (fun _ => 0) s.clients.cnt 7 + 1) ∧
        t.clients.run = tblSet (fun _ => ClientRun.blank) s.clients.run id.val
          { cRun s id.val with route := [], nextRoutes := [] } ∧
        t.bb.rpt = s.bb.rpt.filter fun i => i != id.val) ∧
    (∀ at_ id, s.clients.forget = some (at_, id) → tickPast s at_ = true → tblWf cBlank s.clients.words = true →
      Answers .admitForget s fun t =>
        t.clients.forget = none ∧ cWord t id 1 = 0 ∧ cFld t id 2 0 16 = 0 ∧ cWord t id 22 = 0 ∧ admitted t id = false) ∧
    (∀ at_ id v rest, s.clients.updates =
        { tick := at_, id := id, writes := [(4, 0xFFFFFFFF, v)], counts := false, track := none } :: rest →
      tickPast s at_ = true → cFld s id 9 0 16 = 0 → cFld s id 8 16 16 = 0 → Answers .clientRecordUpdate s fun t =>
        bare t = bare (setC id 4 0xFFFFFFFF v { s with clients := { s.clients with updates := rest } })) ∧
    (atFrame s = true → Answers .commandAged s fun t =>
      t.clients.queue = s.clients.queue.filter fun q => !(q.sends == 0 &&
        ((q.cls == 2 && decide (q.frame + fld (par s (parAddr 20 2)) 0 16 < frameNo s)) ||
         (q.cls == 3 && decide (q.frame + fld (par s (parAddr 20 2)) 16 16 < frameNo s)))) ∧
      t.clients.updates = s.clients.updates) ∧
    (∀ (id : Fin 2048) (at_ : Nat), cFld s id.val 0 16 2 ≠ 0 → (cRun s id.val).zcAt = some at_ →
      at_ + fld (par s (parAddr 20 4)) 0 16 * sec ≤ now s → tblWf cBlank s.clients.words = true →
      Answers (.supervLost id) s fun t => (cWord t id.val 3).getLsbD 4 = true ∧ t.clients.queue = s.clients.queue)

/-! ### Converters and the loop engine -/

/-- Conversions, results, references, tests, the arbiter, the queue, and the loop engine's registers. -/
def Obligations.ConvertersAndLoop : Prop :=
  ∀ s : State,
    (tblWf (fun _ => Modulator.blank) s.conv.mods = true → ∀ (m : Fin 16),
      (∀ ch k, atTick s = true → (modulator s m.val).want = [(ch, false, k)] → k < tickNo s → chInService s ch = true →
        (modulator s m.val).conv = none → Answers (.conversionBegin m) s fun t =>
          (modulator t m.val).want = [] ∧ (modulator t m.val).powered = true ∧
          ∃ c, (modulator t m.val).conv = some c ∧ c.ch = ch ∧ c.start = now s ∧
            c.kind = (if (chOrder s ch).getLsbD 8 then .cont else .single)) ∧
      (∀ (c : Conversion) (v : Int) (ref : Nat) (ovl : Option Bool), (modulator s m.val).conv = some c → c.kind = .single →
        lastSample c ≤ now s → tblWf (fun _ => ConvCh.blank) s.conv.chs = true →
        Answers (.convResultDelivery m v ref ovl) s fun t => (modulator t m.val).conv = none ∧
          ∃ r, (convCh t c.ch).last = some r ∧ r.code = (resultCode (if c.swapped then -v else v) ref ovl).1) ∧
      (∀ (c : Conversion) (v : Int) (ref : Nat) (ovl : Option Bool), (modulator s m.val).conv = some c → c.kind = .test →
        lastSample c ≤ now s → tblWf (fun _ => ConvCh.blank) s.conv.chs = true → inRecov s m.val c = false →
        refLow s m.val c = false → Answers (.openwireTestResult m v ref ovl) s fun t =>
          (modulator t m.val).conv = none ∧ (convCh t c.ch).tested = true) ∧
      (∀ ch, (modulator s m.val).restart = some ch → atTick s = true → (modulator s m.val).conv = none →
        chInService s ch = true → (chOrder s ch).getLsbD 8 = true → Answers (.streamRestart m) s fun t =>
          (modulator t m.val).restart = none ∧
          ∃ c, (modulator t m.val).conv = some c ∧ c.ch = ch ∧ c.kind = .cont ∧ c.start = now s) ∧
      (∀ (c : Conversion) (v : Int) (ref : Nat) (ovl : Option Bool), (modulator s 15).conv = some c → c.kind = .arbiter →
        lastSample c ≤ now s → Answers (.arbiterResult v ref ovl) s fun t =>
          (modulator t 15).conv = none ∧ t.conv.head = s.conv.head + 1 ∧ t.conv.seq = s.conv.seq + 1)) ∧
    (∀ m : Fin 16, (domAvail s).getLsbD 6 = true → (modulator s m.val).refSince.isSome = true →
      (modulator s m.val).conv = none → (modulator s m.val).refFault = false →
      (Answers (.referenceCheck m true) s fun t =>
        ∃ d, d.lastGood = true ∧ d.goodRun = (modulator s m.val).goodRun + 1 ∧ d.badRun = 0 ∧ d.refFault = false ∧ d.conv = none ∧
          bare t = bare (setMod m.val d s)) ∧
      (2 ≤ (modulator s m.val).badRun → Answers (.referenceCheck m false) s fun t =>
        ∃ d, d.lastGood = false ∧ d.goodRun = 0 ∧ d.badRun = (modulator s m.val).badRun + 1 ∧ d.refFault = true ∧
          d.lowSince.isSome = true ∧ t.conv.mods = tblSet (fun _ => Modulator.blank) s.conv.mods m.val d)) ∧
    (∀ ch j rest, s.conv.arbWait = (ch, j) :: rest → (∀ k ∈ s.conv.arbAt.head?, k < tickNo s) → atTick s = true → isArbiter s = true → (modulator s 15).conv = none →
      (modulator s (ch % 16)).conv = none → Answers .arbiterResampleBegin s fun t =>
        t.conv.arbWait = rest ∧ t.conv.arbCh = BitVec.ofNat 7 ch ∧
        ∃ d c, t.conv.mods = tblSet (fun _ => Modulator.blank) s.conv.mods 15 d ∧ d.conv = some c ∧ c.ch = ch ∧
          c.kind = .arbiter ∧ c.crit = j) ∧
    (BusOpen s → s.legacy.mode = false → Answers .convQLoRead s fun t =>
      t.host.dOut = (qEntry s).extractLsb' 0 16 ∧ t.host.hiLatch = (qEntry s).extractLsb' 16 16 ∧
      t.conv.hiLatch = (qEntry s).extractLsb' 32 32 ∧ t.conv.tail = s.conv.tail) ∧
    (BusOpen s → s.legacy.mode = false → Answers .convQHiRead s fun t =>
      t.host.dOut = s.conv.hiLatch.extractLsb' 0 16 ∧ t.host.hiLatch = s.conv.hiLatch.extractLsb' 16 16 ∧
      t.conv.tail = (if s.conv.head = s.conv.tail then s.conv.tail else s.conv.tail + 1)) ∧
    (∀ (n : Fin 512) (y : Int) (out k : Nat), (slot s n.val).pend = some (y, out, k) → k < tickNo s → atTick s = true →
      canvasRuns s = true → laneRuns s 2 = true → slotInService s n.val = true → slotDue s n.val = true →
      Answers (.delay1Output n) s fun t =>
        bare t = bare (setSignal out (BitVec.ofInt 32 y) (setSlot n.val { slot s n.val with pend := none } s))) ∧
    (BusOpen s → s.legacy.mode = false → Answers .pentTabDataRead s fun t =>
      t.host.dOut = (BitVec.ofInt 32 (tabGet s s.loop.tabAddr.toNat)).extractLsb' 0 16 ∧
      t.host.hiLatch = (BitVec.ofInt 32 (tabGet s s.loop.tabAddr.toNat)).extractLsb' 16 16 ∧
      t.loop.tabAddr = s.loop.tabAddr + 1 ∧ t.loop.table = s.loop.table) ∧
    (∀ v : Word, BusOpen s → s.legacy.mode = false → isStandby s = false → Answers (.pentTabDataWrite v) s fun t =>
      t.loop = s.loop ∧ t.host.pctlRes = 0 ∧ t.host.imm = s.host.imm ++ [(tickNo s, 0x40C1, v)]) ∧
    (∀ (at_ : Nat) (v : Word), s.host.imm = [(at_, 0x40C1, v)] → tickPast s at_ = true → Answers .immediateParamApply s fun t =>
      t.host.imm = [] ∧ t.loop.tabAddr = s.loop.tabAddr + 1 ∧
      t.loop.table = tblSet (fun _ => 0) s.loop.table s.loop.tabAddr.toNat (satI 24 (sgn v))) ∧
    (∀ i : Fin 32, (pent s i.val).started = true → (pent s i.val).wait = true → (pent s i.val).left = 0 →
      Answers (.pentWaitClear i) s fun t => bare t = bare (setPent i.val { pent s i.val with wait := false } s))

/-! ### Drives -/

/-- Samples, commutations, edges, faults and timed transitions of a drive channel: a decided transition waits for the tick
(R823). -/
def Obligations.DriveEvents : Prop :=
  ∀ (s : State) (m : Fin 24),
    (∀ (k : Nat) (u v w : Int), k < (drv s m.val).perTick → drvLive s m.val = true → (drv s m.val).bridge = .off →
      (drv s m.val).st = .idle → (drv s m.val).ocRun = [0, 0, 0] → Answers (.pwmPeriodBoundary m k u v w) s fun t =>
        ∃ d a b c, t.drive.chans = tblSet (fun _ => DrvChan.blank) s.drive.chans m.val d ∧ d.pred = true ∧
          d.sets = ((t.time.easel, a, b, c) :: (drv s m.val).sets).take 12 ∧
          t.time.easel = (moveIn s (k * tickLen / (drv s m.val).perTick)).time.easel) ∧
    (∀ (k : Nat) (lv : BitVec 3) (u : State), k < (drv s m.val).perTick → drvLive s m.val = true → (drv s m.val).st = .ramp →
      (drv s m.val).raw = none → u = moveIn s ((2 * k + 1) * tickLen / (2 * (drv s m.val).perTick)) →
      (drv s m.val).lastComm + (drv s m.val).t60 * fld (dPar s 0x048 m.val) 4 5 / 60 ≤ now u →
      Answers (.bemfSample m k lv) s fun t => bare t = bare (setDrv m.val { drv s m.val with raw := some (now u, lv) } u)) ∧
    (∀ at_, (drv s m.val).comm = some at_ → dueBy s at_ = true → drvLive s m.val = true → (drv s m.val).st = .run →
      Answers (.commutation m) s fun t => t.time.easel = (moveTo s at_).time.easel ∧
        t.drive.chans = tblSet (fun _ => DrvChan.blank) s.drive.chans m.val
          { (drv s m.val).withBridge (if (drv s m.val).bridge = .off then .off
              else .six (nextSector (drv s m.val) (drv s m.val).sector)) (now (moveTo s at_)) with
            sector := nextSector (drv s m.val) (drv s m.val).sector, lastComm := at_, comm := none
            crossed := false, tried := false, raw := none, steps := (drv s m.val).steps + 1 }) ∧
    (tblWf (fun _ => DrvChan.blank) s.drive.chans = true →
      ((drv s m.val).st = .run → (drv s m.val).wave = 0 → (drv s m.val).crossed = false →
        dueBy s ((drv s m.val).lastComm + (drv s m.val).t60 * 3 / 2) = true → drvLive s m.val = true →
        (drv s m.val).misses + 1 < fld (dPar s 0x048 m.val) 9 4 → Answers (.blindCommutation m) s fun t =>
          (drv t m.val).misses = (drv s m.val).misses + 1 ∧
          (drv t m.val).sector = nextSector (drv s m.val) (drv s m.val).sector ∧
          (drv t m.val).lastComm = (drv s m.val).lastComm + (drv s m.val).t60) ∧
      (∀ code hold k k0, (drv s m.val).wave = 1 → drvLive s m.val = true → hallSector code = some k →
        hallSector (drv s m.val).hall = some k0 → k = (k0 + 1) % 6 → Answers (.hallEdge m code hold) s fun t =>
          (drv t m.val).sector = k ∧ (drv t m.val).hall = code ∧ (drv t m.val).lastComm = now s ∧
          (drv t m.val).revAct = false ∧ (drv t m.val).speed = (elecFreq (now s - (drv s m.val).fluxAt) : Int)) ∧
      ((drv s m.val).st ≠ .off → s.power.inReset = false → Answers (.ndfltAssert m) s fun t =>
        (drv t m.val).st = .held ∧ (drv t m.val).bridge = .off ∧ (drv t m.val).duty = 0 ∧
        (drv t m.val).flt.getLsbD 0 = true) ∧
      ((drv s m.val).st = .brake → expired s ((drv s m.val).since + 4 * sec) = true → drvStep s m.val = true →
        (drv s m.val).next = none → Answers (.brakeTimeout m) s fun t =>
          (drv t m.val).next = some (DrvNext.plain .held) ∧ (drv t m.val).flt.getLsbD 10 = true) ∧
      (∀ nDflt, (drv s m.val).st = .held → nDflt = true → (drv s m.val).flt &&& heldFaults = 0 → drvStep s m.val = true →
        (drv s m.val).next = none → Answers (.heldExit m nDflt) s fun t =>
          (drv t m.val).next = some (DrvNext.plain .idle) ∧ (drv t m.val).st = .held)) ∧
    ((drv s m.val).speedAt + 250 * ms ≤ now s → Answers (.speedTimeout m) s fun t =>
      bare t = bare (setDrv m.val { drv s m.val with speed := 0 } s)) ∧
    (∀ level : Bool, cmdClassOf s m.val = 1 → canvasRuns s = true → edgeFrom s m.val + 50 * ms ≤ now s →
      Answers (.cmdinStaticTimeout m level) s fun t => bare t = bare (setDrv m.val { drv s m.val with
        cmdin := { (drv s m.val).cmdin with static := true, level := level } } s)) ∧
    (∀ period started, fld (cPar s 0 m.val) 2 3 = 3 → canvasRuns s = true → (drv s m.val).cmdin.det = 3 →
      s.power.canvasStarted = some started → started + 100 * ms ≤ now s → Answers (.cmdinAutoDetect m period) s fun t =>
        bare t = bare (setDrv m.val { drv s m.val with
          cmdin := { (drv s m.val).cmdin with det := shownClass s m.val period, cand := none } } s)) ∧
    (drvStep s m.val = true → (drv s m.val).next = none →
      ((drv s m.val).st = .catching → expired s ((drv s m.val).since + 48 * ms) = true → motion (drv s m.val) = none →
        (drv s m.val).wave = 0 → Answers (.catchEnd m) s fun t => bare t = bare (setDrv m.val { drv s m.val with
          next := some (DrvNext.plain (if (drv s m.val).kickStart then .kick else .align)) } s)) ∧
      ((drv s m.val).st = .brake → expired s ((drv s m.val).curCross +
          400000000 * 20 / (6 * max (ratedOf s m.val) 1)) = true → (drv s m.val).wave = 2 → Answers (.brakeExit m) s fun t =>
        bare t = bare (setDrv m.val { drv s m.val with next := some (DrvNext.plain .align) } s)) ∧
      ((drv s m.val).st = .align → expired s ((drv s m.val).since + fld (dPar s 0x060 m.val) 16 16 * ms) = true →
        (drv s m.val).wave ≠ 2 → Answers (.alignEnd m) s fun t =>
          bare t = bare (setDrv m.val { drv s m.val with next := some (DrvNext.plain .ramp) } s)) ∧
      ((drv s m.val).st = .ramp → expired s ((drv s m.val).since + fld (dPar s 0x078 m.val) 16 16 * ms) = true →
        fld (dPar s 0x090 m.val) 16 4 ≤ (drv s m.val).validAtTick → Answers (.rampHandover m) s fun t =>
          ∃ x : DrvNext, bare t = bare (setDrv m.val { drv s m.val with next := some x } s) ∧ x.dst = .run ∧
            x.sector = (drv s m.val).sector ∧ x.t60 = (drv s m.val).t60 ∧ x.cross = (drv s m.val).lastCross) ∧
      ((drv s m.val).st = .ramp → expired s ((drv s m.val).since +
          (fld (dPar s 0x078 m.val) 16 16 * ms + fld (dPar s 0x090 m.val) 20 12 * ms)) = true →
        (drv s m.val).retry + 1 ≤ fld (dPar s 0x0C0 m.val) 20 3 → Answers (.rampTimeout m) s fun t =>
          bare t = bare (setDrv m.val { (drv s m.val).withBridge .off (now s) with
            failed := (drv s m.val).failed + 1, retry := (drv s m.val).retry + 1, next := some (DrvNext.plain .pause) } s)) ∧
      ((drv s m.val).st = .kick → (drv s m.val).listening = false →
        expired s ((drv s m.val).lastComm + fld (dPar s 0x0C0 m.val) 0 8 * 4000) = true →
        Answers (.kickPulseEnd m) s fun t => ∃ x : DrvNext, x.dst = .kick ∧ x.sector = (drv s m.val).pulse ∧ x.t60 = 1 ∧
          bare t = bare (setDrv m.val { drv s m.val with next := some x } s)) ∧
      ((drv s m.val).st = .kick → (drv s m.val).listening = true → (drv s m.val).hitAtTick = none →
        (drv s m.val).failedAtTick = false →
        expired s ((drv s m.val).lastComm + fld (dPar s 0x0C0 m.val) 8 8 * ms) = true →
        (drv s m.val).pulse + 1 < fld (dPar s 0x0C0 m.val) 16 4 → Answers (.kickListenEnd m) s fun t =>
          ∃ x : DrvNext, x.dst = .kick ∧ x.sector = (drv s m.val).pulse + 1 ∧
            bare t = bare (setDrv m.val { drv s m.val with next := some x } s)) ∧
      ((drv s m.val).st = .pause → expired s ((drv s m.val).since + fld (dPar s 0x0C0 m.val) 24 8 * 100 * ms) = true →
        Answers (.pauseEnd m) s fun t =>
          bare t = bare (setDrv m.val { drv s m.val with next := some (DrvNext.plain .catching) } s))) ∧
    ((drv s m.val).st = .run → expired s ((drv s m.val).since + 10 * sec) = true → drvStep s m.val = true →
      Answers (.retryReset m) s fun t => bare t = bare (setDrv m.val { drv s m.val with retry := 0 } s))

/-! ### Fans, sounders and loads -/

/-- Tach edges, supervisor timeouts, patterns, chirps and load flags. -/
def Obligations.FansAndLoads : Prop :=
  ∀ s : State,
    (∀ f : Fin 48,
      (fanMotor s f.val = none → Answers (.tachEdge f) s fun t =>
        bare t = bare (setFan f.val { fan s f.val with
          edges := (now s :: (fan s f.val).edges).take 4
          openEdges := if (fan s f.val).st = .openLoop then (now s :: (fan s f.val).openEdges).take 4
            else (fan s f.val).openEdges } s)) ∧
      (∀ (mv : Nat) (lt : LineTest), (fan s f.val).test = some lt → (fan s f.val).st = .test → lt.phase = 0 →
        lt.at_ + ms < (tickNo s + 1) * tickLen → Answers (.tachLineTestPhase f mv) s fun t =>
          bare t = bare (moveTo (setFan f.val { fan s f.val with test := some { lt with
            phase := 1, at_ := lt.at_ + ms, low := decide (mv < 1000) } } s) (lt.at_ + ms))) ∧
      ((fan s f.val).st = .wait → (fan s f.val).next = none → expired s ((fan s f.val).since + tRetry s f.val) = true →
        fanStep s f.val = true → (fan s f.val).attempts ≤ nRetry s f.val → Answers (.fanWaitEnd f) s fun t =>
          bare t = bare (setFan f.val { fan s f.val with next := some .start } s)) ∧
      ((fan s f.val).st = .run → expired s ((fan s f.val).since + 60 * sec) = true → fanStep s f.val = true →
        Answers (.fanAttemptReset f) s fun t => bare t = bare (setFan f.val { fan s f.val with attempts := 0 } s)) ∧
      ((fan s f.val).st = .blocked → (fan s f.val).etgt = 0 → fanStep s f.val = true → (fan s f.val).next = none →
        Answers (.fanBlockedExit f) s fun t => bare t = bare (setFan f.val { fan s f.val with next := some .idle } s)) ∧
      (tblWf (fun _ => Fan.blank) s.fans.chans = true → (fan s f.val).next = none → fanMotor s f.val = none →
        fanStep s f.val = true →
        ((fan s f.val).st = .start → (∀ e ∈ edgesBy s f.val (tickStart s), e < (fan s f.val).since) →
          expired s ((fan s f.val).since + tStart s f.val) = true → Answers (.fanStartTimeout f) s fun t =>
            (fan t f.val).attempts = (fan s f.val).attempts + 1 ∧ (fan t f.val).failed = (fan s f.val).failed + 1 ∧
            (fan t f.val).next = some .test ∧ (fan t f.val).st = .start) ∧
        ((fan s f.val).st = .run → (fan s f.val).edges = [] → expired s ((fan s f.val).since + tStall s f.val) = true →
          0 < fanOut s f.val → Answers (.fanStallTimeout f) s fun t =>
            (fan t f.val).next = some .test ∧ (fan t f.val).afterAttempt = false ∧
            (fan t f.val).attempts = (fan s f.val).attempts))) ∧
    (∀ at_, s.pads.cycleStart = some at_ → at_ + intervalEnd s.pads.interval < (tickNo s + 1) * tickLen →
      Answers .alarmPatternInterval s fun t =>
        t.pads.interval = (s.pads.interval + 1) % 6 ∧
        t.pads.cycleStart = some (if (s.pads.interval + 1) % 6 = 0 then at_ + 4 * sec else at_) ∧
        t.time.easel = (moveTo s (at_ + intervalEnd s.pads.interval)).time.easel) ∧
    (∀ (k : Fin 4) (e : Nat), Settled s → (sounder s k.val).chirpEnd = some e → e < (tickNo s + 1) * tickLen →
      Answers (.chirpEnd k) s fun t =>
        t.pads.snd = tblSet (fun _ => Sounder.blank) s.pads.snd k.val { sounder s k.val with chirpEnd := none } ∧
        t.time.easel = (moveTo s e).time.easel) ∧
    (∀ (k : Fin 4) (e ua : Nat), Settled s → (sounder s k.val).chirpEnd = some e → (sounder s k.val).chirpProof = true →
      e - 20 * ms < (tickNo s + 1) * tickLen → Answers (.proofChirpMeasure k ua) s fun t =>
        t.pads.snd = tblSet (fun _ => Sounder.blank) s.pads.snd k.val { sounder s k.val with
          probeI := BitVec.ofNat 16 (min ua 65535), probeValid := true }) ∧
    (∀ (n : Fin 36) (flag : Fin 4) (i : Byte), Settled s → loadSup s n.val = true → loadSeen s n.val = true →
      loadState s n.val flag.val = true → (loadDiag s n.val).flags.getLsbD flag.val = false →
      loadTimed s n.val flag.val = true →
      tblGet (fun _ => 0) s.pads.lastSwitch n.val + (20 * ms + loadTime flag.val) ≤ now s →
      Answers (.loadFlagSet n flag i) s fun t =>
        t.fans.loads = tblSet (fun _ => LoadDiag.blank) s.fans.loads n.val { loadDiag s n.val with
          flags := setBit (loadDiag s n.val).flags flag.val true, flt := (loadDiag s n.val).flt + 1, current := i } ∧
        codePresent t.safety.causes (704 + n.val) = true) ∧
    (∀ (n : Fin 36) (flag : Fin 4) (i : Byte), Settled s → loadSeen s n.val = true → loadState s n.val flag.val = true →
      (loadDiag s n.val).flags.getLsbD flag.val = true → tblGet (fun _ => 0) s.pads.lastSwitch n.val + sec ≤ now s →
      Answers (.loadFlagClear n flag i) s fun t =>
        t.fans.loads = tblSet (fun _ => LoadDiag.blank) s.fans.loads n.val { loadDiag s n.val with
          flags := setBit (loadDiag s n.val).flags flag.val false, current := i })

/-! ### Retained store -/

/-- Host pages, counters, background work, the refresh scan and the restart of the store. -/
def Obligations.StoreEvents : Prop :=
  ∀ s : State,
    (∀ (page : BitVec 13) (reg : BitVec 2) (pg : Nat), BusOpen s → s.legacy.mode = false → isStandby s = false →
      keyOk s (writeKey reg.toNat) = true → storeOp s = false → pageOf reg.toNat page.toNat = some pg → hostSector (pg / 64) = true → isTorn s (pg / 64) = false →
      (pageBlank s.mem pg = true → Answers (.dctlProgram page reg true) s fun t =>
        t.store.dres = 1 ∧ t.host.nWaitLow = true ∧ t.mem = (progWords (64 * pg) (dbuf s) s).mem) ∧
      (pageBlank s.mem pg = true → s.power.holdLow = false → s.store.pages = [] →
        Answers (.dctlShadowProgram page reg true) s fun t =>
          t.store.dres = 2 ∧ t.mem = s.mem ∧ ∃ o, t.store.pages = [{ ord := o, page := pg, data := dbuf s }]) ∧
      (s.store.jPos ≤ 496 → Answers (.dctlErase page reg) s fun t =>
        t.store.erasing = some (pg / 64) ∧ t.host.nWaitLow = true ∧ t.host.dctlUntil.isSome = true ∧
        MemKept [journalSpan] s t)) ∧
    (∀ k u, s.store.erasing = some k → k < 128 → 2 ≤ k → s.store.jPos ≤ 496 → s.host.dctlUntil = some u → u ≤ tickNo s →
      (tickDctl s).store.dres = 1 ∧ (tickDctl s).store.erasing = none ∧ (tickDctl s).host.nWaitLow = false ∧
      (tickDctl s).host.dctlUntil = none ∧ MemKept [journalSpan, sectorSpan k] s (tickDctl s) ∧
      ∀ a, sectorBase k ≤ a → a < sectorBase k + 4096 → memRead (tickDctl s).mem a = 0xFF) ∧
    (∀ (i : Fin 16) (v : Word), BusOpen s → s.legacy.mode = false → isStandby s = false → Answers (.dbufWrite i v) s fun t =>
      t.params = (setPar (parAddr 13 (0x0C + i.val)) v s).params ∧ t.host.pctlRes = 0 ∧ t.mem = s.mem) ∧
    (∀ at_ v, s.host.imm = [(at_, parAddr 13 0x1E, v)] → tickPast s at_ = true → v.getLsbD 31 = true → Answers .cntClr s fun t =>
      t.store.cnt = tblSet (fun _ => (0 : Word)) s.store.cnt (fld v 0 12) 0 ∧ t.host.imm = [] ∧ t.mem = s.mem) ∧
    (∀ p rest, arrayFree s = true → s.store.logQ = [] → s.store.parQ = [] → s.store.pages = p :: rest →
      isTorn s (p.page / 64) = false →
      Answers .shadowWriteback s fun t =>
        t.store.pages = rest ∧ t.mem = (progWords (64 * p.page) p.data s).mem ∧ t.store.parPos = s.store.parPos) ∧
    (∀ r rest, arrayFree s = true → s.store.logQ = [] → s.store.parQ = r :: rest → s.store.pages = [] →
      parFull s = false → parFree s = true → Answers .shadowWriteback s fun t =>
        t.store.parQ = rest ∧ t.store.parPos = s.store.parPos + 1 ∧ t.store.parSeq = s.store.parSeq + 1 ∧
        MemKept [(halfBase s.store.half + 16 * s.store.parPos, 16)] s t) ∧
    (arrayFree s = true → (∀ i < 10, isTorn s (91 + i) = false) → s.store.jPos ≤ 496 →
      s.store.ckAt + fld (par s (parAddr 13 6)) 0 5 * 3600 * sec ≤ now s → Answers .checkpoint s fun t =>
        t.store.ckCopy = !s.store.ckCopy ∧ t.store.ckSeq = s.store.ckSeq + 1 ∧ t.store.ckAt = now s ∧
        t.store.dirtyCnt = 0 ∧
        MemKept (journalSpan :: (List.range 5).map fun i => sectorSpan ((if s.store.ckCopy then 91 else 96) + i)) s t) ∧
    (∀ d, s.store.dumps.find? (dumpUsedUp s) = some d → arrayFree s = true → s.store.jPos ≤ 496 →
      Answers .dumpConsumed s fun t => t.store.dumps = s.store.dumps.filter (fun x => x.area != d.area) ∧ t.params = s.params ∧
        MemKept (journalSpan :: (List.range 8).map fun i => sectorSpan (dumpBase d.area + i)) s t) ∧
    (scanGoes s = true → s.store.scan = false → s.proof.running = false → s.store.scanAt + 8 * 86400 * sec ≤ now s →
      ∀ found, Answers (.refreshScanStart found) s fun t =>
        t.store.scan = true ∧ t.store.scanRef = 0 ∧ t.store.scanDone = false ∧ t.store.scanTs = s.time.calSec ∧
        t.store.scanAt = now s ∧ t.store.scanProof = false ∧ MemKept (found.map fun p => (8 * p.1, 8)) s t ∧
        (found = [] → s.store.flaws = [] → t.store.scanUe = 0 ∧ t.store.ce = s.store.ce ∧ t.store.ue = s.store.ue) ∧
        (∀ g < 65536, found = [(g, 0)] → s.store.flaws = [] → t.store.ce = s.store.ce + 1 ∧ t.mem = s.mem) ∧
        (∀ g < 65536, found = [(g, 1)] → s.store.flaws = [] →
          t.store.ue = s.store.ue + 1 ∧ t.store.scanUe = 1 ∧ t.store.ce = s.store.ce) ∧
        (∀ g < 65536, found = [(g, 2)] → s.store.flaws = [] →
          t.store.ue = s.store.ue ∧ t.store.ce = s.store.ce ∧ t.mem = s.mem ∧ weakSector t (g / 512) = true)) ∧
    (∀ sec_ : Fin 128, scanGoes s = true → s.store.scan = true → sec_.val ≠ 2 → weakSector s sec_.val = true →
      isTorn s sec_.val = false → s.store.jPos ≤ 496 → Answers (.sectorRefresh sec_) s fun t =>
        t.store.refresh = s.store.refresh + 1 ∧ t.store.scanRef = s.store.scanRef + 1 ∧ t.store.scan = true ∧
        MemKept [journalSpan, sectorSpan 2, sectorSpan sec_.val] s t) ∧
    (scanGoes s = true → s.store.scan = true → Answers .refreshScanDone s fun t =>
      bare t = bare { s with store := { s.store with scan := false, scanDone := true } }) ∧
    (s.store.ready = false → (domAvail s).getLsbD 9 = true → (domAvail s).getLsbD 1 = true → s.power.vmain = true →
      s.power.inReset = false → s.power.flushing = false → ∀ found, Answers (.storeRestartRebuild found) s fun t =>
        t.store.ready = true ∧ t.store.kept = true ∧ t.store.ckAt = now s ∧ t.gesso.trip = s.gesso.trip ∧
        MemKept (journalSpan :: found.map fun p => (8 * p.1, 8)) s t) ∧
    (∀ sec_ : Fin 128, s.store.ready = true → isTorn s sec_.val = true → (domAvail s).getLsbD 9 = true →
      s.store.jPos ≤ 496 → Answers (.tornSectorRepair sec_) s fun t =>
        t.store.torn = s.store.torn.filter (fun p => p.1 != sec_.val) ∧ t.store.ready = true ∧
        MemKept [journalSpan, sectorSpan 2, sectorSpan sec_.val] s t)

/-! ### Mirror pair -/

/-- What records do on the standby, and lanes, resends and status. -/
def Obligations.MirrorRecords : Prop :=
  ∀ s : State,
    (isStandby s = true →
      (∀ k ws, Answers (.inputRecord k ws) s fun t =>
        t.mirror.inputs = tblSet (fun _ => []) s.mirror.inputs k (ws ++ [1]) ∧ t.mirror.lastRec = tickNo s ∧
        t.mirror.linkUp = true ∧ t.canvas.signals = s.canvas.signals) ∧
      (∀ f digest state err, Answers (.summaryRecord f digest state err) s fun t =>
        t.mirror.summaries = { frame := f, digest := digest, state := state, err := err } ::
          (s.mirror.summaries.filter fun x => x.frame != f).take 3 ∧ t.mirror.inputs = s.mirror.inputs) ∧
      (∀ g r, Answers (.forwardRecord (.decision g r)) s fun t =>
        t.mirror.fwdSet = s.mirror.fwdSet ++ [(g, r)] ∧ t.params = s.params) ∧
      (∀ op token, Answers (.forwardRecord (.ack op token)) s fun t =>
        t.safety.ackPending = some (op ++ token, tickNo s) ∧ t.safety.alarms = s.safety.alarms) ∧
      (∀ x, s.mirror.xfer = true → Answers (.stateRecord x) s fun t =>
        t.mirror.xferState = x :: s.mirror.xferState ∧ t.params = s.params ∧ t.clients.words = s.clients.words)) ∧
    (∀ m : MirrorStatus, s.mirror.pair = true → Answers (.statusRecord m) s fun t =>
      t.mirror.pRole = m.role ∧ t.mirror.pTier = m.tier ∧ t.mirror.pAlarm = m.alarm ∧ t.mirror.pFault = m.fault ∧
      t.mirror.linkUp = true ∧ t.mirror.role = s.mirror.role) ∧
    (∀ (seq : Byte) (r : LinkRec), (s.mirror.unacked.find? fun r => r.seq == seq) = some r → r.resends < 3 →
      Answers (.recordResend seq) s fun t =>
        t.mirror.unacked = { r with resends := r.resends + 1 } :: s.mirror.unacked.filter (fun x => x.seq != seq) ∧
        t.mirror.cnt = tblSet (fun _ => (0 : Word)) s.mirror.cnt 4 (tblGet (fun _ => (0 : Word)) s.mirror.cnt 4 + 1)) ∧
    (s.mirror.pair = true → Answers .mirrorLaneFail s fun t =>
      bare t = bare { s with mirror := { s.mirror with laneFault := true } })

/-- Transfer, replay, comparison, roles and switchover. -/
def Obligations.MirrorEvents : Prop :=
  ∀ s : State,
    (∀ m, s.canvas.image = some m → m.crc = s.mirror.pImgCrc → atHyper s = true → s.mirror.pair = true →
      s.mirror.role = .primary → s.mirror.xferReq = true → s.mirror.askedAt < now s → s.mirror.tlock = true →
      s.mirror.linkUp = true → s.mirror.xfer = false → Answers .stateTransferStart s fun t =>
        t.mirror.xfer = true ∧ t.mirror.xferReq = false ∧ t.mirror.xferStart = frameNo s ∧ t.mirror.imgMis = false ∧
        t.mirror.role = .primary) ∧
    (isStandby s = true →
      (s.mirror.xferCheck = true → Answers .stateTransferDone s fun t =>
        t.mirror.inStep = true ∧ t.mirror.xferReq = false ∧ t.mirror.xferCheck = false) ∧
      (atFrame s = true → s.mirror.xfer = false → inputsAll s (frameNo s - 1) = true → Answers .frameReplay s fun t =>
        t.mirror.replaying = some (frameNo s - 1) ∧ t.mirror.inStep = s.mirror.inStep ∧ t.mirror.div = s.mirror.div) ∧
      (∀ x r, atTick s = true → (s.mirror.summaries.findSome? fun x =>
          (s.mirror.results.find? fun r => r.1 == x.frame).map fun r => (x, r)) = some (x, r) →
        judged s x.frame = true → x.digest ≠ r.2.1 → Answers .digestCompare s fun t =>
          t.mirror.div = true ∧ t.mirror.divFrame = x.frame ∧ t.mirror.divItem = 1 ∧ t.mirror.inStep = false ∧
          t.mirror.xferReq = true) ∧
      (∀ r, (s.mirror.results.find? fun r => decide (r.1 + 3 ≤ frameNo s)) = some r → judged s r.1 = true →
        Answers .summaryTimeout s fun t =>
          t.mirror.div = true ∧ t.mirror.divFrame = r.1 ∧ t.mirror.divItem = 3 ∧ t.mirror.inStep = false) ∧
      (s.mirror.lastRec + 256 ≤ tickNo s → s.sys.tier = 2 → s.mirror.trig = none → Answers (.mirrorHeartbeatLoss true) s fun t =>
        t.mirror.linkUp = false ∧ t.mirror.nmactP = true ∧ t.mirror.trig = some (1, false, s.mirror.inStep)) ∧
      (∀ phase pull : Int, phase.natAbs ≤ 1000 → Answers (.tlockSet phase pull) s fun t =>
        bare t = bare { s with mirror := { s.mirror with
          tlock := true, phase := BitVec.ofInt 16 phase, pull := BitVec.ofInt 16 (clampI (-15000) 15000 pull) } }) ∧
      (∀ phase pull : Int, 5000 < phase.natAbs → Answers (.tlockClear phase pull) s fun t =>
        bare t = bare { s with mirror := { s.mirror with
          tlock := false, phase := BitVec.ofInt 16 phase, pull := BitVec.ofInt 16 (clampI (-15000) 15000 pull) } }) ∧
      (∀ trig, atFrame s = true → frameNo s % 2 = 1 → s.mirror.pair = true → s.mirror.trig = some trig → s.mirror.trigAt < now s → s.sys.tier = 2 →
        Answers .switchoverB1 s fun t =>
          t.mirror.role = .taking ∧ t.mirror.b1 = some (frameNo s) ∧ t.mirror.xfer = false)) ∧
    (∀ b, s.mirror.b1 = some b → atFrame s = true → s.mirror.role = .taking → frameNo s = b + 1 →
      Answers .switchoverB2 s fun t =>
        t.mirror.role = .primary ∧ t.mirror.b1 = none ∧ t.bb.coord = true ∧ t.mirror.handLeft = 64 ∧
        t.host.beatAt = now s) ∧
    (BusOpen s → s.legacy.mode = false → keyOk s 6 = true → partnerSeen s = true → (s.mirror.role = .primary ∨ s.mirror.role = .standby) →
      (∀ force : Bool, s.mirror.inStep = true → s.mirror.tlock = true → s.mirror.trig = none →
        Answers (.mirrorSwitch force) s fun t => t.mirror.trig = some (3, force, true) ∧ t.mirror.ctlRes = 1) ∧
      (Answers .mirrorXferReq s fun t => t.mirror.xferReq = true ∧ t.mirror.ctlRes = 1 ∧ t.mirror.trig = s.mirror.trig)) ∧
    (∀ started, s.mirror.pair = true → s.mirror.role = .none_ → s.mirror.mside = false →
      s.power.canvasStarted = some started → s.power.origin + 400 * ms ≤ now s →
      (Answers (.mirrorRoleDecision true) s fun t => t.mirror.role = .primary ∧ t.bb.coord = true ∧ t.mirror.offset = 0) ∧
      (Answers (.mirrorRoleDecision false) s fun t =>
        t.mirror.role = .standby ∧ t.bb.coord = false ∧ t.mirror.xferReq = true)) ∧
    (atFrame s = true → frameNo s % 2 = 1 → s.mirror.role = .primary → s.mirror.pRole = 1 →
      ∀ nmactP : Bool, Answers (.sideConflictResolve false nmactP) s fun t => t.mirror.sideConf = true ∧ t.mirror.role = .primary) ∧
    (∀ lowFor, s.mirror.mside = true → sec ≤ lowFor → s.pads.cycleStart.isSome = true → Answers (.msyncIRise lowFor) s fun t =>
      t.pads.cycleStart = some (now s) ∧ t.pads.interval = 0)

/-! ### Proof, event counters, the field ring -/

/-- Proof runs, the event counters and the field ring. -/
def Obligations.ProofAndField : Prop :=
  ∀ s : State,
    (s.proof.due.isSome = true → s.proof.running = false → s.sys.tier = 2 → anyAlarm s = false →
      s.host.op.st ≠ .running → isStandby s = false → Answers .proofScheduledStart s fun t =>
        t.proof.running = true ∧ t.proof.sched = true ∧ t.proof.due = none ∧ t.host.op.st = .running ∧
        t.host.op.code = 7) ∧
    (∀ at_, Settled s → s.proof.due = some at_ → s.proof.postponed = true → at_ + 86400 * sec ≤ now s →
      Answers .proofPostpone24h s fun t => bare t = bare s ∧ codePresent t.safety.causes (64 * 18 + 8) = true) ∧
    (∀ (n : Fin 16) (mv : Nat), stepUnderWay s 0 = true → recEn s.gesso.record n.val = true →
      (gSen s n.val).band = .normal → 5 ≤ recAdw s.gesso.record n.val → 120 ≤ minorOf (now s) → s.proof.inj = [] → s.proof.injDone.contains n.val = false →
      Answers (.sentinelInjection n mv) s fun t =>
        t.proof.inj = [(n.val, false)] ∧ t.proof.tested = s.proof.tested + 1 ∧ t.gesso.trip = s.gesso.trip ∧
        t.safety.alarms = s.safety.alarms) ∧
    (∀ (fe : Fin 3) (second : Bool), stepUnderWay s 0 = true → frameDue s fe.val second = true →
      hubWon s fe.val = true → Answers (.injectedFrame fe second) s fun t =>
        t.proof.tested = s.proof.tested + 1 ∧ t.gesso.trip = s.gesso.trip ∧ t.safety.alarms = s.safety.alarms) ∧
    (∀ (id : Fin 2048) (at_ : Nat), s.proof.stepAt = some at_ → stepUnderWay s 7 = true → id.val ∈ s.proof.heads →
      at_ + fld (par s 0x8001) 4 12 * sec ≤ now s → Answers (.headTimeout id) s fun t =>
        t.proof.heads = s.proof.heads.filter (fun i => i != id.val) ∧ t.proof.fails = s.proof.fails ++ [(id.val, 0)] ∧
        t.proof.step = 7) ∧
    (∀ m : ProofMeas, s.proof.step < 7 → stepUnderWay s s.proof.step = true → stepComplete s = true →
      s.proof.mask = BitVec.ofNat 8 (2 ^ s.proof.step) → Answers (.proofStepEnd m) s fun t =>
        t.proof.res = tblSet (fun _ => StepRes.blank) s.proof.res s.proof.step
          { out := if (stepItems s s.proof.step m).2.isEmpty then 0 else 1, tested := (stepItems s s.proof.step m).1
            failed := (stepItems s s.proof.step m).2.length } ∧
        t.proof.mask = 0 ∧ t.proof.stepAt = none ∧ t.proof.running = true) ∧
    (s.proof.running = true → s.proof.mask = 0 → s.host.op.out = [] → s.host.op.paused = false → opServed s = true →
      Answers .proofRunEnd s fun t =>
        t.proof.running = false ∧ t.proof.runs = s.proof.runs + 1 ∧
        t.host.op.st = (if s.proof.fail = 0 then .done else .failed) ∧
        t.host.op.err = (if s.proof.fail = 0 then 0 else 0x0B)) ∧
    (∀ c, Settled s → atFrame s = true → s.evt.changed = [c] → Answers .evtCfgApply s fun t =>
      t.evt.cfg = tblSet (fun _ => parReset 0x8800) s.evt.cfg c (par s (0x8800 + c)) ∧
      t.evt.live = tblSet (fun _ => (0 : Word)) s.evt.live c 0 ∧ t.evt.changed = [] ∧ t.evt.last = BitVec.ofNat 6 c) ∧
    (∀ at_ v, Settled s → s.evt.clr = [(at_, v)] → tickPast s at_ = true → Answers .evtClr s fun t =>
      t = { s with evt := { s.evt with clr := [], live := s.evt.live.filter fun q => !v.getLsbD q.1 } }) ∧
    (∀ scan vana vf tj, s.power.vmain = true → ringScans s = true → Answers (.ringScan scan vana vf tj) s fun t =>
      t.field.vfieldMv = BitVec.ofNat 16 vf ∧ t.field.tjNow = tj ∧
      t.field.tjPeak = (if s.field.tjPeak.toInt < tj.toInt then tj else s.field.tjPeak)) ∧
    (∀ (b : Fin 444) (c : Fin 8),
      (tblGet (fun _ => 0) (ball s b.val).pres c.val = 100 → (ball s b.val).holds.getLsbD c.val = false →
        Answers (.ballStateSet b c) s fun t =>
          t.field.balls = tblSet (fun _ => Ball.blank) s.field.balls b.val { ball s b.val with
            holds := setBit (ball s b.val).holds c.val true
            state := lowestHeld (setBit (ball s b.val).holds c.val true) }) ∧
      (tblGet (fun _ => 0) (ball s b.val).abs_ c.val = 1000 → (ball s b.val).holds.getLsbD c.val = true →
        Answers (.ballStateClear b c) s fun t =>
          t.field.balls = tblSet (fun _ => Ball.blank) s.field.balls b.val { ball s b.val with
            holds := setBit (ball s b.val).holds c.val false
            state := lowestHeld (setBit (ball s b.val).holds c.val false) })) ∧
    (∀ (n : Fin 16) (mv : Nat), (par s 0xA800).getLsbD 1 = true → s.gesso.armed = true → s.gesso.rlBusy = false →
      s.power.st ≠ .vigil → recEn s.gesso.record n.val = true → (gSen s n.val).band = .opened → s.proof.inj = [] →
      probeDue s n.val = true →
      bandAt (countTh s.gesso.record n.val fun t => decide (t ≤ mv)) = .normal →
      (tblGet (fun _ => 0) s.field.probeRun n.val = 2 → Answers (.reverseProbe n mv) s fun t =>
        t.field.swapDue = setBit s.field.swapDue n.val true ∧ t.gesso.swapped = s.gesso.swapped ∧
        t.field.probeRun = tblSet (fun _ => 0) s.field.probeRun n.val 0 ∧ t.gesso.trip = s.gesso.trip) ∧
      (tblGet (fun _ => 0) s.field.probeRun n.val < 2 → Answers (.reverseProbe n mv) s fun t =>
        t.gesso.swapped = s.gesso.swapped ∧ t.field.swapDue = s.field.swapDue ∧
        t.field.probeRun = tblSet (fun _ => 0) s.field.probeRun n.val
          (tblGet (fun _ => 0) s.field.probeRun n.val + 1)))

/-! ### The Plovul window -/

/-- Accesses of the legacy bus and the events of the window. -/
def Obligations.LegacyWindow : Prop :=
  ∀ s : State,
    (BusOpen s → s.legacy.mode = true →
      (∀ (write : Bool) (off : Fin 32) (b : Byte), Answers (.legacyBadAddress write off b) s fun t =>
        t.host.busErr = true ∧ t.host.busErrCnt = s.host.busErrCnt + 1 ∧ (write = false → t.host.dOut = 0) ∧
        t.legacy.wlatch = s.legacy.wlatch ∧ t.params = s.params) ∧
      (∀ (off : Fin 32) (b : Byte), ∀ p ∈ [(0x0E, 0), (0x12, 0), (0x14, 0), (0x15, 1), (0x16, 2)], off.val = p.1 →
        Answers (.legacyLoWrite off b) s fun t => bare t = bare (latchByte p.2 b s)) ∧
      (∀ b : Byte,
        (Answers (.legacyHiWrite 0x0F b) s fun t =>
          t.legacy.arg = b ++ s.legacy.wlatch.setWidth 8 ∧ t.legacy.wfresh = false ∧ t.legacy.paddr = s.legacy.paddr) ∧
        (Answers (.legacyHiWrite 0x13 b) s fun t =>
          t.legacy.paddr = b ++ s.legacy.wlatch.setWidth 8 ∧ t.legacy.wfresh = false ∧ t.legacy.arg = s.legacy.arg)) ∧
      (Answers (.legacyLoRead 0x0E) s fun t =>
        t.legacy.rlatch = s.legacy.arg.setWidth 32 ∧ t.host.dOut = (s.legacy.arg.setWidth 8).setWidth 16) ∧
      (Answers (.legacyHiRead 0x0F) s fun t =>
        t.host.dOut = (s.legacy.rlatch.extractLsb' 8 8).setWidth 16 ∧ t.legacy.rlatch = s.legacy.rlatch) ∧
      (∀ b : Byte, s.legacy.queue.length < 8 → Answers (.lfanSpdWrite b) s fun t =>
        t.legacy.queue = s.legacy.queue ++
          [.fan s.legacy.fanSel (b.toNat * fld (fPar s 0x060 s.legacy.fanSel) 0 16 / 255)] ∧
        t.legacy.fanTgt = s.legacy.fanTgt) ∧
      (∀ b : Byte, 8 ≤ s.legacy.queue.length → Answers (.legacyQueueFullWait true b) s fun t =>
        t.legacy.waiting = some (.fan s.legacy.fanSel (b.toNat * fld (fPar s 0x060 s.legacy.fanSel) 0 16 / 255)) ∧
        t.host.nWaitLow = true ∧ t.legacy.queue = s.legacy.queue) ∧
      (Answers .lalarmRead s fun t =>
        t.host.dOut = ((alarmStat s).setWidth 8).setWidth 16 ∧ t.legacy.token = s.safety.token ∧
        t.safety.alarms = s.safety.alarms) ∧
      (s.legacy.ackAt = none → Answers (.lackWrite 0x5A) s fun t =>
        bare t = bare { s with legacy := { s.legacy with ackAt := some (now s, false) } }) ∧
      (∀ (b : Byte) (at_ : Nat), s.legacy.ackAt = some (at_, false) → now s ≤ at_ + ms → b ∈ [0xA5, 0xC3, 0x96] →
        isStandby s = false → Answers (.lackWrite b) s fun t =>
          t.safety.ackPending = some (b ++ s.legacy.token, tickNo s) ∧ t.legacy.ackAt = none) ∧
      (∀ b : Byte, cmdReason s.legacy.client.toNat b.toNat (!admitted s s.legacy.client.toNat) s = 0 → b.toNat ≠ 8 →
        s.clients.queue.length < 512 → Answers (.lclCmd b) s fun t =>
          ∃ q : QCmd, t.clients.queue = s.clients.queue ++ [q] ∧ q.id = s.legacy.client.toNat ∧ q.code = b.toNat ∧
            q.zc = (!admitted s s.legacy.client.toNat) ∧ q.args = [s.legacy.arg.setWidth 32, 0, 0, 0]) ∧
      (∀ c ∈ [(Instr.legacyLogRead, 8), (.legacyProof, 7), (.clientScan, 9)], legacyOpFree c.2 s = true →
        Answers c.1 s fun t =>
          t.host.op.st = .running ∧ t.host.op.code = c.2 ∧ t.host.op.legacy = true ∧ t.legacy.opErr = false) ∧
      (s.host.op.st = .running → isStandby s = false → Answers .legacyAbort s fun t =>
        t.host.op.abortReq = true ∧ t.host.op.st = .running) ∧
      (Answers .lopDataRead s fun t =>
        t.host.dOut = (s.legacy.opData.headD 0).setWidth 16 ∧ t.legacy.opData = s.legacy.opData.drop 1) ∧
      (Settled s → Answers .lstatRead s fun t =>
        t.host.dOut = (lstatShown s).setWidth 16 ∧ t.legacy.stat = s.legacy.stat &&& ~~~lstatShown s ∧
        t.legacy.irqEn = s.legacy.irqEn) ∧
      (Settled s → Answers .lwakeRead s fun t =>
        t.host.dOut = ((wakeShown s).setWidth 8).setWidth 16 ∧ t.power.wake = s.power.wake &&& wakeFresh s)) ∧
    (∀ f rpm rest, s.legacy.mode = true → atFrame s = true → s.power.origin + 400 * ms ≤ now s → s.power.vmain = true →
      s.power.inReset = false → s.legacy.lastFrame ≠ some (frameNo s) → runDue s = s.canvas.run → swapDue s = false →
      s.legacy.waiting = none → s.legacy.queue = .fan f rpm :: rest → isStandby s = false → emergencyHolds s 2 f = false →
      Answers .legacyApply s fun t =>
        t.legacy.fanTgt = tblSet (fun _ => 0) s.legacy.fanTgt f rpm ∧ t.legacy.queue = rest ∧ t.legacy.lastApply = 1 ∧
        t.legacy.cntApply = s.legacy.cntApply + 1 ∧ t.params = s.params) ∧
    (∀ at_ broken, s.legacy.ackAt = some (at_, broken) → at_ + ms < now s → Answers .lackTimeout s fun t =>
      bare t = bare { s with legacy := { s.legacy with ackAt := none, cntAckfail := s.legacy.cntAckfail + 1 } })
end

