-- ==== Sys2Proof/Laws/Reports.lean ====
section
/-!
SUPPORT. Reports.lean: what the reports of the block touch: event counters, the fault log, interrupt flags, wake causes, trouble
causes, hub broadcasts, chirps and the tier. Each of them leaves everything else as it is.
-/

namespace Sys2Proof.Machine

/-- A fold of steps that leave the remainder leaves it. -/
theorem sansReports_foldl {α : Type} {f : State → α → State} (h : ∀ s a, sansReports (f s a) = sansReports s) :
    ∀ (l : List α) (s : State), sansReports (l.foldl f s) = sansReports s
  | [], _ => rfl
  | a :: r, s => by rw [List.foldl_cons, sansReports_foldl h r, h]

@[simp] theorem sansReports_evtN (src n : Nat) (s : State) : sansReports (evtN src n s) = sansReports s := rfl
@[simp] theorem sansReports_evt (src : Nat) (s : State) : sansReports (evt src s) = sansReports s := rfl

@[simp] theorem sansReports_logAt (e code : Nat) (v : Word) (s : State) : sansReports (logAt e code v s) = sansReports s := by
  unfold logAt; split <;> rfl
@[simp] theorem sansReports_logPush (code : Nat) (v : Word) (s : State) : sansReports (logPush code v s) = sansReports s :=
  sansReports_logAt _ _ _ _

@[simp] theorem sansReports_countIrq (old s : State) : sansReports (countIrq old s) = sansReports s := by
  unfold countIrq; split <;> rfl
@[simp] theorem sansReports_setLstat (b : Nat) (s : State) : sansReports (setLstat b s) = sansReports s := by
  unfold setLstat; split
  · exact sansReports_countIrq _ _
  · rfl
@[simp] theorem sansReports_setIrq (b : Nat) (s : State) : sansReports (setIrq b s) = sansReports s := by
  unfold setIrq
  rw [sansReports_countIrq]
  split
  · exact (show _ = sansReports (setLstat b s) from rfl).trans (sansReports_setLstat b s)
  · rfl
@[simp] theorem sansReports_latchWake (c : Nat) (s : State) : sansReports (latchWake c s) = sansReports s := by
  unfold latchWake; split <;> rfl
@[simp] theorem sansReports_setZc (t : Nat) (z : ZcTrack) (s : State) : sansReports (setZc t z s) = sansReports s := rfl
@[simp] theorem sansReports_queueP1 (t : Nat) (f : HubFrame) (s : State) : sansReports (queueP1 t f s) = sansReports s := by
  unfold queueP1; simp
@[simp] theorem sansReports_hubBcast (code : Nat) (s : State) : sansReports (hubBcast code s) = sansReports s := by
  unfold hubBcast; split
  · exact (show _ = sansReports (queueP1 2 _ (queueP1 1 _ (queueP1 0 _ s))) from rfl).trans (by simp)
  · rfl
@[simp] theorem sansReports_chirpSettle (s : State) : sansReports (chirpSettle s) = sansReports s := by
  unfold chirpSettle; split <;> rfl
@[simp] theorem sansReports_raiseCause (code src : Nat) (event : Bool) (s : State) :
    sansReports (raiseCause code src event s) = sansReports s := by
  unfold raiseCause
  split
  · rfl
  · dsimp only
    split
    · split <;> simp <;> rfl
    · rfl
@[simp] theorem sansReports_dropCause (code src : Nat) (s : State) : sansReports (dropCause code src s) = sansReports s := by
  unfold dropCause
  split
  · dsimp only
    split <;> split <;> simp <;> rfl
  · rfl
@[simp] theorem sansReports_setCause (code src : Nat) (p : Bool) (s : State) : sansReports (setCause code src p s) = sansReports s := by
  unfold setCause; split <;> simp

@[simp] theorem sansReports_countRelayOp (i : Nat) (s : State) : sansReports (countRelayOp i s) = sansReports s := rfl
@[simp] theorem sansReports_noteSwitches (old s : State) : sansReports (noteSwitches old s) = sansReports s := by
  unfold noteSwitches
  exact (sansReports_foldl (by intro s a; split <;> simp) _ _).trans rfl
@[simp] theorem sansReports_setSounder (k : Nat) (d : Sounder) (s : State) : sansReports (setSounder k d s) = sansReports s := rfl

/-- A field that reports do not write, read off the remainder. -/
theorem kept_of_sansReports {α : Type} (f : State → α) (h : ∀ s, f (sansReports s) = f s) {s t : State}
    (e : sansReports t = sansReports s) : f t = f s := by rw [← h t, e, h]

@[simp] theorem tierOf_sansReports (s : State) : tierOf (sansReports s) = tierOf s := rfl

/-- Reports decide no tier. -/
theorem tierOf_reports {s t : State} (e : sansReports t = sansReports s) : tierOf t = tierOf s :=
  kept_of_sansReports tierOf tierOf_sansReports e
theorem sys_reports {s t : State} (e : sansReports t = sansReports s) : t.sys = s.sys :=
  kept_of_sansReports (·.sys) (fun _ => rfl) e

@[simp] theorem sansReports_chirp (k : Nat) (p : Bool) (s : State) : sansReports (chirp k p s) = sansReports s := by
  unfold chirp; dsimp only; split
  · rfl
  · split <;> simp
@[simp] theorem sansReports_chirpMask (m : BitVec 4) (s : State) : sansReports (chirpMask m s) = sansReports s :=
  sansReports_foldl (by intro s a; split <;> simp) _ _
@[simp] theorem sansReports_gessoChirp (s : State) : sansReports (gessoChirp s) = sansReports s := by
  unfold gessoChirp
  split
  · exact (sansReports_foldl (by intro s a; split <;> simp) _ _).trans rfl
  · rfl

@[simp] theorem bare_sansReports (s : State) : bare (sansReports s) = bare s := rfl
theorem bare_reports {s t : State} (e : sansReports t = sansReports s) : bare t = bare s := by
  rw [← bare_sansReports, e, bare_sansReports]
theorem tierOf_bare (s : State) : tierOf (bare s) = tierOf s := rfl
theorem tierOf_kept {s t : State} (e : bare t = bare s) : tierOf t = tierOf s := by
  rw [← tierOf_bare t, e, tierOf_bare]

@[simp] theorem sansReports_setTier0Fault (b : Bool) (s : State) : sansReports (setTier0Fault b s) = sansReports s := rfl
@[simp] theorem sansReports_tierFell (lost : BitVec 12) (s : State) : sansReports (tierFell lost s) = sansReports s := by
  unfold tierFell
  dsimp only
  split
  · rw [sansReports_hubBcast]; rfl
  · rw [sansReports_raiseCause]; rfl
@[simp] theorem sansReports_endFalls (a : Nat) (s : State) : sansReports (endFalls a s) = sansReports s := by
  unfold endFalls; split <;> rfl
@[simp] theorem sansReports_tierRose (b a : Nat) (s : State) : sansReports (tierRose b a s) = sansReports s := by
  unfold tierRose
  dsimp only
  split
  · split
    · split <;> simp
    · exact (sansReports_foldl (by intro s a; simp) _ _).trans (by simp)
  · split <;> simp

theorem tierTaken_spec (old s : State) (t : Nat) : bare (tierTaken old s t) = bare s ∧ (tierTaken old s t).sys.tier = t := by
  unfold tierTaken
  dsimp only
  split
  · have h := sansReports_logPush 0x002 (BitVec.ofNat 32 (s.sys.tier + 4 * t + (domAvail old ^^^ domAvail s).toNat * 65536))
      { s with sys := { s.sys with tier := t } }
    exact ⟨(bare_reports h).trans rfl, (congrArg Sys.tier (sys_reports h)).trans rfl⟩
  · exact ⟨rfl, rfl⟩

/-- What taking a new tier leaves: it is the tier of what is available, and only it and reports change. -/
theorem retier_spec (old s : State) : bare (retier old s) = bare s ∧ (retier old s).sys.tier = tierOf s := by
  have key : ∀ u, sansReports u = sansReports (tierTaken old s (tierOf s)) →
      bare u = bare s ∧ u.sys.tier = tierOf s := fun u hu =>
    ⟨(bare_reports hu).trans (tierTaken_spec old s _).1, (congrArg Sys.tier (sys_reports hu)).trans (tierTaken_spec old s _).2⟩
  unfold retier
  dsimp only
  split
  · next h => exact ⟨rfl, h.symm⟩
  · split
    · split <;> exact key _ (by simp)
    · exact key _ (by simp)

theorem tierChange_spec (old s : State) : bare (tierChange old s) = bare s ∧ (tierChange old s).sys.tier = tierOf s := by
  unfold tierChange
  dsimp only
  split
  · have h := sansReports_gessoChirp (retier old s)
    exact ⟨(bare_reports h).trans (retier_spec old s).1, (congrArg Sys.tier (sys_reports h)).trans (retier_spec old s).2⟩
  · exact retier_spec old s

/-- Every effect ends in a next state that differs from the effect in reports and tier only, and whose tier is settled. -/
theorem finish_spec (old u : State) : ∃ t, finish old u = .next t ∧ bare t = bare u ∧ Settled t := by
  refine ⟨_, rfl, ?_⟩
  unfold Settled
  split
  · next h => exact ⟨rfl, h.symm⟩
  · exact ⟨(tierChange_spec old u).1, by rw [tierOf_kept (tierChange_spec old u).1]; exact (tierChange_spec old u).2⟩

/-- An effect that leaves a settled tier settled is the next state. -/
theorem finish_settled {old u : State} (h : Settled u) : finish old u = .next u := by
  unfold finish; rw [if_pos h.symm]

/-- Reports leave a settled tier settled. -/
theorem settled_reports {s t : State} (e : sansReports t = sansReports s) (h : Settled s) : Settled t := by
  unfold Settled; rw [sys_reports e, tierOf_reports e]; exact h

/-! ### Each report leaves everything but reports -/

@[simp] theorem bare_evtN (src n : Nat) (s : State) : bare (evtN src n s) = bare s := rfl
@[simp] theorem bare_evt (src : Nat) (s : State) : bare (evt src s) = bare s := rfl
@[simp] theorem bare_logAt (e c : Nat) (v : Word) (s : State) : bare (logAt e c v s) = bare s := bare_reports (by simp)
@[simp] theorem bare_logPush (c : Nat) (v : Word) (s : State) : bare (logPush c v s) = bare s := bare_reports (by simp)
@[simp] theorem bare_setIrq (b : Nat) (s : State) : bare (setIrq b s) = bare s := bare_reports (by simp)
@[simp] theorem bare_setLstat (b : Nat) (s : State) : bare (setLstat b s) = bare s := bare_reports (by simp)
@[simp] theorem bare_latchWake (c : Nat) (s : State) : bare (latchWake c s) = bare s := bare_reports (by simp)
@[simp] theorem bare_hubBcast (c : Nat) (s : State) : bare (hubBcast c s) = bare s := bare_reports (by simp)
@[simp] theorem bare_raiseCause (c src : Nat) (e : Bool) (s : State) : bare (raiseCause c src e s) = bare s :=
  bare_reports (by simp)
@[simp] theorem bare_dropCause (c src : Nat) (s : State) : bare (dropCause c src s) = bare s := bare_reports (by simp)
@[simp] theorem bare_setCause (c src : Nat) (p : Bool) (s : State) : bare (setCause c src p s) = bare s :=
  bare_reports (by simp)
@[simp] theorem bare_chirp (k : Nat) (p : Bool) (s : State) : bare (chirp k p s) = bare s := bare_reports (by simp)
@[simp] theorem bare_chirpMask (m : BitVec 4) (s : State) : bare (chirpMask m s) = bare s := bare_reports (by simp)
@[simp] theorem bare_gessoChirp (s : State) : bare (gessoChirp s) = bare s := bare_reports (by simp)
@[simp] theorem bare_noteSwitches (old s : State) : bare (noteSwitches old s) = bare s := bare_reports (by simp)
@[simp] theorem bare_setZc (k : Nat) (z : ZcTrack) (s : State) : bare (setZc k z s) = bare s := rfl
@[simp] theorem bare_setSounder (k : Nat) (z : Sounder) (s : State) : bare (setSounder k z s) = bare s := rfl

end Sys2Proof.Machine
end

