-- ==== Sys2Proof/Laws/Exec.lean ====
section
/-!
SUPPORT. Exec.lean: what every command does: its effect, with the tier decided anew after it.
-/

namespace Sys2Proof.Machine

set_option maxRecDepth 20000 in
/-- Every command ends by deciding the tier anew after its effect (R20). -/
theorem exec_finish (c : Instr) (s : State) : ∃ u, exec c s = finish s u := by
  cases c <;> exact ⟨_, rfl⟩

/-- What holds of every state that differs from the effect in reports and tier only, and is settled, holds of the answer. -/
theorem answers_of_bare {c : Instr} {s u : State} {P : State → Prop} (e : exec c s = finish s u)
    (h : ∀ t, bare t = bare u → Settled t → P t) : Answers c s P := by
  obtain ⟨t, ht, hb, hs⟩ := finish_spec s u
  exact ⟨t, e.trans ht, h t hb hs⟩

/-- An effect that leaves the tier settled is the answer. -/
theorem answers_of_settled {c : Instr} {s u : State} {P : State → Prop} (e : exec c s = finish s u) (h : Settled u)
    (p : P u) : Answers c s P := ⟨u, e.trans (finish_settled h), p⟩

/-- A field that neither reports nor the tier write, read off the remainder. -/
theorem kept_of_bare {α : Type} (f : State → α) (h : ∀ s, f (bare s) = f s) {s t : State} (e : bare t = bare s) : f t = f s := by
  rw [← h t, e, h]

/-- The answer to a settled state whose effect only reports is settled. -/
theorem settled_of_bare {s u : State} (h : Settled s) (e : bare u = bare s) (t : u.sys.tier = s.sys.tier) : Settled u := by
  unfold Settled; rw [t, tierOf_kept e]; exact h

end Sys2Proof.Machine
end

