-- ==== Sys2Proof/Laws/Outputs.lean ====
section
/-!
SUPPORT. Outputs.lean: what following the outputs touches: sounders, the ALARM cycle, the commands in domain G, and reports.
-/

namespace Sys2Proof.Machine

theorem inner_of_bare {s t : State} (e : bare t = bare s) : inner t = inner s := by unfold inner; rw [e]
theorem inner_of_reports {s t : State} (e : sansReports t = sansReports s) : inner t = inner s := inner_of_bare (bare_reports e)

/-- A field that none of the three writes. -/
theorem kept_of_inner {α : Type} (f : State → α) (h : ∀ s, f (inner s) = f s) {s t : State} (e : inner t = inner s) :
    f t = f s := by rw [← h t, e, h]

/-- A fold of steps that leave the remainder leaves it. -/
theorem inner_foldl {α : Type} {f : State → α → State} (h : ∀ s a, inner (f s a) = inner s) :
    ∀ (l : List α) (s : State), inner (l.foldl f s) = inner s
  | [], _ => rfl
  | a :: r, s => by rw [List.foldl_cons, inner_foldl h r, h]

@[simp] theorem inner_evtN (src n : Nat) (s : State) : inner (evtN src n s) = inner s := rfl
@[simp] theorem inner_evt (src : Nat) (s : State) : inner (evt src s) = inner s := rfl
@[simp] theorem inner_logAt (e c : Nat) (v : Word) (s : State) : inner (logAt e c v s) = inner s := inner_of_reports (by simp)
@[simp] theorem inner_logPush (c : Nat) (v : Word) (s : State) : inner (logPush c v s) = inner s := inner_of_reports (by simp)
@[simp] theorem inner_setIrq (b : Nat) (s : State) : inner (setIrq b s) = inner s := inner_of_reports (by simp)
@[simp] theorem inner_setLstat (b : Nat) (s : State) : inner (setLstat b s) = inner s := inner_of_reports (by simp)
@[simp] theorem inner_latchWake (c : Nat) (s : State) : inner (latchWake c s) = inner s := inner_of_reports (by simp)
@[simp] theorem inner_hubBcast (c : Nat) (s : State) : inner (hubBcast c s) = inner s := inner_of_reports (by simp)
@[simp] theorem inner_raiseCause (c src : Nat) (e : Bool) (s : State) : inner (raiseCause c src e s) = inner s :=
  inner_of_reports (by simp)
@[simp] theorem inner_dropCause (c src : Nat) (s : State) : inner (dropCause c src s) = inner s := inner_of_reports (by simp)
@[simp] theorem inner_setCause (c src : Nat) (p : Bool) (s : State) : inner (setCause c src p s) = inner s :=
  inner_of_reports (by simp)
@[simp] theorem inner_chirp (k : Nat) (p : Bool) (s : State) : inner (chirp k p s) = inner s := inner_of_reports (by simp)
@[simp] theorem inner_chirpMask (m : BitVec 4) (s : State) : inner (chirpMask m s) = inner s := inner_of_reports (by simp)
@[simp] theorem inner_gessoChirp (s : State) : inner (gessoChirp s) = inner s := inner_of_reports (by simp)
@[simp] theorem inner_noteSwitches (old s : State) : inner (noteSwitches old s) = inner s := inner_of_reports (by simp)
@[simp] theorem inner_tierChange (old s : State) : inner (tierChange old s) = inner s := inner_of_bare (tierChange_spec old s).1

@[simp] theorem inner_sounderFollow (k : Nat) (s : State) : inner (sounderFollow k s) = inner s := by
  unfold sounderFollow
  dsimp only
  split
  · split <;> rfl
  · split
    · split <;> rfl
    · rfl

theorem inner_cmdChanged (n : Nat) (s : State) : inner { s with safety := { s.safety with cmdChanged := n } } = inner s := rfl

/-- Following the outputs leaves everything but outputs. -/
@[simp] theorem inner_refreshOut (s : State) : inner (refreshOut s) = inner s := by
  unfold refreshOut
  extract_lets cmd g s1 s2 s3
  have h1 : inner s1 = inner s := rfl
  have h3 : inner s3 = inner s := by simp only [s3, s2, inner_noteSwitches, inner_sounderFollow, h1]
  split
  · exact h3
  · rw [inner_cmdChanged, h3]

theorem inner_proofPause {s : State} (h : s.proof.running = false) : proofPauseOnAlarm s = s := by
  unfold proofPauseOnAlarm; simp [h]

/-- What a Proof pause leaves: everything but the run's own work. -/
theorem proofPause_frame (s : State) : { proofPauseOnAlarm s with proof := s.proof } = s := by
  unfold proofPauseOnAlarm; split <;> rfl

end Sys2Proof.Machine
end

