-- ==== Sys2Proof/Laws/State.lean ====
section
/-!
SUPPORT. Laws/State.lean: for each named update of State, what it does to each field, one rewriting lemma per field.
-/

namespace Sys2Proof.Machine

variable (s : State)

/-! ### setPar: field `params` only -/

@[simp] theorem setPar_pending (a : Nat) (v : Word) : (setPar a v s).pending = s.pending := rfl
@[simp] theorem setPar_free (a : Nat) (v : Word) : (setPar a v s).free = s.free := rfl
@[simp] theorem setPar_mem (a : Nat) (v : Word) : (setPar a v s).mem = s.mem := rfl
@[simp] theorem setPar_params (a : Nat) (v : Word) :
    (setPar a v s).params = tblSet parReset s.params a v := rfl
@[simp] theorem setPar_gesso (a : Nat) (v : Word) : (setPar a v s).gesso = s.gesso := rfl
@[simp] theorem setPar_pads (a : Nat) (v : Word) : (setPar a v s).pads = s.pads := rfl
@[simp] theorem setPar_safety (a : Nat) (v : Word) : (setPar a v s).safety = s.safety := rfl
@[simp] theorem setPar_time (a : Nat) (v : Word) : (setPar a v s).time = s.time := rfl
@[simp] theorem setPar_canvas (a : Nat) (v : Word) : (setPar a v s).canvas = s.canvas := rfl
@[simp] theorem setPar_sys (a : Nat) (v : Word) : (setPar a v s).sys = s.sys := rfl
@[simp] theorem setPar_power (a : Nat) (v : Word) : (setPar a v s).power = s.power := rfl
@[simp] theorem setPar_host (a : Nat) (v : Word) : (setPar a v s).host = s.host := rfl
@[simp] theorem setPar_glaze (a : Nat) (v : Word) : (setPar a v s).glaze = s.glaze := rfl
@[simp] theorem setPar_zc (a : Nat) (v : Word) : (setPar a v s).zc = s.zc := rfl
@[simp] theorem setPar_bb (a : Nat) (v : Word) : (setPar a v s).bb = s.bb := rfl
@[simp] theorem setPar_clients (a : Nat) (v : Word) : (setPar a v s).clients = s.clients := rfl
@[simp] theorem setPar_evt (a : Nat) (v : Word) : (setPar a v s).evt = s.evt := rfl
@[simp] theorem setPar_conv (a : Nat) (v : Word) : (setPar a v s).conv = s.conv := rfl
@[simp] theorem setPar_loop (a : Nat) (v : Word) : (setPar a v s).loop = s.loop := rfl
@[simp] theorem setPar_drive (a : Nat) (v : Word) : (setPar a v s).drive = s.drive := rfl
@[simp] theorem setPar_fans (a : Nat) (v : Word) : (setPar a v s).fans = s.fans := rfl
@[simp] theorem setPar_store (a : Nat) (v : Word) : (setPar a v s).store = s.store := rfl
@[simp] theorem setPar_mirror (a : Nat) (v : Word) : (setPar a v s).mirror = s.mirror := rfl
@[simp] theorem setPar_field (a : Nat) (v : Word) : (setPar a v s).field = s.field := rfl
@[simp] theorem setPar_proof (a : Nat) (v : Word) : (setPar a v s).proof = s.proof := rfl
@[simp] theorem setPar_legacy (a : Nat) (v : Word) : (setPar a v s).legacy = s.legacy := rfl

/-! ### moveTo: field `time` only -/

@[simp] theorem moveTo_pending (e : Nat) : (moveTo s e).pending = s.pending := by
  unfold moveTo; split <;> (try split) <;> rfl
@[simp] theorem moveTo_free (e : Nat) : (moveTo s e).free = s.free := by
  unfold moveTo; split <;> (try split) <;> rfl
@[simp] theorem moveTo_mem (e : Nat) : (moveTo s e).mem = s.mem := by
  unfold moveTo; split <;> (try split) <;> rfl
@[simp] theorem moveTo_params (e : Nat) : (moveTo s e).params = s.params := by
  unfold moveTo; split <;> (try split) <;> rfl
@[simp] theorem moveTo_gesso (e : Nat) : (moveTo s e).gesso = s.gesso := by
  unfold moveTo; split <;> (try split) <;> rfl
@[simp] theorem moveTo_pads (e : Nat) : (moveTo s e).pads = s.pads := by
  unfold moveTo; split <;> (try split) <;> rfl
@[simp] theorem moveTo_safety (e : Nat) : (moveTo s e).safety = s.safety := by
  unfold moveTo; split <;> (try split) <;> rfl
@[simp] theorem moveTo_canvas (e : Nat) : (moveTo s e).canvas = s.canvas := by
  unfold moveTo; split <;> (try split) <;> rfl
@[simp] theorem moveTo_sys (e : Nat) : (moveTo s e).sys = s.sys := by
  unfold moveTo; split <;> (try split) <;> rfl
@[simp] theorem moveTo_power (e : Nat) : (moveTo s e).power = s.power := by
  unfold moveTo; split <;> (try split) <;> rfl
@[simp] theorem moveTo_host (e : Nat) : (moveTo s e).host = s.host := by
  unfold moveTo; split <;> (try split) <;> rfl
@[simp] theorem moveTo_glaze (e : Nat) : (moveTo s e).glaze = s.glaze := by
  unfold moveTo; split <;> (try split) <;> rfl
@[simp] theorem moveTo_zc (e : Nat) : (moveTo s e).zc = s.zc := by
  unfold moveTo; split <;> (try split) <;> rfl
@[simp] theorem moveTo_bb (e : Nat) : (moveTo s e).bb = s.bb := by
  unfold moveTo; split <;> (try split) <;> rfl
@[simp] theorem moveTo_clients (e : Nat) : (moveTo s e).clients = s.clients := by
  unfold moveTo; split <;> (try split) <;> rfl
@[simp] theorem moveTo_evt (e : Nat) : (moveTo s e).evt = s.evt := by
  unfold moveTo; split <;> (try split) <;> rfl
@[simp] theorem moveTo_conv (e : Nat) : (moveTo s e).conv = s.conv := by
  unfold moveTo; split <;> (try split) <;> rfl
@[simp] theorem moveTo_loop (e : Nat) : (moveTo s e).loop = s.loop := by
  unfold moveTo; split <;> (try split) <;> rfl
@[simp] theorem moveTo_drive (e : Nat) : (moveTo s e).drive = s.drive := by
  unfold moveTo; split <;> (try split) <;> rfl
@[simp] theorem moveTo_fans (e : Nat) : (moveTo s e).fans = s.fans := by
  unfold moveTo; split <;> (try split) <;> rfl
@[simp] theorem moveTo_store (e : Nat) : (moveTo s e).store = s.store := by
  unfold moveTo; split <;> (try split) <;> rfl
@[simp] theorem moveTo_mirror (e : Nat) : (moveTo s e).mirror = s.mirror := by
  unfold moveTo; split <;> (try split) <;> rfl
@[simp] theorem moveTo_field (e : Nat) : (moveTo s e).field = s.field := by
  unfold moveTo; split <;> (try split) <;> rfl
@[simp] theorem moveTo_proof (e : Nat) : (moveTo s e).proof = s.proof := by
  unfold moveTo; split <;> (try split) <;> rfl
@[simp] theorem moveTo_legacy (e : Nat) : (moveTo s e).legacy = s.legacy := by
  unfold moveTo; split <;> (try split) <;> rfl
/-- On the 40.000 MHz crystal, outside OFF, easel time moves by sub-ticks (R200, R1206). -/
theorem moveTo_x40 (e : Nat) (hp : s.power.st ≠ .off) (hs : s.time.source = .x40) :
    moveTo s e = { s with time := { s.time with easel := max e s.time.easel } } := by
  unfold moveTo; rw [if_neg hp, if_pos hs]

/-! ### moveIn: field `time` only -/

@[simp] theorem moveIn_pending (at_ : Nat) : (moveIn s at_).pending = s.pending := moveTo_pending s _
@[simp] theorem moveIn_free (at_ : Nat) : (moveIn s at_).free = s.free := moveTo_free s _
@[simp] theorem moveIn_mem (at_ : Nat) : (moveIn s at_).mem = s.mem := moveTo_mem s _
@[simp] theorem moveIn_params (at_ : Nat) : (moveIn s at_).params = s.params := moveTo_params s _
@[simp] theorem moveIn_gesso (at_ : Nat) : (moveIn s at_).gesso = s.gesso := moveTo_gesso s _
@[simp] theorem moveIn_pads (at_ : Nat) : (moveIn s at_).pads = s.pads := moveTo_pads s _
@[simp] theorem moveIn_safety (at_ : Nat) : (moveIn s at_).safety = s.safety := moveTo_safety s _
@[simp] theorem moveIn_canvas (at_ : Nat) : (moveIn s at_).canvas = s.canvas := moveTo_canvas s _
@[simp] theorem moveIn_sys (at_ : Nat) : (moveIn s at_).sys = s.sys := moveTo_sys s _
@[simp] theorem moveIn_power (at_ : Nat) : (moveIn s at_).power = s.power := moveTo_power s _
@[simp] theorem moveIn_host (at_ : Nat) : (moveIn s at_).host = s.host := moveTo_host s _
@[simp] theorem moveIn_glaze (at_ : Nat) : (moveIn s at_).glaze = s.glaze := moveTo_glaze s _
@[simp] theorem moveIn_zc (at_ : Nat) : (moveIn s at_).zc = s.zc := moveTo_zc s _
@[simp] theorem moveIn_bb (at_ : Nat) : (moveIn s at_).bb = s.bb := moveTo_bb s _
@[simp] theorem moveIn_clients (at_ : Nat) : (moveIn s at_).clients = s.clients := moveTo_clients s _
@[simp] theorem moveIn_evt (at_ : Nat) : (moveIn s at_).evt = s.evt := moveTo_evt s _
@[simp] theorem moveIn_conv (at_ : Nat) : (moveIn s at_).conv = s.conv := moveTo_conv s _
@[simp] theorem moveIn_loop (at_ : Nat) : (moveIn s at_).loop = s.loop := moveTo_loop s _
@[simp] theorem moveIn_drive (at_ : Nat) : (moveIn s at_).drive = s.drive := moveTo_drive s _
@[simp] theorem moveIn_fans (at_ : Nat) : (moveIn s at_).fans = s.fans := moveTo_fans s _
@[simp] theorem moveIn_store (at_ : Nat) : (moveIn s at_).store = s.store := moveTo_store s _
@[simp] theorem moveIn_mirror (at_ : Nat) : (moveIn s at_).mirror = s.mirror := moveTo_mirror s _
@[simp] theorem moveIn_field (at_ : Nat) : (moveIn s at_).field = s.field := moveTo_field s _
@[simp] theorem moveIn_proof (at_ : Nat) : (moveIn s at_).proof = s.proof := moveTo_proof s _
@[simp] theorem moveIn_legacy (at_ : Nat) : (moveIn s at_).legacy = s.legacy := moveTo_legacy s _
theorem moveIn_x40 (at_ : Nat) (hp : s.power.st ≠ .off) (hs : s.time.source = .x40) :
    moveIn s at_ = { s with time := { s.time with easel := max (instant s at_) s.time.easel } } := moveTo_x40 s _ hp hs

/-! ### setZc: field `zc` only -/

@[simp] theorem setZc_pending (t : Nat) (z : ZcTrack) : (setZc t z s).pending = s.pending := rfl
@[simp] theorem setZc_free (t : Nat) (z : ZcTrack) : (setZc t z s).free = s.free := rfl
@[simp] theorem setZc_mem (t : Nat) (z : ZcTrack) : (setZc t z s).mem = s.mem := rfl
@[simp] theorem setZc_params (t : Nat) (z : ZcTrack) : (setZc t z s).params = s.params := rfl
@[simp] theorem setZc_gesso (t : Nat) (z : ZcTrack) : (setZc t z s).gesso = s.gesso := rfl
@[simp] theorem setZc_pads (t : Nat) (z : ZcTrack) : (setZc t z s).pads = s.pads := rfl
@[simp] theorem setZc_safety (t : Nat) (z : ZcTrack) : (setZc t z s).safety = s.safety := rfl
@[simp] theorem setZc_time (t : Nat) (z : ZcTrack) : (setZc t z s).time = s.time := rfl
@[simp] theorem setZc_canvas (t : Nat) (z : ZcTrack) : (setZc t z s).canvas = s.canvas := rfl
@[simp] theorem setZc_sys (t : Nat) (z : ZcTrack) : (setZc t z s).sys = s.sys := rfl
@[simp] theorem setZc_power (t : Nat) (z : ZcTrack) : (setZc t z s).power = s.power := rfl
@[simp] theorem setZc_host (t : Nat) (z : ZcTrack) : (setZc t z s).host = s.host := rfl
@[simp] theorem setZc_glaze (t : Nat) (z : ZcTrack) : (setZc t z s).glaze = s.glaze := rfl
@[simp] theorem setZc_zc (t : Nat) (z : ZcTrack) :
    (setZc t z s).zc = { s.zc with tracks := tblSet (fun _ => ZcTrack.blank) s.zc.tracks t z } := rfl
@[simp] theorem setZc_bb (t : Nat) (z : ZcTrack) : (setZc t z s).bb = s.bb := rfl
@[simp] theorem setZc_clients (t : Nat) (z : ZcTrack) : (setZc t z s).clients = s.clients := rfl
@[simp] theorem setZc_evt (t : Nat) (z : ZcTrack) : (setZc t z s).evt = s.evt := rfl
@[simp] theorem setZc_conv (t : Nat) (z : ZcTrack) : (setZc t z s).conv = s.conv := rfl
@[simp] theorem setZc_loop (t : Nat) (z : ZcTrack) : (setZc t z s).loop = s.loop := rfl
@[simp] theorem setZc_drive (t : Nat) (z : ZcTrack) : (setZc t z s).drive = s.drive := rfl
@[simp] theorem setZc_fans (t : Nat) (z : ZcTrack) : (setZc t z s).fans = s.fans := rfl
@[simp] theorem setZc_store (t : Nat) (z : ZcTrack) : (setZc t z s).store = s.store := rfl
@[simp] theorem setZc_mirror (t : Nat) (z : ZcTrack) : (setZc t z s).mirror = s.mirror := rfl
@[simp] theorem setZc_field (t : Nat) (z : ZcTrack) : (setZc t z s).field = s.field := rfl
@[simp] theorem setZc_proof (t : Nat) (z : ZcTrack) : (setZc t z s).proof = s.proof := rfl
@[simp] theorem setZc_legacy (t : Nat) (z : ZcTrack) : (setZc t z s).legacy = s.legacy := rfl

/-! ### setTrack: field `time` only -/

@[simp] theorem setTrack_pending (t : Nat) (k : Track) : (setTrack t k s).pending = s.pending := rfl
@[simp] theorem setTrack_free (t : Nat) (k : Track) : (setTrack t k s).free = s.free := rfl
@[simp] theorem setTrack_mem (t : Nat) (k : Track) : (setTrack t k s).mem = s.mem := rfl
@[simp] theorem setTrack_params (t : Nat) (k : Track) : (setTrack t k s).params = s.params := rfl
@[simp] theorem setTrack_gesso (t : Nat) (k : Track) : (setTrack t k s).gesso = s.gesso := rfl
@[simp] theorem setTrack_pads (t : Nat) (k : Track) : (setTrack t k s).pads = s.pads := rfl
@[simp] theorem setTrack_safety (t : Nat) (k : Track) : (setTrack t k s).safety = s.safety := rfl
@[simp] theorem setTrack_time (t : Nat) (k : Track) :
    (setTrack t k s).time = { s.time with tracks := tblSet (fun _ => Track.blank) s.time.tracks t k } := rfl
@[simp] theorem setTrack_canvas (t : Nat) (k : Track) : (setTrack t k s).canvas = s.canvas := rfl
@[simp] theorem setTrack_sys (t : Nat) (k : Track) : (setTrack t k s).sys = s.sys := rfl
@[simp] theorem setTrack_power (t : Nat) (k : Track) : (setTrack t k s).power = s.power := rfl
@[simp] theorem setTrack_host (t : Nat) (k : Track) : (setTrack t k s).host = s.host := rfl
@[simp] theorem setTrack_glaze (t : Nat) (k : Track) : (setTrack t k s).glaze = s.glaze := rfl
@[simp] theorem setTrack_zc (t : Nat) (k : Track) : (setTrack t k s).zc = s.zc := rfl
@[simp] theorem setTrack_bb (t : Nat) (k : Track) : (setTrack t k s).bb = s.bb := rfl
@[simp] theorem setTrack_clients (t : Nat) (k : Track) : (setTrack t k s).clients = s.clients := rfl
@[simp] theorem setTrack_evt (t : Nat) (k : Track) : (setTrack t k s).evt = s.evt := rfl
@[simp] theorem setTrack_conv (t : Nat) (k : Track) : (setTrack t k s).conv = s.conv := rfl
@[simp] theorem setTrack_loop (t : Nat) (k : Track) : (setTrack t k s).loop = s.loop := rfl
@[simp] theorem setTrack_drive (t : Nat) (k : Track) : (setTrack t k s).drive = s.drive := rfl
@[simp] theorem setTrack_fans (t : Nat) (k : Track) : (setTrack t k s).fans = s.fans := rfl
@[simp] theorem setTrack_store (t : Nat) (k : Track) : (setTrack t k s).store = s.store := rfl
@[simp] theorem setTrack_mirror (t : Nat) (k : Track) : (setTrack t k s).mirror = s.mirror := rfl
@[simp] theorem setTrack_field (t : Nat) (k : Track) : (setTrack t k s).field = s.field := rfl
@[simp] theorem setTrack_proof (t : Nat) (k : Track) : (setTrack t k s).proof = s.proof := rfl
@[simp] theorem setTrack_legacy (t : Nat) (k : Track) : (setTrack t k s).legacy = s.legacy := rfl

/-! ### setFe: field `bb` only -/

@[simp] theorem setFe_pending (t : Nat) (f : FrontEnd) : (setFe t f s).pending = s.pending := rfl
@[simp] theorem setFe_free (t : Nat) (f : FrontEnd) : (setFe t f s).free = s.free := rfl
@[simp] theorem setFe_mem (t : Nat) (f : FrontEnd) : (setFe t f s).mem = s.mem := rfl
@[simp] theorem setFe_params (t : Nat) (f : FrontEnd) : (setFe t f s).params = s.params := rfl
@[simp] theorem setFe_gesso (t : Nat) (f : FrontEnd) : (setFe t f s).gesso = s.gesso := rfl
@[simp] theorem setFe_pads (t : Nat) (f : FrontEnd) : (setFe t f s).pads = s.pads := rfl
@[simp] theorem setFe_safety (t : Nat) (f : FrontEnd) : (setFe t f s).safety = s.safety := rfl
@[simp] theorem setFe_time (t : Nat) (f : FrontEnd) : (setFe t f s).time = s.time := rfl
@[simp] theorem setFe_canvas (t : Nat) (f : FrontEnd) : (setFe t f s).canvas = s.canvas := rfl
@[simp] theorem setFe_sys (t : Nat) (f : FrontEnd) : (setFe t f s).sys = s.sys := rfl
@[simp] theorem setFe_power (t : Nat) (f : FrontEnd) : (setFe t f s).power = s.power := rfl
@[simp] theorem setFe_host (t : Nat) (f : FrontEnd) : (setFe t f s).host = s.host := rfl
@[simp] theorem setFe_glaze (t : Nat) (f : FrontEnd) : (setFe t f s).glaze = s.glaze := rfl
@[simp] theorem setFe_zc (t : Nat) (f : FrontEnd) : (setFe t f s).zc = s.zc := rfl
@[simp] theorem setFe_bb (t : Nat) (f : FrontEnd) :
    (setFe t f s).bb = { s.bb with fe := tblSet (fun _ => FrontEnd.blank) s.bb.fe t f } := rfl
@[simp] theorem setFe_clients (t : Nat) (f : FrontEnd) : (setFe t f s).clients = s.clients := rfl
@[simp] theorem setFe_evt (t : Nat) (f : FrontEnd) : (setFe t f s).evt = s.evt := rfl
@[simp] theorem setFe_conv (t : Nat) (f : FrontEnd) : (setFe t f s).conv = s.conv := rfl
@[simp] theorem setFe_loop (t : Nat) (f : FrontEnd) : (setFe t f s).loop = s.loop := rfl
@[simp] theorem setFe_drive (t : Nat) (f : FrontEnd) : (setFe t f s).drive = s.drive := rfl
@[simp] theorem setFe_fans (t : Nat) (f : FrontEnd) : (setFe t f s).fans = s.fans := rfl
@[simp] theorem setFe_store (t : Nat) (f : FrontEnd) : (setFe t f s).store = s.store := rfl
@[simp] theorem setFe_mirror (t : Nat) (f : FrontEnd) : (setFe t f s).mirror = s.mirror := rfl
@[simp] theorem setFe_field (t : Nat) (f : FrontEnd) : (setFe t f s).field = s.field := rfl
@[simp] theorem setFe_proof (t : Nat) (f : FrontEnd) : (setFe t f s).proof = s.proof := rfl
@[simp] theorem setFe_legacy (t : Nat) (f : FrontEnd) : (setFe t f s).legacy = s.legacy := rfl

/-! ### setRun: field `clients` only -/

@[simp] theorem setRun_pending (id : Nat) (r : ClientRun) : (setRun id r s).pending = s.pending := rfl
@[simp] theorem setRun_free (id : Nat) (r : ClientRun) : (setRun id r s).free = s.free := rfl
@[simp] theorem setRun_mem (id : Nat) (r : ClientRun) : (setRun id r s).mem = s.mem := rfl
@[simp] theorem setRun_params (id : Nat) (r : ClientRun) : (setRun id r s).params = s.params := rfl
@[simp] theorem setRun_gesso (id : Nat) (r : ClientRun) : (setRun id r s).gesso = s.gesso := rfl
@[simp] theorem setRun_pads (id : Nat) (r : ClientRun) : (setRun id r s).pads = s.pads := rfl
@[simp] theorem setRun_safety (id : Nat) (r : ClientRun) : (setRun id r s).safety = s.safety := rfl
@[simp] theorem setRun_time (id : Nat) (r : ClientRun) : (setRun id r s).time = s.time := rfl
@[simp] theorem setRun_canvas (id : Nat) (r : ClientRun) : (setRun id r s).canvas = s.canvas := rfl
@[simp] theorem setRun_sys (id : Nat) (r : ClientRun) : (setRun id r s).sys = s.sys := rfl
@[simp] theorem setRun_power (id : Nat) (r : ClientRun) : (setRun id r s).power = s.power := rfl
@[simp] theorem setRun_host (id : Nat) (r : ClientRun) : (setRun id r s).host = s.host := rfl
@[simp] theorem setRun_glaze (id : Nat) (r : ClientRun) : (setRun id r s).glaze = s.glaze := rfl
@[simp] theorem setRun_zc (id : Nat) (r : ClientRun) : (setRun id r s).zc = s.zc := rfl
@[simp] theorem setRun_bb (id : Nat) (r : ClientRun) : (setRun id r s).bb = s.bb := rfl
@[simp] theorem setRun_clients (id : Nat) (r : ClientRun) :
    (setRun id r s).clients = { s.clients with run := tblSet (fun _ => ClientRun.blank) s.clients.run id r } := rfl
@[simp] theorem setRun_evt (id : Nat) (r : ClientRun) : (setRun id r s).evt = s.evt := rfl
@[simp] theorem setRun_conv (id : Nat) (r : ClientRun) : (setRun id r s).conv = s.conv := rfl
@[simp] theorem setRun_loop (id : Nat) (r : ClientRun) : (setRun id r s).loop = s.loop := rfl
@[simp] theorem setRun_drive (id : Nat) (r : ClientRun) : (setRun id r s).drive = s.drive := rfl
@[simp] theorem setRun_fans (id : Nat) (r : ClientRun) : (setRun id r s).fans = s.fans := rfl
@[simp] theorem setRun_store (id : Nat) (r : ClientRun) : (setRun id r s).store = s.store := rfl
@[simp] theorem setRun_mirror (id : Nat) (r : ClientRun) : (setRun id r s).mirror = s.mirror := rfl
@[simp] theorem setRun_field (id : Nat) (r : ClientRun) : (setRun id r s).field = s.field := rfl
@[simp] theorem setRun_proof (id : Nat) (r : ClientRun) : (setRun id r s).proof = s.proof := rfl
@[simp] theorem setRun_legacy (id : Nat) (r : ClientRun) : (setRun id r s).legacy = s.legacy := rfl

/-! ### setMod: field `conv` only -/

@[simp] theorem setMod_pending (m : Nat) (d : Modulator) : (setMod m d s).pending = s.pending := rfl
@[simp] theorem setMod_free (m : Nat) (d : Modulator) : (setMod m d s).free = s.free := rfl
@[simp] theorem setMod_mem (m : Nat) (d : Modulator) : (setMod m d s).mem = s.mem := rfl
@[simp] theorem setMod_params (m : Nat) (d : Modulator) : (setMod m d s).params = s.params := rfl
@[simp] theorem setMod_gesso (m : Nat) (d : Modulator) : (setMod m d s).gesso = s.gesso := rfl
@[simp] theorem setMod_pads (m : Nat) (d : Modulator) : (setMod m d s).pads = s.pads := rfl
@[simp] theorem setMod_safety (m : Nat) (d : Modulator) : (setMod m d s).safety = s.safety := rfl
@[simp] theorem setMod_time (m : Nat) (d : Modulator) : (setMod m d s).time = s.time := rfl
@[simp] theorem setMod_canvas (m : Nat) (d : Modulator) : (setMod m d s).canvas = s.canvas := rfl
@[simp] theorem setMod_sys (m : Nat) (d : Modulator) : (setMod m d s).sys = s.sys := rfl
@[simp] theorem setMod_power (m : Nat) (d : Modulator) : (setMod m d s).power = s.power := rfl
@[simp] theorem setMod_host (m : Nat) (d : Modulator) : (setMod m d s).host = s.host := rfl
@[simp] theorem setMod_glaze (m : Nat) (d : Modulator) : (setMod m d s).glaze = s.glaze := rfl
@[simp] theorem setMod_zc (m : Nat) (d : Modulator) : (setMod m d s).zc = s.zc := rfl
@[simp] theorem setMod_bb (m : Nat) (d : Modulator) : (setMod m d s).bb = s.bb := rfl
@[simp] theorem setMod_clients (m : Nat) (d : Modulator) : (setMod m d s).clients = s.clients := rfl
@[simp] theorem setMod_evt (m : Nat) (d : Modulator) : (setMod m d s).evt = s.evt := rfl
@[simp] theorem setMod_conv (m : Nat) (d : Modulator) :
    (setMod m d s).conv = { s.conv with mods := tblSet (fun _ => Modulator.blank) s.conv.mods m d } := rfl
@[simp] theorem setMod_loop (m : Nat) (d : Modulator) : (setMod m d s).loop = s.loop := rfl
@[simp] theorem setMod_drive (m : Nat) (d : Modulator) : (setMod m d s).drive = s.drive := rfl
@[simp] theorem setMod_fans (m : Nat) (d : Modulator) : (setMod m d s).fans = s.fans := rfl
@[simp] theorem setMod_store (m : Nat) (d : Modulator) : (setMod m d s).store = s.store := rfl
@[simp] theorem setMod_mirror (m : Nat) (d : Modulator) : (setMod m d s).mirror = s.mirror := rfl
@[simp] theorem setMod_field (m : Nat) (d : Modulator) : (setMod m d s).field = s.field := rfl
@[simp] theorem setMod_proof (m : Nat) (d : Modulator) : (setMod m d s).proof = s.proof := rfl
@[simp] theorem setMod_legacy (m : Nat) (d : Modulator) : (setMod m d s).legacy = s.legacy := rfl

/-! ### setCh: field `conv` only -/

@[simp] theorem setCh_pending (ch : Nat) (c : ConvCh) : (setCh ch c s).pending = s.pending := rfl
@[simp] theorem setCh_free (ch : Nat) (c : ConvCh) : (setCh ch c s).free = s.free := rfl
@[simp] theorem setCh_mem (ch : Nat) (c : ConvCh) : (setCh ch c s).mem = s.mem := rfl
@[simp] theorem setCh_params (ch : Nat) (c : ConvCh) : (setCh ch c s).params = s.params := rfl
@[simp] theorem setCh_gesso (ch : Nat) (c : ConvCh) : (setCh ch c s).gesso = s.gesso := rfl
@[simp] theorem setCh_pads (ch : Nat) (c : ConvCh) : (setCh ch c s).pads = s.pads := rfl
@[simp] theorem setCh_safety (ch : Nat) (c : ConvCh) : (setCh ch c s).safety = s.safety := rfl
@[simp] theorem setCh_time (ch : Nat) (c : ConvCh) : (setCh ch c s).time = s.time := rfl
@[simp] theorem setCh_canvas (ch : Nat) (c : ConvCh) : (setCh ch c s).canvas = s.canvas := rfl
@[simp] theorem setCh_sys (ch : Nat) (c : ConvCh) : (setCh ch c s).sys = s.sys := rfl
@[simp] theorem setCh_power (ch : Nat) (c : ConvCh) : (setCh ch c s).power = s.power := rfl
@[simp] theorem setCh_host (ch : Nat) (c : ConvCh) : (setCh ch c s).host = s.host := rfl
@[simp] theorem setCh_glaze (ch : Nat) (c : ConvCh) : (setCh ch c s).glaze = s.glaze := rfl
@[simp] theorem setCh_zc (ch : Nat) (c : ConvCh) : (setCh ch c s).zc = s.zc := rfl
@[simp] theorem setCh_bb (ch : Nat) (c : ConvCh) : (setCh ch c s).bb = s.bb := rfl
@[simp] theorem setCh_clients (ch : Nat) (c : ConvCh) : (setCh ch c s).clients = s.clients := rfl
@[simp] theorem setCh_evt (ch : Nat) (c : ConvCh) : (setCh ch c s).evt = s.evt := rfl
@[simp] theorem setCh_conv (ch : Nat) (c : ConvCh) :
    (setCh ch c s).conv = { s.conv with chs := tblSet (fun _ => ConvCh.blank) s.conv.chs ch c } := rfl
@[simp] theorem setCh_loop (ch : Nat) (c : ConvCh) : (setCh ch c s).loop = s.loop := rfl
@[simp] theorem setCh_drive (ch : Nat) (c : ConvCh) : (setCh ch c s).drive = s.drive := rfl
@[simp] theorem setCh_fans (ch : Nat) (c : ConvCh) : (setCh ch c s).fans = s.fans := rfl
@[simp] theorem setCh_store (ch : Nat) (c : ConvCh) : (setCh ch c s).store = s.store := rfl
@[simp] theorem setCh_mirror (ch : Nat) (c : ConvCh) : (setCh ch c s).mirror = s.mirror := rfl
@[simp] theorem setCh_field (ch : Nat) (c : ConvCh) : (setCh ch c s).field = s.field := rfl
@[simp] theorem setCh_proof (ch : Nat) (c : ConvCh) : (setCh ch c s).proof = s.proof := rfl
@[simp] theorem setCh_legacy (ch : Nat) (c : ConvCh) : (setCh ch c s).legacy = s.legacy := rfl

/-! ### setSlot: field `loop` only -/

@[simp] theorem setSlot_pending (n : Nat) (d : Slot) : (setSlot n d s).pending = s.pending := rfl
@[simp] theorem setSlot_free (n : Nat) (d : Slot) : (setSlot n d s).free = s.free := rfl
@[simp] theorem setSlot_mem (n : Nat) (d : Slot) : (setSlot n d s).mem = s.mem := rfl
@[simp] theorem setSlot_params (n : Nat) (d : Slot) : (setSlot n d s).params = s.params := rfl
@[simp] theorem setSlot_gesso (n : Nat) (d : Slot) : (setSlot n d s).gesso = s.gesso := rfl
@[simp] theorem setSlot_pads (n : Nat) (d : Slot) : (setSlot n d s).pads = s.pads := rfl
@[simp] theorem setSlot_safety (n : Nat) (d : Slot) : (setSlot n d s).safety = s.safety := rfl
@[simp] theorem setSlot_time (n : Nat) (d : Slot) : (setSlot n d s).time = s.time := rfl
@[simp] theorem setSlot_canvas (n : Nat) (d : Slot) : (setSlot n d s).canvas = s.canvas := rfl
@[simp] theorem setSlot_sys (n : Nat) (d : Slot) : (setSlot n d s).sys = s.sys := rfl
@[simp] theorem setSlot_power (n : Nat) (d : Slot) : (setSlot n d s).power = s.power := rfl
@[simp] theorem setSlot_host (n : Nat) (d : Slot) : (setSlot n d s).host = s.host := rfl
@[simp] theorem setSlot_glaze (n : Nat) (d : Slot) : (setSlot n d s).glaze = s.glaze := rfl
@[simp] theorem setSlot_zc (n : Nat) (d : Slot) : (setSlot n d s).zc = s.zc := rfl
@[simp] theorem setSlot_bb (n : Nat) (d : Slot) : (setSlot n d s).bb = s.bb := rfl
@[simp] theorem setSlot_clients (n : Nat) (d : Slot) : (setSlot n d s).clients = s.clients := rfl
@[simp] theorem setSlot_evt (n : Nat) (d : Slot) : (setSlot n d s).evt = s.evt := rfl
@[simp] theorem setSlot_conv (n : Nat) (d : Slot) : (setSlot n d s).conv = s.conv := rfl
@[simp] theorem setSlot_loop (n : Nat) (d : Slot) :
    (setSlot n d s).loop = { s.loop with slots := tblSet (fun _ => Slot.blank) s.loop.slots n d } := rfl
@[simp] theorem setSlot_drive (n : Nat) (d : Slot) : (setSlot n d s).drive = s.drive := rfl
@[simp] theorem setSlot_fans (n : Nat) (d : Slot) : (setSlot n d s).fans = s.fans := rfl
@[simp] theorem setSlot_store (n : Nat) (d : Slot) : (setSlot n d s).store = s.store := rfl
@[simp] theorem setSlot_mirror (n : Nat) (d : Slot) : (setSlot n d s).mirror = s.mirror := rfl
@[simp] theorem setSlot_field (n : Nat) (d : Slot) : (setSlot n d s).field = s.field := rfl
@[simp] theorem setSlot_proof (n : Nat) (d : Slot) : (setSlot n d s).proof = s.proof := rfl
@[simp] theorem setSlot_legacy (n : Nat) (d : Slot) : (setSlot n d s).legacy = s.legacy := rfl

/-! ### setGen: field `loop` only -/

@[simp] theorem setGen_pending (g : Nat) (d : Gen) : (setGen g d s).pending = s.pending := rfl
@[simp] theorem setGen_free (g : Nat) (d : Gen) : (setGen g d s).free = s.free := rfl
@[simp] theorem setGen_mem (g : Nat) (d : Gen) : (setGen g d s).mem = s.mem := rfl
@[simp] theorem setGen_params (g : Nat) (d : Gen) : (setGen g d s).params = s.params := rfl
@[simp] theorem setGen_gesso (g : Nat) (d : Gen) : (setGen g d s).gesso = s.gesso := rfl
@[simp] theorem setGen_pads (g : Nat) (d : Gen) : (setGen g d s).pads = s.pads := rfl
@[simp] theorem setGen_safety (g : Nat) (d : Gen) : (setGen g d s).safety = s.safety := rfl
@[simp] theorem setGen_time (g : Nat) (d : Gen) : (setGen g d s).time = s.time := rfl
@[simp] theorem setGen_canvas (g : Nat) (d : Gen) : (setGen g d s).canvas = s.canvas := rfl
@[simp] theorem setGen_sys (g : Nat) (d : Gen) : (setGen g d s).sys = s.sys := rfl
@[simp] theorem setGen_power (g : Nat) (d : Gen) : (setGen g d s).power = s.power := rfl
@[simp] theorem setGen_host (g : Nat) (d : Gen) : (setGen g d s).host = s.host := rfl
@[simp] theorem setGen_glaze (g : Nat) (d : Gen) : (setGen g d s).glaze = s.glaze := rfl
@[simp] theorem setGen_zc (g : Nat) (d : Gen) : (setGen g d s).zc = s.zc := rfl
@[simp] theorem setGen_bb (g : Nat) (d : Gen) : (setGen g d s).bb = s.bb := rfl
@[simp] theorem setGen_clients (g : Nat) (d : Gen) : (setGen g d s).clients = s.clients := rfl
@[simp] theorem setGen_evt (g : Nat) (d : Gen) : (setGen g d s).evt = s.evt := rfl
@[simp] theorem setGen_conv (g : Nat) (d : Gen) : (setGen g d s).conv = s.conv := rfl
@[simp] theorem setGen_loop (g : Nat) (d : Gen) :
    (setGen g d s).loop = { s.loop with gens := tblSet (fun _ => Gen.blank) s.loop.gens g d } := rfl
@[simp] theorem setGen_drive (g : Nat) (d : Gen) : (setGen g d s).drive = s.drive := rfl
@[simp] theorem setGen_fans (g : Nat) (d : Gen) : (setGen g d s).fans = s.fans := rfl
@[simp] theorem setGen_store (g : Nat) (d : Gen) : (setGen g d s).store = s.store := rfl
@[simp] theorem setGen_mirror (g : Nat) (d : Gen) : (setGen g d s).mirror = s.mirror := rfl
@[simp] theorem setGen_field (g : Nat) (d : Gen) : (setGen g d s).field = s.field := rfl
@[simp] theorem setGen_proof (g : Nat) (d : Gen) : (setGen g d s).proof = s.proof := rfl
@[simp] theorem setGen_legacy (g : Nat) (d : Gen) : (setGen g d s).legacy = s.legacy := rfl

/-! ### setPent: field `loop` only -/

@[simp] theorem setPent_pending (i : Nat) (d : Pent) : (setPent i d s).pending = s.pending := rfl
@[simp] theorem setPent_free (i : Nat) (d : Pent) : (setPent i d s).free = s.free := rfl
@[simp] theorem setPent_mem (i : Nat) (d : Pent) : (setPent i d s).mem = s.mem := rfl
@[simp] theorem setPent_params (i : Nat) (d : Pent) : (setPent i d s).params = s.params := rfl
@[simp] theorem setPent_gesso (i : Nat) (d : Pent) : (setPent i d s).gesso = s.gesso := rfl
@[simp] theorem setPent_pads (i : Nat) (d : Pent) : (setPent i d s).pads = s.pads := rfl
@[simp] theorem setPent_safety (i : Nat) (d : Pent) : (setPent i d s).safety = s.safety := rfl
@[simp] theorem setPent_time (i : Nat) (d : Pent) : (setPent i d s).time = s.time := rfl
@[simp] theorem setPent_canvas (i : Nat) (d : Pent) : (setPent i d s).canvas = s.canvas := rfl
@[simp] theorem setPent_sys (i : Nat) (d : Pent) : (setPent i d s).sys = s.sys := rfl
@[simp] theorem setPent_power (i : Nat) (d : Pent) : (setPent i d s).power = s.power := rfl
@[simp] theorem setPent_host (i : Nat) (d : Pent) : (setPent i d s).host = s.host := rfl
@[simp] theorem setPent_glaze (i : Nat) (d : Pent) : (setPent i d s).glaze = s.glaze := rfl
@[simp] theorem setPent_zc (i : Nat) (d : Pent) : (setPent i d s).zc = s.zc := rfl
@[simp] theorem setPent_bb (i : Nat) (d : Pent) : (setPent i d s).bb = s.bb := rfl
@[simp] theorem setPent_clients (i : Nat) (d : Pent) : (setPent i d s).clients = s.clients := rfl
@[simp] theorem setPent_evt (i : Nat) (d : Pent) : (setPent i d s).evt = s.evt := rfl
@[simp] theorem setPent_conv (i : Nat) (d : Pent) : (setPent i d s).conv = s.conv := rfl
@[simp] theorem setPent_loop (i : Nat) (d : Pent) :
    (setPent i d s).loop = { s.loop with pents := tblSet (fun _ => Pent.blank) s.loop.pents i d } := rfl
@[simp] theorem setPent_drive (i : Nat) (d : Pent) : (setPent i d s).drive = s.drive := rfl
@[simp] theorem setPent_fans (i : Nat) (d : Pent) : (setPent i d s).fans = s.fans := rfl
@[simp] theorem setPent_store (i : Nat) (d : Pent) : (setPent i d s).store = s.store := rfl
@[simp] theorem setPent_mirror (i : Nat) (d : Pent) : (setPent i d s).mirror = s.mirror := rfl
@[simp] theorem setPent_field (i : Nat) (d : Pent) : (setPent i d s).field = s.field := rfl
@[simp] theorem setPent_proof (i : Nat) (d : Pent) : (setPent i d s).proof = s.proof := rfl
@[simp] theorem setPent_legacy (i : Nat) (d : Pent) : (setPent i d s).legacy = s.legacy := rfl

/-! ### setDrv: field `drive` only -/

@[simp] theorem setDrv_pending (m : Nat) (d : DrvChan) : (setDrv m d s).pending = s.pending := rfl
@[simp] theorem setDrv_free (m : Nat) (d : DrvChan) : (setDrv m d s).free = s.free := rfl
@[simp] theorem setDrv_mem (m : Nat) (d : DrvChan) : (setDrv m d s).mem = s.mem := rfl
@[simp] theorem setDrv_params (m : Nat) (d : DrvChan) : (setDrv m d s).params = s.params := rfl
@[simp] theorem setDrv_gesso (m : Nat) (d : DrvChan) : (setDrv m d s).gesso = s.gesso := rfl
@[simp] theorem setDrv_pads (m : Nat) (d : DrvChan) : (setDrv m d s).pads = s.pads := rfl
@[simp] theorem setDrv_safety (m : Nat) (d : DrvChan) : (setDrv m d s).safety = s.safety := rfl
@[simp] theorem setDrv_time (m : Nat) (d : DrvChan) : (setDrv m d s).time = s.time := rfl
@[simp] theorem setDrv_canvas (m : Nat) (d : DrvChan) : (setDrv m d s).canvas = s.canvas := rfl
@[simp] theorem setDrv_sys (m : Nat) (d : DrvChan) : (setDrv m d s).sys = s.sys := rfl
@[simp] theorem setDrv_power (m : Nat) (d : DrvChan) : (setDrv m d s).power = s.power := rfl
@[simp] theorem setDrv_host (m : Nat) (d : DrvChan) : (setDrv m d s).host = s.host := rfl
@[simp] theorem setDrv_glaze (m : Nat) (d : DrvChan) : (setDrv m d s).glaze = s.glaze := rfl
@[simp] theorem setDrv_zc (m : Nat) (d : DrvChan) : (setDrv m d s).zc = s.zc := rfl
@[simp] theorem setDrv_bb (m : Nat) (d : DrvChan) : (setDrv m d s).bb = s.bb := rfl
@[simp] theorem setDrv_clients (m : Nat) (d : DrvChan) : (setDrv m d s).clients = s.clients := rfl
@[simp] theorem setDrv_evt (m : Nat) (d : DrvChan) : (setDrv m d s).evt = s.evt := rfl
@[simp] theorem setDrv_conv (m : Nat) (d : DrvChan) : (setDrv m d s).conv = s.conv := rfl
@[simp] theorem setDrv_loop (m : Nat) (d : DrvChan) : (setDrv m d s).loop = s.loop := rfl
@[simp] theorem setDrv_drive (m : Nat) (d : DrvChan) :
    (setDrv m d s).drive = { s.drive with chans := tblSet (fun _ => DrvChan.blank) s.drive.chans m d } := rfl
@[simp] theorem setDrv_fans (m : Nat) (d : DrvChan) : (setDrv m d s).fans = s.fans := rfl
@[simp] theorem setDrv_store (m : Nat) (d : DrvChan) : (setDrv m d s).store = s.store := rfl
@[simp] theorem setDrv_mirror (m : Nat) (d : DrvChan) : (setDrv m d s).mirror = s.mirror := rfl
@[simp] theorem setDrv_field (m : Nat) (d : DrvChan) : (setDrv m d s).field = s.field := rfl
@[simp] theorem setDrv_proof (m : Nat) (d : DrvChan) : (setDrv m d s).proof = s.proof := rfl
@[simp] theorem setDrv_legacy (m : Nat) (d : DrvChan) : (setDrv m d s).legacy = s.legacy := rfl

/-! ### setFan: field `fans` only -/

@[simp] theorem setFan_pending (f : Nat) (d : Fan) : (setFan f d s).pending = s.pending := rfl
@[simp] theorem setFan_free (f : Nat) (d : Fan) : (setFan f d s).free = s.free := rfl
@[simp] theorem setFan_mem (f : Nat) (d : Fan) : (setFan f d s).mem = s.mem := rfl
@[simp] theorem setFan_params (f : Nat) (d : Fan) : (setFan f d s).params = s.params := rfl
@[simp] theorem setFan_gesso (f : Nat) (d : Fan) : (setFan f d s).gesso = s.gesso := rfl
@[simp] theorem setFan_pads (f : Nat) (d : Fan) : (setFan f d s).pads = s.pads := rfl
@[simp] theorem setFan_safety (f : Nat) (d : Fan) : (setFan f d s).safety = s.safety := rfl
@[simp] theorem setFan_time (f : Nat) (d : Fan) : (setFan f d s).time = s.time := rfl
@[simp] theorem setFan_canvas (f : Nat) (d : Fan) : (setFan f d s).canvas = s.canvas := rfl
@[simp] theorem setFan_sys (f : Nat) (d : Fan) : (setFan f d s).sys = s.sys := rfl
@[simp] theorem setFan_power (f : Nat) (d : Fan) : (setFan f d s).power = s.power := rfl
@[simp] theorem setFan_host (f : Nat) (d : Fan) : (setFan f d s).host = s.host := rfl
@[simp] theorem setFan_glaze (f : Nat) (d : Fan) : (setFan f d s).glaze = s.glaze := rfl
@[simp] theorem setFan_zc (f : Nat) (d : Fan) : (setFan f d s).zc = s.zc := rfl
@[simp] theorem setFan_bb (f : Nat) (d : Fan) : (setFan f d s).bb = s.bb := rfl
@[simp] theorem setFan_clients (f : Nat) (d : Fan) : (setFan f d s).clients = s.clients := rfl
@[simp] theorem setFan_evt (f : Nat) (d : Fan) : (setFan f d s).evt = s.evt := rfl
@[simp] theorem setFan_conv (f : Nat) (d : Fan) : (setFan f d s).conv = s.conv := rfl
@[simp] theorem setFan_loop (f : Nat) (d : Fan) : (setFan f d s).loop = s.loop := rfl
@[simp] theorem setFan_drive (f : Nat) (d : Fan) : (setFan f d s).drive = s.drive := rfl
@[simp] theorem setFan_fans (f : Nat) (d : Fan) :
    (setFan f d s).fans = { s.fans with chans := tblSet (fun _ => Fan.blank) s.fans.chans f d } := rfl
@[simp] theorem setFan_store (f : Nat) (d : Fan) : (setFan f d s).store = s.store := rfl
@[simp] theorem setFan_mirror (f : Nat) (d : Fan) : (setFan f d s).mirror = s.mirror := rfl
@[simp] theorem setFan_field (f : Nat) (d : Fan) : (setFan f d s).field = s.field := rfl
@[simp] theorem setFan_proof (f : Nat) (d : Fan) : (setFan f d s).proof = s.proof := rfl
@[simp] theorem setFan_legacy (f : Nat) (d : Fan) : (setFan f d s).legacy = s.legacy := rfl

/-! ### setLoad: field `fans` only -/

@[simp] theorem setLoad_pending (n : Nat) (d : LoadDiag) : (setLoad n d s).pending = s.pending := rfl
@[simp] theorem setLoad_free (n : Nat) (d : LoadDiag) : (setLoad n d s).free = s.free := rfl
@[simp] theorem setLoad_mem (n : Nat) (d : LoadDiag) : (setLoad n d s).mem = s.mem := rfl
@[simp] theorem setLoad_params (n : Nat) (d : LoadDiag) : (setLoad n d s).params = s.params := rfl
@[simp] theorem setLoad_gesso (n : Nat) (d : LoadDiag) : (setLoad n d s).gesso = s.gesso := rfl
@[simp] theorem setLoad_pads (n : Nat) (d : LoadDiag) : (setLoad n d s).pads = s.pads := rfl
@[simp] theorem setLoad_safety (n : Nat) (d : LoadDiag) : (setLoad n d s).safety = s.safety := rfl
@[simp] theorem setLoad_time (n : Nat) (d : LoadDiag) : (setLoad n d s).time = s.time := rfl
@[simp] theorem setLoad_canvas (n : Nat) (d : LoadDiag) : (setLoad n d s).canvas = s.canvas := rfl
@[simp] theorem setLoad_sys (n : Nat) (d : LoadDiag) : (setLoad n d s).sys = s.sys := rfl
@[simp] theorem setLoad_power (n : Nat) (d : LoadDiag) : (setLoad n d s).power = s.power := rfl
@[simp] theorem setLoad_host (n : Nat) (d : LoadDiag) : (setLoad n d s).host = s.host := rfl
@[simp] theorem setLoad_glaze (n : Nat) (d : LoadDiag) : (setLoad n d s).glaze = s.glaze := rfl
@[simp] theorem setLoad_zc (n : Nat) (d : LoadDiag) : (setLoad n d s).zc = s.zc := rfl
@[simp] theorem setLoad_bb (n : Nat) (d : LoadDiag) : (setLoad n d s).bb = s.bb := rfl
@[simp] theorem setLoad_clients (n : Nat) (d : LoadDiag) : (setLoad n d s).clients = s.clients := rfl
@[simp] theorem setLoad_evt (n : Nat) (d : LoadDiag) : (setLoad n d s).evt = s.evt := rfl
@[simp] theorem setLoad_conv (n : Nat) (d : LoadDiag) : (setLoad n d s).conv = s.conv := rfl
@[simp] theorem setLoad_loop (n : Nat) (d : LoadDiag) : (setLoad n d s).loop = s.loop := rfl
@[simp] theorem setLoad_drive (n : Nat) (d : LoadDiag) : (setLoad n d s).drive = s.drive := rfl
@[simp] theorem setLoad_fans (n : Nat) (d : LoadDiag) :
    (setLoad n d s).fans = { s.fans with loads := tblSet (fun _ => LoadDiag.blank) s.fans.loads n d } := rfl
@[simp] theorem setLoad_store (n : Nat) (d : LoadDiag) : (setLoad n d s).store = s.store := rfl
@[simp] theorem setLoad_mirror (n : Nat) (d : LoadDiag) : (setLoad n d s).mirror = s.mirror := rfl
@[simp] theorem setLoad_field (n : Nat) (d : LoadDiag) : (setLoad n d s).field = s.field := rfl
@[simp] theorem setLoad_proof (n : Nat) (d : LoadDiag) : (setLoad n d s).proof = s.proof := rfl
@[simp] theorem setLoad_legacy (n : Nat) (d : LoadDiag) : (setLoad n d s).legacy = s.legacy := rfl

/-! ### setSounder: field `pads` only -/

@[simp] theorem setSounder_pending (k : Nat) (d : Sounder) : (setSounder k d s).pending = s.pending := rfl
@[simp] theorem setSounder_free (k : Nat) (d : Sounder) : (setSounder k d s).free = s.free := rfl
@[simp] theorem setSounder_mem (k : Nat) (d : Sounder) : (setSounder k d s).mem = s.mem := rfl
@[simp] theorem setSounder_params (k : Nat) (d : Sounder) : (setSounder k d s).params = s.params := rfl
@[simp] theorem setSounder_gesso (k : Nat) (d : Sounder) : (setSounder k d s).gesso = s.gesso := rfl
@[simp] theorem setSounder_pads (k : Nat) (d : Sounder) :
    (setSounder k d s).pads = { s.pads with snd := tblSet (fun _ => Sounder.blank) s.pads.snd k d } := rfl
@[simp] theorem setSounder_safety (k : Nat) (d : Sounder) : (setSounder k d s).safety = s.safety := rfl
@[simp] theorem setSounder_time (k : Nat) (d : Sounder) : (setSounder k d s).time = s.time := rfl
@[simp] theorem setSounder_canvas (k : Nat) (d : Sounder) : (setSounder k d s).canvas = s.canvas := rfl
@[simp] theorem setSounder_sys (k : Nat) (d : Sounder) : (setSounder k d s).sys = s.sys := rfl
@[simp] theorem setSounder_power (k : Nat) (d : Sounder) : (setSounder k d s).power = s.power := rfl
@[simp] theorem setSounder_host (k : Nat) (d : Sounder) : (setSounder k d s).host = s.host := rfl
@[simp] theorem setSounder_glaze (k : Nat) (d : Sounder) : (setSounder k d s).glaze = s.glaze := rfl
@[simp] theorem setSounder_zc (k : Nat) (d : Sounder) : (setSounder k d s).zc = s.zc := rfl
@[simp] theorem setSounder_bb (k : Nat) (d : Sounder) : (setSounder k d s).bb = s.bb := rfl
@[simp] theorem setSounder_clients (k : Nat) (d : Sounder) : (setSounder k d s).clients = s.clients := rfl
@[simp] theorem setSounder_evt (k : Nat) (d : Sounder) : (setSounder k d s).evt = s.evt := rfl
@[simp] theorem setSounder_conv (k : Nat) (d : Sounder) : (setSounder k d s).conv = s.conv := rfl
@[simp] theorem setSounder_loop (k : Nat) (d : Sounder) : (setSounder k d s).loop = s.loop := rfl
@[simp] theorem setSounder_drive (k : Nat) (d : Sounder) : (setSounder k d s).drive = s.drive := rfl
@[simp] theorem setSounder_fans (k : Nat) (d : Sounder) : (setSounder k d s).fans = s.fans := rfl
@[simp] theorem setSounder_store (k : Nat) (d : Sounder) : (setSounder k d s).store = s.store := rfl
@[simp] theorem setSounder_mirror (k : Nat) (d : Sounder) : (setSounder k d s).mirror = s.mirror := rfl
@[simp] theorem setSounder_field (k : Nat) (d : Sounder) : (setSounder k d s).field = s.field := rfl
@[simp] theorem setSounder_proof (k : Nat) (d : Sounder) : (setSounder k d s).proof = s.proof := rfl
@[simp] theorem setSounder_legacy (k : Nat) (d : Sounder) : (setSounder k d s).legacy = s.legacy := rfl

/-! ### setCrly: field `pads` only -/

@[simp] theorem setCrly_pending (n : Nat) (v : Bool) : (setCrly n v s).pending = s.pending := rfl
@[simp] theorem setCrly_free (n : Nat) (v : Bool) : (setCrly n v s).free = s.free := rfl
@[simp] theorem setCrly_mem (n : Nat) (v : Bool) : (setCrly n v s).mem = s.mem := rfl
@[simp] theorem setCrly_params (n : Nat) (v : Bool) : (setCrly n v s).params = s.params := rfl
@[simp] theorem setCrly_gesso (n : Nat) (v : Bool) : (setCrly n v s).gesso = s.gesso := rfl
@[simp] theorem setCrly_pads (n : Nat) (v : Bool) :
    (setCrly n v s).pads = { s.pads with crly := setBit s.pads.crly (n - 16) (if (domAvail s).getLsbD 2 && (domAvail s).getLsbD 5 then v
      else s.pads.crly.getLsbD (n - 16) && s.pads.ssCrly.getLsbD (n - 16)) } := rfl
@[simp] theorem setCrly_safety (n : Nat) (v : Bool) : (setCrly n v s).safety = s.safety := rfl
@[simp] theorem setCrly_time (n : Nat) (v : Bool) : (setCrly n v s).time = s.time := rfl
@[simp] theorem setCrly_canvas (n : Nat) (v : Bool) : (setCrly n v s).canvas = s.canvas := rfl
@[simp] theorem setCrly_sys (n : Nat) (v : Bool) : (setCrly n v s).sys = s.sys := rfl
@[simp] theorem setCrly_power (n : Nat) (v : Bool) : (setCrly n v s).power = s.power := rfl
@[simp] theorem setCrly_host (n : Nat) (v : Bool) : (setCrly n v s).host = s.host := rfl
@[simp] theorem setCrly_glaze (n : Nat) (v : Bool) : (setCrly n v s).glaze = s.glaze := rfl
@[simp] theorem setCrly_zc (n : Nat) (v : Bool) : (setCrly n v s).zc = s.zc := rfl
@[simp] theorem setCrly_bb (n : Nat) (v : Bool) : (setCrly n v s).bb = s.bb := rfl
@[simp] theorem setCrly_clients (n : Nat) (v : Bool) : (setCrly n v s).clients = s.clients := rfl
@[simp] theorem setCrly_evt (n : Nat) (v : Bool) : (setCrly n v s).evt = s.evt := rfl
@[simp] theorem setCrly_conv (n : Nat) (v : Bool) : (setCrly n v s).conv = s.conv := rfl
@[simp] theorem setCrly_loop (n : Nat) (v : Bool) : (setCrly n v s).loop = s.loop := rfl
@[simp] theorem setCrly_drive (n : Nat) (v : Bool) : (setCrly n v s).drive = s.drive := rfl
@[simp] theorem setCrly_fans (n : Nat) (v : Bool) : (setCrly n v s).fans = s.fans := rfl
@[simp] theorem setCrly_store (n : Nat) (v : Bool) : (setCrly n v s).store = s.store := rfl
@[simp] theorem setCrly_mirror (n : Nat) (v : Bool) : (setCrly n v s).mirror = s.mirror := rfl
@[simp] theorem setCrly_field (n : Nat) (v : Bool) : (setCrly n v s).field = s.field := rfl
@[simp] theorem setCrly_proof (n : Nat) (v : Bool) : (setCrly n v s).proof = s.proof := rfl
@[simp] theorem setCrly_legacy (n : Nat) (v : Bool) : (setCrly n v s).legacy = s.legacy := rfl

/-! ### setSen: field `gesso` only -/

@[simp] theorem setSen_pending (n : Nat) (d : Sentinel) : (setSen n d s).pending = s.pending := rfl
@[simp] theorem setSen_free (n : Nat) (d : Sentinel) : (setSen n d s).free = s.free := rfl
@[simp] theorem setSen_mem (n : Nat) (d : Sentinel) : (setSen n d s).mem = s.mem := rfl
@[simp] theorem setSen_params (n : Nat) (d : Sentinel) : (setSen n d s).params = s.params := rfl
@[simp] theorem setSen_gesso (n : Nat) (d : Sentinel) :
    (setSen n d s).gesso = { s.gesso with sen := tblSet (fun _ => Sentinel.blank) s.gesso.sen n d } := rfl
@[simp] theorem setSen_pads (n : Nat) (d : Sentinel) : (setSen n d s).pads = s.pads := rfl
@[simp] theorem setSen_safety (n : Nat) (d : Sentinel) : (setSen n d s).safety = s.safety := rfl
@[simp] theorem setSen_time (n : Nat) (d : Sentinel) : (setSen n d s).time = s.time := rfl
@[simp] theorem setSen_canvas (n : Nat) (d : Sentinel) : (setSen n d s).canvas = s.canvas := rfl
@[simp] theorem setSen_sys (n : Nat) (d : Sentinel) : (setSen n d s).sys = s.sys := rfl
@[simp] theorem setSen_power (n : Nat) (d : Sentinel) : (setSen n d s).power = s.power := rfl
@[simp] theorem setSen_host (n : Nat) (d : Sentinel) : (setSen n d s).host = s.host := rfl
@[simp] theorem setSen_glaze (n : Nat) (d : Sentinel) : (setSen n d s).glaze = s.glaze := rfl
@[simp] theorem setSen_zc (n : Nat) (d : Sentinel) : (setSen n d s).zc = s.zc := rfl
@[simp] theorem setSen_bb (n : Nat) (d : Sentinel) : (setSen n d s).bb = s.bb := rfl
@[simp] theorem setSen_clients (n : Nat) (d : Sentinel) : (setSen n d s).clients = s.clients := rfl
@[simp] theorem setSen_evt (n : Nat) (d : Sentinel) : (setSen n d s).evt = s.evt := rfl
@[simp] theorem setSen_conv (n : Nat) (d : Sentinel) : (setSen n d s).conv = s.conv := rfl
@[simp] theorem setSen_loop (n : Nat) (d : Sentinel) : (setSen n d s).loop = s.loop := rfl
@[simp] theorem setSen_drive (n : Nat) (d : Sentinel) : (setSen n d s).drive = s.drive := rfl
@[simp] theorem setSen_fans (n : Nat) (d : Sentinel) : (setSen n d s).fans = s.fans := rfl
@[simp] theorem setSen_store (n : Nat) (d : Sentinel) : (setSen n d s).store = s.store := rfl
@[simp] theorem setSen_mirror (n : Nat) (d : Sentinel) : (setSen n d s).mirror = s.mirror := rfl
@[simp] theorem setSen_field (n : Nat) (d : Sentinel) : (setSen n d s).field = s.field := rfl
@[simp] theorem setSen_proof (n : Nat) (d : Sentinel) : (setSen n d s).proof = s.proof := rfl
@[simp] theorem setSen_legacy (n : Nat) (d : Sentinel) : (setSen n d s).legacy = s.legacy := rfl

/-! ### setMon: field `safety` only -/

@[simp] theorem setMon_pending (n : Nat) (d : Sentinel) : (setMon n d s).pending = s.pending := rfl
@[simp] theorem setMon_free (n : Nat) (d : Sentinel) : (setMon n d s).free = s.free := rfl
@[simp] theorem setMon_mem (n : Nat) (d : Sentinel) : (setMon n d s).mem = s.mem := rfl
@[simp] theorem setMon_params (n : Nat) (d : Sentinel) : (setMon n d s).params = s.params := rfl
@[simp] theorem setMon_gesso (n : Nat) (d : Sentinel) : (setMon n d s).gesso = s.gesso := rfl
@[simp] theorem setMon_pads (n : Nat) (d : Sentinel) : (setMon n d s).pads = s.pads := rfl
@[simp] theorem setMon_safety (n : Nat) (d : Sentinel) :
    (setMon n d s).safety = { s.safety with mon := tblSet (fun _ => Sentinel.blank) s.safety.mon n d } := rfl
@[simp] theorem setMon_time (n : Nat) (d : Sentinel) : (setMon n d s).time = s.time := rfl
@[simp] theorem setMon_canvas (n : Nat) (d : Sentinel) : (setMon n d s).canvas = s.canvas := rfl
@[simp] theorem setMon_sys (n : Nat) (d : Sentinel) : (setMon n d s).sys = s.sys := rfl
@[simp] theorem setMon_power (n : Nat) (d : Sentinel) : (setMon n d s).power = s.power := rfl
@[simp] theorem setMon_host (n : Nat) (d : Sentinel) : (setMon n d s).host = s.host := rfl
@[simp] theorem setMon_glaze (n : Nat) (d : Sentinel) : (setMon n d s).glaze = s.glaze := rfl
@[simp] theorem setMon_zc (n : Nat) (d : Sentinel) : (setMon n d s).zc = s.zc := rfl
@[simp] theorem setMon_bb (n : Nat) (d : Sentinel) : (setMon n d s).bb = s.bb := rfl
@[simp] theorem setMon_clients (n : Nat) (d : Sentinel) : (setMon n d s).clients = s.clients := rfl
@[simp] theorem setMon_evt (n : Nat) (d : Sentinel) : (setMon n d s).evt = s.evt := rfl
@[simp] theorem setMon_conv (n : Nat) (d : Sentinel) : (setMon n d s).conv = s.conv := rfl
@[simp] theorem setMon_loop (n : Nat) (d : Sentinel) : (setMon n d s).loop = s.loop := rfl
@[simp] theorem setMon_drive (n : Nat) (d : Sentinel) : (setMon n d s).drive = s.drive := rfl
@[simp] theorem setMon_fans (n : Nat) (d : Sentinel) : (setMon n d s).fans = s.fans := rfl
@[simp] theorem setMon_store (n : Nat) (d : Sentinel) : (setMon n d s).store = s.store := rfl
@[simp] theorem setMon_mirror (n : Nat) (d : Sentinel) : (setMon n d s).mirror = s.mirror := rfl
@[simp] theorem setMon_field (n : Nat) (d : Sentinel) : (setMon n d s).field = s.field := rfl
@[simp] theorem setMon_proof (n : Nat) (d : Sentinel) : (setMon n d s).proof = s.proof := rfl
@[simp] theorem setMon_legacy (n : Nat) (d : Sentinel) : (setMon n d s).legacy = s.legacy := rfl

/-! ### setCrit: field `safety` only -/

@[simp] theorem setCrit_pending (j : Nat) (c : Criterion) : (setCrit j c s).pending = s.pending := rfl
@[simp] theorem setCrit_free (j : Nat) (c : Criterion) : (setCrit j c s).free = s.free := rfl
@[simp] theorem setCrit_mem (j : Nat) (c : Criterion) : (setCrit j c s).mem = s.mem := rfl
@[simp] theorem setCrit_params (j : Nat) (c : Criterion) : (setCrit j c s).params = s.params := rfl
@[simp] theorem setCrit_gesso (j : Nat) (c : Criterion) : (setCrit j c s).gesso = s.gesso := rfl
@[simp] theorem setCrit_pads (j : Nat) (c : Criterion) : (setCrit j c s).pads = s.pads := rfl
@[simp] theorem setCrit_safety (j : Nat) (c : Criterion) :
    (setCrit j c s).safety = { s.safety with crit := tblSet (fun _ => Criterion.blank) s.safety.crit j c } := rfl
@[simp] theorem setCrit_time (j : Nat) (c : Criterion) : (setCrit j c s).time = s.time := rfl
@[simp] theorem setCrit_canvas (j : Nat) (c : Criterion) : (setCrit j c s).canvas = s.canvas := rfl
@[simp] theorem setCrit_sys (j : Nat) (c : Criterion) : (setCrit j c s).sys = s.sys := rfl
@[simp] theorem setCrit_power (j : Nat) (c : Criterion) : (setCrit j c s).power = s.power := rfl
@[simp] theorem setCrit_host (j : Nat) (c : Criterion) : (setCrit j c s).host = s.host := rfl
@[simp] theorem setCrit_glaze (j : Nat) (c : Criterion) : (setCrit j c s).glaze = s.glaze := rfl
@[simp] theorem setCrit_zc (j : Nat) (c : Criterion) : (setCrit j c s).zc = s.zc := rfl
@[simp] theorem setCrit_bb (j : Nat) (c : Criterion) : (setCrit j c s).bb = s.bb := rfl
@[simp] theorem setCrit_clients (j : Nat) (c : Criterion) : (setCrit j c s).clients = s.clients := rfl
@[simp] theorem setCrit_evt (j : Nat) (c : Criterion) : (setCrit j c s).evt = s.evt := rfl
@[simp] theorem setCrit_conv (j : Nat) (c : Criterion) : (setCrit j c s).conv = s.conv := rfl
@[simp] theorem setCrit_loop (j : Nat) (c : Criterion) : (setCrit j c s).loop = s.loop := rfl
@[simp] theorem setCrit_drive (j : Nat) (c : Criterion) : (setCrit j c s).drive = s.drive := rfl
@[simp] theorem setCrit_fans (j : Nat) (c : Criterion) : (setCrit j c s).fans = s.fans := rfl
@[simp] theorem setCrit_store (j : Nat) (c : Criterion) : (setCrit j c s).store = s.store := rfl
@[simp] theorem setCrit_mirror (j : Nat) (c : Criterion) : (setCrit j c s).mirror = s.mirror := rfl
@[simp] theorem setCrit_field (j : Nat) (c : Criterion) : (setCrit j c s).field = s.field := rfl
@[simp] theorem setCrit_proof (j : Nat) (c : Criterion) : (setCrit j c s).proof = s.proof := rfl
@[simp] theorem setCrit_legacy (j : Nat) (c : Criterion) : (setCrit j c s).legacy = s.legacy := rfl

/-! ### setKeyLock: field `host` only -/

@[simp] theorem setKeyLock_pending (id : Nat) (l : KeyLock) : (setKeyLock id l s).pending = s.pending := rfl
@[simp] theorem setKeyLock_free (id : Nat) (l : KeyLock) : (setKeyLock id l s).free = s.free := rfl
@[simp] theorem setKeyLock_mem (id : Nat) (l : KeyLock) : (setKeyLock id l s).mem = s.mem := rfl
@[simp] theorem setKeyLock_params (id : Nat) (l : KeyLock) : (setKeyLock id l s).params = s.params := rfl
@[simp] theorem setKeyLock_gesso (id : Nat) (l : KeyLock) : (setKeyLock id l s).gesso = s.gesso := rfl
@[simp] theorem setKeyLock_pads (id : Nat) (l : KeyLock) : (setKeyLock id l s).pads = s.pads := rfl
@[simp] theorem setKeyLock_safety (id : Nat) (l : KeyLock) : (setKeyLock id l s).safety = s.safety := rfl
@[simp] theorem setKeyLock_time (id : Nat) (l : KeyLock) : (setKeyLock id l s).time = s.time := rfl
@[simp] theorem setKeyLock_canvas (id : Nat) (l : KeyLock) : (setKeyLock id l s).canvas = s.canvas := rfl
@[simp] theorem setKeyLock_sys (id : Nat) (l : KeyLock) : (setKeyLock id l s).sys = s.sys := rfl
@[simp] theorem setKeyLock_power (id : Nat) (l : KeyLock) : (setKeyLock id l s).power = s.power := rfl
@[simp] theorem setKeyLock_host (id : Nat) (l : KeyLock) :
    (setKeyLock id l s).host = { s.host with locks := tblSet (fun _ => KeyLock.blank) s.host.locks id l } := rfl
@[simp] theorem setKeyLock_glaze (id : Nat) (l : KeyLock) : (setKeyLock id l s).glaze = s.glaze := rfl
@[simp] theorem setKeyLock_zc (id : Nat) (l : KeyLock) : (setKeyLock id l s).zc = s.zc := rfl
@[simp] theorem setKeyLock_bb (id : Nat) (l : KeyLock) : (setKeyLock id l s).bb = s.bb := rfl
@[simp] theorem setKeyLock_clients (id : Nat) (l : KeyLock) : (setKeyLock id l s).clients = s.clients := rfl
@[simp] theorem setKeyLock_evt (id : Nat) (l : KeyLock) : (setKeyLock id l s).evt = s.evt := rfl
@[simp] theorem setKeyLock_conv (id : Nat) (l : KeyLock) : (setKeyLock id l s).conv = s.conv := rfl
@[simp] theorem setKeyLock_loop (id : Nat) (l : KeyLock) : (setKeyLock id l s).loop = s.loop := rfl
@[simp] theorem setKeyLock_drive (id : Nat) (l : KeyLock) : (setKeyLock id l s).drive = s.drive := rfl
@[simp] theorem setKeyLock_fans (id : Nat) (l : KeyLock) : (setKeyLock id l s).fans = s.fans := rfl
@[simp] theorem setKeyLock_store (id : Nat) (l : KeyLock) : (setKeyLock id l s).store = s.store := rfl
@[simp] theorem setKeyLock_mirror (id : Nat) (l : KeyLock) : (setKeyLock id l s).mirror = s.mirror := rfl
@[simp] theorem setKeyLock_field (id : Nat) (l : KeyLock) : (setKeyLock id l s).field = s.field := rfl
@[simp] theorem setKeyLock_proof (id : Nat) (l : KeyLock) : (setKeyLock id l s).proof = s.proof := rfl
@[simp] theorem setKeyLock_legacy (id : Nat) (l : KeyLock) : (setKeyLock id l s).legacy = s.legacy := rfl

/-! ### setKeyValid: field `host` only -/

@[simp] theorem setKeyValid_pending (id : Nat) (t : Option Nat) : (setKeyValid id t s).pending = s.pending := rfl
@[simp] theorem setKeyValid_free (id : Nat) (t : Option Nat) : (setKeyValid id t s).free = s.free := rfl
@[simp] theorem setKeyValid_mem (id : Nat) (t : Option Nat) : (setKeyValid id t s).mem = s.mem := rfl
@[simp] theorem setKeyValid_params (id : Nat) (t : Option Nat) : (setKeyValid id t s).params = s.params := rfl
@[simp] theorem setKeyValid_gesso (id : Nat) (t : Option Nat) : (setKeyValid id t s).gesso = s.gesso := rfl
@[simp] theorem setKeyValid_pads (id : Nat) (t : Option Nat) : (setKeyValid id t s).pads = s.pads := rfl
@[simp] theorem setKeyValid_safety (id : Nat) (t : Option Nat) : (setKeyValid id t s).safety = s.safety := rfl
@[simp] theorem setKeyValid_time (id : Nat) (t : Option Nat) : (setKeyValid id t s).time = s.time := rfl
@[simp] theorem setKeyValid_canvas (id : Nat) (t : Option Nat) : (setKeyValid id t s).canvas = s.canvas := rfl
@[simp] theorem setKeyValid_sys (id : Nat) (t : Option Nat) : (setKeyValid id t s).sys = s.sys := rfl
@[simp] theorem setKeyValid_power (id : Nat) (t : Option Nat) : (setKeyValid id t s).power = s.power := rfl
@[simp] theorem setKeyValid_host (id : Nat) (t : Option Nat) :
    (setKeyValid id t s).host = { s.host with keyValid := tblSet (fun _ => none) s.host.keyValid id t } := rfl
@[simp] theorem setKeyValid_glaze (id : Nat) (t : Option Nat) : (setKeyValid id t s).glaze = s.glaze := rfl
@[simp] theorem setKeyValid_zc (id : Nat) (t : Option Nat) : (setKeyValid id t s).zc = s.zc := rfl
@[simp] theorem setKeyValid_bb (id : Nat) (t : Option Nat) : (setKeyValid id t s).bb = s.bb := rfl
@[simp] theorem setKeyValid_clients (id : Nat) (t : Option Nat) : (setKeyValid id t s).clients = s.clients := rfl
@[simp] theorem setKeyValid_evt (id : Nat) (t : Option Nat) : (setKeyValid id t s).evt = s.evt := rfl
@[simp] theorem setKeyValid_conv (id : Nat) (t : Option Nat) : (setKeyValid id t s).conv = s.conv := rfl
@[simp] theorem setKeyValid_loop (id : Nat) (t : Option Nat) : (setKeyValid id t s).loop = s.loop := rfl
@[simp] theorem setKeyValid_drive (id : Nat) (t : Option Nat) : (setKeyValid id t s).drive = s.drive := rfl
@[simp] theorem setKeyValid_fans (id : Nat) (t : Option Nat) : (setKeyValid id t s).fans = s.fans := rfl
@[simp] theorem setKeyValid_store (id : Nat) (t : Option Nat) : (setKeyValid id t s).store = s.store := rfl
@[simp] theorem setKeyValid_mirror (id : Nat) (t : Option Nat) : (setKeyValid id t s).mirror = s.mirror := rfl
@[simp] theorem setKeyValid_field (id : Nat) (t : Option Nat) : (setKeyValid id t s).field = s.field := rfl
@[simp] theorem setKeyValid_proof (id : Nat) (t : Option Nat) : (setKeyValid id t s).proof = s.proof := rfl
@[simp] theorem setKeyValid_legacy (id : Nat) (t : Option Nat) : (setKeyValid id t s).legacy = s.legacy := rfl

/-! ### setCnt: field `store` only -/

@[simp] theorem setCnt_pending (k : Nat) (v : Word) : (setCnt k v s).pending = s.pending := rfl
@[simp] theorem setCnt_free (k : Nat) (v : Word) : (setCnt k v s).free = s.free := rfl
@[simp] theorem setCnt_mem (k : Nat) (v : Word) : (setCnt k v s).mem = s.mem := rfl
@[simp] theorem setCnt_params (k : Nat) (v : Word) : (setCnt k v s).params = s.params := rfl
@[simp] theorem setCnt_gesso (k : Nat) (v : Word) : (setCnt k v s).gesso = s.gesso := rfl
@[simp] theorem setCnt_pads (k : Nat) (v : Word) : (setCnt k v s).pads = s.pads := rfl
@[simp] theorem setCnt_safety (k : Nat) (v : Word) : (setCnt k v s).safety = s.safety := rfl
@[simp] theorem setCnt_time (k : Nat) (v : Word) : (setCnt k v s).time = s.time := rfl
@[simp] theorem setCnt_canvas (k : Nat) (v : Word) : (setCnt k v s).canvas = s.canvas := rfl
@[simp] theorem setCnt_sys (k : Nat) (v : Word) : (setCnt k v s).sys = s.sys := rfl
@[simp] theorem setCnt_power (k : Nat) (v : Word) : (setCnt k v s).power = s.power := rfl
@[simp] theorem setCnt_host (k : Nat) (v : Word) : (setCnt k v s).host = s.host := rfl
@[simp] theorem setCnt_glaze (k : Nat) (v : Word) : (setCnt k v s).glaze = s.glaze := rfl
@[simp] theorem setCnt_zc (k : Nat) (v : Word) : (setCnt k v s).zc = s.zc := rfl
@[simp] theorem setCnt_bb (k : Nat) (v : Word) : (setCnt k v s).bb = s.bb := rfl
@[simp] theorem setCnt_clients (k : Nat) (v : Word) : (setCnt k v s).clients = s.clients := rfl
@[simp] theorem setCnt_evt (k : Nat) (v : Word) : (setCnt k v s).evt = s.evt := rfl
@[simp] theorem setCnt_conv (k : Nat) (v : Word) : (setCnt k v s).conv = s.conv := rfl
@[simp] theorem setCnt_loop (k : Nat) (v : Word) : (setCnt k v s).loop = s.loop := rfl
@[simp] theorem setCnt_drive (k : Nat) (v : Word) : (setCnt k v s).drive = s.drive := rfl
@[simp] theorem setCnt_fans (k : Nat) (v : Word) : (setCnt k v s).fans = s.fans := rfl
@[simp] theorem setCnt_store (k : Nat) (v : Word) :
    (setCnt k v s).store = { s.store with
      cnt := tblSet (fun _ => (0 : Word)) s.store.cnt k v, dirtyCnt := setBit s.store.dirtyCnt (k / 256) true } := rfl
@[simp] theorem setCnt_mirror (k : Nat) (v : Word) : (setCnt k v s).mirror = s.mirror := rfl
@[simp] theorem setCnt_field (k : Nat) (v : Word) : (setCnt k v s).field = s.field := rfl
@[simp] theorem setCnt_proof (k : Nat) (v : Word) : (setCnt k v s).proof = s.proof := rfl
@[simp] theorem setCnt_legacy (k : Nat) (v : Word) : (setCnt k v s).legacy = s.legacy := rfl

/-! ### setBall: field `field` only -/

@[simp] theorem setBall_pending (b : Nat) (d : Ball) : (setBall b d s).pending = s.pending := rfl
@[simp] theorem setBall_free (b : Nat) (d : Ball) : (setBall b d s).free = s.free := rfl
@[simp] theorem setBall_mem (b : Nat) (d : Ball) : (setBall b d s).mem = s.mem := rfl
@[simp] theorem setBall_params (b : Nat) (d : Ball) : (setBall b d s).params = s.params := rfl
@[simp] theorem setBall_gesso (b : Nat) (d : Ball) : (setBall b d s).gesso = s.gesso := rfl
@[simp] theorem setBall_pads (b : Nat) (d : Ball) : (setBall b d s).pads = s.pads := rfl
@[simp] theorem setBall_safety (b : Nat) (d : Ball) : (setBall b d s).safety = s.safety := rfl
@[simp] theorem setBall_time (b : Nat) (d : Ball) : (setBall b d s).time = s.time := rfl
@[simp] theorem setBall_canvas (b : Nat) (d : Ball) : (setBall b d s).canvas = s.canvas := rfl
@[simp] theorem setBall_sys (b : Nat) (d : Ball) : (setBall b d s).sys = s.sys := rfl
@[simp] theorem setBall_power (b : Nat) (d : Ball) : (setBall b d s).power = s.power := rfl
@[simp] theorem setBall_host (b : Nat) (d : Ball) : (setBall b d s).host = s.host := rfl
@[simp] theorem setBall_glaze (b : Nat) (d : Ball) : (setBall b d s).glaze = s.glaze := rfl
@[simp] theorem setBall_zc (b : Nat) (d : Ball) : (setBall b d s).zc = s.zc := rfl
@[simp] theorem setBall_bb (b : Nat) (d : Ball) : (setBall b d s).bb = s.bb := rfl
@[simp] theorem setBall_clients (b : Nat) (d : Ball) : (setBall b d s).clients = s.clients := rfl
@[simp] theorem setBall_evt (b : Nat) (d : Ball) : (setBall b d s).evt = s.evt := rfl
@[simp] theorem setBall_conv (b : Nat) (d : Ball) : (setBall b d s).conv = s.conv := rfl
@[simp] theorem setBall_loop (b : Nat) (d : Ball) : (setBall b d s).loop = s.loop := rfl
@[simp] theorem setBall_drive (b : Nat) (d : Ball) : (setBall b d s).drive = s.drive := rfl
@[simp] theorem setBall_fans (b : Nat) (d : Ball) : (setBall b d s).fans = s.fans := rfl
@[simp] theorem setBall_store (b : Nat) (d : Ball) : (setBall b d s).store = s.store := rfl
@[simp] theorem setBall_mirror (b : Nat) (d : Ball) : (setBall b d s).mirror = s.mirror := rfl
@[simp] theorem setBall_field (b : Nat) (d : Ball) :
    (setBall b d s).field = { s.field with balls := tblSet (fun _ => Ball.blank) s.field.balls b d } := rfl
@[simp] theorem setBall_proof (b : Nat) (d : Ball) : (setBall b d s).proof = s.proof := rfl
@[simp] theorem setBall_legacy (b : Nat) (d : Ball) : (setBall b d s).legacy = s.legacy := rfl

end Sys2Proof.Machine
end

