-- ==== Sys2Proof/Laws/Tables.lean ====
section
/-!
SUPPORT. Tables.lean: the sparse arrays and the memory of the store: the canonical form is kept, a read after a write.
-/

namespace Sys2Proof.Machine

section
variable {α : Type} [DecidableEq α] {d : Nat → α}

theorem tblWfFrom_mono {lo lo' : Nat} (h : lo ≤ lo') : ∀ {t : Tbl α}, tblWfFrom d lo' t = true → tblWfFrom d lo t = true
  | [], _ => rfl
  | (k, v) :: r, hw => by
    simp only [tblWfFrom, Bool.and_eq_true, decide_eq_true_eq] at hw ⊢
    exact ⟨⟨by omega, hw.1.2⟩, hw.2⟩

/-- Below the first index of a canonical table everything reads as unlisted. -/
theorem tblGet_below : ∀ {lo : Nat} {t : Tbl α}, tblWfFrom d lo t = true → ∀ k, k < lo → tblGet d t k = d k
  | _, [], _, _, _ => rfl
  | lo, (j, v) :: r, hw, k, hk => by
    simp only [tblWfFrom, Bool.and_eq_true, decide_eq_true_eq] at hw
    have hj : j ≠ k := by omega
    simp only [tblGet, hj, if_false]
    exact tblGet_below hw.2 k (by omega)

/-- A read after a write of a canonical table. -/
theorem tblGet_tblSet : ∀ {lo : Nat} {t : Tbl α}, tblWfFrom d lo t = true → ∀ (k : Nat) (v : α) (i : Nat),
    tblGet d (tblSet d t k v) i = if i = k then v else tblGet d t i
  | _, [], _, k, v, i => by
    by_cases hv : v = d k
    · by_cases hi : i = k
      · subst hi; simp [tblSet, tblGet, hv]
      · simp [tblSet, tblGet, hv, hi]
    · by_cases hi : i = k
      · subst hi; simp [tblSet, tblGet, hv]
      · have : k ≠ i := fun h => hi h.symm
        simp [tblSet, tblGet, hv, hi, this]
  | lo, (j, w) :: r, hw, k, v, i => by
    simp only [tblWfFrom, Bool.and_eq_true, decide_eq_true_eq] at hw
    by_cases h1 : k < j
    · have hr : tblGet d r k = d k := tblGet_below hw.2 k (by omega)
      by_cases hv : v = d k
      · by_cases hi : i = k
        · subst hi
          have : j ≠ i := by omega
          simp [tblSet, tblGet, h1, ← hv, this, hr]
        · simp [tblSet, tblGet, h1, ← hv, hi]
      · by_cases hi : i = k
        · subst hi; simp [tblSet, tblGet, h1, hv]
        · have : k ≠ i := fun h => hi h.symm
          simp [tblSet, tblGet, h1, hv, hi, this]
    · by_cases h2 : k = j
      · subst h2
        have hr : tblGet d r k = d k := tblGet_below hw.2 k (by omega)
        by_cases hv : v = d k
        · by_cases hi : i = k
          · subst hi; simp [tblSet, hr, hv]
          · have : k ≠ i := fun h => hi h.symm
            simp [tblSet, tblGet, hv, hi, this]
        · by_cases hi : i = k
          · subst hi; simp [tblSet, tblGet, hv]
          · have : k ≠ i := fun h => hi h.symm
            simp [tblSet, tblGet, hv, hi, this]
      · have ih := tblGet_tblSet hw.2 k v i
        by_cases hj : j = i
        · subst hj
          have : ¬ j = k := fun h => h2 h.symm
          simp [tblSet, tblGet, h1, h2, this]
        · simp [tblSet, tblGet, h1, h2, hj, ih]

/-- A write keeps the canonical form. -/
theorem tblSet_wfFrom : ∀ {lo : Nat} {t : Tbl α}, tblWfFrom d lo t = true → ∀ (k : Nat) (v : α), lo ≤ k →
    tblWfFrom d lo (tblSet d t k v) = true
  | lo, [], _, k, v, hk => by
    by_cases hv : v = d k
    · simp [tblSet, tblWfFrom, hv]
    · simp [tblSet, tblWfFrom, hv, hk]
  | lo, (j, w) :: r, hw, k, v, hk => by
    have hw0 := hw
    simp only [tblWfFrom, Bool.and_eq_true, decide_eq_true_eq] at hw
    by_cases h1 : k < j
    · by_cases hv : v = d k
      · simpa [tblSet, h1, ← hv] using hw0
      · have hj : k + 1 ≤ j := by omega
        have hwd : ¬ w = d j := by simpa using hw.1.2
        simp [tblSet, h1, hv, tblWfFrom, hk, hj, hwd, hw.2]
    · by_cases h2 : k = j
      · subst h2
        by_cases hv : v = d k
        · simpa [tblSet, hv] using tblWfFrom_mono (by omega) hw.2
        · simp [tblSet, hv, tblWfFrom, hk, hw.2]
      · have hwd : ¬ w = d j := by simpa using hw.1.2
        have ih := tblSet_wfFrom hw.2 k v (by omega)
        simp [tblSet, h1, h2, tblWfFrom, hw.1.1, hwd, ih]

theorem tblSet_wf {t : Tbl α} (h : tblWf d t = true) (k : Nat) (v : α) : tblWf d (tblSet d t k v) = true :=
  tblSet_wfFrom h k v (Nat.zero_le k)

theorem tblGet_tblSet_same {t : Tbl α} (h : tblWf d t = true) (k : Nat) (v : α) : tblGet d (tblSet d t k v) k = v := by
  rw [tblGet_tblSet h]; simp

/-- A write leaves every other index alone, in canonical form or not. -/
theorem tblGet_tblSet_other {k i : Nat} (v : α) (hi : i ≠ k) : ∀ t : Tbl α, tblGet d (tblSet d t k v) i = tblGet d t i
  | [] => by
    have hk : ¬ k = i := fun h => hi h.symm
    by_cases hv : v = d k <;> simp [tblSet, tblGet, hv, hk]
  | (j, w) :: r => by
    have hk : ¬ k = i := fun h => hi h.symm
    have ih := tblGet_tblSet_other v hi r
    by_cases h1 : k < j
    · by_cases hv : v = d k <;> simp [tblSet, tblGet, h1, hv, hk]
    · by_cases h2 : k = j
      · subst h2
        by_cases hv : v = d k <;> simp [tblSet, tblGet, hv, hk]
      · simp only [tblSet, h1, h2, if_false, tblGet, ih]

/-- Removing entries keeps the canonical form. -/
theorem tblFilter_wfFrom (p : Nat × α → Bool) : ∀ {lo : Nat} {t : Tbl α}, tblWfFrom d lo t = true →
    tblWfFrom d lo (t.filter p) = true
  | _, [], _ => rfl
  | lo, (j, w) :: r, hw => by
    simp only [tblWfFrom, Bool.and_eq_true, decide_eq_true_eq] at hw
    by_cases hp : p (j, w) = true
    · have ih := tblFilter_wfFrom p hw.2
      rw [List.filter_cons_of_pos hp]
      simp only [tblWfFrom, Bool.and_eq_true, decide_eq_true_eq]
      exact ⟨hw.1, ih⟩
    · rw [List.filter_cons_of_neg hp]
      exact tblWfFrom_mono (by omega) (tblFilter_wfFrom p hw.2)

end

/-! ### Memory -/

theorem memWrite_wf {m : Memory} (h : Memory.wf m) (a : Nat) (b : Byte) : Memory.wf (memWrite m a b) := tblSet_wf h a b

theorem memRead_memWrite {m : Memory} (h : Memory.wf m) (a : Nat) (b : Byte) (c : Nat) :
    memRead (memWrite m a b) c = if c = a then b else memRead m c := tblGet_tblSet h a b c

theorem memWriteWord_wf {m : Memory} (h : Memory.wf m) (a : Nat) (w : Word) : Memory.wf (memWriteWord m a w) :=
  memWrite_wf (memWrite_wf (memWrite_wf (memWrite_wf h _ _) _ _) _ _) _ _

theorem memWriteWords_wf : ∀ (ws : List Word) {m : Memory} (_ : Memory.wf m) (a : Nat), Memory.wf (memWriteWords m a ws)
  | [], _, h, _ => h
  | w :: r, _, h, a => memWriteWords_wf r (memWriteWord_wf h a w) (a + 4)

theorem memErase_wf {m : Memory} (h : Memory.wf m) (a n : Nat) : Memory.wf (memErase m a n) := tblFilter_wfFrom _ h

/-- A byte outside the one written, the words written or the span erased reads as before. -/
theorem memRead_memWrite_other (m : Memory) {a c : Nat} (b : Byte) (hc : c ≠ a) : memRead (memWrite m a b) c = memRead m c :=
  tblGet_tblSet_other b hc m

theorem memRead_memWriteWord_other (m : Memory) (a : Nat) (w : Word) {c : Nat} (hc : c < a ∨ a + 4 ≤ c) :
    memRead (memWriteWord m a w) c = memRead m c := by
  unfold memWriteWord
  rw [memRead_memWrite_other _ _ (by omega), memRead_memWrite_other _ _ (by omega), memRead_memWrite_other _ _ (by omega),
    memRead_memWrite_other _ _ (by omega)]

theorem memRead_memWriteWords_other : ∀ (ws : List Word) (m : Memory) (a : Nat) {c : Nat},
    (c < a ∨ a + 4 * ws.length ≤ c) → memRead (memWriteWords m a ws) c = memRead m c
  | [], _, _, _, _ => rfl
  | w :: r, m, a, c, hc => by
    have hl : (w :: r).length = r.length + 1 := rfl
    rw [hl] at hc
    rw [memWriteWords, memRead_memWriteWords_other r _ (a + 4) (by omega), memRead_memWriteWord_other _ a w (by omega)]

theorem memRead_memErase_other : ∀ (m : Memory) (a n : Nat) {c : Nat}, (c < a ∨ a + n ≤ c) →
    memRead (memErase m a n) c = memRead m c
  | [], _, _, _, _ => rfl
  | (j, b) :: r, a, n, c, hc => by
    have ih := memRead_memErase_other r a n hc
    unfold memRead memErase at ih ⊢
    by_cases hj : j = c
    · subst hj
      rw [List.filter_cons_of_pos (by simpa using hc)]
      simp [tblGet]
    · by_cases hp : (decide (j < a) || decide (a + n ≤ j)) = true
      · rw [List.filter_cons_of_pos (by simpa using hp)]
        simp only [tblGet, hj, if_false, ih]
      · rw [List.filter_cons_of_neg (by simpa using hp)]
        simp only [tblGet, hj, if_false, ih]

/-- A byte of an erased span reads blank. -/
theorem memRead_memErase_span : ∀ (m : Memory) (a n : Nat) {c : Nat}, a ≤ c → c < a + n →
    memRead (memErase m a n) c = memBlank c
  | [], _, _, _, _, _ => rfl
  | (j, b) :: r, a, n, c, h1, h2 => by
    have ih := memRead_memErase_span r a n h1 h2
    unfold memRead memErase at ih ⊢
    by_cases hp : (decide (j < a) || decide (a + n ≤ j)) = true
    · rw [List.filter_cons_of_pos (by simpa using hp)]
      have hj : ¬ j = c := by
        intro he; subst he
        simp only [Bool.or_eq_true, decide_eq_true_eq] at hp
        omega
      simp only [tblGet, hj, if_false, ih]
    · rw [List.filter_cons_of_neg (by simpa using hp), ih]

theorem reset_mem_wf : Memory.wf State.reset.mem := rfl

end Sys2Proof.Machine
end

