-- ==== Sys2Proof/WellFormed.lean ====
section
/-!
DEFINITION. WellFormed.lean: the operands that the block's surroundings can give a command: indices within the units that the
spec gives the block, and lists of the length that the thing described has.
-/

namespace Sys2Proof

/-- An image has at most 8,192 entries (Table 05-9, SIZE). -/
def entryIndex (i : Nat) : Bool := decide (i < 8192)

/-- A sub-tick of a minor tick: 5,000 of 25 ns. -/
def subTick (n : Nat) : Bool := decide (n < 5000)

/-- An item of a state transfer names a thing of the block (R1020). -/
def StateItem.wellFormed : StateItem → Bool
  | .param a _ => decide (a < 65536)
  | .sample a v => decide (a < 65536) && decide (-2 ^ 23 ≤ v) && decide (v < 2 ^ 23)
  | .client id w _ => decide (id < 2048) && decide (w < 32)
  | .counter i _ => decide (i < 4096)
  | .signal g _ => decide (g < 2048)
  | .slot n .. => decide (n < 512)
  | .gen g .. => decide (g < 256)
  | .drive m st _ => decide (m < 24) && decide (st < 10)
  | .fan f st _ => decide (f < 48) && decide (st < 8)
  | .run c => decide (c < 4)
  | .command id _ code _ cls args sends =>
    decide (id < 2048) && decide (code < 256) && decide (1 ≤ cls) && decide (cls ≤ 3) && decide (args.length ≤ 4) && decide (sends < 256)
  | .route id hops => decide (id < 2048) && hops.all fun h => decide (h < 2048)
  | .toneMap id _ _ codes => decide (id < 2048) && decide (codes.length ≤ 53)
  | .hubFrame t .. => decide (t < 3)

/-- A FORWARD record names groups, chunks and service requests of the block (R1039-R1042). -/
def Forward.wellFormed : Forward → Bool
  | .glaze l => decide (l.length ≤ 64) && l.all fun x => decide (x.1 < 65536) && decide (x.2.2 < 8)
  | .decision g r => decide (g < 8) && decide (r < 16)
  | .service kind _ index _ ans reason =>
    decide (kind < 8) && decide (index < 2048) && decide (ans < 4) && decide (reason < 16)
  | .chunk k data => decide (k < 24) && decide (data.length ≤ 1024)
  | .ack .. => true

/-- The operands of a command lie within what the block's surroundings can give it. -/
def wellFormed (c : Instr) : Bool :=
  match c with
  | .copy i | .scale i | .limit i | .compare i | .logic i | .timer i | .lowpass i | .median i | .table8 i | .sched i
  | .clientIn i | .clientOut i | .fanSup i | .drvSup i | .relay i | .hostpub i | .log i | .digest i | .cmp2 i _ | .cmp3 i _
  | .prof i | .pent i | .convStart i | .convRead i | .convArb i | .openwire i | .pwm i | .sixstep i | .dtc i | .shunt i
  | .cmdin i .. | .fanPwm i | .tach i | .bbBeacon i | .bbSlot i | .bbRx i | .bbTx i | .zcTx i | .zcRx i | .stCnt i
  | .stLogq i | .strokeOverrun i => entryIndex i
  | .gessoZcFrame _ _ lv => decide (lv.length = 49)
  | .majorFrameBoundary _ noise _ => noise.all fun p => decide (p.1 < 3)
  | .x40Stop sub => subTick sub
  | .scheduledExit n | .unscheduledExit n | .powerStateChoice _ n | .comparatorEdge _ _ n | .toothCandidate _ n
  | .toothSynthesis _ _ n => subTick n
  | .zcFrameReceived _ _ lv => decide (lv.length = 3) && lv.all fun l => decide (l.length = 49)
  | .toothAnchoredEvent _ _ lv .. => decide (lv.length = 3)
  | .beaconBoundary back l => decide (back.length = 3) && l.all fun id => decide (id < 2048)
  | .tier2FirstBeacon back => decide (back.length = 3)
  | .refreshScanStart found | .storeRestartRebuild found => found.all fun p => decide (p.1 < 65536)
  | .bbFrameReceived _ _ _ _ bytes est _ => decide (bytes.length = 120) && decide (est.length = 3)
  | .pwmPeriodBoundary _ k .. | .bemfSample _ k _ => decide (k < 8)
  | .statusRecord m => decide (m.role < 4) && decide (m.tier ≤ 2) && decide (m.cyc.length ≤ 3)
  | .forwardRecord x => x.wellFormed
  | .stateRecord x => x.wellFormed
  | .proofStepEnd m => (m.noise.all fun p => decide (p.1 < 3)) && decide (m.snd.length = 4) && decide (m.rly.length = 32)
  | .ringScan scan .. => (scan.all fun p => decide (p.1 < 444)) && decide (scan.map fun p => p.1).Nodup
  | _ => true

end Sys2Proof
end

