-- ==== Sys2Proof/Tests/Slice0.lean ====
section
/-!
SUPPORT. Slice0.lean (tests): small states, a state and operands for the hypotheses of every clause of every statement, ill-formed
operands for each check of WellFormed.lean, and single steps whose results the spec works out in numbers.
-/

set_option maxRecDepth 100000

namespace Sys2Proof.Tests

open Sys2Proof Sys2Proof.Machine

/-! ### Small states -/

/-- Easel time of a hyperframe boundary, 11.85 days after the start. -/
def wE : Nat := 40960000000000
/-- A locked track. -/
def wTrack : Track := { Track.blank with st := .locked, everLocked := true }
/-- A running block at Tier 2, at a hyperframe boundary. -/
def wUp : State :=
  { State.reset with
    sys := { resetSys with tier := 2, applied := 0x7FF, checked := 0x7FF }
    power := { resetPower with vmain := true, vcore := true, vana := true, vfield := true, vbat := true, holdLow := false
                               starting := false, busrdy := true, canvasStarted := some 0, wakeFirst := 7 }
    time := { resetTime with easel := wE, source := .x40, x40Ok := true, x32Ok := true, x32Since := some 0
                             x32Run := true, calValid := true, tracks := [(0, wTrack), (1, wTrack), (2, wTrack)] }
    gesso := { resetGesso with armed := true, zcLive := true, firstAnswer := true }
    safety := { resetSafety with run := true, answeredOnce := true }
    store := { resetStore with ready := true, kept := true }
    canvas := { resetCanvas with run := .comfort }
    glaze := { resetGlaze with lastWin := some 64000000 } }
/-- An entry of a canvas image: op, lane, TARGET, ARG, in every minor tick of every run state. -/
def wEntry (op lane target arg : Nat) : DWord := BitVec.ofNat 64 (op * 2 ^ 57 + lane * 2 ^ 54 + target * 2 ^ 23 + arg)
/-- An image of entries and a pool. -/
def wImage (l : List DWord) (pool : List Word) : Image :=
  { generation := 1, crc := 0, bb := false, mirror := false, entries := l, pool := pool, disp := [], init := [] }
/-- A block whose Canvas runs the entries in every run state (SET 3 and 0 alike). -/
def wRun (l : List DWord) (pool : List Word) : State :=
  { wUp with canvas := { wUp.canvas with image := some (wImage l pool) } }
/-- One running entry. -/
def wOne (op lane target arg : Nat) (pool : List Word) : State := wRun [wEntry op lane target arg] pool
/-- The stroke of one running entry. -/
def wK (op lane target arg : Nat) : Stroke := { e := entryOf (wEntry op lane target arg), start := 0 }
/-- ARG of an argument block at the start of the pool; of IN and OUT. -/
def wBlk : Nat := 2 ^ 22
def wIO (inn out : Nat) : Nat := inn * 2048 + out

/-! ### Small changes of these states -/

def wPars (l : List (Nat × Word)) (s : State) : State := l.foldl (fun s p => setPar p.1 p.2 s) s
def wCh (s : State) : State := wPars [(parAddr 5 (0x080 + 5), 0x200), (parAddr 5 (0x100 + 5), 1)] s
def wArb (s : State) : State := wPars [(parAddr 5 1, 1)] s
def wHeader : List Word := [0x5A444356, 0x00100001, 64, 2, 0, 64, 64, 0, 64, 0, 64, 0, 0, 0, 0]
def wImageMem (k : Bool) (s : State) : State :=
  { s with mem := memWriteWords s.mem (slotBase k) (wHeader ++ [crc32 (wHeader ++ [0])]) }
def wRunSt (r : RunState) (s : State) : State := { s with canvas := { s.canvas with run := r } }
def wPow (f : Power → Power) : State := { wUp with power := f wUp.power }
def wHost (f : HostBus → HostBus) : State := { wUp with host := f wUp.host }
def wGl (f : Glaze → Glaze) : State := { wUp with glaze := f wUp.glaze }
def wKey (id : Nat) (s : State) : State := { s with host := { s.host with keyValid := [(id, some (wE))] } }
def wOpen : State := { wUp with power := { wUp.power with movingUntil := 0 } }
def wOp (f : LongOp → LongOp) : State := { wUp with host := { wUp.host with op := f wUp.host.op } }
def wRow : PRow := (rowOf 0x2000).getD { first := 0, last := 0, staged := false, reset := 0, fields := [] }
def wImg2 (l : List DWord) (pool : List Word) (disp : List DWord) (bb : Bool) (s : State) : State :=
  { s with canvas := { s.canvas with image := some { generation := 1, crc := 0, bb := bb, mirror := false, entries := l, pool := pool, disp := disp, init := [] } } }
def wCl (f : Clients → Clients) (s : State) : State := { s with clients := f s.clients }
def wAdm : State := wCl (fun c => { c with words := [(0, 0x1000)] }) wUp
def wBB : State := wImg2 [] [] [] true (wPars [(parAddr 19 0, 1)] wUp)
def wBits : BitVec 24 := makeFrame 3 2 7 4
def wLv (b : BitVec 24) : List (Int × Int) := (200, 200) :: (List.range 24).flatMap fun i => if b.getLsbD (23 - i) then [(200, 0), (0, 200)] else [(0, 200), (200, 0)]
/-- What the three front ends detect of it. -/
def wFes (b : BitVec 24) : List TeethLevels := [wLv b, wLv b, wLv b]
def wSoft (b : BitVec 24) : List Int := (List.range 24).map fun i => if b.getLsbD (23 - i) then 100 else -100
/-- The same with a start mark and bits 0-2 as single bursts. -/
def wLv3 (b : BitVec 24) : List (Int × Int) := (wLv b).mapIdx fun i p => if i ∈ [2, 4, 6] then (0, 0) else p
/-- Four copies of the frame b, the last in slot 13. -/
def wCopies (b : BitVec 24) : List Copy := [3, 6, 6, 6].mapIdx fun i p => { slot := 13 - i, soft := wSoft (BitVec.ofNat 3 p ++ b.setWidth 21), bits := 0, full := 0xFFFFFF, syn := false }
def wZc (z : ZcTrack) : State := setZc 1 z { wUp with safety := { wUp.safety with run := true } }
/-- Track 1 with teeth at 50 Hz, c cycles counted: its rising tooth lies 17,000 sub-ticks ahead, its falling one 20,000 back. -/
def wTeeth (c : Nat) : State :=
  { wUp with time := { wUp.time with tracks := [(0, wTrack), (1, { wTrack with
      cyc := BitVec.ofNat 32 c, lastRise := 16 * (wE - 783000), lastTooth := wE - 20000
      rising := { p := 16 * (wE + 17000), per := 16 * 800000, last := 16 * (wE - 783000) }
      falling := { p := 16 * (wE + 780000), per := 16 * 800000, last := 16 * (wE - 20000) } }), (2, wTrack)] } }
def wRep : List Byte := let b := List.replicate 116 (0 : Byte); let c := ~~~(b.foldl crcByte 0xFFFFFFFF); b ++ [c.extractLsb' 0 8, c.extractLsb' 8 8, c.extractLsb' 16 8, c.extractLsb' 24 8]

set_option synthInstance.maxSize 2000
set_option synthInstance.maxHeartbeats 400000
def wConv (f : Conv → Conv) (s : State) : State := { s with conv := f s.conv }
def wMod (m : Nat) (f : Modulator → Modulator) (s : State) : State := setMod m (f Modulator.blank) s
def wC (ch : Nat) (kind : ConvKind) : Conversion := { ch := ch, kind := kind, k := 1, log := 5, num := 80, start := 5, delay := 0, done := 0, swapped := false, crit := none, cfg := 0, que := false, ow := false }
def wChS (ch v : Nat) (s : State) : State := wPars [(parAddr 5 (0x080 + ch), BitVec.ofNat 32 v), (parAddr 5 (0x100 + ch), 1)] s
def wDrv (d : DrvChan) : State := { wOne 0x0E 0 5 (wIO 4 9) [] with drive := { chans := [(5, d)] } }
def dB : DrvChan := DrvChan.blank
def wFan (d : Fan) : State := { wOne 0x0D 0 5 (wIO 4 9) [] with fans := { resetFans with chans := [(5, d)] } }
def fB : Fan := Fan.blank
def wSt (f : Store → Store) : State := { wUp with store := f wUp.store }
def wMi (f : Mirror → Mirror) : State := { wUp with sys := { wUp.sys with applied := 0xFFF, checked := 0xFFF }, mirror := f { resetMirror with pair := true } }
def wSby (f : Mirror → Mirror) : State := wMi fun m => f { m with role := .standby }
def wOdd (s : State) : State := { s with time := { s.time with easel := wE + frameLen } }
def wPr (f : Proof → Proof) (s : State) : State := { s with proof := f s.proof }
def wLg (f : Legacy → Legacy) : State := { wUp with legacy := f { wUp.legacy with mode := true } }
def wSen (n : Nat) (f : Sentinel → Sentinel) (s : State) : State := setSen n (f (gSen s n)) s
def wRec (l : List (Nat × Word)) (s : State) : State := { s with gesso := { s.gesso with record := l.foldl (fun r p => r.set p.1 p.2) s.gesso.record } }
/-- A Gesso that decodes zero-crossing frames on every front end. -/
def wFire (f : Gesso → Gesso) : State := let s := wRec [(68, 0xF)] wUp; { s with gesso := f { s.gesso with zcLive := true } }
def wPm : State := { wUp with time := { wUp.time with easel := wE + 125 * tickLen } }
def wLop (st : OpState) : State := { (wLg id) with host := { wUp.host with op := { wUp.host.op with st := st } } }
/-- What a Proof step measures of sound hardware: relays at 50 mA, no gate ball wrong. -/
def wMeas : ProofMeas :=
  { snd := [24000, 24000, 24000, 24000], rly := List.replicate 32 50000, gateHigh := 0, gateLow := 0, nDflt := 0, leftIdle := 0
    tested := 0, fails := [], noise := [] }
def wScan : BallScan := { mv := 0, clampUa := 0, lowLimit := false, releasedLow := false }

/-! ### Well-formed operands: an ill-formed term for each check -/

theorem test_wellFormed_entry : wellFormed (.copy 8191) = true ∧ wellFormed (.copy 8192) = false := by decide
theorem test_wellFormed_singles : wellFormed (.gessoZcFrame 0 5 (wLv 0)) = true ∧ wellFormed (.gessoZcFrame 0 5 [(0, 0)]) = false := by decide
theorem test_wellFormed_noise : wellFormed (.majorFrameBoundary 0 [(3, [])] 0) = false := by decide
theorem test_wellFormed_subTick : wellFormed (.x40Stop 4999) = true ∧ wellFormed (.x40Stop 5000) = false := by decide
theorem test_wellFormed_edge : wellFormed (.comparatorEdge 0 true 5000) = false ∧ wellFormed (.toothCandidate 0 5000) = false ∧
    wellFormed (.toothSynthesis 0 true 5000) = false := by decide
theorem test_wellFormed_exit : wellFormed (.scheduledExit 5000) = false ∧ wellFormed (.powerStateChoice none 5000) = false := by decide
theorem test_wellFormed_body : wellFormed (.zcFrameReceived 0 5 (wFes wBits)) = true ∧
    wellFormed (.zcFrameReceived 0 5 [[], [], []]) = false ∧ wellFormed (.zcFrameReceived 0 5 [wLv wBits]) = false ∧
    wellFormed (.toothAnchoredEvent 0 7 [] 0 0) = false := by decide
theorem test_wellFormed_repeater : wellFormed (.beaconBoundary [0, 0, 0] [2048]) = false ∧
    wellFormed (.beaconBoundary [0] []) = false ∧ wellFormed (.tier2FirstBeacon []) = false := by decide
theorem test_wellFormed_groups : wellFormed (.refreshScanStart [(65536, 0)]) = false ∧
    wellFormed (.storeRestartRebuild [(65535, 1)]) = true ∧ wellFormed (.storeRestartRebuild [(65536, 1)]) = false := by decide
theorem test_wellFormed_report : wellFormed (.bbFrameReceived 1 0 0 true [] [] 0) = false ∧
    wellFormed (.bbFrameReceived 1 0 0 true (List.replicate 120 0) [] 0) = false := by decide
theorem test_wellFormed_period : wellFormed (.pwmPeriodBoundary 0 8 0 0 0) = false ∧ wellFormed (.bemfSample 0 8 0) = false := by decide
theorem test_wellFormed_forward : wellFormed (.forwardRecord (.decision 8 0)) = false ∧
    wellFormed (.forwardRecord (.chunk 24 [])) = false ∧ wellFormed (.forwardRecord (.glaze [(5, 0, 9)])) = false ∧
    wellFormed (.forwardRecord (.service 8 true 0 0 0 0)) = false := by decide
theorem test_wellFormed_state : wellFormed (.stateRecord (.param 65536 0)) = false ∧
    wellFormed (.stateRecord (.sample 0 (2 ^ 23))) = false ∧ wellFormed (.stateRecord (.client 2048 0 0)) = false ∧
    wellFormed (.stateRecord (.drive 24 0 0)) = false ∧ wellFormed (.stateRecord (.fan 0 8 0)) = false ∧
    wellFormed (.stateRecord (.run 4)) = false ∧ wellFormed (.stateRecord (.hubFrame 3 true 0 0 0)) = false := by decide
theorem test_wellFormed_step : wellFormed (.proofStepEnd wMeas) = true ∧
    wellFormed (.proofStepEnd { wMeas with noise := [(3, [])] }) = false ∧ wellFormed (.proofStepEnd { wMeas with snd := [] }) = false ∧
    wellFormed (.proofStepEnd { wMeas with rly := [1] }) = false := by decide
theorem test_wellFormed_ring : wellFormed (.ringScan [(444, wScan)] 0 0 0) = false ∧
    wellFormed (.ringScan [(5, wScan), (5, wScan)] 0 0 0) = false ∧ wellFormed (.ringScan [(443, wScan)] 0 0 0) = true := by decide

/-! ### One step on a small state: results written out from the spec -/

/-- The state after one step with a command in front. -/
def after (c : Instr) (s : State) : State := match step { s with pending := [c] } with | .next t => t | _ => s

/-- An empty queue idles. -/
theorem test_idle : step State.reset = .next State.reset := rfl
/-- 03, R161: the challenge 0x5C is answered by 0x45. -/
theorem test_heartbeat : heartbeat 0x5C = 0x45 := by decide
/-- 05, worked example: the entry 0x40B9_0230_1288_2105, and the frames it is due in. -/
theorem test_entry : entryOf 0x40B9023012882105 =
    { op := 0x20, lane := 2, set := 3, pkind := 2, log2n := 2, phase := 1, tick := 12, target := 37, arg := 0x82105 } ∧
    (List.range 64).filter (fun f => (entryOf 0x40B9023012882105).due f 12) =
      [1, 5, 9, 13, 17, 21, 25, 29, 33, 37, 41, 45, 49, 53, 57, 61] := by decide
/-- 09, worked example: FIRE of client 677 encodes as 0xA1_529F and passes. -/
theorem test_zc_frame : makeFrame 5 0 677 1 = 0xA1529F ∧ frameOk 0xA1529F = true ∧ frameOk 0xA1529E = false := by decide
/-- 11, worked example: the admission window of client 1,234. -/
theorem test_join_window : joinWindow 1234 = 45 := by decide
/-- 06, worked example: tick 86 of frame 10 of hyperframe 1,000, and tick 88 with sub-tick 2,000. -/
theorem test_easel_word : easelWord (1000 * hyperLen + 10 * frameLen + 86 * tickLen) = 0x0000000FA0AAC000 ∧
    easelWord (1000 * hyperLen + 10 * frameLen + 88 * tickLen + 2000) = 0x0000000FA0AB07D0 := by decide
/-- 13, worked example: one evaluation of slot 37. -/
theorem test_pi : (rawOut (setSlot 37 { Slot.blank with x1 := 42949673, y1 := 644245094 } (wPars [(parAddr 6 (0x010 + 37), 0x0008010C),
    (parAddr 6 (0x210 + 12), 0x50022F3E), (parAddr 6 (0x290 + 12), 0xB0022F3E), (parAddr 6 (0x410 + 12), 0x80000000),
    (parAddr 6 (0x590 + 12), 0x42)] wUp)) false 37 42949673).1 = 0x2666BFE1 := by decide
/-- 12, worked example: 1.200 V gives 0x3D_70A4; the overranging result of channel 20 is queued as 0x4B01_2301_147F_FFFF. -/
theorem test_conv_code : resultCode 1200000 2500000 none = (0x3D70A4, false) := by decide
theorem test_conv_queue : qEntry (after (.convResultDelivery 4 3100000 2500000 (some true)) (wChS 20 0x600 { wUp with
      time := { wUp.time with easel := wE + 3531600 }
      conv := { resetConv with seq := 0x0123, mods := [(4, { Modulator.blank with
        lastGood := true, refSince := some 5
        conv := some { wC 20 .single with que := true, k := 2, log := 12, start := wE + 1930000, delay := 1600 } })] } })) =
    0x4B012301147FFFFF := by decide
/-- 04, worked example: a candidate 1,600 sub-ticks late moves the period to 800,100 and the prediction to 800,900 later. -/
theorem test_tooth : (tblGet (fun _ => Track.blank) (after (.toothCandidate 0 4600) { wUp with time := { wUp.time with
      easel := wE + 5000, tracks := [(0, { wTrack with edge := some (wE + 1600, true)
                                                       rising := { p := 16 * wE, per := 16 * 800000, last := 0 } }), (1, wTrack), (2, wTrack)] } }).time.tracks 0).rising =
    { p := 16 * (wE + 800900), per := 16 * 800100, last := 16 * wE } := by decide
/-- 19, worked example: fan 7 of RPM_MAX 3,000 at half speed is 1,505 rpm. -/
theorem test_legacy_fan : (after (.lfanSpdWrite 128) (setPar (parAddr 11 (0x060 + 7)) 3000 (wLg fun l => { l with fanSel := 7 }))).legacy.queue =
    [.fan 7 1505] := by decide
/-- 22, worked example: staged and immediate parameters, and the gap behind CONV 0x007. -/
theorem test_parameters : ((rowOf 0x5ACB).map fun r => r.staged) = some true ∧ ((rowOf 0x48DF).map fun r => r.staged) = some true ∧
    ((rowOf 0x4957).map fun r => r.staged) = some false ∧ isDefined 0x2808 = false ∧ isDefined 0x2810 = true := by decide
/-- 22, R1200: a read in the gap returns 0 and UNDEF, and PADDR advances under AINC. -/
theorem test_gap_read : (after .pdataLoRead (wHost fun h => { h with paddr := 0x2808, ainc := true })).host.dOut = 0 ∧
    (after .pdataHiRead (wHost fun h => { h with paddr := 0x2808, ainc := true })).host.pctlRes = 1 ∧
    (after .pdataHiRead (wHost fun h => { h with paddr := 0x2808, ainc := true })).host.paddr = 0x2809 := by decide
/-- 01, worked example: an alarm at tick 37 of a frame waits 91 ticks for the frame boundary: no change between, the change there. -/
theorem test_emergency_waits : (after .emergencySetChange { wUp with
      time := { wUp.time with easel := wE + 37 * tickLen }, safety := { wUp.safety with held := true, heldAt := wE + 37 * tickLen } }).canvas.run = .comfort ∧
    (after .emergencySetChange { wUp with
      time := { wUp.time with easel := wE + 128 * tickLen }, safety := { wUp.safety with held := true, heldAt := wE + 37 * tickLen } }).canvas.run = .emergency := by decide
/-- R239: a minor tick is 5,000 sub-ticks of 25 ns. -/
theorem test_minor_tick : (after .minorTick wUp).time.easel = wE + 5000 := by decide
/-- COPY writes what it reads; a stroke of another op-code in its place changes nothing. -/
theorem test_copy : (after (.copy 0) (setSignal 5 77 (wOne 0x01 0 0 (wIO 5 9) []))).canvas.fresh.map (fun f => (f.sig, f.value)) = [(9, 77)] ∧
    (after (.scale 0) (setSignal 5 77 (wOne 0x01 0 0 (wIO 5 9) []))).canvas.fresh = [] := by decide
/-- R172: an acknowledge with a stale token is refused with code 2. -/
theorem test_token : (after .ackSilence { wUp with safety := { wUp.safety with ackPending := some (0xA507, 0), alarms := 5, token := 8 } }).safety.ackRes = 2 := by
  decide
/-- 17, R1004: a standby whose partner's records stop for 256 ticks triggers. -/
theorem test_takeover : (after (.mirrorHeartbeatLoss true) (wSby id)).mirror.trig = some (1, false, false) := by decide

/-! ### The hypotheses of every statement can be met together: one state and its operands for each clause -/

theorem test_witness_StepIdles :
    ∃ (s : State), s.pending = [] :=
  ⟨State.reset, rfl⟩

theorem test_witness_StepKeepsTierSettled :
    ∃ (s : State) (t : State), Settled s ∧ step s = Host.Outcome.next t :=
  ⟨{ State.reset with pending := [.statRead] }, _, by decide, rfl⟩

theorem test_witness_Frames :
    ∃ (c : Instr) (s : State) (t : State) (p : Part), exec c s = Host.Outcome.next t ∧ ¬p ∈ writes c :=
  ⟨.statRead, State.reset, _, .pads, rfl, by decide⟩

theorem test_witness_GessoStarts :
    (∃ (s : State), s.gesso.armed = false ∧ s.gesso.rlBusy = false) ∧
    (∃ (s : State), s.gesso.armed = true ∧ recZen s.gesso.record = true ∧ (∃ fe, fe < 3 ∧ recZph s.gesso.record fe = true ∧
      phaseOn s fe = true)) ∧
    (∃ (s : State), s.gesso.armed = true ∧ keyOk s 3 = true ∧ s.gesso.trip = 0 ∧ (∀ (n : Nat), n < 16 → recEn s.gesso.record
      n = true → (gSen s n).band = Band.normal)) ∧
    (∃ (s : State), s.gesso.rlBusy = true) ∧
    (∃ (s : State), s.gesso.armed = true) :=
  ⟨⟨{ wUp with gesso := { wUp.gesso with armed := false } }, by decide⟩,
   ⟨wRec [(68, 0xF)] wUp, by decide⟩,
   ⟨{ wUp with host := { wUp.host with keyValid := [(3, some wE)] } }, by decide⟩,
   ⟨{ wUp with gesso := { wUp.gesso with armed := false, rlBusy := true } }, by decide⟩,
   ⟨wUp, by decide⟩⟩

theorem test_witness_RelatchRefusedOnTrip :
    (∃ (s : State), s.gesso.trip ≠ 0) ∧
    (∃ (s : State), s.gesso.trip ≠ 0 ∧ s.gesso.armed = true ∧ keyOk s 3 = true) :=
  ⟨⟨{ wUp with gesso := { wUp.gesso with trip := 1 } }, by decide⟩,
   ⟨{ wUp with host := { wUp.host with keyValid := [(3, some wE)] }, gesso := { wUp.gesso with trip := 1 } }, by decide⟩⟩

theorem test_witness_DefaultRecordLatched :
    (∃ (s : State), recCopyOk s.mem false = false ∧ recCopyOk s.mem true = false) ∧
    (∃ (s : State), recCopyOk s.mem false = false ∧ recCopyOk s.mem true = false ∧ s.gesso.rlBusy = true) :=
  ⟨⟨wUp, by decide +kernel⟩,
   ⟨{ wUp with gesso := { wUp.gesso with armed := false, rlBusy := true } }, by decide +kernel⟩⟩

theorem test_witness_GessoQualifies :
    (∃ (s : State), s.gesso.armed = true) ∧
    (∃ (s : State) (n : Fin 16), s.gesso.armed = true ∧ recEn s.gesso.record ↑n = true ∧ dwellDone (gSen s ↑n).alarmRun
      (recAdw s.gesso.record ↑n) = true ∧ s.gesso.trip.getLsbD ↑n = false) ∧
    (∃ (s : State) (n : Fin 16), s.gesso.armed = true ∧ recEn s.gesso.record ↑n = true ∧ dwellDone (gSen s ↑n).troubleRun
      (recTdw s.gesso.record ↑n) = true ∧ (gSen s ↑n).trouble = false) ∧
    (∃ (s : State) (n : Fin 16), dwellDone (gSen s ↑n).clearRun (recTdw s.gesso.record ↑n) = true ∧ (gSen s ↑n).trouble =
      true) ∧
    (∃ (s : State) (fe : Fin 3) (slot : Nat) (lv : List (Int × Int)) (r : Reading) (c : Nat) (comb : Bool) (bits : BitVec
      24), r = readBody (gessoTh s ↑fe) slot (synUsed s ↑fe) (List.drop 1 lv) ∧ s.gesso.armed = true ∧ s.gesso.zcLive = true
      ∧ recZen s.gesso.record = true ∧ recZph s.gesso.record ↑fe = true ∧ phaseOn s ↑fe = true ∧ startMark (gessoTh s ↑fe)
      lv = true ∧ s.gesso.trip.getLsbD (16 + c) = false ∧ (comb = false → readingOk r = true ∧ r.copy.bits = bits ∧
      combineSlot (keepCopy r.copy (tblGet (fun x => []) s.gesso.copies ↑fe)) slot = none ∧ confirmAlive (now s) (tblGet
      (fun x => none) s.gesso.confirm (frameAddr bits)) ≠ none) ∧ (comb = true → readingOk r = false ∧ ∃ n y x, combineSlot
      (keepCopy r.copy (tblGet (fun x => []) s.gesso.copies ↑fe)) slot = some (bits, n, y, x)) ∧ (slotKinds (if comb = true
      then s.gesso.takenComb else s.gesso.taken) (if comb = true then s.gesso.taken else s.gesso.takenComb) (frameAddr bits)
      slot (↑fe) (frameState bits) = SlotCopy.first) ∧ frameType bits = 0 ∧ classOf (frameState bits) = some c ∧ recZmask
      s.gesso.record (frameAddr bits) = false) ∧
    (∃ (s : State) (fe : Fin 3) (slot : Nat) (lv : List (Int × Int)) (r : Reading) (c : Nat) (comb : Bool) (bits : BitVec
      24), r = readBody (gessoTh s ↑fe) slot (synUsed s ↑fe) (List.drop 1 lv) ∧ s.gesso.armed = true ∧ s.gesso.zcLive = true
      ∧ recZen s.gesso.record = true ∧ recZph s.gesso.record ↑fe = true ∧ phaseOn s ↑fe = true ∧ startMark (gessoTh s ↑fe)
      lv = true ∧ s.gesso.trip.getLsbD (16 + c) = false ∧ (comb = false → readingOk r = true ∧ r.copy.bits = bits ∧
      combineSlot (keepCopy r.copy (tblGet (fun x => []) s.gesso.copies ↑fe)) slot = none ∧ confirmAlive (now s) (tblGet
      (fun x => none) s.gesso.confirm (frameAddr bits)) ≠ none) ∧ (comb = true → readingOk r = false ∧ ∃ n y x, combineSlot
      (keepCopy r.copy (tblGet (fun x => []) s.gesso.copies ↑fe)) slot = some (bits, n, y, x)) ∧ (slotKinds (if comb = true
      then s.gesso.takenComb else s.gesso.taken) (if comb = true then s.gesso.taken else s.gesso.takenComb) (frameAddr bits)
      slot (↑fe) (frameState bits) = SlotCopy.first) ∧ frameType bits = 0 ∧ classOf (frameState bits) = some c ∧ recZmask
      s.gesso.record (frameAddr bits) = false) :=
  ⟨⟨wUp, by decide⟩,
   ⟨{ wUp with gesso := { wUp.gesso with sen := [(5, { Sentinel.blank with alarmRun := some 1000 })] } }, 5, by decide⟩,
   ⟨{ wUp with gesso := { wUp.gesso with sen := [(5, { Sentinel.blank with troubleRun := some 10000 })] } }, 5, by decide⟩,
   ⟨{ wUp with gesso := { wUp.gesso with sen := [(5, { Sentinel.blank with clearRun := some 10000, trouble := true })] } },
     5, by decide⟩,
   ⟨wFire (fun g => { g with confirm := [(3, some (wE - 6 * sec, true))] }), 0, 7, wLv (makeFrame 5 0 3 1), _, 0, false,
     makeFrame 5 0 3 1, rfl, by decide, by decide, by decide, by decide, by decide, by decide, by decide, fun _ => by
     decide, fun h => absurd h (by decide), by decide⟩,
   ⟨wFire (fun g => { g with copies := [(2, (wCopies (makeFrame 3 0 3 1)).drop 1)] }), 2, 13, wLv3 (makeFrame 3 0 3 1), _,
     0, true, makeFrame 3 0 3 1, rfl, by decide, by decide, by decide, by decide, by decide, by decide, by decide, fun h =>
     absurd h (by decide), fun _ => ⟨by decide, _, _, _, rfl⟩, by decide⟩⟩

theorem test_witness_FirstFrameExpires :
    ∃ (s : State) (a : Fin 2048) (at_ : Nat), tblGet (fun x => none) s.gesso.confirm ↑a = some (at_, true) ∧ at_ + 6 * sec <
      now s :=
  ⟨{ wUp with gesso := { wUp.gesso with confirm := [(3, some (0, true))] } }, 3, 0, by decide⟩

theorem test_witness_HeartbeatAnswered :
    ∃ (s : State), s.safety.run = true ∧ s.gesso.snap.published = true ∧ s.gesso.snap.answered = false :=
  ⟨{ wUp with gesso := { wUp.gesso with snap := { wUp.gesso.snap with published := true } } }, by decide⟩

theorem test_witness_GessoJudgesCore :
    (∃ (s : State) (err : Byte), err ≠ 0 ∧ s.safety.run = true ∧ s.gesso.snap.published = true ∧ s.gesso.snap.answered =
      false) ∧
    (∃ (s : State), 2 ≤ s.gesso.badRun ∧ s.gesso.scFault = false) ∧
    (∃ (s : State), 64 ≤ s.gesso.goodRun ∧ s.gesso.scFault = true) ∧
    (∃ (s : State) (from_ : Nat), s.gesso.coreReset = some from_ ∧ from_ + 200 * ms ≤ now s ∧ s.gesso.scFault = false ∧
      s.sys.applied.getLsbD 3 = true) :=
  ⟨⟨{ wUp with gesso := { wUp.gesso with snap := { wUp.gesso.snap with published := true } } }, 1, by decide⟩,
   ⟨{ wUp with gesso := { wUp.gesso with badRun := 2 } }, by decide⟩,
   ⟨{ wUp with gesso := { wUp.gesso with goodRun := 64, scFault := true } }, by decide⟩,
   ⟨{ wUp with gesso := { wUp.gesso with coreReset := some 0 } }, 0, by decide⟩⟩

theorem test_witness_GessoWrites :
    (∃ (s : State), ackWrites s = true) ∧
    (∃ (s : State) (mask : BitVec 19) (c : Instr), ackWrites s = false ∧ c ∈ [Instr.gessoSilence mask, Instr.gessoReset
      mask]) ∧
    (∃ (s : State) (k : Fin 4), Settled s ∧ s.safety.run = true ∧ outputsLive s = true ∧ (sounder s ↑k).alarm = false ∧
      (sounder s ↑k).chirpEnd = none ∧ s.gesso.outCmd.getLsbD ↑k = false) ∧
    (∃ (s : State), Settled s ∧ s.sys.tier = 0 ∧ chirpDue s = true ∧ gessoTrouble s = true ∧ outputsLive s = true) :=
  ⟨⟨wUp, by decide⟩,
   ⟨State.reset, 5, .gessoReset 5, by decide⟩,
   ⟨wUp, 3, by decide⟩,
   ⟨{ State.reset with gesso := { resetGesso with clkTrouble := true, armed := true } }, by decide⟩⟩

theorem test_witness_ResetOfTrips :
    (∃ (s : State) (mask : BitVec 19) (c : Nat), ackWrites s = true ∧ c < 3 ∧ mask.getLsbD (16 + c) = true ∧
      (justHit s).getLsbD (16 + c) = false ∧ s.gesso.trip.getLsbD (16 + c) = true) ∧
    (∃ (s : State) (mask : BitVec 19) (n : Nat), n < 19 ∧ mask.getLsbD n = true ∧
      s.gesso.trip.getLsbD n = true ∧ (resettable s).getLsbD n = false) ∧
    ∃ (s : State) (mask : BitVec 19) (n : Nat), n < 19 ∧ mask.getLsbD n = true ∧
      s.gesso.trip.getLsbD n = true ∧ (justHit s).getLsbD n = true :=
  ⟨⟨{ wUp with gesso := { wUp.gesso with trip := 0x40000 } }, 0x40000, 2, by decide⟩,
   ⟨{ wUp with gesso := { wUp.gesso with trip := 4, sen := [(2, { Sentinel.blank with band := .alarm })] } }, 4, 2, by decide⟩,
   ⟨{ wUp with gesso := { wUp.gesso with trip := 0x40000, hitAt := [(18, wE / ms + 1)] } }, 0x40000, 18, by decide⟩⟩

theorem test_witness_ChirpDiscarded :
    ∃ (s : State) (k : Fin 4), Settled s ∧ s.safety.run = true ∧ outputsLive s = true ∧ ((sounder s ↑k).alarm = true ∨
      (sounder s ↑k).chirpEnd ≠ none) :=
  ⟨{ wUp with pads := { wUp.pads with snd := [(1, { Sounder.blank with alarm := true })] } }, 1, by decide⟩

theorem test_witness_SafetyCoreRestarts :
    (∃ (s : State) (d : Domain), s.sys.applied.getLsbD d.bit = true ∧ (s.power.inReset = true → d.bit ≤ 1)) ∧
    (∃ (s : State), s.sys.applied.getLsbD 3 = true ∧ s.power.inReset = false ∧ s.safety.lockstep = false ∧ s.safety.fwFail =
      false) ∧
    (∃ (s : State), s.safety.run = false ∧ s.safety.lockstep = false ∧ s.safety.fwFail = false ∧ s.sys.applied.getLsbD 3 =
      true ∧ s.power.inReset = false) ∧
    (∃ (s : State), s.safety.run = true ∧ s.safety.reloadDue.isSome = true ∧ atFrame s = true) ∧
    (∃ (s : State), s.safety.run = true) :=
  ⟨⟨wUp, .m, by decide⟩,
   ⟨wUp, by decide⟩,
   ⟨{ wUp with safety := { wUp.safety with run := false } }, by decide⟩,
   ⟨{ wUp with safety := { wUp.safety with reloadDue := some 3 } }, by decide⟩,
   ⟨wUp, by decide⟩⟩

theorem test_witness_CoreRestartSparesGesso :
    (∃ (s : State) (t : State), ((∃ fault, exec (Instr.lockstepMismatch fault) s = Host.Outcome.next t) ∨ ∃ setOk, exec
      (Instr.safetyCoreRestartDone setOk) s = Host.Outcome.next t)) ∧
    (∃ (s : State) (t : State), ((∃ fault, exec (Instr.lockstepMismatch fault) s = Host.Outcome.next t) ∨ ∃ setOk, exec
      (Instr.safetyCoreRestartDone setOk) s = Host.Outcome.next t)) :=
  ⟨⟨wUp, _, .inl ⟨.sram, rfl⟩⟩,
   ⟨{ wUp with safety := { wUp.safety with run := false } }, _, .inr ⟨true, rfl⟩⟩⟩

theorem test_witness_UnknownAlarmSet :
    ∃ (s : State), s.safety.run = false ∧ s.safety.lockstep = false ∧ s.safety.fwFail = false ∧ s.sys.applied.getLsbD 3 =
      true ∧ s.power.inReset = false :=
  ⟨{ wUp with safety := { wUp.safety with run := false } }, by decide⟩

theorem test_witness_SafetyCoreQualifies :
    (∃ (s : State), s.safety.run = true) ∧
    (∃ (s : State) (n : Fin 16), s.safety.run = true ∧ recEn s.safety.record ↑n = true ∧ dwellDone (mSen s ↑n).alarmRun
      (recAdw s.safety.record ↑n) = true ∧ s.safety.alarms.getLsbD ↑n = false ∧ s.safety.tokenTick ≠ some (tickNo s)) ∧
    (∃ (s : State), s.safety.run = true ∧ s.gesso.snap.published = true ∧ s.safety.lastCmp ≠ s.gesso.chalCount) ∧
    (∃ (s : State) (j : Fin 256) (since : Nat), s.safety.run = true ∧ (crKind s ↑j = 1 ∨ crKind s ↑j = 2) ∧ (crit s
      ↑j).since = some since ∧ since + crTime s ↑j ≤ now s ∧ (crit s ↑j).isTrue = false ∧ crArb s ↑j = false) ∧
    (∃ (s : State) (j : Fin 256) (due : Nat), s.safety.run = true ∧ (crit s ↑j).arbDue = some due ∧ due ≤ now s ∧ (crit s
      ↑j).isTrue = true) ∧
    (∃ (s : State), s.safety.run = true ∧ unacked s = true ∧ fld (par s (parAddr 4 0)) 0 2 = 2 ∧ Settled s ∧
      s.safety.lastChirp = none ∧ atTick s = true) :=
  ⟨⟨wUp, by decide⟩,
   ⟨{ wUp with safety := { wUp.safety with mon := [(4, { Sentinel.blank with alarmRun := some 1000 })] } }, 4, by decide⟩,
   ⟨{ wUp with gesso := { wUp.gesso with chalCount := 5, snap := { wUp.gesso.snap with published := true } } }, by decide⟩,
   ⟨(setPar (parAddr 4 0x100) 1
     { wUp with safety := { wUp.safety with crit := [(0, { Criterion.blank with since := some 0 })] } }), 0, 0, by decide⟩,
   ⟨{ wUp with safety := { wUp.safety with crit := [(9, { Criterion.blank with arbDue := some 5, isTrue := true })] } }, 9,
     5, by decide⟩,
   ⟨(setPar (parAddr 4 0) 2
     { wUp with safety := { wUp.safety with causes := [{ code := 960, src := 0, acked := false, event := false }] } }), by
     decide⟩⟩

theorem test_witness_Acknowledged :
    (∃ (s : State), ackDue s 165 = some (BitVec.toNat s.safety.token) ∧ s.sys.tier = 2) ∧
    (∃ (s : State), ackDue s 195 = some (BitVec.toNat s.safety.token) ∧ s.sys.tier = 2 ∧ allSilenced s = true) ∧
    (∃ (s : State), Settled s ∧ ackDue s 150 = some (BitVec.toNat s.safety.token)) :=
  ⟨⟨{ wUp with safety := { wUp.safety with ackPending := some (0xA500, 0), alarms := 5 }, gesso := { wUp.gesso with trip := 2 } },
     by decide⟩,
   ⟨{ wUp with safety := { wUp.safety with ackPending := some (0xC300, 0), alarms := 5, sil := 5 } }, by decide⟩,
   ⟨{ wUp with safety := { wUp.safety with ackPending := some (0x9600, 0) } }, by decide⟩⟩

theorem test_witness_WrongTokenRefused :
    ∃ (s : State) (tok : Nat) (c : Instr × Nat), tok ≠ BitVec.toNat s.safety.token ∧ c ∈ [(Instr.ackSilence, 165),
      (Instr.ackReset, 195), (Instr.ackTroubleAck, 150)] ∧ ackDue s c.snd = some tok :=
  ⟨{ wUp with safety := { wUp.safety with ackPending := some (0x9607, 0) } }, 7, (Instr.ackTroubleAck, 0x96), by decide⟩

theorem test_witness_AcknowledgeRefused :
    (∃ (s : State), ackDue s 195 = some (BitVec.toNat s.safety.token) ∧ allSilenced s = false) ∧
    (∃ (s : State) (c : Instr × Nat), s.sys.tier ≠ 2 ∧ c ∈ [(Instr.ackSilence, 165), (Instr.ackReset, 195)] ∧ ackDue s c.snd
      = some (BitVec.toNat s.safety.token)) :=
  ⟨⟨{ wUp with safety := { wUp.safety with ackPending := some (0xC300, 0), alarms := 5 } }, by decide⟩,
   ⟨{ wUp with sys := { wUp.sys with tier := 1 }, safety := { wUp.safety with ackPending := some (0xA500, 0) } },
     (Instr.ackSilence, 0xA5), by decide⟩⟩

theorem test_witness_TimeBoundaries :
    (∃ (s : State), s.power.st ≠ PowerState.off ∧ s.time.source = EaselSource.x40) ∧
    (∃ (s : State), s.time.frameDone ≠ some (tickNo s) ∧ tickNo s % 128 = 0 ∧ s.sys.applied.getLsbD 3 = true ∧ s.time.source
      ≠ EaselSource.x40) ∧
    (∃ (s : State), s.time.frameDone ≠ some (tickNo s) ∧ s.mirror.pair = false ∧ atFrame s = true ∧ s.sys.applied.getLsbD 3
      = true ∧ s.time.source = EaselSource.x40 ∧ s.power.inReset = false ∧ s.host.op.st ≠ OpState.running ∧ s.proof.inj =
      []) ∧
    (∃ (s : State), atHyper s = true ∧ s.time.source = EaselSource.x40 ∧ s.power.inReset = false ∧ s.time.hyperDone ≠ some
      (tickNo s)) :=
  ⟨⟨wUp, by decide⟩,
   ⟨{ wUp with time := { wUp.time with source := .x32 } }, by decide⟩,
   ⟨wUp, by decide⟩,
   ⟨wUp, by decide⟩⟩

theorem test_witness_Clocks :
    (∃ (s : State), s.time.source = EaselSource.x40) ∧
    (∃ (s : State), s.time.source ≠ EaselSource.x40) ∧
    (∃ (s : State), s.time.x32Since.isSome = true) ∧
    (∃ (s : State), s.time.x32Since = none) ∧
    (∃ (s : State) (since : Nat), s.time.x32Since = some since ∧ since + sec ≤ now s ∧ s.time.x32Ok = false) ∧
    (∃ (s : State) (n : Nat) (w : Nat), s.time.winOpen = some w ∧ (w + n) / tickLen ≤ tickNo s ∧ BitVec.getLsbD (par s
      (parAddr 1 6)) 0 = true ∧ BitVec.getLsbD (par s (parAddr 1 6)) 1 = false ∧ s.time.discardCount = false ∧
      s.time.xtalDev = false ∧ 39992000 ≤ n ∧ n ≤ 40008000) ∧
    (∃ (s : State) (n : Nat) (w : Nat), s.time.winOpen = some w ∧ (w + n) / tickLen ≤ tickNo s ∧ BitVec.getLsbD (par s
      (parAddr 1 6)) 0 = true ∧ BitVec.getLsbD (par s (parAddr 1 6)) 1 = false ∧ s.time.discardCount = false ∧
      s.time.xtalDev = false ∧ 39992000 ≤ n ∧ n ≤ 40008000) ∧
    (∃ (s : State), s.time.x32Since.isSome = true ∧ s.time.calSet = none) ∧
    (∃ (s : State), BusOpen s ∧ s.legacy.mode = false ∧ isStandby s = false ∧ keyOk s 1 = true) ∧
    (∃ (s : State), BusOpen s ∧ s.legacy.mode = false) :=
  ⟨⟨wUp, by decide⟩,
   ⟨{ wUp with time := { wUp.time with source := .x32, x40Ok := false } }, by decide⟩,
   ⟨wUp, by decide⟩,
   ⟨{ wUp with time := { wUp.time with x32Since := none, x32Run := false, x32Ok := false } }, by decide⟩,
   ⟨{ wUp with time := { wUp.time with x32Ok := false } }, 0, by decide⟩,
   ⟨setPar (parAddr 1 6) 1 { wUp with time := { wUp.time with winOpen := some (wE - 39992000) } }, 39992000, wE - 39992000,
     by decide⟩,
   ⟨setPar (parAddr 1 6) 1 { wUp with time := { wUp.time with winOpen := some (wE - 40008000) } }, 40008000, wE - 40008000,
     by decide⟩,
   ⟨wUp, by decide⟩,
   ⟨{ wUp with host := { wUp.host with keyValid := [(1, some wE)] } }, by decide⟩,
   ⟨wUp, by decide⟩⟩

theorem test_witness_EaselReadLatchesHigh :
    ∃ (s : State), BusOpen s ∧ s.legacy.mode = false :=
  ⟨wUp, by decide⟩

theorem test_witness_ToothTracker :
    (∃ (s : State) (s0 : State) (k : Fin 3) (at_ : Nat) (level : Bool), s0 = moveIn s at_ ∧ trkEn s ↑k = true ∧ outputsLive
      s = true ∧ (track s ↑k).level ≠ some level ∧ (track s ↑k).edge = none) ∧
    (∃ (s : State) (s0 : State) (k : Fin 3) (at_ : Nat) (edge : Nat) (level : Bool), s0 = moveIn s at_ ∧ (track s ↑k).edge =
      some (edge, level) ∧ edge + 8000 ≤ now s0 ∧ (track s ↑k).st = TrackState.locked ∧ (inWindow (if (level != trkInv s ↑k)
      = true then (track s ↑k).rising else (track s ↑k).falling) (16 * ↑(stamp s0 (↑k) edge)) = false)) ∧
    (∃ (s : State) (s0 : State) (k : Fin 3) (at_ : Nat) (edge : Nat) (level : Bool) (c : Chain), s0 = moveIn s at_ ∧ (track
      s ↑k).edge = some (edge, level) ∧ edge + 8000 ≤ now s0 ∧ (track s ↑k).st = TrackState.locked ∧ (c = if (level !=
      trkInv s ↑k) = true then (track s ↑k).rising else (track s ↑k).falling) ∧ inWindow c (16 * ↑(stamp s0 (↑k) edge)) =
      true) ∧
    (∃ (s : State) (s0 : State) (k : Fin 3) (at_ : Nat) (edge : Nat) (level : Bool) (c : Chain), s0 = moveIn s at_ ∧ (track
      s ↑k).edge = some (edge, level) ∧ edge + 8000 ≤ now s0 ∧ (track s ↑k).st = TrackState.locked ∧ (c = if (level !=
      trkInv s ↑k) = true then (track s ↑k).rising else (track s ↑k).falling) ∧ inWindow c (16 * ↑(stamp s0 (↑k) edge)) =
      true) ∧
    (∃ (s : State) (s0 : State) (k : Fin 3) (at_ : Nat) (edge : Nat) (level : Bool) (c1 : Nat × Bool) (c2 : Nat × Bool), s0
      = moveIn s at_ ∧ (track s ↑k).edge = some (edge, level) ∧ edge + 8000 ≤ now s0 ∧ (track s ↑k).st = TrackState.acq ∧
      (track s ↑k).cands = [c1, c2] ∧ locks (stamp s0 (↑k) edge, level) c1 c2 = true) ∧
    (∃ (s : State) (s0 : State) (k : Fin 3) (at_ : Nat), s0 = moveIn s at_ ∧ (track s ↑k).st = TrackState.locked ∧ (track s
      ↑k).edge = none ∧ fld (par s (parAddr 1 36)) 0 5 = 20 ∧ (track s ↑k).synRun = 0 ∧ 3 * (track s ↑k).falling.per < 100 *
      (16 * ↑(now s0) - (track s ↑k).falling.p)) ∧
    (∃ (s : State) (s0 : State) (k : Fin 3) (at_ : Nat) (p16 : Int) (e : Nat) (lv : List (Int × Int)) (c : ToothClass), s0 =
      moveIn s at_ ∧ Settled s ∧ toothP s (↑k) 3 = some p16 ∧ e = toothInstant none false p16 ∧ now s ≤ e ∧ e / tickLen =
      tickNo s ∧ zcReceives s = true ∧ c = classify (coreTh s ↑k) (combinedTooth s lv)) :=
  ⟨⟨setPar (parAddr 1 8) 1 wUp, _, 0, 4999, true, rfl, by decide⟩,
   ⟨{ wUp with time := { wUp.time with tracks := [(1, { wTrack with edge := some (wE - 8000, true) })] } }, _, 1, 0, wE -
     8000, true, rfl, by decide⟩,
   ⟨{ wUp with time := { wUp.time with tracks := [(1, { wTrack with edge := some (wE - 8000, true), rising := { p := 16 * (wE - 32000), per := 16 * 800000, last := 0 } })] } },
     _, 1, 0, wE - 8000, true, _, rfl, by decide, by decide, by decide, rfl, by decide⟩,
   ⟨{ wUp with time := { wUp.time with tracks := [(2, { wTrack with edge := some (wE - 8000, false), falling := { p := 16 * (wE + 16000), per := 16 * 800000, last := 0 } })] } },
     _, 2, 0, wE - 8000, false, _, rfl, by decide, by decide, by decide, rfl, by decide⟩,
   ⟨{ wUp with time := { wUp.time with tracks := [(0, { Track.blank with edge := some (wE - 8000, true), cands := [(wE - 408000, false), (wE - 808000, true)] })] } },
     _, 0, 0, wE - 8000, true, (wE - 408000, false), (wE - 808000, true), rfl, by decide⟩,
   ⟨setPar (parAddr 1 0x24) 20
     { wUp with time := { wUp.time with tracks := [(2, { wTrack with falling := { p := 0, per := 800000, last := 0 } })] } },
     _, 2, 100, rfl, by decide⟩,
   ⟨wTeeth 1, _, 1, 0, _, _, [], _, rfl, by decide, rfl, rfl, by decide, by decide, by decide, rfl⟩⟩

theorem test_witness_StrokeNotDue :
    ∃ (s : State) (i : Nat), ∀ n < 128, n ≠ 0x7F → strokeAt s n i = none :=
  ⟨wOne 0x7F 0 5 9 [1, 2, 3], 0, by decide⟩

theorem test_witness_SignalStrokes :
    (∃ (s : State) (i : Nat) (k : Stroke), strokeAt s 1 i = some k) ∧
    (∃ (s : State) (i : Nat) (k : Stroke), strokeAt s 2 i = some k) ∧
    (∃ (s : State) (i : Nat) (k : Stroke), strokeAt s 3 i = some k ∧ argI s k 2 ≤ argI s k 3) ∧
    (∃ (s : State) (i : Nat) (k : Stroke), strokeAt s 4 i = some k ∧ argI s k 2 ≤ readI s k (blkIn s k)) ∧
    (∃ (s : State) (i : Nat) (k : Stroke), strokeAt s 4 i = some k ∧ readI s k (blkIn s k) < argI s k 2 ∧ readI s k (blkIn s
      k) < argI s k 2 - argI s k 3) ∧
    (∃ (s : State) (i : Nat) (k : Stroke), strokeAt s 5 i = some k) ∧
    (∃ (s : State) (i : Nat) (k : Stroke), strokeAt s 6 i = some k) ∧
    (∃ (s : State) (i : Nat) (k : Stroke), strokeAt s 7 i = some k) ∧
    (∃ (s : State) (i : Nat) (k : Stroke), strokeAt s 8 i = some k) ∧
    (∃ (s : State) (i : Nat) (k : Stroke), strokeAt s 9 i = some k) ∧
    (∃ (s : State) (i : Nat) (k : Stroke) (c : Instr × Nat), Settled s ∧ c ∈ [(Instr.copy i, 1), (Instr.relay i, 15),
      (Instr.hostpub i, 16)] ∧ strokeAt s c.snd i = some k) ∧
    (∃ (s : State) (i : Nat) (k : Stroke) (p : Nat × Word), strokeAt s 10 i = some k ∧ schedPick (weekMinute (BitVec.toNat
      s.time.calSec)) (List.map (fun j => (BitVec.toNat (argWord s k.e (2 + 2 * j)), argWord s k.e (3 + 2 * j))) (List.range
      ((fld (argWord s k.e 0) 0 8 - 2) / 2))) = some p) :=
  ⟨⟨(wOne 0x01 0 0 (wIO 5 9) []), 0, (wK 0x01 0 0 (wIO 5 9)), by decide⟩,
   ⟨(wOne 0x02 0 0 wBlk [5, BitVec.ofNat 32 (wIO 5 9), 3, 4, 1]), 0, (wK 0x02 0 0 wBlk), by decide⟩,
   ⟨(wOne 0x03 0 0 wBlk [4, BitVec.ofNat 32 (wIO 5 9), 3, 7]), 0, (wK 0x03 0 0 wBlk), by decide⟩,
   ⟨(wOne 0x04 0 0 wBlk [4, BitVec.ofNat 32 (wIO 5 9), -3, 7]), 0, (wK 0x04 0 0 wBlk), by decide⟩,
   ⟨(wOne 0x04 0 0 wBlk [4, BitVec.ofNat 32 (wIO 5 9), 30, 7]), 0, (wK 0x04 0 0 wBlk), by decide⟩,
   ⟨(wOne 0x05 0 0 wBlk ([14, 9] ++ List.replicate 12 7)), 0, (wK 0x05 0 0 wBlk), by decide⟩,
   ⟨(wOne 0x06 0 3 wBlk [4, BitVec.ofNat 32 (wIO 5 9), 3, 7]), 0, (wK 0x06 0 3 wBlk), by decide⟩,
   ⟨(wOne 0x07 0 3 wBlk [3, BitVec.ofNat 32 (wIO 5 9), 3]), 0, (wK 0x07 0 3 wBlk), by decide⟩,
   ⟨(wOne 0x08 0 0 wBlk [8, 9, 5, 6, 7, 0, 0, 1]), 0, (wK 0x08 0 0 wBlk), by decide⟩,
   ⟨(wOne 0x09 0 0 wBlk [18, BitVec.ofNat 32 (wIO 5 9), 0, 1, 2, 3, 4, 5, 6, 7, 8, 9, 10, 11, 12, 13, 14, 15]), 0, (wK 0x09
     0 0 wBlk), by decide⟩,
   ⟨wOne 0x01 0 0 (wIO 5 9) [], 0, wK 0x01 0 0 (wIO 5 9), (.copy 0, 1), by decide⟩,
   ⟨(wOne 0x0A 0 0 wBlk [4, 9, 100, 55]), 0, (wK 0x0A 0 0 wBlk), (100, 55), by decide⟩⟩

theorem test_witness_RecordStrokes :
    (∃ (s : State) (i : Nat) (k : Stroke), strokeAt s 11 i = some k ∧ k.e.inn = 1) ∧
    (∃ (s : State) (i : Nat) (k : Stroke), strokeAt s 12 i = some k) ∧
    (∃ (s : State) (i : Nat) (k : Stroke), strokeAt s 15 i = some k) ∧
    (∃ (s : State) (i : Nat) (k : Stroke), strokeAt s 16 i = some k) ∧
    (∃ (s : State) (i : Nat) (k : Stroke), strokeAt s 17 i = some k ∧ Settled s ∧ s.store.logQ.length < 512) ∧
    (∃ (s : State) (i : Nat) (k : Stroke) (r : Nat × Word × List Word × Bool), strokeAt s 18 i = some k ∧ s.mirror.pair =
      true ∧ s.mirror.role = Role.primary ∧ List.find? (fun r => r.fst + 1 == canvasTime s / frameLen) s.mirror.results =
      some r) ∧
    (∃ (s : State) (i : Nat) (k : Stroke), strokeAt s 40 i = some k ∧ chInService s k.e.target = true ∧ (modulator s
      (k.e.target % 16)).conv = none) ∧
    (∃ (s : State) (i : Nat) (k : Stroke) (r : ConvRes), strokeAt s 41 i = some k ∧ s.glaze.oosMod.getLsbD (k.e.target % 16)
      = false ∧ visibleResult s k.e.target = some r) ∧
    (∃ (s : State) (i : Nat) (k : Stroke), strokeAt s 42 i = some k ∧ isArbiter s = true ∧ chInService s k.e.target = true ∧
      s.conv.arbWait.length < 16) ∧
    (∃ (s : State) (i : Nat) (k : Stroke), strokeAt s 43 i = some k ∧ chInService s k.e.target = true ∧ owCurrent s
      k.e.target true = true) :=
  ⟨⟨(wOne 0x0B 0 33 (wIO 1 9) []), 0, (wK 0x0B 0 33 (wIO 1 9)), by decide⟩,
   ⟨(wOne 0x0C 0 33 (wIO 5 0) []), 0, (wK 0x0C 0 33 (wIO 5 0)), by decide⟩,
   ⟨(wOne 0x0F 0 17 (wIO 5 0) []), 0, (wK 0x0F 0 17 (wIO 5 0)), by decide⟩,
   ⟨(wOne 0x10 0 17 (wIO 5 0) []), 0, (wK 0x10 0 17 (wIO 5 0)), by decide⟩,
   ⟨(wOne 0x11 0 0 (wIO 5 77) []), 0, (wK 0x11 0 0 (wIO 5 77)), by decide⟩,
   ⟨{ wOne 0x12 0 0 0 [] with sys := { wUp.sys with applied := 0xFFF, checked := 0xFFF }, mirror := { resetMirror with pair := true, role := .primary, results := [(63999999, 7, [], false)] } },
     0, (wK 0x12 0 0 0), (63999999, 7, [], false), by decide⟩,
   ⟨(wCh (wOne 0x28 3 5 0 [])), 0, (wK 0x28 3 5 0), by decide⟩,
   ⟨{ wOne 0x29 3 5 (wIO 0 9) [] with conv := { resetConv with chs := [(5, { ConvCh.blank with recent := [{ code := 7, flags := 0, seq := 1, vis := 0, no := 1 }] })] } },
     0, (wK 0x29 3 5 (wIO 0 9)), { code := 7, flags := 0, seq := 1, vis := 0, no := 1 }, by decide⟩,
   ⟨(wArb (wCh (wOne 0x2A 3 5 0 []))), 0, (wK 0x2A 3 5 0), by decide⟩,
   ⟨(wCh (wOne 0x2B 3 5 0 [])), 0, (wK 0x2B 3 5 0), by decide⟩⟩

theorem test_witness_ArbiterQueueFull :
    (∃ (s : State) (i : Nat) (k : Stroke), isArbiter s = true ∧ strokeAt s 42 i = some k ∧ chInService s k.e.target = true ∧
      s.conv.arbWait.length < 16) ∧
    (∃ (s : State) (i : Nat) (k : Stroke), isArbiter s = true ∧ strokeAt s 42 i = some k ∧ chInService s k.e.target = true ∧
      16 ≤ s.conv.arbWait.length) ∧
    (∃ (s : State) (ch : Nat), isArbiter s = true ∧ chInService s ch = true ∧ s.conv.arbWait.length < 16) ∧
    (∃ (s : State) (ch : Nat), isArbiter s = true ∧ chInService s ch = true ∧ 16 ≤ s.conv.arbWait.length) :=
  ⟨⟨(wArb (wCh (wOne 0x2A 3 5 0 []))), 0, (wK 0x2A 3 5 0), by decide⟩,
   ⟨(wArb (wCh { wOne 0x2A 3 5 0 [] with conv := { resetConv with arbWait := List.replicate 16 (3, none) } })), 0, (wK 0x2A
     3 5 0), by decide⟩,
   ⟨(wArb (wCh (wOne 0x2A 3 5 0 []))), 5, by decide⟩,
   ⟨(wArb (wCh { wOne 0x2A 3 5 0 [] with conv := { resetConv with arbWait := List.replicate 16 (3, none) } })), 5, by
     decide⟩⟩

theorem test_witness_CompensatorClamped :
    (∃ (s : State) (i : Nat) (k : Stroke) (cmp3 : Bool), (strokeAt s (if cmp3 = true then 33 else 32) i = some k) ∧
      slotInService s k.e.target = true ∧ slotAsap s k.e.target = false) ∧
    (∃ (s : State) (i : Nat) (done : Nat) (k : Stroke) (cmp3 : Bool), (strokeAt s (if cmp3 = true then 33 else 32) i = some
      k) ∧ slotInService s k.e.target = true ∧ slotAsap s k.e.target = true ∧ k.start + opCost k.e.op ≤ slotDeadline s
      k.e.target ∧ done ≤ slotDeadline s k.e.target ∧ 0 < k.e.out ∧ k.e.out < 2032) :=
  ⟨⟨(wOne 0x20 2 5 (wIO 4 9) []), 0, (wK 0x20 2 5 (wIO 4 9)), false, by decide⟩,
   ⟨(wPars [(parAddr 6 0x15, 0x80 + 600 * 512)] (wOne 0x21 2 5 (wIO 4 9) [])), 0, 0, (wK 0x21 2 5 (wIO 4 9)), true, by
     decide⟩⟩

theorem test_witness_PentWithoutTable :
    ∃ (s : State) (i : Nat) (k : Stroke), strokeAt s 35 i = some k ∧ pentL s k.e.target = 0 :=
  ⟨(wOne 0x23 2 5 (wIO 4 9) []), 0, (wK 0x23 2 5 (wIO 4 9)), by decide⟩

theorem test_witness_OutputStrokes :
    (∃ (s : State) (i : Nat) (k : Stroke), strokeAt s 34 i = some k) ∧
    (∃ (s : State) (i : Nat) (k : Stroke), strokeAt s 48 i = some k ∧ s.glaze.oosDrv.getLsbD k.e.target = false) ∧
    (∃ (s : State) (i : Nat) (k : Stroke), strokeAt s 49 i = some k ∧ s.glaze.oosDrv.getLsbD k.e.target = false ∧ sixStates
      (drv s k.e.target) = true) ∧
    (∃ (s : State) (i : Nat) (k : Stroke), strokeAt s 50 i = some k ∧ s.glaze.oosDrv.getLsbD k.e.target = false) ∧
    (∃ (s : State) (i : Nat) (k : Stroke) (at_ : Nat) (u : Int) (v : Int) (w : Int), strokeAt s 51 i = some k ∧
      s.glaze.oosDrv.getLsbD k.e.target = false ∧ List.find? (fun e => decide (e.fst + 120 ≤ tickNo s * tickLen)) (drv s
      k.e.target).sets = some (at_, u, v, w)) ∧
    (∃ (s : State) (i : Nat) (k : Stroke), strokeAt s 52 i = some k ∧ s.glaze.oosDrv.getLsbD k.e.target = false) ∧
    (∃ (s : State) (i : Nat) (k : Stroke), strokeAt s 14 i = some k ∧ s.glaze.oosDrv.getLsbD k.e.target = false ∧ drvLive s
      k.e.target = true ∧ (drv s k.e.target).st ≠ DrvState.run) ∧
    (∃ (s : State) (i : Nat) (k : Stroke), strokeAt s 53 i = some k) ∧
    (∃ (s : State) (i : Nat) (k : Stroke), strokeAt s 54 i = some k) ∧
    (∃ (s : State) (i : Nat) (k : Stroke), strokeAt s 13 i = some k ∧ fanLive s k.e.target = true ∧ (fan s k.e.target).st =
      FanState.off) :=
  ⟨⟨(wOne 0x22 2 5 (wIO 4 9) []), 0, (wK 0x22 2 5 (wIO 4 9)), by decide⟩,
   ⟨(wOne 0x30 4 5 (wIO 4 0) []), 0, (wK 0x30 4 5 (wIO 4 0)), by decide⟩,
   ⟨{ wOne 0x31 4 5 0 [] with drive := { chans := [(5, { DrvChan.blank with st := .run, bridge := .six 1 })] } }, 0, (wK
     0x31 4 5 0), by decide⟩,
   ⟨(wOne 0x32 4 5 (wIO 4 9) []), 0, (wK 0x32 4 5 (wIO 4 9)), by decide⟩,
   ⟨{ wOne 0x33 4 5 (wIO 0 9) [] with drive := { chans := [(5, { DrvChan.blank with sets := [(5, 1, 2, 3)] })] } }, 0, (wK
     0x33 4 5 (wIO 0 9)), 5, 1, 2, 3, by decide⟩,
   ⟨(wOne 0x34 4 5 (wIO 0 9) []), 0, (wK 0x34 4 5 (wIO 0 9)), by decide⟩,
   ⟨{ wOne 0x0E 0 5 (wIO 4 9) [] with drive := { chans := [(5, { DrvChan.blank with st := .idle })] } }, 0, (wK 0x0E 0 5
     (wIO 4 9)), by decide⟩,
   ⟨(wOne 0x35 4 5 (wIO 4 0) []), 0, (wK 0x35 4 5 (wIO 4 0)), by decide⟩,
   ⟨(wOne 0x36 4 5 (wIO 4 9) []), 0, (wK 0x36 4 5 (wIO 4 9)), by decide⟩,
   ⟨(wOne 0x0D 0 5 (wIO 4 9) []), 0, (wK 0x0D 0 5 (wIO 4 9)), by decide⟩⟩

theorem test_witness_LineAndStoreStrokes :
    (∃ (s : State) (i : Nat) (k : Stroke), strokeAt s 56 i = some k) ∧
    (∃ (s : State) (i : Nat) (k : Stroke), strokeAt s 57 i = some k) ∧
    (∃ (s : State) (i : Nat) (k : Stroke) (ws : List (Nat × Word × Word)), strokeAt s 58 i = some k ∧ (cRun s
      k.e.target).report = some ws) ∧
    (∃ (s : State) (i : Nat) (k : Stroke), strokeAt s 59 i = some k ∧ downQueued s k.e.target = true) ∧
    (∃ (s : State) (i : Nat) (k : Stroke) (q : QCmd) (rest : List QCmd) (trk : Nat), strokeAt s 60 i = some k ∧ cmdsFor s
      k.e.target true = q :: rest ∧ cFld s k.e.target 0 16 2 = trk + 1) ∧
    (∃ (s : State) (i : Nat) (k : Stroke) (id : Nat) (st : Nat), strokeAt s 61 i = some k ∧ s.glaze.oosPh.getLsbD k.e.target
      = false ∧ (zcTrack s k.e.target).rx = [(2, id, st)] ∧ tblWf cBlank s.clients.words = true ∧ cFld s id 9 0 16 = 0 ∧
      cFld s id 8 16 16 = 0) ∧
    (∃ (s : State) (i : Nat) (k : Stroke), strokeAt s 62 i = some k) ∧
    (∃ (s : State) (i : Nat) (k : Stroke) (e : LogEntry) (rest : List LogEntry), strokeAt s 63 i = some k ∧ arrayFree s =
      true ∧ logFree s = true ∧ s.store.lostDue = false ∧ s.store.logQ = e :: rest ∧ s.store.logPos % 256 ≠ 0) :=
  ⟨⟨(wOne 0x38 5 0 0 []), 0, (wK 0x38 5 0 0), by decide⟩,
   ⟨(wOne 0x39 5 7 0 []), 0, (wK 0x39 5 7 0), by decide⟩,
   ⟨{ wOne 0x3A 5 7 0 [] with clients := { resetClients with run := [(7, { ClientRun.blank with report := some [(3, 0xFF, 5)] })] } },
     0, (wK 0x3A 5 7 0), [(3, 0xFF, 5)], by decide⟩,
   ⟨{ wOne 0x3B 5 7 0 [] with clients := { resetClients with run := [(7, { ClientRun.blank with cvsSent := 3 })] } }, 0, (wK
     0x3B 5 7 0), by decide⟩,
   ⟨{ wOne 0x3C 6 7 0 [] with clients := { resetClients with words := [(7 * 32, 0x10007)], queue := [{ id := 7, seq := 1, code := 2, zc := true, cls := 2, args := [], frame := 0, sends := 0 }] } },
     0, (wK 0x3C 6 7 0), { id := 7, seq := 1, code := 2, zc := true, cls := 2, args := [], frame := 0, sends := 0 }, [], 0,
     by decide⟩,
   ⟨{ wOne 0x3D 6 1 0 [] with zc := { resetZc with tracks := [(1, { ZcTrack.blank with rx := [(2, 7, 4)] })] } }, 0, (wK
     0x3D 6 1 0), 7, 4, by decide⟩,
   ⟨(wOne 0x3E 7 5 (wIO 4 1) []), 0, (wK 0x3E 7 5 (wIO 4 1)), by decide⟩,
   ⟨{ wOne 0x3F 7 0 0 [] with store := { wUp.store with logPos := 3, logQ := [{ ord := 0, hyper := 1, word2 := 2, value := 3 }] } },
     0, (wK 0x3F 7 0 0), { ord := 0, hyper := 1, word2 := 2, value := 3 }, [], by decide⟩⟩

theorem test_witness_RunStates :
    (∃ (s : State), atFrame s = true ∧ canvasRuns s = true ∧ s.canvas.run = RunState.comfort ∧ heldBefore s = true) ∧
    (∃ (s : State), atFrame s = true ∧ canvasRuns s = true ∧ s.canvas.run = RunState.emergency ∧ heldBefore s = false ∧
      isStandby s = false) ∧
    (∃ (s : State), atFrame s = true ∧ canvasRuns s = true ∧ s.canvas.run = RunState.runIn ∧ s.sys.tier = 2 ∧ heldBefore s =
      false) :=
  ⟨⟨{ wUp with safety := { wUp.safety with held := true } }, by decide⟩,
   ⟨(wRunSt .emergency wUp), by decide⟩,
   ⟨(wRunSt .runIn wUp), by decide⟩⟩

theorem test_witness_CanvasControl :
    (∃ (s : State), s.power.vmain = true ∧ s.power.inReset = false ∧ atFrame s = true ∧ s.canvas.run = RunState.stopped ∧
      s.power.canvasStarted = none ∧ s.store.ready = true ∧ (domAvail s).getLsbD 2 = true ∧ s.power.origin + 400 * ms ≤ now
      s ∧ verifyImage s s.canvas.slot true = none) ∧
    (∃ (s : State), s.canvas.verBusy = true ∧ reserveFree s 1 1 = true ∧ s.host.op.paused = false) ∧
    (∃ (s : State), runDue s = s.canvas.run ∧ s.canvas.run = RunState.comfort ∧ swapDue s = true ∧ s.canvas.swapHeld =
      false) ∧
    (∃ (s : State) (i : Nat) (e : Entry) (k : Stroke), (entries s)[i]? = some e ∧ e.op ≠ 32 ∧ e.op ≠ 33 ∧ entrySkipped s e =
      false ∧ strokeAt s e.op i = some k) ∧
    (∃ (s : State) (lane : Fin 8), (s.sys.applied &&& ~~~s.sys.gated).getLsbD (laneDom ↑lane) = true ∧
      s.canvas.laneFlt.getLsbD ↑lane = false) :=
  ⟨⟨(wImageMem false (wRunSt .stopped { wUp with power := { wUp.power with canvasStarted := none } })), by decide⟩,
   ⟨{ wUp with canvas := { wUp.canvas with verBusy := true } }, by decide⟩,
   ⟨(wImageMem false (wImageMem true { wUp with canvas := { wUp.canvas with stagedOk := true, swapArm := true } })), by
     decide⟩,
   ⟨(wOne 0x01 0 0 (wIO 5 9) []), 0, (entryOf (wEntry 0x01 0 0 (wIO 5 9))), (wK 0x01 0 0 (wIO 5 9)), by decide⟩,
   ⟨wUp, 3, by decide⟩⟩

theorem test_witness_SwapHeldInEmergency :
    ∃ (s : State), runDue s = s.canvas.run ∧ s.canvas.run = RunState.emergency ∧ swapDue s = true :=
  ⟨{ wUp with canvas := { wUp.canvas with stagedOk := true, swapArm := true, run := .emergency }, safety := { wUp.safety with held := true } },
     by decide⟩

theorem test_witness_CoreFaultStopsCanvas :
    ∃ (s : State) (lane : Fin 8), ↑lane < 2 ∧ (s.sys.applied &&& ~~~s.sys.gated).getLsbD 2 = true ∧ s.canvas.laneFlt.getLsbD
      ↑lane = false :=
  ⟨wUp, 0, by decide⟩

theorem test_witness_OverrunAbandoned :
    ∃ (s : State) (i : Nat) (e : Entry) (k : Stroke), (entries s)[i]? = some e ∧ e.op ≠ 32 ∧ e.op ≠ 33 ∧ entrySkipped s e =
      false ∧ strokeAt s e.op i = some k :=
  ⟨(wOne 0x01 0 0 (wIO 5 9) []), 0, (entryOf (wEntry 0x01 0 0 (wIO 5 9))), (wK 0x01 0 0 (wIO 5 9)), by decide⟩

theorem test_witness_Supplies :
    (∃ (s : State), s.power.vmain = false ∧ s.power.flushing = false ∧ s.power.st = PowerState.run) ∧
    (∃ (s : State), s.power.vmain = false ∧ s.power.flushing = false ∧ s.power.st = PowerState.vigil) ∧
    (∃ (s : State), s.power.vmain = true ∧ s.power.pfw = false ∧ s.power.st = PowerState.run ∧ s.store.jPos < 512) ∧
    (∃ (s : State), s.power.pfw = true ∧ s.power.vmain = true) ∧
    (∃ (s : State), s.power.vmain = true ∧ s.power.pfw = true ∧ s.power.flushing = true) ∧
    (∃ (s : State), s.power.vmain = true ∧ s.power.pfw = true ∧ s.power.flushing = false ∧ s.power.vbatAbsent = false) ∧
    (∃ (s : State), s.power.flushing = true ∧ s.power.restartWaits = false ∧ s.power.vmain = false ∧ s.power.vbatAbsent =
      false ∧ s.store.jPos < 512) ∧
    (∃ (s : State), s.power.vmain = true ∧ s.power.restartWaits = false) ∧
    (∃ (s : State), s.power.vmain = true) ∧
    (∃ (s : State), s.power.vbatAbsent = false) :=
  ⟨⟨(wPow fun p => { p with vmain := false }), by decide⟩,
   ⟨(wPow fun p => { p with vmain := false, st := .vigil }), by decide⟩,
   ⟨wUp, by decide⟩,
   ⟨(wPow fun p => { p with pfw := true }), by decide⟩,
   ⟨(wPow fun p => { p with pfw := true, flushing := true }), by decide⟩,
   ⟨(wPow fun p => { p with pfw := true }), by decide⟩,
   ⟨(wPow fun p => { p with flushing := true, vmain := false }), by decide⟩,
   ⟨wUp, by decide⟩,
   ⟨wUp, by decide⟩,
   ⟨wUp, by decide⟩⟩

theorem test_witness_DipWithoutRestart :
    (∃ (s : State), s.power.vmain = true ∧ s.power.pfw = true) ∧
    (∃ (s : State), s.power.vmain = true ∧ s.power.flushing = true ∧ s.power.restartWaits = false) :=
  ⟨⟨(wPow fun p => { p with pfw := true }), by decide⟩,
   ⟨(wPow fun p => { p with flushing := true }), by decide⟩⟩

theorem test_witness_PowerStates :
    (∃ (s : State) (rtc : Option Nat) (at_ : Nat), s.power.st = PowerState.run ∧ s.power.vmain = true ∧ s.power.inReset =
      false ∧ s.power.movingUntil ≤ now s ∧ s.power.ceil = 1 ∧ 5060 ≤ horizonOf PowerState.doze rtc (moveIn s at_)) ∧
    (∃ (s : State) (at_ : Nat), exitDue (moveIn s at_) = true) ∧
    (∃ (s : State), below s = true) ∧
    (∃ (s : State) (ceil : BitVec 3), BusOpen s ∧ s.legacy.mode = false ∧ ceil.toNat < 3) ∧
    (∃ (s : State), Settled s ∧ wakeLatches s = true) ∧
    (∃ (s : State), s.power.wakeSeq = true ∧ s.power.st = PowerState.sleep ∧ s.power.busrdy = false) ∧
    (∃ (s : State), BusOpen s ∧ s.legacy.mode = false ∧ Settled s) ∧
    (∃ (s : State) (ns : Nat), 2000 ≤ ns ∧ s.power.vmain = true ∧ s.power.restartWaits = false ∧ s.power.masked = false ∧
      s.power.nrstLow = none) ∧
    (∃ (s : State), s.power.masked = false ∧ s.power.vmain = true ∧ s.power.restartWaits = false ∧ s.power.nrstLow.isSome =
      true) ∧
    (∃ (s : State) (since : Nat), s.power.nrstLow = some since ∧ since + 7600 * ms ≤ now s ∧ s.power.vmain = true ∧
      s.power.restartWaits = false) ∧
    (∃ (s : State) (since : Nat), s.power.nrstHigh = some since ∧ s.power.masked = true ∧ since + 100 * ms ≤ now s) ∧
    (∃ (s : State), s.power.vmain = true ∧ s.power.inReset = false ∧ s.power.busrdy = false ∧ (domAvail s).getLsbD 10 = true
      ∧ (s.power.canvasStarted.isSome = true ∨ s.canvas.noImage = true ∧ s.power.origin + 400 * ms ≤ now s) ∧
      s.power.wakeSeq = false ∧ s.host.heldAcc = none ∧ s.legacy.waiting = none) ∧
    (∃ (s : State) (started : Nat), s.power.canvasStarted = some started ∧ s.power.beaconDue = true ∧ atBeacon s = true ∧
      started + 80 * ms ≤ now s) :=
  ⟨⟨(wPow fun p => { p with ceil := 1 }), (some 10000), 0, by decide⟩,
   ⟨(wPow fun p => { p with st := .doze }), 0, by decide⟩,
   ⟨(wPow fun p => { p with st := .doze }), by decide⟩,
   ⟨wUp, 1, by decide⟩,
   ⟨{ wUp with power := { wUp.power with movingUntil := wE + 1000 } }, by decide⟩,
   ⟨(wPow fun p => { p with st := .sleep, wakeSeq := true, busrdy := false }), by decide⟩,
   ⟨wUp, by decide⟩,
   ⟨wUp, 2500, by decide⟩,
   ⟨(wPow fun p => { p with nrstLow := some 5 }), by decide⟩,
   ⟨(wPow fun p => { p with nrstLow := some 5 }), 5, by decide⟩,
   ⟨(wPow fun p => { p with nrstHigh := some 5, masked := true }), 5, by decide⟩,
   ⟨(wPow fun p => { p with busrdy := false }), by decide⟩,
   ⟨(wPow fun p => { p with starting := true, beaconDue := true, canvasStarted := some 5 }), 5, by decide⟩⟩

theorem test_witness_ResetSparesGesso :
    ∃ (s : State) (t : State) (ns : Nat) (c : Instr), c ∈ [Instr.nrstAssert ns, Instr.nrstRelease, Instr.nrstMask,
      Instr.nrstUnmask] ∧ exec c s = Host.Outcome.next t :=
  ⟨wUp, _, 2000, .nrstAssert 2000, by simp, rfl⟩

theorem test_witness_SleepRequestsRefused :
    (∃ (s : State) (ceil : BitVec 3), BusOpen s ∧ s.legacy.mode = false ∧ 3 < ceil.toNat) ∧
    (∃ (s : State), BusOpen s ∧ s.legacy.mode = false ∧ anyAlarm s = true) ∧
    (∃ (s : State), BusOpen s ∧ s.legacy.mode = false ∧ anyAlarm s = false ∧ s.power.wake ≠ 0) :=
  ⟨⟨wUp, 5, by decide⟩,
   ⟨{ wUp with safety := { wUp.safety with alarms := 1 } }, by decide⟩,
   ⟨(wPow fun p => { p with wake := 4 }), by decide⟩⟩

theorem test_witness_WakeSequenceEnds :
    (∃ (s : State), s.power.wakeSeq = true ∧ s.host.heldAcc = none ∧ s.legacy.waiting = none ∧ (s.power.busrdy = true ∨
      s.power.st = PowerState.sleep)) ∧
    (∃ (s : State), s.power.wakeSeq = true ∧ s.host.heldAcc = none ∧ s.legacy.waiting = none ∧ s.power.vmain = true ∧
      s.power.inReset = false ∧ s.power.busrdy = false ∧ (domAvail s).getLsbD 10 = true ∧ s.power.canvasStarted.isSome =
      true) :=
  ⟨⟨(wPow fun p => { p with wakeSeq := true }), by decide⟩,
   ⟨(wPow fun p => { p with wakeSeq := true, busrdy := false }), by decide⟩⟩

theorem test_witness_HostAccesses :
    (∃ (s : State), BusOpen s ∧ s.legacy.mode = false) ∧
    (∃ (s : State) (off : Fin 48), BusOpen s ∧ s.legacy.mode = false ∧ ↑off ∈ [0, 1, 3, 6, 7, 8, 12, 17, 26, 32, 35, 37,
      45]) ∧
    (∃ (s : State), BusOpen s ∧ s.legacy.mode = false ∧ Settled s) ∧
    (∃ (s : State) (off : Fin 48), BusOpen s ∧ s.legacy.mode = false ∧ (↑off = 29 → s.host.ready = true)) ∧
    (∃ (s : State), BusOpen s ∧ s.legacy.mode = false ∧ s.host.ainc = true) ∧
    (∃ (s : State), BusOpen s ∧ s.legacy.mode = false ∧ s.host.lowHeld = none) ∧
    (∃ (s : State) (v : Half) (lo : Half) (r : PRow), BusOpen s ∧ s.legacy.mode = false ∧ s.host.lowHeld = some lo ∧
      isDefined (BitVec.toNat s.host.paddr) = true ∧ rowOf (BitVec.toNat s.host.paddr) = some r ∧ r.staged = true ∧
      isStandby s = false ∧ s.host.paddr ≠ 26634 ∧ (∀ (k : Nat), k ∈ writeKeys s r (BitVec.toNat s.host.paddr) (v ++ lo &&&
      rowMask r) → keyOk s k = true) ∧ inRange r (v ++ lo &&& rowMask r) = true ∧ s.glaze.sealed_ = false ∧
      s.glaze.set.length < 64) ∧
    (∃ (s : State) (v : Half), BusOpen s ∧ s.legacy.mode = false ∧ fld v 8 8 = 75) ∧
    (∃ (s : State) (v : Half), BusOpen s ∧ s.legacy.mode = false ∧ v ≠ s.host.hb) ∧
    (∃ (s : State), BusOpen s ∧ s.legacy.mode = false ∧ isStandby s = false ∧ s.glaze.sealed_ = false) ∧
    (∃ (s : State), BusOpen s ∧ s.legacy.mode = false ∧ isStandby s = false ∧ s.glaze.sealed_ = true) ∧
    (∃ (s : State) (v : Half), BusOpen s ∧ s.legacy.mode = false ∧ fld v 0 11 ≠ fld s.host.clientSel 0 11) ∧
    (∃ (s : State), BusOpen s ∧ s.legacy.mode = false ∧ s.host.ready = true) ∧
    (∃ (s : State) (lo : Half), BusOpen s ∧ s.legacy.mode = false ∧ s.host.clientLow = some lo ∧ 24 ≤ fld s.host.clientSel
      11 5 ∧ fld s.host.clientSel 11 5 ≤ 27) :=
  ⟨⟨wOpen, by decide⟩,
   ⟨wOpen, 45, by decide⟩,
   ⟨(wHost fun h => { h with irqStat := 0x3005 }), by decide⟩,
   ⟨(wHost fun h => { h with ready := true }), 47, by decide⟩,
   ⟨(wHost fun h => { h with ainc := true }), by decide⟩,
   ⟨wOpen, by decide⟩,
   ⟨(wKey 0 (wHost fun h => { h with lowHeld := some 5, paddr := 0x2000 })), 0, 5, wRow, by decide⟩,
   ⟨wOpen, 0x4B03, by decide⟩,
   ⟨wOpen, 5, by decide⟩,
   ⟨wOpen, by decide⟩,
   ⟨(wGl fun g => { g with sealed_ := true }), by decide⟩,
   ⟨wOpen, 5, by decide⟩,
   ⟨(wHost fun h => { h with ready := true }), by decide⟩,
   ⟨(wHost fun h => { h with clientLow := some 5, clientSel := BitVec.ofNat 16 (25 * 2048) }), 5, by decide⟩⟩

theorem test_witness_HostEvents :
    (∃ (s : State) (a : BusAcc), s.host.heldAcc = some a ∧ 11 * s.host.heldBound < 10 * (now s - s.host.heldAt)) ∧
    (∃ (s : State) (at_ : Nat) (v : Word), s.host.imm = [(at_, 4096, v)] ∧ tickPast s at_ = true) ∧
    (∃ (s : State), BusOpen s ∧ s.legacy.mode = false ∧ isStandby s = false ∧ keyOk s 0 = true) ∧
    (∃ (s : State) (at_ : Nat) (v : Word), s.host.imm = [(at_, 48, v)] ∧ tickPast s at_ = true ∧ s.glaze.svc.length < 8) ∧
    (∃ (s : State), BusOpen s ∧ s.legacy.mode = false ∧ isStandby s = false) ∧
    (∃ (s : State) (at_ : Nat) (v : Word), s.host.imm = [(at_, 47105, v)] ∧ tickPast s at_ = true ∧ s.host.op.out = [] ∧
      s.host.op.paused = false) ∧
    (∃ (s : State) (id : Nat) (k : DWord) (at_ : Nat) (rest : List (Nat × DWord × Nat)), s.host.keyDone = (id, k, at_) ::
      rest ∧ tickPast s at_ = true ∧ (keyLock s id).until_ ≤ now s ∧ tblGet (fun x => 0) s.store.keys id = k) ∧
    (∃ (s : State) (id : Nat) (k : DWord) (at_ : Nat) (rest : List (Nat × DWord × Nat)), s.host.keyDone = (id, k, at_) ::
      rest ∧ tickPast s at_ = true ∧ (keyLock s id).until_ ≤ now s ∧ tblGet (fun x => 0) s.store.keys id ≠ k) ∧
    (∃ (s : State) (k : Fin 16) (at_ : Nat), tblGet (fun x => none) s.host.keyValid (keyOfStat ↑k) = some at_ ∧ at_ + 60 *
      sec ≤ now s) ∧
    (∃ (s : State) (k : Fin 16), (keyLock s (keyOfStat ↑k)).until_ ≠ 0 ∧ (keyLock s (keyOfStat ↑k)).until_ ≤ now s) ∧
    (∃ (s : State) (at_ : Nat), s.host.snapAt = some at_ ∧ tickPast s at_ = true ∧ s.host.heldAcc = none) ∧
    (∃ (s : State) (at_ : Nat) (code : Nat), s.host.cmdGoAt = some at_ ∧ tickPast s at_ = true ∧ code = fld (tblGet (fun x
      => 0) s.host.window 24) 0 8 ∧ code ≠ 8 ∧ s.clients.queue.length < 512 ∧ cmdReason (fld s.host.clientSel 0 11) code
      (BitVec.getLsbD (tblGet (fun x => 0) s.host.window 24) 8) s = 0) ∧
    (∃ (s : State), Settled s ∧ atFrame s = true ∧ s.power.busrdy = true ∧ s.host.hbEn = true ∧ s.host.silent = false ∧
      s.host.beatAt + hostTmo s ≤ now s) ∧
    (∃ (s : State), atFrame s = true ∧ s.host.silent = true ∧ s.host.beatNew = true ∧ s.host.beatFirst < now s) :=
  ⟨⟨(wHost fun h => { h with heldAcc := some { write := false, off := 5, v := 5, ok := true } }),
     { write := false, off := 5, v := 5, ok := true }, by decide⟩,
   ⟨(wHost fun h => { h with imm := [(5, 0x1000, 3)] }), 5, 3, by decide⟩,
   ⟨(wKey 0 wUp), by decide⟩,
   ⟨(wHost fun h => { h with imm := [(5, 0x30, 3)] }), 5, 3, by decide⟩,
   ⟨wUp, by decide⟩,
   ⟨(wHost fun h => { h with imm := [(5, 0xB801, 3)] }), 5, 3, by decide⟩,
   ⟨(wHost fun h => { h with keyDone := [(3, 0, 5)] }), 3, 0, 5, [], by decide⟩,
   ⟨(wHost fun h => { h with keyDone := [(3, 1, 5)] }), 3, 1, 5, [], by decide⟩,
   ⟨(wHost fun h => { h with keyValid := [(keyOfStat 3, some 5)] }), 3, 5, by decide⟩,
   ⟨(setKeyLock (keyOfStat 3) { keyLock wUp 3 with until_ := 7 } wUp), 3, by decide⟩,
   ⟨(wHost fun h => { h with snapAt := some 5 }), 5, by decide⟩,
   ⟨(wImg2 [wEntry 0x3B 5 0 0] [] [] true (wCl (fun c => { c with words := [(0, 0x1000)] }) (wHost fun h =>
     { h with cmdGoAt := some 5, window := [(24, 2)] }))), 5, 2, by decide⟩,
   ⟨(wHost fun h => { h with hbEn := true }), by decide⟩,
   ⟨(wHost fun h => { h with silent := true, beatNew := true }), by decide⟩⟩

theorem test_witness_LongOperations :
    (∃ (s : State) (c : Instr × Nat), c ∈ [(Instr.storeWrite, 1), (Instr.storeErase, 2), (Instr.storeRead, 3),
      (Instr.canvasChunk, 4), (Instr.canvasVerify, 5), (Instr.lineSurvey, 6), (Instr.proofRun, 7), (Instr.logExport, 8),
      (Instr.clientQuery, 9), (Instr.keySet, 10)] ∧ BusOpen s ∧ s.legacy.mode = false ∧ opRefusal c.snd (List.map (fun i =>
      tblGet (fun x => 0) s.host.opArg i) (List.range 4)) s = 1) ∧
    (∃ (s : State) (c : Instr × Nat) (n : Nat), c ∈ [(Instr.storeWrite, 1), (Instr.storeErase, 2), (Instr.storeRead, 3),
      (Instr.canvasChunk, 4), (Instr.canvasVerify, 5), (Instr.lineSurvey, 6), (Instr.proofRun, 7), (Instr.logExport, 8),
      (Instr.clientQuery, 9), (Instr.keySet, 10)] ∧ BusOpen s ∧ s.legacy.mode = false ∧ n ≠ 1 ∧ opRefusal c.snd (List.map
      (fun i => tblGet (fun x => 0) s.host.opArg i) (List.range 4)) s = n) ∧
    (∃ (s : State), BusOpen s ∧ s.legacy.mode = false ∧ isStandby s = false ∧ s.host.op.st = OpState.running) ∧
    (∃ (s : State), s.host.op.st = OpState.running ∧ s.host.op.worked = false ∧ s.host.op.paused = false ∧
      s.host.op.abortReq = false ∧ atFrame s = true ∧ tickPast s s.host.op.acceptedAt = true ∧ s.host.op.legacy = false ∧
      s.host.op.code = 5) ∧
    (∃ (s : State), s.host.op.st = OpState.running ∧ s.host.op.worked = false ∧ s.host.op.paused = false ∧
      s.host.op.abortReq = false ∧ atFrame s = true ∧ tickPast s s.host.op.acceptedAt = true ∧ s.host.op.legacy = false ∧
      s.host.op.code = 2 ∧ ((opSectors s).all fun k => !isTorn s k) = true) ∧
    (∃ (s : State), s.host.op.st = OpState.running ∧ s.host.op.worked = false ∧ s.host.op.paused = false ∧
      s.host.op.abortReq = false ∧ atFrame s = true ∧ tickPast s s.host.op.acceptedAt = true ∧ s.host.op.legacy = false ∧
      s.host.op.code = 6) ∧
    (∃ (s : State), s.host.op.st = OpState.running ∧ s.host.op.worked = true ∧ s.host.op.paused = false ∧ opServed s = true
      ∧ s.host.op.code = 5 ∧ s.canvas.verBusy = false ∧ s.canvas.verCode = 0) ∧
    (∃ (s : State), s.host.op.st = OpState.running ∧ s.host.op.worked = true ∧ s.host.op.paused = false ∧ opServed s = true
      ∧ s.host.op.code = 5 ∧ s.canvas.verBusy = false ∧ s.canvas.verCode ≠ 0) ∧
    (∃ (s : State), s.host.op.st = OpState.running ∧ s.host.op.worked = true ∧ s.host.op.paused = false ∧ opServed s = true
      ∧ (s.host.op.code = 3 ∨ s.host.op.code = 8 ∨ s.host.op.code = 9) ∧ s.host.op.out = [] ∧ (s.host.op.progress ≠ 0 ∨
      s.host.op.legacy = true)) :=
  ⟨⟨(wHost fun h => { h with opArg := [(1, 3)] }), (Instr.canvasVerify, 5), by decide⟩,
   ⟨(wKey 7 { wUp with safety := { wUp.safety with alarms := 1 } }), (Instr.proofRun, 7), 7, by decide⟩,
   ⟨(wOp fun o => { o with st := .running }), by decide⟩,
   ⟨(wOp fun o => { o with st := .running, code := 5 }), by decide⟩,
   ⟨(wOp fun o => { o with st := .running, code := 2, args := [9, 1, 0, 0] }), by decide⟩,
   ⟨(wOp fun o => { o with st := .running, code := 6 }), by decide⟩,
   ⟨(wOp fun o => { o with st := .running, code := 5, worked := true }), by decide⟩,
   ⟨{ wUp with canvas := { wUp.canvas with verCode := 3 }, host := { wUp.host with op := { wUp.host.op with st := .running, code := 5, worked := true } } },
     by decide⟩,
   ⟨(wOp fun o => { o with st := .running, code := 8, worked := true, progress := 1 }), by decide⟩⟩

theorem test_witness_GlazeWindows :
    (∃ (s : State) (at_ : Nat), s.glaze.commitAt = some at_ ∧ tickPast s at_ = true ∧ s.glaze.sealed_ = false) ∧
    (∃ (s : State), windowDue s = true ∧ runDue s = s.canvas.run ∧ swapDue s = false ∧ s.glaze.svc = [] ∧ s.glaze.sealed_ =
      false ∧ s.host.heldAcc = none) ∧
    (∃ (s : State) (a : Nat) (g : Nat) (v : Word), windowDue s = true ∧ runDue s = s.canvas.run ∧ swapDue s = false ∧
      s.glaze.svc = [] ∧ s.glaze.sealed_ = true ∧ s.glaze.sealedWin ≠ some (frameNo s) ∧ s.glaze.withdrawn = false ∧
      isStandby s = false ∧ g < 8 ∧ s.glaze.set = [{ addr := a, value := v, group := g }] ∧ s.host.heldAcc = none ∧
      namesHeld s a v = false ∧ leavesConsistent [(a, v)] s = true ∧ a / 2048 = 4) ∧
    (∃ (s : State) (a : Nat) (g : Nat) (v : Word), windowDue s = true ∧ runDue s = s.canvas.run ∧ swapDue s = false ∧
      s.glaze.svc = [] ∧ s.glaze.sealed_ = true ∧ s.glaze.sealedWin ≠ some (frameNo s) ∧ s.glaze.withdrawn = false ∧
      isStandby s = false ∧ g < 8 ∧ s.glaze.set = [{ addr := a, value := v, group := g }] ∧ s.host.heldAcc = none ∧
      namesHeld s a v = true) ∧
    (∃ (s : State) (a : Nat) (g : Nat) (v : Word), windowDue s = true ∧ runDue s = s.canvas.run ∧ swapDue s = false ∧
      s.glaze.svc = [] ∧ s.glaze.sealed_ = true ∧ s.glaze.sealedWin ≠ some (frameNo s) ∧ s.glaze.withdrawn = false ∧
      isStandby s = false ∧ g < 8 ∧ s.glaze.set = [{ addr := a, value := v, group := g }] ∧ s.host.heldAcc = none ∧
      namesHeld s a v = false ∧ leavesConsistent [(a, v)] s = false) ∧
    (∃ (s : State) (g : Fin 8) (l : List Nat), List.find? (fun p => p.fst == ↑g) s.glaze.persistWait = some (↑g, l) ∧ (∀ (a
      : Nat), a ∈ l → parDurable s 0 a = true)) ∧
    (∃ (s : State) (q : Byte), s.glaze.probeActive = true ∧ atBeacon s = true ∧ s.glaze.probeBsn ≠ some (bsnNow s) ∧
      admitted s s.glaze.probeClient.toNat = true ∧ fld (par s 38950) 0 8 ≤ BitVec.toNat q ∧ s.glaze.probePassed.toNat < 3 ∧
      s.glaze.probePeriods.toNat < 15) :=
  ⟨⟨(wGl fun g => { g with commitAt := some 5 }), 5, by decide⟩,
   ⟨wGl fun g => { g with lastWin := none }, by decide⟩,
   ⟨(wGl fun g =>
     { g with lastWin := none, sealed_ := true, set := [{ addr := 4 * 2048 + 0x40, value := 5, group := 2 }] }), (4 * 2048 +
     0x40), 2, 5, by decide⟩,
   ⟨(wImg2 [] [] [BitVec.ofNat 64 (2 * 4096 + 3)] false
     { wUp with glaze := { wUp.glaze with lastWin := none, sealed_ := true, set := [{ addr := parAddr 11 3, value := 5, group := 2 }] }, canvas := { wUp.canvas with run := .emergency }, safety := { wUp.safety with held := true } }),
     (parAddr 11 3), 2, 5, by decide⟩,
   ⟨(wGl fun g =>
     { g with lastWin := none, sealed_ := true, set := [{ addr := parAddr 11 0x30, value := 0xFF, group := 2 }] }), (parAddr
     11 0x30), 2, 0xFF, by decide⟩,
   ⟨(wGl fun g => { g with persistWait := [(3, [5])] }), 3, [5], by decide⟩,
   ⟨(wCl (fun c => { c with words := [(0, 0x1000)] }) (wGl fun g => { g with probeActive := true })), 255, by decide⟩⟩

theorem test_witness_ZeroCrossingLine :
    (∃ (s : State) (tr : Fin 3) (slot : Nat) (lv : List TeethLevels) (r : Reading), r = readBody (coreTh s ↑tr) slot
      (synUsed s ↑tr) (List.drop 1 (combinedTeeth s lv)) ∧ zcReceives s = true ∧ phaseOn s ↑tr = true ∧ startMark (coreTh s
      ↑tr) (combinedTeeth s lv) = true ∧ readingOk r = true ∧ frameType r.copy.bits = 2 ∧ recordCopy s.zc.taken (frameAddr
      r.copy.bits) slot (↑tr) (16 + frameState r.copy.bits) Combine.x1 = SlotCopy.first) ∧
    (∃ (s : State) (tr : Fin 3) (slot : Nat) (n : Nat) (bits : BitVec 24) (syn : Bool) (comb : Combine), zcReceives s = true
      ∧ Option.map (fun c => c.slot) (zcTrack s ↑tr).copies.head? = some slot ∧ combineSlot (zcTrack s ↑tr).copies slot =
      some (bits, n, syn, comb) ∧ frameType bits = 2 ∧ recordCopy s.zc.taken (frameAddr bits) slot (↑tr) (16 + frameState
      bits) comb = SlotCopy.first) ∧
    (∃ (s : State) (tr : Fin 3) (core : Nat), Settled s ∧ phaseOn s ↑tr = true ∧ outputsLive s = true ∧ s.safety.run = true
      ∧ (domAvail s).getLsbD 8 = true ∧ noisyNext (List.take 8 (core :: (zcTrack s ↑tr).noise)) (zcTrack s ↑tr).noisy =
      (zcTrack s ↑tr).noisy) ∧
    (∃ (s : State) (tr : Fin 3) (f : HubFrame), Settled s ∧ (zcTrack s ↑tr).under = none ∧ (zcTrack s ↑tr).q1 = [f] ∧
      (zcTrack s ↑tr).q2 = [] ∧ f.queuedAt + fld (par s (parAddr 18 0)) 8 8 * sec < now s) ∧
    (∃ (s : State) (tr : Fin 3) (p16 : Int) (backE : Int) (backL : Int) (e : Nat) (syn : Bool), tblWf (fun x =>
      ZcTrack.blank) s.zc.tracks = true ∧ toothP s (↑tr) 0 = some p16 ∧ e = toothInstant (some ToothSend.mark) false p16 ∧
      now s ≤ e ∧ e / tickLen = tickNo s ∧ syn = burstSyn (moveTo s e) (↑tr) 0 ∧ burstMissing s backE = false ∧ burstMissing
      s backL = false ∧ toothSend s (↑tr) 0 = some ToothSend.mark ∧ toothSend (moveTo s e) (↑tr) 0 = some ToothSend.mark) ∧
    (∃ (s : State) (tr : Fin 3) (p16 : Int) (e : Nat) (syn : Bool), tblWf (fun x => ZcTrack.blank) s.zc.tracks = true ∧
      toothP s (↑tr) 0 = some p16 ∧ e = toothInstant (some ToothSend.mark) false p16 ∧ now s ≤ e ∧ e / tickLen = tickNo s ∧
      syn = burstSyn (moveTo s e) (↑tr) 0 ∧ retryDue s ↑tr = true ∧ (zcTrack s ↑tr).retryRun < 3) :=
  ⟨⟨wPars [(parAddr 18 1, 2)] wUp, 1, 13, wFes wBits, _, rfl, by decide⟩,
   ⟨wZc { ZcTrack.blank with copies := wCopies wBits }, 1, 13, 0, wBits, false, .x4, by decide⟩,
   ⟨wUp, 1, 40, by decide⟩,
   ⟨(wZc { ZcTrack.blank with q1 := [{ typ := 2, addr := 3, st := 4, queuedAt := 5, sent := 0 }] }), 1,
     { typ := 2, addr := 3, st := 4, queuedAt := 5, sent := 0 }, by decide⟩,
   ⟨wPars [(parAddr 18 0, 2), (parAddr 18 1, 0x38)] (wTeeth 31), 1, _, 200, 200, _, _, by decide, rfl, rfl, by decide, by
     decide, rfl, by decide⟩,
   ⟨wPars [(parAddr 18 0, 2), (parAddr 18 1, 0x38)] (setZc 1 { ZcTrack.blank with txFault := true, slotsSinceRetry := 64 }
     (wTeeth 31)), 1, _, _, _, by decide, rfl, rfl, by decide, by decide, rfl, by decide⟩⟩

theorem test_witness_BroadbandLine :
    (∃ (s : State), atBeacon s = true ∧ bbRuns s = true ∧ BitVec.toNat s.bb.bsn < bsnNow s) ∧
    (∃ (s : State) (k : Nat) (m : MaskSet) (rest : List (Nat × MaskSet)), atBeacon s = true ∧ s.bb.pend = (k, m) :: rest ∧ k
      ≤ bsnNow s ∧ (∀ (p : Nat × MaskSet), p ∈ rest → bsnNow s < p.fst)) ∧
    (∃ (s : State), (∀ (p : Nat × MaskSet), p ∈ s.bb.pend → bsnNow s < p.fst)) ∧
    (∃ (s : State) (id : Nat) (d : ClientRun) (r : List Nat) (b : Nat), atBeacon s = true ∧ s.clients.run = [(id, d)] ∧
      d.nextRoutes = [(r, b)] ∧ b ≤ bsnNow s) ∧
    (∃ (s : State) (id : Fin 2048), ↑id ∈ s.bb.rpt ∧ 4 ≤ (cRun s ↑id).relayMiss) ∧
    (∃ (s : State) (fe : Fin 3), (frontEnd s ↑fe).txFault = true ∧ BitVec.toNat s.bb.bsn % 64 = 0 ∧ bbRuns s = true ∧
      (frontEnd s ↑fe).retryBsn ≠ some (BitVec.toNat s.bb.bsn) ∧ (frontEnd s ↑fe).retryRun < 3) ∧
    (∃ (s : State) (fe : Fin 3), (frontEnd s ↑fe).hist = []) ∧
    (∃ (s : State) (p : Nat) (q : Position) (d : Int) (bytes : List Byte), s.bb.beacon.slots[p]? = some q ∧ q.tx < 2048 ∧
      (domAvail s).getLsbD 7 = true ∧ s.safety.run = true ∧ isStandby s = false ∧ bbRuns s = true ∧ bbRxFes s ≠ [] ∧ 0 ≤ d ∧
      d ≤ 400 ∧ reportOk true bytes = true ∧ rByte bytes 1 / 64 = 0 ∧ classOf (rByte bytes 6) = none ∧ s.proof.running =
      false) :=
  ⟨⟨wBB, by decide⟩,
   ⟨{ wUp with bb := { wUp.bb with pend := [(5, { pre := false, notch := [], gi := false })] } }, 5,
     { pre := false, notch := [], gi := false }, [], by decide⟩,
   ⟨wUp, by decide⟩,
   ⟨(wCl (fun c => { c with run := [(5, { ClientRun.blank with nextRoutes := [([7], 5)] })] }) wUp), 5,
     { ClientRun.blank with nextRoutes := [([7], 5)] }, [7], 5, by decide⟩,
   ⟨(wCl (fun c => { c with run := [(5, { ClientRun.blank with relayMiss := 5 })] })
     { wUp with bb := { wUp.bb with rpt := [5, 6] } }), 5, by decide⟩,
   ⟨(setFe 1 { frontEnd wBB 1 with txFault := true } wBB), 1, by decide⟩,
   ⟨wUp, 1, by decide⟩,
   ⟨{ wBB with bb := { wBB.bb with beacon := { wBB.bb.beacon with slots := [{ tx := 7, rx := 0 }] } } }, 0, _, 30, wRep,
     rfl, by decide⟩⟩

theorem test_witness_ClientEvents :
    (∃ (s : State), atBeacon s = true ∧ s.clients.phaseLeft ≤ 1 ∧ BitVec.toNat s.bb.bsn < bsnNow s) ∧
    (∃ (s : State) (id : Fin 2048), admitted s ↑id = true ∧ fld (par s (parAddr 20 5)) 0 13 ≤ (cRun s ↑id).silent) ∧
    (∃ (s : State) (at_ : Nat) (id : Nat), s.clients.forget = some (at_, id) ∧ tickPast s at_ = true ∧ tblWf cBlank
      s.clients.words = true) ∧
    (∃ (s : State) (at_ : Nat) (id : Nat) (v : Word) (rest : List ClientUpd), s.clients.updates =
      { tick := at_, id := id, writes := [(4, 4294967295, v)], counts := false, track := none } :: rest ∧ tickPast s at_ =
      true ∧ cFld s id 9 0 16 = 0 ∧ cFld s id 8 16 16 = 0) ∧
    (∃ (s : State), atFrame s = true) ∧
    (∃ (s : State) (id : Fin 2048) (at_ : Nat), cFld s (↑id) 0 16 2 ≠ 0 ∧ (cRun s ↑id).zcAt = some at_ ∧ at_ + fld (par s
      (parAddr 20 4)) 0 16 * sec ≤ now s ∧ tblWf cBlank s.clients.words = true) :=
  ⟨⟨wUp, by decide⟩,
   ⟨(wCl (fun c => { c with run := [(0, { ClientRun.blank with silent := 10000 })] }) wAdm), 0, by decide⟩,
   ⟨(wCl (fun c => { c with forget := some (5, 0) }) wAdm), 5, 0, by decide⟩,
   ⟨(wCl (fun c =>
     { c with updates := [{ tick := 5, id := 7, writes := [(4, 0xFFFFFFFF, 9)], counts := false, track := none }] }) wUp),
     5, 7, 9, [], by decide⟩,
   ⟨wUp, by decide⟩,
   ⟨(wCl (fun c => { c with words := [(0, 0x10000)], run := [(0, { ClientRun.blank with zcAt := some 5 })] }) wUp), 0, 5, by
     decide⟩⟩

theorem test_witness_ConvertersAndLoop :
    (∃ (s : State) (m : Fin 16) (ch : Nat) (k : Nat), tblWf (fun x => Modulator.blank) s.conv.mods = true ∧ atTick s = true
      ∧ (modulator s ↑m).want = [(ch, false, k)] ∧ k < tickNo s ∧ chInService s ch = true ∧ (modulator s ↑m).conv = none) ∧
    (∃ (s : State) (m : Fin 16) (c : Conversion), tblWf (fun x => Modulator.blank) s.conv.mods = true ∧ (modulator s
      ↑m).conv = some c ∧ c.kind = ConvKind.single ∧ lastSample c ≤ now s ∧ tblWf (fun x => ConvCh.blank) s.conv.chs = true) ∧
    (∃ (s : State) (m : Fin 16) (c : Conversion), tblWf (fun x => Modulator.blank) s.conv.mods = true ∧ (modulator s
      ↑m).conv = some c ∧ c.kind = ConvKind.test ∧ lastSample c ≤ now s ∧ tblWf (fun x => ConvCh.blank) s.conv.chs = true ∧
      inRecov s (↑m) c = false ∧ refLow s (↑m) c = false) ∧
    (∃ (s : State) (m : Fin 16) (ch : Nat), tblWf (fun x => Modulator.blank) s.conv.mods = true ∧ (modulator s ↑m).restart =
      some ch ∧ atTick s = true ∧ (modulator s ↑m).conv = none ∧ chInService s ch = true ∧ BitVec.getLsbD (chOrder s ch) 8 =
      true) ∧
    (∃ (s : State) (c : Conversion), tblWf (fun x => Modulator.blank) s.conv.mods = true ∧ (modulator s 15).conv = some c ∧
      c.kind = ConvKind.arbiter ∧ lastSample c ≤ now s) ∧
    (∃ (s : State) (m : Fin 16), (domAvail s).getLsbD 6 = true ∧ (modulator s ↑m).refSince.isSome = true ∧ (modulator s
      ↑m).conv = none ∧ (modulator s ↑m).refFault = false) ∧
    (∃ (s : State) (m : Fin 16), (domAvail s).getLsbD 6 = true ∧ (modulator s ↑m).refSince.isSome = true ∧ (modulator s
      ↑m).conv = none ∧ (modulator s ↑m).refFault = false ∧ 2 ≤ (modulator s ↑m).badRun) ∧
    (∃ (s : State) (ch : Nat) (j : Option Nat) (rest : List (Nat × Option Nat)), s.conv.arbWait = (ch, j) :: rest ∧ (∀ (k :
      Nat), k ∈ s.conv.arbAt.head? → k < tickNo s) ∧ atTick s = true ∧ isArbiter s = true ∧ (modulator s 15).conv = none ∧
      (modulator s (ch % 16)).conv = none) ∧
    (∃ (s : State), BusOpen s ∧ s.legacy.mode = false) ∧
    (∃ (s : State) (n : Fin 512) (y : Int) (out : Nat) (k : Nat), (slot s ↑n).pend = some (y, out, k) ∧ k < tickNo s ∧
      atTick s = true ∧ canvasRuns s = true ∧ laneRuns s 2 = true ∧ slotInService s ↑n = true ∧ slotDue s ↑n = true) ∧
    (∃ (s : State), BusOpen s ∧ s.legacy.mode = false ∧ isStandby s = false) ∧
    (∃ (s : State) (at_ : Nat) (v : Word), s.host.imm = [(at_, 16577, v)] ∧ tickPast s at_ = true) ∧
    (∃ (s : State) (i : Fin 32), (pent s ↑i).started = true ∧ (pent s ↑i).wait = true ∧ (pent s ↑i).left = 0) :=
  ⟨⟨(wChS 19 0x200 (wMod 3 (fun m => { m with want := [(19, false, 5)] }) wUp)), 3, 19, 5, by decide⟩,
   ⟨(wMod 3 (fun m => { m with conv := some (wC 19 .single) }) wUp), 3, (wC 19 .single), by decide⟩,
   ⟨(wMod 3 (fun m => { m with conv := some (wC 19 .test), lastGood := true, refSince := some 5 }) wUp), 3, (wC 19 .test),
     by decide⟩,
   ⟨(wChS 19 0x300 (wMod 3 (fun m => { m with restart := some 19 }) wUp)), 3, 19, by decide⟩,
   ⟨(wMod 15 (fun m => { m with conv := some (wC 19 .arbiter) }) wUp), (wC 19 .arbiter), by decide⟩,
   ⟨(wMod 3 (fun m => { m with refSince := some 5 }) wUp), 3, by decide⟩,
   ⟨(wMod 3 (fun m => { m with refSince := some 5, badRun := 2 }) wUp), 3, by decide⟩,
   ⟨(wArb (wConv (fun c => { c with arbWait := [(19, some 3)] }) wUp)), 19, (some 3), [], by decide⟩,
   ⟨wUp, by decide⟩,
   ⟨(setSlot 7 { Slot.blank with pend := some (9, 33, 5) } (wOne 0x20 2 7 (wIO 4 9) [])), 7, 9, 33, 5, by decide⟩,
   ⟨wUp, by decide⟩,
   ⟨(wHost fun h => { h with imm := [(5, 0x40C1, 3)] }), 5, 3, by decide⟩,
   ⟨(setPent 7 { Pent.blank with started := true, wait := true } wUp), 7, by decide⟩⟩

theorem test_witness_DriveEvents :
    (∃ (s : State) (m : Fin 24) (k : Nat), k < (drv s ↑m).perTick ∧ drvLive s ↑m = true ∧ (drv s ↑m).bridge = Bridge.off ∧
      (drv s ↑m).st = DrvState.idle ∧ (drv s ↑m).ocRun = [0, 0, 0]) ∧
    (∃ (s : State) (m : Fin 24) (k : Nat) (u : State), k < (drv s ↑m).perTick ∧ drvLive s ↑m = true ∧ (drv s ↑m).st =
      DrvState.ramp ∧ (drv s ↑m).raw = none ∧ u = moveIn s ((2 * k + 1) * tickLen / (2 * (drv s ↑m).perTick)) ∧ (drv s
      ↑m).lastComm + (drv s ↑m).t60 * fld (dPar s 72 ↑m) 4 5 / 60 ≤ now u) ∧
    (∃ (s : State) (m : Fin 24) (at_ : Nat), (drv s ↑m).comm = some at_ ∧ dueBy s at_ = true ∧ drvLive s ↑m = true ∧ (drv s
      ↑m).st = DrvState.run) ∧
    (∃ (s : State) (m : Fin 24), tblWf (fun x => DrvChan.blank) s.drive.chans = true ∧ (drv s ↑m).st = DrvState.run ∧ (drv s
      ↑m).wave = 0 ∧ (drv s ↑m).crossed = false ∧ dueBy s ((drv s ↑m).lastComm + (drv s ↑m).t60 * 3 / 2) = true ∧ drvLive s
      ↑m = true ∧ (drv s ↑m).misses + 1 < fld (dPar s 72 ↑m) 9 4) ∧
    (∃ (s : State) (m : Fin 24) (code : BitVec 3) (k : Nat) (k0 : Nat), tblWf (fun x => DrvChan.blank) s.drive.chans = true
      ∧ (drv s ↑m).wave = 1 ∧ drvLive s ↑m = true ∧ hallSector code = some k ∧ hallSector (drv s ↑m).hall = some k0 ∧ k =
      (k0 + 1) % 6) ∧
    (∃ (s : State) (m : Fin 24), tblWf (fun x => DrvChan.blank) s.drive.chans = true ∧ (drv s ↑m).st ≠ DrvState.off ∧
      s.power.inReset = false) ∧
    (∃ (s : State) (m : Fin 24), tblWf (fun x => DrvChan.blank) s.drive.chans = true ∧ (drv s ↑m).st = DrvState.brake ∧
      expired s ((drv s ↑m).since + 4 * sec) = true ∧ drvStep s ↑m = true ∧ (drv s ↑m).next = none) ∧
    (∃ (s : State) (m : Fin 24) (nDflt : Bool), tblWf (fun x => DrvChan.blank) s.drive.chans = true ∧ (drv s ↑m).st =
      DrvState.held ∧ nDflt = true ∧ (drv s ↑m).flt &&& heldFaults = 0 ∧ drvStep s ↑m = true ∧ (drv s ↑m).next = none) ∧
    (∃ (s : State) (m : Fin 24), (drv s ↑m).speedAt + 250 * ms ≤ now s) ∧
    (∃ (s : State) (m : Fin 24), cmdClassOf s ↑m = 1 ∧ canvasRuns s = true ∧ edgeFrom s ↑m + 50 * ms ≤ now s) ∧
    (∃ (s : State) (m : Fin 24) (started : Nat), fld (cPar s 0 ↑m) 2 3 = 3 ∧ canvasRuns s = true ∧ (drv s ↑m).cmdin.det = 3
      ∧ s.power.canvasStarted = some started ∧ started + 100 * ms ≤ now s) ∧
    (∃ (s : State) (m : Fin 24), drvStep s ↑m = true ∧ (drv s ↑m).next = none ∧ (drv s ↑m).st = DrvState.catching ∧ expired
      s ((drv s ↑m).since + 48 * ms) = true ∧ motion (drv s ↑m) = none ∧ (drv s ↑m).wave = 0) ∧
    (∃ (s : State) (m : Fin 24), drvStep s ↑m = true ∧ (drv s ↑m).next = none ∧ (drv s ↑m).st = DrvState.brake ∧ expired s
      ((drv s ↑m).curCross + 400000000 * 20 / (6 * max (ratedOf s ↑m) 1)) = true ∧ (drv s ↑m).wave = 2) ∧
    (∃ (s : State) (m : Fin 24), drvStep s ↑m = true ∧ (drv s ↑m).next = none ∧ (drv s ↑m).st = DrvState.align ∧ expired s
      ((drv s ↑m).since + fld (dPar s 96 ↑m) 16 16 * ms) = true ∧ (drv s ↑m).wave ≠ 2) ∧
    (∃ (s : State) (m : Fin 24), drvStep s ↑m = true ∧ (drv s ↑m).next = none ∧ (drv s ↑m).st = DrvState.ramp ∧ expired s
      ((drv s ↑m).since + fld (dPar s 120 ↑m) 16 16 * ms) = true ∧ fld (dPar s 144 ↑m) 16 4 ≤ (drv s ↑m).validAtTick) ∧
    (∃ (s : State) (m : Fin 24), drvStep s ↑m = true ∧ (drv s ↑m).next = none ∧ (drv s ↑m).st = DrvState.ramp ∧ expired s
      ((drv s ↑m).since + (fld (dPar s 120 ↑m) 16 16 * ms + fld (dPar s 144 ↑m) 20 12 * ms)) = true ∧ (drv s ↑m).retry + 1 ≤
      fld (dPar s 192 ↑m) 20 3) ∧
    (∃ (s : State) (m : Fin 24), drvStep s ↑m = true ∧ (drv s ↑m).next = none ∧ (drv s ↑m).st = DrvState.kick ∧ (drv s
      ↑m).listening = false ∧ expired s ((drv s ↑m).lastComm + fld (dPar s 192 ↑m) 0 8 * 4000) = true) ∧
    (∃ (s : State) (m : Fin 24), drvStep s ↑m = true ∧ (drv s ↑m).next = none ∧ (drv s ↑m).st = DrvState.kick ∧ (drv s
      ↑m).listening = true ∧ (drv s ↑m).hitAtTick = none ∧ (drv s ↑m).failedAtTick = false ∧ expired s ((drv s ↑m).lastComm
      + fld (dPar s 192 ↑m) 8 8 * ms) = true ∧ (drv s ↑m).pulse + 1 < fld (dPar s 192 ↑m) 16 4) ∧
    (∃ (s : State) (m : Fin 24), drvStep s ↑m = true ∧ (drv s ↑m).next = none ∧ (drv s ↑m).st = DrvState.pause ∧ expired s
      ((drv s ↑m).since + fld (dPar s 192 ↑m) 24 8 * 100 * ms) = true) ∧
    (∃ (s : State) (m : Fin 24), (drv s ↑m).st = DrvState.run ∧ expired s ((drv s ↑m).since + 10 * sec) = true ∧ drvStep s
      ↑m = true) :=
  ⟨⟨(wDrv { dB with st := .idle }), 5, 0, by decide⟩,
   ⟨(wDrv { dB with st := .ramp }), 5, 2, (moveIn (wDrv { dB with st := .ramp }) (5 * 5000 / 6)), by decide +kernel⟩,
   ⟨(wDrv { dB with st := .run, comm := some (wE + 700) }), 5, (wE + 700), by decide⟩,
   ⟨(wPars [(parAddr 9 (0x48 + 5), 0x1E00)] (wDrv { dB with st := .run })), 5, by decide⟩,
   ⟨(wDrv { dB with st := .run, cfg := 0x14001111, hall := 0b101 }), 5, 0b100, 1, 0, by decide⟩,
   ⟨(wDrv { dB with st := .run }), 5, by decide⟩,
   ⟨(wDrv { dB with st := .brake }), 5, by decide⟩,
   ⟨(wDrv { dB with st := .held }), 5, true, by decide⟩,
   ⟨(wDrv { dB with st := .held }), 5, by decide⟩,
   ⟨(wPars [(parAddr 10 5, 4)] (wDrv { dB with st := .held })), 5, by decide⟩,
   ⟨(wPars [(parAddr 10 5, 12)] (wDrv { dB with st := .held })), 5, 0, by decide⟩,
   ⟨(wDrv { dB with st := .catching }), 5, by decide⟩,
   ⟨(wDrv { dB with st := .brake, cfg := 0x14001112 }), 5, by decide⟩,
   ⟨(wDrv { dB with st := .align }), 5, by decide⟩,
   ⟨(wDrv { dB with st := .ramp, validAtTick := 15 }), 5, by decide⟩,
   ⟨(wDrv { dB with st := .ramp }), 5, by decide⟩,
   ⟨(wDrv { dB with st := .kick }), 5, by decide⟩,
   ⟨(wDrv { dB with st := .kick, listening := true }), 5, by decide⟩,
   ⟨(wDrv { dB with st := .pause }), 5, by decide⟩,
   ⟨(wDrv { dB with st := .run, retry := 3 }), 5, by decide⟩⟩

theorem test_witness_FansAndLoads :
    (∃ (s : State) (f : Fin 48), fanMotor s ↑f = none) ∧
    (∃ (s : State) (f : Fin 48) (lt : LineTest), (fan s ↑f).test = some lt ∧ (fan s ↑f).st = FanState.test ∧ lt.phase = 0 ∧
      lt.at_ + ms < (tickNo s + 1) * tickLen) ∧
    (∃ (s : State) (f : Fin 48), (fan s ↑f).st = FanState.wait ∧ (fan s ↑f).next = none ∧ expired s ((fan s ↑f).since +
      tRetry s ↑f) = true ∧ fanStep s ↑f = true ∧ (fan s ↑f).attempts ≤ nRetry s ↑f) ∧
    (∃ (s : State) (f : Fin 48), (fan s ↑f).st = FanState.run ∧ expired s ((fan s ↑f).since + 60 * sec) = true ∧ fanStep s
      ↑f = true) ∧
    (∃ (s : State) (f : Fin 48), (fan s ↑f).st = FanState.blocked ∧ (fan s ↑f).etgt = 0 ∧ fanStep s ↑f = true ∧ (fan s
      ↑f).next = none) ∧
    (∃ (s : State) (f : Fin 48), tblWf (fun x => Fan.blank) s.fans.chans = true ∧ (fan s ↑f).next = none ∧ fanMotor s ↑f =
      none ∧ fanStep s ↑f = true ∧ (fan s ↑f).st = FanState.start ∧ (∀ (e : Nat), e ∈ edgesBy s (↑f) (tickStart s) → e <
      (fan s ↑f).since) ∧ expired s ((fan s ↑f).since + tStart s ↑f) = true) ∧
    (∃ (s : State) (f : Fin 48), tblWf (fun x => Fan.blank) s.fans.chans = true ∧ (fan s ↑f).next = none ∧ fanMotor s ↑f =
      none ∧ fanStep s ↑f = true ∧ (fan s ↑f).st = FanState.run ∧ (fan s ↑f).edges = [] ∧ expired s ((fan s ↑f).since +
      tStall s ↑f) = true ∧ 0 < fanOut s ↑f) ∧
    (∃ (s : State) (at_ : Nat), s.pads.cycleStart = some at_ ∧ at_ + intervalEnd s.pads.interval < (tickNo s + 1) * tickLen) ∧
    (∃ (s : State) (k : Fin 4) (e : Nat), Settled s ∧ (sounder s ↑k).chirpEnd = some e ∧ e < (tickNo s + 1) * tickLen) ∧
    (∃ (s : State) (k : Fin 4) (e : Nat), Settled s ∧ (sounder s ↑k).chirpEnd = some e ∧ (sounder s ↑k).chirpProof = true ∧
      e - 20 * ms < (tickNo s + 1) * tickLen) ∧
    (∃ (s : State) (n : Fin 36) (flag : Fin 4), Settled s ∧ loadSup s ↑n = true ∧ loadSeen s ↑n = true ∧ loadState s ↑n
      ↑flag = true ∧ (loadDiag s ↑n).flags.getLsbD ↑flag = false ∧ loadTimed s ↑n ↑flag = true ∧ tblGet (fun x => 0)
      s.pads.lastSwitch ↑n + (20 * ms + loadTime ↑flag) ≤ now s) ∧
    (∃ (s : State) (n : Fin 36) (flag : Fin 4), Settled s ∧ loadSeen s ↑n = true ∧ loadState s ↑n ↑flag = true ∧ (loadDiag s
      ↑n).flags.getLsbD ↑flag = true ∧ tblGet (fun x => 0) s.pads.lastSwitch ↑n + sec ≤ now s) :=
  ⟨⟨wUp, 5, by decide⟩,
   ⟨(wFan { fB with st := .test, test := some { phase := 0, at_ := 5, low := false, high := false } }), 5,
     { phase := 0, at_ := 5, low := false, high := false }, by decide⟩,
   ⟨(wFan { fB with st := .wait }), 5, by decide⟩,
   ⟨(wFan { fB with st := .run }), 5, by decide⟩,
   ⟨(wFan { fB with st := .blocked }), 5, by decide⟩,
   ⟨(wFan { fB with st := .start }), 5, by decide⟩,
   ⟨(wFan { fB with st := .run, duty := 7 }), 5, by decide⟩,
   ⟨{ wUp with pads := { wUp.pads with cycleStart := some (wE - 500 * ms) } }, (wE - 500 * ms), by decide⟩,
   ⟨{ wUp with pads := { wUp.pads with snd := [(2, { Sounder.blank with chirpEnd := some (wE + 7) })] } }, 2, (wE + 7), by
     decide⟩,
   ⟨{ wUp with pads := { wUp.pads with snd := [(2, { Sounder.blank with chirpEnd := some (wE + 7), chirpProof := true })] } },
     2, (wE + 7), by decide⟩,
   ⟨(wPars [(parAddr 12 5, 1)] wUp), 5, 0, by decide⟩,
   ⟨{ wUp with fans := { resetFans with loads := [(5, { LoadDiag.blank with flags := 1 })] } }, 5, 0, by decide⟩⟩

theorem test_witness_StoreEvents :
    (∃ (s : State) (page : BitVec 13) (reg : BitVec 2) (pg : Nat), BusOpen s ∧ s.legacy.mode = false ∧ isStandby s = false ∧
      keyOk s (writeKey reg.toNat) = true ∧ storeOp s = false ∧ pageOf reg.toNat page.toNat = some pg ∧ hostSector (pg / 64)
      = true ∧ isTorn s (pg / 64) = false ∧ pageBlank s.mem pg = true) ∧
    (∃ (s : State) (page : BitVec 13) (reg : BitVec 2) (pg : Nat), BusOpen s ∧ s.legacy.mode = false ∧ isStandby s = false ∧
      keyOk s (writeKey reg.toNat) = true ∧ storeOp s = false ∧ pageOf reg.toNat page.toNat = some pg ∧ hostSector (pg / 64)
      = true ∧ isTorn s (pg / 64) = false ∧ pageBlank s.mem pg = true ∧ s.power.holdLow = false ∧ s.store.pages = []) ∧
    (∃ (s : State) (page : BitVec 13) (reg : BitVec 2) (pg : Nat), BusOpen s ∧ s.legacy.mode = false ∧ isStandby s = false ∧
      keyOk s (writeKey reg.toNat) = true ∧ storeOp s = false ∧ pageOf reg.toNat page.toNat = some pg ∧ hostSector (pg / 64)
      = true ∧ isTorn s (pg / 64) = false ∧ s.store.jPos ≤ 496) ∧
    (∃ (s : State) (k : Nat) (u : Nat), s.store.erasing = some k ∧ k < 128 ∧ 2 ≤ k ∧ s.store.jPos ≤ 496 ∧ s.host.dctlUntil =
      some u ∧ u ≤ tickNo s) ∧
    (∃ (s : State) (k : Nat) (u : Nat) (a : Nat), s.store.erasing = some k ∧ k < 128 ∧ 2 ≤ k ∧ s.store.jPos ≤ 496 ∧
      s.host.dctlUntil = some u ∧ u ≤ tickNo s ∧ sectorBase k ≤ a ∧ a < sectorBase k + 4096) ∧
    (∃ (s : State), BusOpen s ∧ s.legacy.mode = false ∧ isStandby s = false) ∧
    (∃ (s : State) (at_ : Nat) (v : Word), s.host.imm = [(at_, parAddr 13 30, v)] ∧ tickPast s at_ = true ∧ BitVec.getLsbD v
      31 = true) ∧
    (∃ (s : State) (p : HostPage) (rest : List HostPage), arrayFree s = true ∧ s.store.logQ = [] ∧ s.store.parQ = [] ∧
      s.store.pages = p :: rest ∧ isTorn s (p.page / 64) = false) ∧
    (∃ (s : State) (r : ParRec) (rest : List ParRec), arrayFree s = true ∧ s.store.logQ = [] ∧ s.store.parQ = r :: rest ∧
      s.store.pages = [] ∧ parFull s = false ∧ parFree s = true) ∧
    (∃ (s : State), arrayFree s = true ∧ (∀ (i : Nat), i < 10 → isTorn s (91 + i) = false) ∧ s.store.jPos ≤ 496 ∧
      s.store.ckAt + fld (par s (parAddr 13 6)) 0 5 * 3600 * sec ≤ now s) ∧
    (∃ (s : State) (d : Dump), List.find? (dumpUsedUp s) s.store.dumps = some d ∧ arrayFree s = true ∧ s.store.jPos ≤ 496) ∧
    (∃ (s : State), scanGoes s = true ∧ s.store.scan = false ∧ s.proof.running = false ∧ s.store.scanAt + 8 * 86400 * sec ≤
      now s) ∧
    (∃ (s : State) (sec_ : Fin 128), scanGoes s = true ∧ s.store.scan = true ∧ ↑sec_ ≠ 2 ∧ weakSector s ↑sec_ = true ∧
      isTorn s ↑sec_ = false ∧ s.store.jPos ≤ 496) ∧
    (∃ (s : State), scanGoes s = true ∧ s.store.scan = true) ∧
    (∃ (s : State), s.store.ready = false ∧ (domAvail s).getLsbD 9 = true ∧ (domAvail s).getLsbD 1 = true ∧ s.power.vmain =
      true ∧ s.power.inReset = false ∧ s.power.flushing = false) ∧
    (∃ (s : State) (sec_ : Fin 128), s.store.ready = true ∧ isTorn s ↑sec_ = true ∧ (domAvail s).getLsbD 9 = true ∧
      s.store.jPos ≤ 496) :=
  ⟨⟨(wKey (writeKey 0) wUp), 197, 0, 389, by decide⟩,
   ⟨(wKey (writeKey 0) wUp), 197, 0, 389, by decide⟩,
   ⟨{ wKey (writeKey 0) wUp with mem := memWriteWords [] (sectorBase 6) [1, 2, 3] }, 197, 0, 389, by decide⟩,
   ⟨{ wUp with store := { wUp.store with erasing := some 6 }, host := { wUp.host with dctlUntil := some 5 } }, 6, 5, by
     decide⟩,
   ⟨{ wUp with store := { wUp.store with erasing := some 6 }, host := { wUp.host with dctlUntil := some 5 } }, 6, 5,
     (sectorBase 6 + 5), by decide⟩,
   ⟨wUp, by decide⟩,
   ⟨(wHost fun h => { h with imm := [(5, parAddr 13 0x1E, 0x80000003)] }), 5, 0x80000003, by decide⟩,
   ⟨(wSt fun x => { x with pages := [{ ord := 0, page := 800, data := [1, 2, 3] }] }),
     { ord := 0, page := 800, data := [1, 2, 3] }, [], by decide⟩,
   ⟨(wSt fun x => { x with parQ := [{ ord := 0, cls := 0, item := 5, value := 7 }] }),
     { ord := 0, cls := 0, item := 5, value := 7 }, [], by decide⟩,
   ⟨wUp, by decide⟩,
   ⟨(wSt fun x => { x with dumps := [{ area := true, rows := 0, survived := true, ord := 0 }] }), _, rfl, by decide⟩,
   ⟨wUp, by decide⟩,
   ⟨(wSt fun x => { x with scan := true, flaws := [(5 * 512, 3)] }), 5, by decide⟩,
   ⟨(wSt fun x => { x with scan := true }), by decide⟩,
   ⟨(wSt fun x => { x with ready := false }), by decide⟩,
   ⟨(wSt fun x => { x with torn := [(17, 2)] }), 17, by decide⟩⟩

theorem test_witness_MirrorRecords :
    (∃ (s : State), isStandby s = true) ∧
    (∃ (s : State), isStandby s = true ∧ s.mirror.xfer = true) ∧
    (∃ (s : State), s.mirror.pair = true) ∧
    (∃ (s : State) (seq : Byte) (r : LinkRec), List.find? (fun r => r.seq == seq) s.mirror.unacked = some r ∧ r.resends < 3) :=
  ⟨⟨(wSby id), by decide⟩,
   ⟨(wSby fun m => { m with xfer := true }), by decide⟩,
   ⟨(wMi id), by decide⟩,
   ⟨(wMi fun m => { m with unacked := [{ typ := 3, seq := 7, resends := 1 }] }), 7, { typ := 3, seq := 7, resends := 1 }, by
     decide⟩⟩

theorem test_witness_MirrorEvents :
    (∃ (s : State) (m : Image), s.canvas.image = some m ∧ m.crc = s.mirror.pImgCrc ∧ atHyper s = true ∧ s.mirror.pair = true
      ∧ s.mirror.role = Role.primary ∧ s.mirror.xferReq = true ∧ s.mirror.askedAt < now s ∧ s.mirror.tlock = true ∧
      s.mirror.linkUp = true ∧ s.mirror.xfer = false) ∧
    (∃ (s : State), isStandby s = true ∧ s.mirror.xferCheck = true) ∧
    (∃ (s : State), isStandby s = true ∧ atFrame s = true ∧ s.mirror.xfer = false ∧ inputsAll s (frameNo s - 1) = true) ∧
    (∃ (s : State) (x : Summary) (r : Nat × Word × List Word × Bool), isStandby s = true ∧ atTick s = true ∧ List.findSome?
      (fun x => Option.map (fun r => (x, r)) (List.find? (fun r => r.fst == x.frame) s.mirror.results)) s.mirror.summaries =
      some (x, r) ∧ judged s x.frame = true ∧ x.digest ≠ r.snd.fst) ∧
    (∃ (s : State) (r : Nat × Word × List Word × Bool), isStandby s = true ∧ List.find? (fun r => decide (r.fst + 3 ≤
      frameNo s)) s.mirror.results = some r ∧ judged s r.fst = true) ∧
    (∃ (s : State), isStandby s = true ∧ s.mirror.lastRec + 256 ≤ tickNo s ∧ s.sys.tier = 2 ∧ s.mirror.trig = none) ∧
    (∃ (s : State) (phase : Int), isStandby s = true ∧ phase.natAbs ≤ 1000) ∧
    (∃ (s : State) (phase : Int), isStandby s = true ∧ 5000 < phase.natAbs) ∧
    (∃ (s : State) (trig : Nat × Bool × Bool), isStandby s = true ∧ atFrame s = true ∧ frameNo s % 2 = 1 ∧ s.mirror.pair =
      true ∧ s.mirror.trig = some trig ∧ s.mirror.trigAt < now s ∧ s.sys.tier = 2) ∧
    (∃ (s : State) (b : Nat), s.mirror.b1 = some b ∧ atFrame s = true ∧ s.mirror.role = Role.taking ∧ frameNo s = b + 1) ∧
    (∃ (s : State), BusOpen s ∧ s.legacy.mode = false ∧ keyOk s 6 = true ∧ partnerSeen s = true ∧ (s.mirror.role =
      Role.primary ∨ s.mirror.role = Role.standby) ∧ s.mirror.inStep = true ∧ s.mirror.tlock = true ∧ s.mirror.trig = none) ∧
    (∃ (s : State), BusOpen s ∧ s.legacy.mode = false ∧ keyOk s 6 = true ∧ partnerSeen s = true ∧ (s.mirror.role =
      Role.primary ∨ s.mirror.role = Role.standby)) ∧
    (∃ (s : State) (started : Nat), s.mirror.pair = true ∧ s.mirror.role = Role.none_ ∧ s.mirror.mside = false ∧
      s.power.canvasStarted = some started ∧ s.power.origin + 400 * ms ≤ now s) ∧
    (∃ (s : State), atFrame s = true ∧ frameNo s % 2 = 1 ∧ s.mirror.role = Role.primary ∧ s.mirror.pRole = 1) ∧
    (∃ (s : State) (lowFor : Nat), s.mirror.mside = true ∧ sec ≤ lowFor ∧ s.pads.cycleStart.isSome = true) :=
  ⟨⟨{ wMi (fun m => { m with role := .primary, xferReq := true, tlock := true, linkUp := true, pImgCrc := 0 }) with canvas := { wUp.canvas with image := some (wImage [] []) } },
     (wImage [] []), by decide⟩,
   ⟨(wSby fun m => { m with xferCheck := true }), by decide⟩,
   ⟨(wSby fun m => { m with inputs := (List.range 128).map fun k => (128 * (frameNo wUp - 1) + k, [(1 : Word)]) }), by
     decide⟩,
   ⟨(wSby fun m =>
     { m with inStep := true, summaries := [{ frame := 9, digest := 3, state := [], err := false }], results := [(9, 4, [], false)] }),
     { frame := 9, digest := 3, state := [], err := false }, (9, 4, [], false), by decide⟩,
   ⟨(wSby fun m => { m with inStep := true, results := [(9, 4, [], false)] }), (9, 4, [], false), by decide⟩,
   ⟨(wSby id), by decide⟩,
   ⟨(wSby id), 700, by decide⟩,
   ⟨(wSby id), 7000, by decide⟩,
   ⟨(wOdd (wSby fun m => { m with trig := some (1, false, true) })), (1, false, true), by decide⟩,
   ⟨(wMi fun m => { m with role := .taking, b1 := some (frameNo wUp - 1) }), (frameNo wUp - 1), by decide⟩,
   ⟨(wKey 6 (wMi fun m => { m with role := .primary, linkUp := true, inStep := true, tlock := true })), by decide⟩,
   ⟨(wKey 6 (wMi fun m => { m with role := .primary, linkUp := true })), by decide⟩,
   ⟨(wMi id), 0, by decide⟩,
   ⟨(wOdd (wMi fun m => { m with role := .primary, pRole := 1 })), by decide⟩,
   ⟨{ wMi (fun m => { m with mside := true }) with pads := { wUp.pads with cycleStart := some 5 } }, (2 * sec), by decide⟩⟩

theorem test_witness_ProofAndField :
    (∃ (s : State), s.proof.due.isSome = true ∧ s.proof.running = false ∧ s.sys.tier = 2 ∧ anyAlarm s = false ∧ s.host.op.st
      ≠ OpState.running ∧ isStandby s = false) ∧
    (∃ (s : State) (at_ : Nat), Settled s ∧ s.proof.due = some at_ ∧ s.proof.postponed = true ∧ at_ + 86400 * sec ≤ now s) ∧
    (∃ (s : State) (n : Fin 16), stepUnderWay s 0 = true ∧ recEn s.gesso.record ↑n = true ∧ (gSen s ↑n).band = Band.normal ∧
      5 ≤ recAdw s.gesso.record ↑n ∧ 120 ≤ minorOf (now s) ∧ s.proof.inj = [] ∧ s.proof.injDone.contains ↑n = false) ∧
    (∃ (s : State) (fe : Fin 3) (second : Bool), stepUnderWay s 0 = true ∧ frameDue s (↑fe) second = true ∧ hubWon s ↑fe =
      true) ∧
    (∃ (s : State) (id : Fin 2048) (at_ : Nat), s.proof.stepAt = some at_ ∧ stepUnderWay s 7 = true ∧ ↑id ∈ s.proof.heads ∧
      at_ + fld (par s 32769) 4 12 * sec ≤ now s) ∧
    (∃ (s : State), s.proof.step < 7 ∧ stepUnderWay s s.proof.step = true ∧ stepComplete s = true ∧ s.proof.mask =
      BitVec.ofNat 8 (2 ^ s.proof.step)) ∧
    (∃ (s : State), s.proof.running = true ∧ s.proof.mask = 0 ∧ s.host.op.out = [] ∧ s.host.op.paused = false ∧ opServed s =
      true) ∧
    (∃ (s : State) (c : Nat), Settled s ∧ atFrame s = true ∧ s.evt.changed = [c]) ∧
    (∃ (s : State) (at_ : Nat) (v : DWord), Settled s ∧ s.evt.clr = [(at_, v)] ∧ tickPast s at_ = true) ∧
    (∃ (s : State), s.power.vmain = true ∧ ringScans s = true) ∧
    (∃ (s : State) (b : Fin 444) (c : Fin 8), tblGet (fun x => 0) (ball s ↑b).pres ↑c = 100 ∧ (ball s ↑b).holds.getLsbD ↑c =
      false) ∧
    (∃ (s : State) (b : Fin 444) (c : Fin 8), tblGet (fun x => 0) (ball s ↑b).abs_ ↑c = 1000 ∧ (ball s ↑b).holds.getLsbD ↑c
      = true) ∧
    (∃ (s : State) (n : Fin 16) (mv : Nat), BitVec.getLsbD (par s 43008) 1 = true ∧ s.gesso.armed = true ∧ s.gesso.rlBusy =
      false ∧ s.power.st ≠ PowerState.vigil ∧ recEn s.gesso.record ↑n = true ∧ (gSen s ↑n).band = Band.opened ∧ s.proof.inj
      = [] ∧ probeDue s ↑n = true ∧ bandAt (countTh s.gesso.record ↑n fun t => decide (t ≤ mv)) = Band.normal ∧ tblGet (fun
      x => 0) s.field.probeRun ↑n = 2) ∧
    (∃ (s : State) (n : Fin 16) (mv : Nat), BitVec.getLsbD (par s 43008) 1 = true ∧ s.gesso.armed = true ∧ s.gesso.rlBusy =
      false ∧ s.power.st ≠ PowerState.vigil ∧ recEn s.gesso.record ↑n = true ∧ (gSen s ↑n).band = Band.opened ∧ s.proof.inj
      = [] ∧ probeDue s ↑n = true ∧ bandAt (countTh s.gesso.record ↑n fun t => decide (t ≤ mv)) = Band.normal ∧ tblGet (fun
      x => 0) s.field.probeRun ↑n < 2) :=
  ⟨⟨(wPr (fun p => { p with due := some 5 }) wUp), by decide⟩,
   ⟨(wPr (fun p => { p with due := some 5, postponed := true }) wUp), 5, by decide⟩,
   ⟨(wRec [(32 + 3, 1), (16 + 3, 0x640064)] (wPr (fun p => { p with running := true, step := 0, stepAt := some 5 }) (wSen 3
     (fun d => { d with band := .normal }) wPm))), 3, by decide⟩,
   ⟨(wRec [(68, 0xF)] (wPr (fun p => { p with running := true, step := 0, stepAt := some 5 }) (setZc 1
     { ZcTrack.blank with injMarked := true, injSlot := some (zcSlot wUp 1) } wUp))), 1, false, by decide⟩,
   ⟨(wPr (fun p => { p with running := true, step := 7, stepAt := some 5, heads := [9, 12] }) wUp), 12, 5, by decide⟩,
   ⟨(wPr (fun p => { p with running := true, step := 1, stepAt := some 5, mask := 2 }) wUp), by decide⟩,
   ⟨(wPr (fun p => { p with running := true, fail := 3 }) wUp), by decide⟩,
   ⟨{ wUp with evt := { wUp.evt with changed := [9], live := [(9, 5)] } }, 9, by decide⟩,
   ⟨{ wUp with evt := { wUp.evt with clr := [(5, 0x200)], live := [(9, 5), (11, 4)] } }, 5, 0x200, by decide⟩,
   ⟨{ wPars [(0xA800, 1)] wUp with field := { wUp.field with scanAt := some 5 } }, by decide⟩,
   ⟨{ wUp with field := { wUp.field with balls := [(9, { Ball.blank with pres := [(3, 100)] })] } }, 9, 3, by decide⟩,
   ⟨{ wUp with field := { wUp.field with balls := [(9, { Ball.blank with abs_ := [(3, 1000)], holds := 0xFF })] } }, 9, 3,
     by decide⟩,
   ⟨{ wRec [(32 + 3, 1), (3, 0x00C86432)] (wPars [(0xA800, 2)] (wSen 3 (fun d => { d with band := .opened }) wUp)) with field := { wUp.field with probeRun := [(3, 2)] } },
     3, 1800, by decide⟩,
   ⟨(wRec [(32 + 3, 1), (3, 0x00C86432)] (wPars [(0xA800, 2)] (wSen 3 (fun d => { d with band := .opened }) wUp))), 3, 1800,
     by decide⟩⟩

theorem test_witness_LegacyWindow :
    (∃ (s : State), BusOpen s ∧ s.legacy.mode = true) ∧
    (∃ (s : State) (off : Fin 32) (p : Nat × Nat), BusOpen s ∧ s.legacy.mode = true ∧ p ∈ [(14, 0), (18, 0), (20, 0), (21,
      1), (22, 2)] ∧ ↑off = p.fst) ∧
    (∃ (s : State), BusOpen s ∧ s.legacy.mode = true ∧ s.legacy.queue.length < 8) ∧
    (∃ (s : State), BusOpen s ∧ s.legacy.mode = true ∧ 8 ≤ s.legacy.queue.length) ∧
    (∃ (s : State), BusOpen s ∧ s.legacy.mode = true ∧ s.legacy.ackAt = none) ∧
    (∃ (s : State) (b : Byte) (at_ : Nat), BusOpen s ∧ s.legacy.mode = true ∧ s.legacy.ackAt = some (at_, false) ∧ now s ≤
      at_ + ms ∧ b ∈ [165, 195, 150] ∧ isStandby s = false) ∧
    (∃ (s : State) (b : Byte), BusOpen s ∧ s.legacy.mode = true ∧ cmdReason (BitVec.toNat s.legacy.client) (BitVec.toNat b)
      (!admitted s (BitVec.toNat s.legacy.client)) s = 0 ∧ BitVec.toNat b ≠ 8 ∧ s.clients.queue.length < 512) ∧
    (∃ (s : State) (c : Instr × Nat), BusOpen s ∧ s.legacy.mode = true ∧ c ∈ [(Instr.legacyLogRead, 8), (Instr.legacyProof,
      7), (Instr.clientScan, 9)] ∧ legacyOpFree c.snd s = true) ∧
    (∃ (s : State), BusOpen s ∧ s.legacy.mode = true ∧ s.host.op.st = OpState.running ∧ isStandby s = false) ∧
    (∃ (s : State), BusOpen s ∧ s.legacy.mode = true ∧ Settled s) ∧
    (∃ (s : State) (f : Nat) (rpm : Nat) (rest : List LegWrite), s.legacy.mode = true ∧ atFrame s = true ∧ s.power.origin +
      400 * ms ≤ now s ∧ s.power.vmain = true ∧ s.power.inReset = false ∧ s.legacy.lastFrame ≠ some (frameNo s) ∧ runDue s =
      s.canvas.run ∧ swapDue s = false ∧ s.legacy.waiting = none ∧ s.legacy.queue = LegWrite.fan f rpm :: rest ∧ isStandby s
      = false ∧ emergencyHolds s 2 f = false) ∧
    (∃ (s : State) (at_ : Nat) (broken : Bool), s.legacy.ackAt = some (at_, broken) ∧ at_ + ms < now s) :=
  ⟨⟨(wLg id), by decide⟩,
   ⟨(wLg id), 0x16, (0x16, 2), by decide⟩,
   ⟨(wLg id), by decide⟩,
   ⟨(wLg fun l => { l with queue := List.replicate 8 (.fan 1 2) }), by decide⟩,
   ⟨(wLg id), by decide⟩,
   ⟨(wLg fun l => { l with ackAt := some (wE, false) }), 0xA5, wE, by decide⟩,
   ⟨(wImg2 [wEntry 0x3B 5 0 0] [] [] true (wCl (fun c => { c with words := [(0, 0x1000)] }) (wLg id))), 2, by decide⟩,
   ⟨(wLg id), (Instr.clientScan, 9), by decide⟩,
   ⟨(wLop .running), by decide⟩,
   ⟨(wLg id), by decide⟩,
   ⟨(wLg fun l => { l with queue := [.fan 5 900] }), 5, 900, [], by decide⟩,
   ⟨(wLg fun l => { l with ackAt := some (5, true) }), 5, true, by decide⟩⟩

end Sys2Proof.Tests
end

section
/-!
PROOFS. The tier in force against Table 01-1 (R20): what the bits of SYS.DOM_AVAIL say of the domains, when the settled tier is
at least 1 and when it is 2, and that every step leaves it settled.
-/

namespace Sys2Proof.Machine

/-- A mask is set within a word when every bit of the mask is a bit of the word. -/
theorem and_eq_mask_iff {w : Nat} (a m : BitVec w) :
    a &&& m = m ↔ ∀ i < w, m.getLsbD i = true → a.getLsbD i = true := by
  constructor
  · intro h i _ hm
    rw [← h, BitVec.getLsbD_and, Bool.and_eq_true] at hm
    exact hm.1
  · intro h
    refine BitVec.eq_of_getLsbD_eq fun i hi => ?_
    rw [BitVec.getLsbD_and]
    cases hm : m.getLsbD i with
    | false => simp
    | true => simp [h i hi hm]

/-- The mask of Tier 1's domains has the bits of G, K, S, Z and N (Table 01-1, Table 01-5). -/
theorem getLsbD_tier1Mask : ∀ i < 12, (0x30B : BitVec 12).getLsbD i = true ↔ i ∈ [0, 1, 3, 8, 9] := by decide

/-- Tier 1's mask is available when each of its five domains is. -/
theorem tier1Domains_iff (a : BitVec 12) :
    a &&& 0x30B = 0x30B ↔ ∀ d ∈ [0, 1, 3, 8, 9], a.getLsbD d = true := by
  rw [and_eq_mask_iff]
  constructor
  · intro h d hd
    have hlt : d < 12 := (by decide : ∀ d ∈ [0, 1, 3, 8, 9], d < 12) d hd
    exact h d hlt ((getLsbD_tier1Mask d hlt).2 hd)
  · exact fun h i hi hm => h i ((getLsbD_tier1Mask i hi).1 hm)

/-- SYS.DOM_AVAIL reads 0xFFF when every one of the twelve domains is available. -/
theorem allDomains_iff (a : BitVec 12) : a = 0xFFF ↔ ∀ d < 12, a.getLsbD d = true := by
  have ones : ∀ i < 12, (0xFFF : BitVec 12).getLsbD i = true := by decide
  constructor
  · rintro rfl
    exact ones
  · exact fun h => BitVec.eq_of_getLsbD_eq fun i hi => (h i hi).trans (ones i hi).symm

theorem exists_phaseOn_iff (s : State) :
    (∃ t < 3, phaseOn s t = true) ↔ phaseOn s 0 = true ∨ phaseOn s 1 = true ∨ phaseOn s 2 = true := by
  simp only [Nat.exists_lt_succ_right, Nat.not_lt_zero, false_and, exists_false, false_or, or_assoc]

theorem forall_phaseOn_iff (s : State) :
    (∀ t < 3, phaseOn s t = true) ↔ phaseOn s 0 = true ∧ phaseOn s 1 = true ∧ phaseOn s 2 = true := by
  simp only [Nat.forall_lt_succ_right, Nat.not_lt_zero, false_imp_iff, forall_const, true_and, and_assoc]

/-- With VMAIN valid, Tier 0's inputs are a sentinel input in use or a mains phase (Table 01-1). -/
theorem tier0Inputs_of_vmain {s : State} (h : s.power.vmain = true) :
    tier0Inputs s = true ↔ (∃ n < 16, recEn s.gesso.record n = true) ∨ ∃ t < 3, phaseOn s t = true := by
  simp only [tier0Inputs, h, Bool.or_true, Bool.true_and, Bool.or_eq_true, List.any_eq_true, List.mem_range, or_assoc,
    exists_phaseOn_iff]

/-- The condition under which `tierOf` answers at least 1. -/
def tier1Met (s : State) : Bool :=
  tier0Inputs s && decide (domAvail s &&& 0x30B = 0x30B) && s.power.vmain && s.power.vcore && s.power.vana && s.time.x40Ok

/-- What `tierOf` asks of Tier 2 beside Tier 1. -/
def tier2Met (s : State) : Bool :=
  decide (domAvail s = 0xFFF) && s.power.vbat && s.power.vfield && s.time.x32Run &&
    phaseOn s 0 && phaseOn s 1 && phaseOn s 2 && !s.power.starting

/-- The settled tier in its two conditions. -/
theorem tierOf_eq (s : State) : tierOf s = if tier1Met s && tier2Met s then 2 else if tier1Met s then 1 else 0 := by
  simp only [tierOf, tier1Met, tier2Met, Bool.and_assoc]

theorem tier1Met_iff (s : State) : tier1Met s = true ↔ Tier1Inputs s := by
  simp only [tier1Met, Tier1Inputs, Bool.and_eq_true, decide_eq_true_eq, tier1Domains_iff]
  constructor
  · rintro ⟨⟨⟨⟨⟨hin, hdom⟩, hmain⟩, hcore⟩, hana⟩, hx40⟩
    exact ⟨(tier0Inputs_of_vmain hmain).1 hin, hdom, hmain, hcore, hana, hx40⟩
  · rintro ⟨hin, hdom, hmain, hcore, hana, hx40⟩
    exact ⟨⟨⟨⟨⟨(tier0Inputs_of_vmain hmain).2 hin, hdom⟩, hmain⟩, hcore⟩, hana⟩, hx40⟩

theorem tier2Met_iff (s : State) : tier2Met s = true ↔ Tier2Inputs s := by
  simp only [tier2Met, Tier2Inputs, Bool.and_eq_true, decide_eq_true_eq, Bool.not_eq_true', allDomains_iff,
    forall_phaseOn_iff, and_assoc]

theorem tierOf_le_two (s : State) : tierOf s ≤ 2 := by
  rw [tierOf_eq]
  split
  · decide
  · split <;> decide

/-- The tier of what is available is at least 1 when Tier 1's inputs are there. -/
theorem one_le_tierOf_iff (s : State) : 1 ≤ tierOf s ↔ Tier1Inputs s := by
  rw [tierOf_eq, ← tier1Met_iff]
  cases h1 : tier1Met s with
  | false => simp
  | true => cases tier2Met s <;> simp

/-- The tier of what is available is 2 when the inputs of Tier 1 and of Tier 2 are there. -/
theorem tierOf_eq_two_iff (s : State) : tierOf s = 2 ↔ Tier1Inputs s ∧ Tier2Inputs s := by
  rw [tierOf_eq, ← tier1Met_iff, ← tier2Met_iff, ← Bool.and_eq_true]
  cases tier1Met s && tier2Met s with
  | true => simp
  | false => cases tier1Met s <;> simp

/-- The answer of every command is settled, whatever the state it was given. -/
theorem exec_settled {c : Instr} {s t : State} (h : exec c s = .next t) : Settled t := by
  obtain ⟨u, hu⟩ := exec_finish c s
  obtain ⟨t', ht', _, hs⟩ := finish_spec s u
  obtain rfl : t' = t := Host.Outcome.next.inj (ht'.symm.trans (hu.symm.trans h))
  exact hs

/-- A step keeps the tier settled: on an empty queue it idles, and a command settles it. -/
theorem step_settled {s t : State} (hs : Settled s) (h : step s = .next t) : Settled t := by
  unfold step at h
  split at h
  · exact Host.Outcome.next.inj h ▸ hs
  · exact exec_settled h

/-- Settles O4: every command decides the tier anew after its effect (`exec_finish`), and `tierOf` is Table 01-1. Tier 2's
inputs include the end of the start-up (R364), the mains phases as the tracks show them (log 9) and the running crystal (log 10),
as the model reads them. -/
theorem stepKeepsTierSettled : Obligations.StepKeepsTierSettled := by
  intro s t hs h
  have ht : Settled t := step_settled hs h
  refine ⟨ht, ?_⟩
  rw [show t.sys.tier = tierOf t from ht]
  exact ⟨tierOf_le_two t, one_le_tierOf_iff t, tierOf_eq_two_iff t⟩

end Sys2Proof.Machine
end

section
/-!
PROOFS. Gesso through the work of the other units: what each operation that a reset or a restart is made of does to domain G. Most
write nothing of Gesso; a change of tier, a chirp and the count of the safety core's answers write only what `gessoCore`
leaves out.
-/

namespace Sys2Proof.Machine

/-- A fold of steps that leave Gesso leaves it. -/
theorem foldl_gesso {α : Type} {f : State → α → State} (h : ∀ s a, (f s a).gesso = s.gesso) :
    ∀ (l : List α) (s : State), (l.foldl f s).gesso = s.gesso
  | [], _ => rfl
  | a :: r, s => by rw [List.foldl_cons, foldl_gesso h r, h]

/-! ### Reports -/

@[simp] theorem evt_gesso (src : Nat) (s : State) : (evt src s).gesso = s.gesso := rfl
@[simp] theorem logPush_gesso (code : Nat) (v : Word) (s : State) : (logPush code v s).gesso = s.gesso := by
  unfold logPush logAt; split <;> rfl
@[simp] theorem countIrq_gesso (old s : State) : (countIrq old s).gesso = s.gesso := by unfold countIrq; split <;> rfl
@[simp] theorem setLstat_gesso (b : Nat) (s : State) : (setLstat b s).gesso = s.gesso := by
  unfold setLstat; split <;> simp
@[simp] theorem setIrq_gesso (b : Nat) (s : State) : (setIrq b s).gesso = s.gesso := by
  unfold setIrq; split <;> simp
@[simp] theorem latchWake_gesso (c : Nat) (s : State) : (latchWake c s).gesso = s.gesso := by
  unfold latchWake; split <;> rfl
@[simp] theorem hubBcast_gesso (code : Nat) (s : State) : (hubBcast code s).gesso = s.gesso := by
  unfold hubBcast; split <;> rfl
@[simp] theorem chirpSettle_gesso (s : State) : (chirpSettle s).gesso = s.gesso := by unfold chirpSettle; split <;> rfl
@[simp] theorem raiseCause_gesso (code src : Nat) (event : Bool) (s : State) :
    (raiseCause code src event s).gesso = s.gesso := by
  unfold raiseCause
  dsimp only
  split
  · rfl
  · split
    · split <;> simp
    · rfl
@[simp] theorem dropCause_gesso (code src : Nat) (s : State) : (dropCause code src s).gesso = s.gesso := by
  unfold dropCause
  dsimp only
  split
  · split <;> split <;> simp
  · rfl
@[simp] theorem countRelayOp_gesso (i : Nat) (s : State) : (countRelayOp i s).gesso = s.gesso := rfl
@[simp] theorem noteSwitches_gesso (old s : State) : (noteSwitches old s).gesso = s.gesso := by
  unfold noteSwitches
  exact foldl_gesso (by intro s a; split <;> simp) _ _
@[simp] theorem chirp_gesso (k : Nat) (proof : Bool) (s : State) : (chirp k proof s).gesso = s.gesso := by
  unfold chirp
  dsimp only
  split
  · rfl
  · split <;> simp
@[simp] theorem chirpMask_gesso (m : BitVec 4) (s : State) : (chirpMask m s).gesso = s.gesso :=
  foldl_gesso (by intro s a; split <;> simp) _ _

/-! ### The work that a reset ends -/

@[simp] theorem reportGroup_gesso (g : Nat) (st : GroupState) (reason : Nat) (s : State) :
    (reportGroup g st reason s).gesso = s.gesso := by unfold reportGroup; simp
@[simp] theorem glazeAbort_gesso (reason : Nat) (s : State) : (glazeAbort reason s).gesso = s.gesso := by
  have h : (glazeRefuseAll reason s).gesso = s.gesso := foldl_gesso (by simp) _ _
  unfold glazeAbort
  dsimp only
  split <;> exact h

@[simp] theorem jWrite_gesso (v : DWord) (s : State) : (jWrite v s).gesso = s.gesso := rfl
@[simp] theorem jDone_gesso (sec cause : Nat) (s : State) : (jDone sec cause s).gesso = s.gesso := rfl
@[simp] theorem eraseRaw_gesso (sec : Nat) (s : State) : (eraseRaw sec s).gesso = s.gesso := by
  unfold eraseRaw; dsimp only; split <;> simp [parPush, clearFlaws]
@[simp] theorem eraseJournalled_gesso (sec cause : Nat) (s : State) : (eraseJournalled sec cause s).gesso = s.gesso := by
  unfold eraseJournalled jIntent; simp
@[simp] theorem jRoll_gesso (s : State) : (jRoll s).gesso = s.gesso := by unfold jRoll; dsimp only; split <;> simp
@[simp] theorem progPage_gesso (pg : Nat) (ws : List Word) (s : State) : (progPage pg ws s).gesso = s.gesso := rfl
/-- A unit of array work completes an erase, programs a page or waits; Gesso sees none of it. -/
@[simp] theorem workOne_gesso (s : State) : (workOne s).gesso = s.gesso := by
  unfold workOne
  split
  · simp
  · split
    · split <;> simp
    · rfl

@[simp] theorem modPowerDown_gesso (m : Nat) (s : State) : (modPowerDown m s).gesso = s.gesso := by
  unfold modPowerDown abandon; dsimp only; split <;> simp
@[simp] theorem arbDropAll_gesso (s : State) : (arbDropAll s).gesso = s.gesso := rfl
@[simp] theorem convDomainOff_gesso (s : State) : (convDomainOff s).gesso = s.gesso :=
  (arbDropAll_gesso _).trans (foldl_gesso (fun st m => modPowerDown_gesso m st) _ _)

@[simp] theorem enterFan_gesso (f : Nat) (st : FanState) (s : State) : (enterFan f st s).gesso = s.gesso := by
  cases st <;> rfl
@[simp] theorem fanTick_gesso (s : State) (f : Nat) : (fanTick s f).gesso = s.gesso := by
  unfold fanTick fixDuty
  dsimp only
  split
  · split
    · simp
    · split <;> simp
  · split
    · split <;> simp
    · split <;> split <;> simp

@[simp] theorem enterDrv_gesso (m : Nat) (x : DrvNext) (s : State) : (enterDrv m x s).gesso = s.gesso := by
  unfold enterDrv; dsimp only; split <;> rfl
@[simp] theorem drvTick_gesso (s : State) (m : Nat) : (drvTick s m).gesso = s.gesso := by
  unfold drvTick
  extract_lets d s1 dn d1 d2
  split
  · split <;> simp
  · have h1 : s1.gesso = s.gesso := by
      simp only [s1]
      split
      · simp
      · split <;> simp
    split
    · split <;> simp [h1]
    all_goals simp [h1]
@[simp] theorem settleOuts_gesso (s : State) : (settleOuts s).gesso = s.gesso := by
  unfold settleOuts
  exact (foldl_gesso (by intro s a; split <;> simp) _ _).trans (foldl_gesso (by intro s a; split <;> simp) _ _)
@[simp] theorem driveStop_gesso (s : State) : (driveStop s).gesso = s.gesso :=
  foldl_gesso (by intro s a; split <;> simp) _ _
@[simp] theorem canvasStop_gesso (s : State) : (canvasStop s).gesso = s.gesso := by
  unfold canvasStop crlySafe; split <;> simp
@[simp] theorem stopPath_gesso (s : State) : (stopPath s).gesso = s.gesso := by unfold stopPath; simp
@[simp] theorem coreHalts_gesso (s : State) : (coreHalts s).gesso = s.gesso := rfl
@[simp] theorem bbSilent_gesso (s : State) : (bbSilent s).gesso = s.gesso := rfl
@[simp] theorem zcSilent_gesso (s : State) : (zcSilent s).gesso = s.gesso := rfl
@[simp] theorem legacyPfw_gesso (s : State) : (legacyPfw s).gesso = s.gesso := rfl

@[simp] theorem ringFill_gesso : ∀ (l : List (Nat × List Word)) (s : State), (ringFill s l).gesso = s.gesso
  | [], _ => rfl
  | (t, ws) :: r, s => by
    unfold ringFill
    split
    · exact ringFill_gesso r (ringPut t ws s)
    · rfl
@[simp] theorem proofRecord_gesso (typ : Nat) (ws : List Word) (s : State) : (proofRecord typ ws s).gesso = s.gesso := by
  unfold proofRecord ringDrain opRecord
  split
  · rfl
  · split <;> simp
@[simp] theorem endStep_gesso (k out tested : Nat) (fails : List (Nat × Half)) (s : State) :
    (endStep k out tested fails s).gesso = s.gesso := by
  unfold endStep
  extract_lets p dur s1 s2 s3 s4
  have h2 : s2.gesso = s.gesso := foldl_gesso (by simp) _ _
  have h3 : s3.gesso = s.gesso := by simp only [s3]; split <;> simp [h2]
  have h4 : s4.gesso = s.gesso := by simp [s4, h3]
  exact (foldl_gesso (by simp) _ _).trans h4
@[simp] theorem proofAbort_gesso (s : State) : (proofAbort s).gesso = s.gesso := by
  unfold proofAbort proofClose
  dsimp only
  split
  · split <;> simp
  · rfl

@[simp] theorem stopWork_gesso (s : State) : (stopWork s).gesso = s.gesso := by
  unfold stopWork; dsimp only; split <;> simp

/-- nRST takes effect (R335): of Gesso only the wait for the first answer of the halted safety core ends. -/
theorem enterReset_gesso (s : State) : (enterReset s).gesso = { s.gesso with coreReset := none } := by
  simp [enterReset, convRestart]

end Sys2Proof.Machine
end

section
/-!
PROOFS. Gesso's record, trips, samples and output commands under nRST (R109) and under a restart of the safety core (R110): what
these commands write of Gesso is the count of the core's answers and Gesso's own reports, which `gessoCore` leaves out.
-/

namespace Sys2Proof.Machine

/-- Gesso without what it counts of the safety core's answers and without what its reports and a tier change write. -/
def gessoCore (s : State) : Gesso :=
  { s.gesso with firstAnswer := false, badRun := 0, coreReset := none, tier0Fault := false, lastChirp := none }

theorem gessoCore_congr {s t : State} (h : t.gesso = s.gesso) : gessoCore t = gessoCore s := by
  unfold gessoCore; rw [h]

/-- A field of Gesso's core, read off where two states agree in it. -/
theorem kept_of_gessoCore {α : Type} (f : Gesso → α) (hf : ∀ s, f (gessoCore s) = f s.gesso) {s t : State}
    (h : gessoCore t = gessoCore s) : f t.gesso = f s.gesso := by rw [← hf t, h, hf]

theorem gessoCore_of_bare {s t : State} (h : bare t = bare s) : gessoCore t = gessoCore s :=
  kept_of_bare gessoCore (fun _ => rfl) h

@[simp] theorem gessoCore_tierChange (old s : State) : gessoCore (tierChange old s) = gessoCore s :=
  gessoCore_of_bare (tierChange_spec old s).1

/-- A command leaves of Gesso's core what its effect leaves: deciding the tier anew writes none of it. -/
theorem gessoCore_finish {old u t : State} (h : finish old u = .next t) : gessoCore t = gessoCore u := by
  obtain ⟨t', ht', hb, _⟩ := finish_spec old u
  obtain rfl : t' = t := Host.Outcome.next.inj (ht'.symm.trans h)
  exact gessoCore_of_bare hb

/-! ### nRST -/

@[simp] theorem gessoCore_coreLeaves (s : State) : gessoCore (coreLeaves s) = gessoCore s := by
  unfold coreLeaves; split <;> rfl

@[simp] theorem gessoCore_enterReset (s : State) : gessoCore (enterReset s) = gessoCore s := by
  unfold gessoCore; rw [enterReset_gesso]

@[simp] theorem gessoCore_nrstStands (s : State) : gessoCore (nrstStands s) = gessoCore s := by
  unfold nrstStands; split <;> simp

@[simp] theorem gessoCore_restartVigil (s : State) : gessoCore (restartVigil s) = gessoCore s := by
  unfold restartVigil
  exact (gessoCore_coreLeaves _).trans (gessoCore_congr (dropCause_gesso _ _ _))

@[simp] theorem gessoCore_releaseReset (kind : Nat) (s : State) : gessoCore (releaseReset kind s) = gessoCore s := by
  unfold releaseReset
  exact (gessoCore_coreLeaves _).trans (gessoCore_congr (dropCause_gesso _ _ _))

@[simp] theorem gessoCore_leaveReset (kind : Nat) (s : State) : gessoCore (leaveReset kind s) = gessoCore s := by
  unfold leaveReset; split <;> simp

theorem gessoCore_nrstAssert {ns : Nat} {s t : State} (h : execNrstAssert ns s = .next t) : gessoCore t = gessoCore s := by
  rw [gessoCore_finish h]
  have h0 : gessoCore (if ns < 2000 then { s with free := s.free + 1 } else s) = gessoCore s := by split <;> rfl
  generalize (if ns < 2000 then { s with free := s.free + 1 } else s) = s0 at h0 ⊢
  generalize (if ns < 1000 then false else if ns < 2000 then (Config.freeWord s.free).getLsbD 0 else true) = acts
  dsimp only
  split
  · exact h0
  split
  · exact h0
  split
  · exact h0
  split
  · exact h0
  · rw [gessoCore_tierChange, gessoCore_enterReset]
    exact h0

theorem gessoCore_nrstRelease {s t : State} (h : execNrstRelease s = .next t) : gessoCore t = gessoCore s := by
  rw [gessoCore_finish h]
  split
  · rfl
  split
  · rfl
  split
  · exact gessoCore_leaveReset _ _
  · rfl

theorem gessoCore_nrstMask {s t : State} (h : execNrstMask s = .next t) : gessoCore t = gessoCore s := by
  rw [gessoCore_finish h]
  split
  · split
    · dsimp only
      rw [gessoCore_congr (chirpMask_gesso _ _), gessoCore_congr (raiseCause_gesso _ _ _ _),
        gessoCore_congr (logPush_gesso _ _ _)]
      exact gessoCore_leaveReset _ _
    · rfl
  · rfl

theorem gessoCore_nrstUnmask {s t : State} (h : execNrstUnmask s = .next t) : gessoCore t = gessoCore s := by
  rw [gessoCore_finish h]
  split
  · split
    · dsimp only
      split
      · rfl
      · exact gessoCore_congr (dropCause_gesso _ _ _)
    · rfl
  · rfl

/-- Settles O43: each of the four commands leaves `gessoCore`, of which the seven fields are part. -/
theorem resetSparesGesso : Obligations.ResetSparesGesso := by
  intro s t ns c hc h
  have key : gessoCore t = gessoCore s := by
    simp only [List.mem_cons, List.not_mem_nil, or_false] at hc
    obtain rfl | rfl | rfl | rfl := hc
    · exact gessoCore_nrstAssert h
    · exact gessoCore_nrstRelease h
    · exact gessoCore_nrstMask h
    · exact gessoCore_nrstUnmask h
  exact ⟨kept_of_gessoCore Gesso.record (fun _ => rfl) key, kept_of_gessoCore Gesso.cfgCrc (fun _ => rfl) key,
    kept_of_gessoCore Gesso.trip (fun _ => rfl) key, kept_of_gessoCore Gesso.silenced (fun _ => rfl) key,
    kept_of_gessoCore Gesso.sen (fun _ => rfl) key, kept_of_gessoCore Gesso.confirm (fun _ => rfl) key,
    kept_of_gessoCore Gesso.outCmd (fun _ => rfl) key⟩

/-! ### A restart of the safety core -/

@[simp] theorem coreRestarts_gesso (s : State) : (coreRestarts s).gesso = s.gesso := rfl

@[simp] theorem firmwareFails_gesso (s : State) : (firmwareFails s).gesso = s.gesso := by unfold firmwareFails; simp

/-- A mismatch is counted and logged; the third also stops the path and decides the tier anew. -/
@[simp] theorem gessoCore_lockstepFails (s : State) : gessoCore (lockstepFails s) = gessoCore s := by
  unfold lockstepFails
  extract_lets recent third s0 f s1 s2
  have h2 : s2.gesso = s.gesso := by simp [s2, s1, s0]
  split
  · rw [gessoCore_tierChange]
    exact gessoCore_congr (by simp [h2])
  · exact gessoCore_congr h2

theorem gessoCore_lockstepMismatch {fault : CoreFault} {s t : State} (h : execLockstepMismatch fault s = .next t) :
    gessoCore t = gessoCore s := by
  rw [gessoCore_finish h]
  split
  · cases fault with
    | mismatch => exact gessoCore_lockstepFails s
    | sram => exact gessoCore_congr (raiseCause_gesso _ _ _ _)
    | rom =>
      dsimp only
      rw [gessoCore_tierChange]
      exact gessoCore_congr (by simp)
  · rfl

/-- At its resumption Gesso waits for the first answer of the core anew (R163, R164), and nothing else of it is written. -/
theorem gessoCore_safetyCoreRestartDone {setOk : Bool} {s t : State} (h : execSafetyCoreRestartDone setOk s = .next t) :
    gessoCore t = gessoCore s := by
  rw [gessoCore_finish h]
  split <;> rfl

/-- Settles O17: a mismatch of the pair and the resumption of the core both leave `gessoCore`. -/
theorem coreRestartSparesGesso : Obligations.CoreRestartSparesGesso := by
  intro s t h
  have key : gessoCore t = gessoCore s := by
    obtain ⟨fault, h⟩ | ⟨setOk, h⟩ := h
    · exact gessoCore_lockstepMismatch h
    · exact gessoCore_safetyCoreRestartDone h
  exact ⟨kept_of_gessoCore Gesso.trip (fun _ => rfl) key, kept_of_gessoCore Gesso.silenced (fun _ => rfl) key,
    kept_of_gessoCore Gesso.outCmd (fun _ => rfl) key⟩

end Sys2Proof.Machine
end

section
/-!
PROOFS. Gesso's record at power-on reset and at RELATCH, the refusal of a RELATCH, the expiry of a first frame and the RESET of
trips (02_gesso.md).
-/

namespace Sys2Proof.Machine

/-- What holds of every next state that a command can answer holds of its answer: every command answers one. -/
theorem answers_of_next {c : Instr} {s : State} {P : State → Prop} (h : ∀ t, exec c s = .next t → P t) : Answers c s P := by
  obtain ⟨u, hu⟩ := exec_finish c s
  obtain ⟨t, ht, _⟩ := finish_spec s u
  exact ⟨t, hu.trans ht, h t (hu.trans ht)⟩

theorem inner_finish {old u t : State} (h : finish old u = .next t) : inner t = inner u := by
  obtain ⟨t', ht', hb, _⟩ := finish_spec old u
  obtain rfl : t' = t := Host.Outcome.next.inj (ht'.symm.trans h)
  exact inner_of_bare hb

/-! ### RELATCH on a trip (R87) -/

/-- While a trip is latched RELATCH writes RL_RESULT at most; an armed Gesso answers 2 to a request under the key. -/
theorem gessoRelatch_of_trip {s : State} (ht : s.gesso.trip ≠ 0) :
    ∃ r, exec .gessoRelatch s = finish s { s with gesso := { s.gesso with rlResult := r } } ∧
      (s.gesso.armed = true → keyOk s 3 = true → r = 2) := by
  change ∃ r, execGessoRelatch s = _ ∧ _
  unfold execGessoRelatch
  cases ha : s.gesso.armed with
  | false => exact ⟨s.gesso.rlResult, rfl, by simp⟩
  | true =>
    cases hk : keyOk s 3 with
    | false => exact ⟨4, rfl, by simp⟩
    | true =>
      refine ⟨2, ?_, fun _ _ => rfl⟩
      rw [requestRelatch, ha, if_pos ht]
      rfl

/-- Settles O7: the effect of the refused request is a value of RL_RESULT. -/
theorem relatchRefusedOnTrip : Obligations.RelatchRefusedOnTrip := by
  intro s ht
  obtain ⟨r, he, hr⟩ := gessoRelatch_of_trip ht
  refine ⟨answers_of_bare he fun t hb _ => ?_, fun ha hk => answers_of_bare he fun t hb _ => ?_⟩
  · have hc := gessoCore_of_bare hb
    exact ⟨(kept_of_gessoCore Gesso.armed (fun _ => rfl) hc :), (kept_of_gessoCore Gesso.rlBusy (fun _ => rfl) hc :),
      (kept_of_gessoCore Gesso.record (fun _ => rfl) hc :), (kept_of_gessoCore Gesso.trip (fun _ => rfl) hc :)⟩
  · rw [hb, hr ha hk]

/-! ### The record latched (R84, R85) -/

theorem recLatch_of_no_valid_copy {m : Memory} (h0 : recCopyOk m false = false) (h1 : recCopyOk m true = false) :
    recLatch m = (defaultRecord, crc32 defaultRecord, false, true) := by
  simp [recLatch, h0, h1]

/-- Gesso holds what R84 and R85 latch from an array, and TROUBLE.CFG_DEFAULT with DEFAULT. -/
def Latched (m : Memory) (g : Gesso) : Prop :=
  (g.record, g.cfgCrc, g.copyDup, g.dflt) = recLatch m ∧ g.cfgDefault = g.dflt

theorem Latched.default {m : Memory} {g : Gesso} (h0 : recCopyOk m false = false) (h1 : recCopyOk m true = false)
    (h : Latched m g) : g.record = defaultRecord ∧ g.dflt = true ∧ g.cfgDefault = true := by
  obtain ⟨hl, hc⟩ := h
  rw [recLatch_of_no_valid_copy h0 h1] at hl
  simp only [Prod.mk.injEq] at hl
  obtain ⟨hrec, _, _, hd⟩ := hl
  exact ⟨hrec, hd, hc.trans hd⟩

theorem Latched.of_core {m : Memory} {s t : State} (e : gessoCore t = gessoCore s) (h : Latched m s.gesso) :
    Latched m t.gesso := (kept_of_gessoCore (Latched m) (fun _ => rfl) e).mpr h

theorem Latched.of_inner {m : Memory} {s t : State} (e : inner t = inner s) (h : Latched m s.gesso) : Latched m t.gesso :=
  (kept_of_inner (fun x => Latched m x.gesso) (fun _ => rfl) e).mpr h

theorem gessoCore_nrstStands_if (b : Bool) (s : State) :
    gessoCore ((if b then nrstStands else id) s) = gessoCore s := by
  split
  · exact gessoCore_nrstStands s
  · rfl

-- By its equation, not by unfolding: to see that an unfolded `execGessoPor` is itself the kernel would evaluate `recLatch`.
theorem gessoPor_latched {mside p8 x32 : Bool} {s t : State} (h : execGessoPor mside p8 x32 s = .next t) :
    Latched s.mem t.gesso := by
  rw [execGessoPor] at h
  generalize hl : recLatch s.mem = l at h
  obtain ⟨r, crc, dup, dflt⟩ := l
  have e := gessoCore_finish h
  rw [gessoCore_nrstStands_if] at e
  exact Latched.of_core e ⟨hl.symm, rfl⟩

theorem gessoRelatchDone_latched {s t : State} (hb : s.gesso.rlBusy = true) (h : execGessoRelatchDone s = .next t) :
    Latched s.mem t.gesso := by
  unfold execGessoRelatchDone at h
  rw [if_pos hb] at h
  generalize hl : recLatch s.mem = l at h
  obtain ⟨r, crc, dup, dflt⟩ := l
  have e := inner_finish h
  rw [inner_setCause, inner_refreshOut] at e
  exact Latched.of_inner e ⟨hl.symm, rfl⟩

/-- Settles O8: both commands latch what `recLatch` gives, the default record where neither copy is valid. -/
theorem defaultRecordLatched : Obligations.DefaultRecordLatched := by
  intro s h0 h1
  exact ⟨fun mside p8 x32 => answers_of_next fun t ht => (gessoPor_latched ht).default h0 h1,
    fun hb => answers_of_next fun t ht => (gessoRelatchDone_latched hb ht).default h0 h1⟩

/-! ### A first frame that lapses (R65) -/

/-- Settles O10: past 6.0 s the confirmation record is dropped, and counted as that of a first frame. -/
theorem firstFrameExpires : Obligations.FirstFrameExpires := by
  intro s a at_ hrec hlate
  have effect : exec (.gessoFirstFrameExpiry a) s = finish s { s with gesso := { s.gesso with
      cntUnconf := s.gesso.cntUnconf + 1, confirm := tblSet (fun _ => none) s.gesso.confirm a.val none } } := by
    change execGessoFirstFrameExpiry a s = _
    simp only [execGessoFirstFrameExpiry, hrec, if_pos hlate, if_true]
  exact answers_of_bare effect fun t hb _ => hb

/-! ### RESET of trips (R80-R82) -/

theorem getLsbD_setBit {n : Nat} (w : BitVec n) (i : Nat) (b : Bool) {j : Nat} (hj : j < n) :
    (setBit w i b).getLsbD j = if j = i then b else w.getLsbD j := by
  have shifted : (BitVec.ofNat n 1 <<< i).getLsbD j = decide (j = i) := by
    rw [BitVec.getLsbD_shiftLeft, BitVec.getLsbD_ofNat, Bool.eq_iff_iff]
    simp only [Bool.and_eq_true, decide_eq_true_eq, Bool.not_eq_true', decide_eq_false_iff_not,
      Nat.testBit_one_eq_true_iff_self_eq_zero]
    omega
  unfold setBit
  split
  · next hb => rw [BitVec.getLsbD_or, shifted, hb]; by_cases hi : j = i <;> simp [hi]
  · next hb => rw [BitVec.getLsbD_and, BitVec.getLsbD_not, shifted]; by_cases hi : j = i <;> simp [hi, hj, hb]

/-- A word built bit by bit from a predicate. -/
theorem getLsbD_foldl_setBit {n : Nat} (f : Nat → Bool) {j : Nat} (hj : j < n) (k : Nat) :
    ((List.range k).foldl (fun w i => setBit w i (f i)) (0 : BitVec n)).getLsbD j = (decide (j < k) && f j) := by
  induction k with
  | zero => simp
  | succ k ih =>
    rw [List.range_succ, List.foldl_append, List.foldl_cons, List.foldl_nil, getLsbD_setBit _ _ _ hj, ih]
    by_cases hk : j = k
    · simp [hk]
    · simp [hk, show j < k + 1 ↔ j < k by omega]

/-- A RESET can clear every class (R81). -/
theorem resettable_class (s : State) {c : Nat} (hc : c < 3) : (resettable s).getLsbD (16 + c) = true := by
  unfold resettable
  rw [getLsbD_foldl_setBit _ (by omega)]
  simp only [show 16 + c < 19 by omega, show 16 ≤ 16 + c by omega, decide_true, Bool.true_or, Bool.and_self]

/-- RESET within the acknowledge sequence clears the named trips that it can clear and that did not come in this period. -/
theorem gessoReset_trip {mask : BitVec 19} {s t : State} (h : execGessoReset mask s = .next t) :
    t.gesso.trip = if ackWrites s then s.gesso.trip &&& ~~~(mask &&& resettable s &&& ~~~justHit s) else s.gesso.trip := by
  have e := inner_finish h
  split
  · next ha =>
    rw [if_pos ha, gessoResetTrips, inner_refreshOut] at e
    exact (kept_of_inner (·.gesso.trip) (fun _ => rfl) e :)
  · next ha =>
    rw [if_neg ha] at e
    exact kept_of_inner (·.gesso.trip) (fun _ => rfl) e

/-- GESSO.TRIP shows the latched trips (Table 02-10). -/
theorem readParam_gessoTrip (t : State) : readParam t (parAddr 3 0x97) = t.gesso.trip.setWidth 32 := by
  have defined : isDefined (parAddr 3 0x97) = true := by decide
  unfold readParam
  rw [defined]
  rfl

/-- Settles O14: a class is always among what RESET clears; a trip that stands reads 1 in GESSO.TRIP. The trips of this period are
`justHit`, in which a latched source whose condition came again counts too (log 128). -/
theorem resetOfTrips : Obligations.ResetOfTrips := by
  intro s mask
  refine answers_of_next fun t h => ?_
  have trip := gessoReset_trip h
  refine ⟨fun ha c hc hm hj => ?_, fun n hn hm ht hstays => ?_⟩
  · rw [trip, if_pos ha]
    simp [hm, hj, resettable_class s hc]
  · have stands : t.gesso.trip.getLsbD n = true := by
      rw [trip]
      split
      · next ha =>
        obtain hf | hr | hj := hstays
        · simp [hf] at ha
        · simp only [BitVec.getLsbD_and, BitVec.getLsbD_not, hr, ht, hn, Bool.and_false, Bool.false_and]; rfl
        · simp only [BitVec.getLsbD_and, BitVec.getLsbD_not, hj, ht, hn, Bool.not_true, Bool.and_false]; rfl
      · exact ht
    refine ⟨stands, ?_⟩
    rw [readParam_gessoTrip, BitVec.getLsbD_setWidth, stands, Bool.and_true, decide_eq_true_eq]
    omega

end Sys2Proof.Machine
end

section
/-!
PROOFS. The safety core's alarm set that fails its CRC at a restart (R188) and the acknowledge operations it refuses (R172, R173,
R180): a refusal reports its ACK_RES and ends the write, and the order of the checks is the model's (log 79).
-/

namespace Sys2Proof.Machine

/-! ### An alarm set that fails its CRC (R188) -/

/-- SAFE.ALM[2] bit [31] shows UNKNOWN (Table 03-9). -/
theorem getLsbD_readParam_unknown (t : State) : (readParam t (parAddr 4 9)).getLsbD 31 = t.safety.unknown := by
  have defined : isDefined (parAddr 4 9) = true := by decide
  have shown : readParam t (parAddr 4 9) = setBit (t.safety.alarms.extractLsb' 64 32) 31 t.safety.unknown := by
    unfold readParam
    rw [defined]
    rfl
  rw [shown, getLsbD_setBit _ _ _ (by decide), if_pos rfl]

/-- The resumption of a halted core whose alarm set failed writes no pin and sets UNKNOWN. -/
theorem safetyCoreRestartDone_of_failed_set {s : State} (hrun : s.safety.run = false) (hls : s.safety.lockstep = false)
    (hfw : s.safety.fwFail = false) (hs : s.sys.applied.getLsbD 3 = true) (hreset : s.power.inReset = false) :
    ∃ u, exec (.safetyCoreRestartDone false) s = finish s u ∧ u.pads = s.pads ∧ u.safety.unknown = true := by
  have resumes : (!s.safety.run && !s.safety.lockstep && !s.safety.fwFail && s.sys.applied.getLsbD 3 &&
      !s.power.inReset) = true := by simp [hrun, hls, hfw, hs, hreset]
  change ∃ u, execSafetyCoreRestartDone false s = _ ∧ _
  rw [execSafetyCoreRestartDone, if_pos resumes]
  exact ⟨_, rfl, rfl, Bool.or_true _⟩

/-- Settles O18: the effect keeps every pin and sets UNKNOWN; neither reports nor the tier write the path latch or UNKNOWN. -/
theorem unknownAlarmSet : Obligations.UnknownAlarmSet := by
  intro s hrun hls hfw hs hreset
  obtain ⟨u, he, hpads, hunknown⟩ := safetyCoreRestartDone_of_failed_set hrun hls hfw hs hreset
  refine answers_of_bare he fun t hb _ => ⟨?_, ?_, ?_⟩
  · rw [(kept_of_bare (·.pads.pathSnd) (fun _ => rfl) hb : t.pads.pathSnd = u.pads.pathSnd), hpads]
  · rw [(kept_of_bare (·.pads.pathRly) (fun _ => rfl) hb : t.pads.pathRly = u.pads.pathRly), hpads]
  · rw [getLsbD_readParam_unknown, (kept_of_bare (·.safety.unknown) (fun _ => rfl) hb : t.safety.unknown = _), hunknown]

/-! ### A refused acknowledge operation (R172, R173, R180) -/

/-- The end of an acknowledge operation gives ACK_RES and takes the write from the wait; the rest of it is reports. -/
theorem bare_ackDone (op res : Nat) (s : State) : bare (ackDone op res s) =
    bare { s with safety := { s.safety with ackRes := BitVec.ofNat 2 res, ackPending := none } } := by
  rw [ackDone, bare_evt, bare_logPush]

/-- A command whose effect is the end of an acknowledge operation with result `res` leaves everything but ACK_RES and the
write that waited. -/
theorem answers_of_ackDone {c : Instr} {s : State} {op res : Nat} (e : exec c s = finish s (ackDone op res s)) :
    Answers c s fun t =>
      bare t = bare { s with safety := { s.safety with ackRes := BitVec.ofNat 2 res, ackPending := none } } :=
  answers_of_bare e fun _ hb _ => hb.trans (bare_ackDone op res s)

section
variable {s : State} {tok : Nat}

/-! A token that differs is refused with 2, before any other check (R172, log 79). -/

theorem ackSilence_of_wrong_token (hd : ackDue s 0xA5 = some tok) (hne : tok ≠ s.safety.token.toNat) :
    exec .ackSilence s = finish s (ackDone 0xA5 2 s) := by
  change execAckSilence s = _
  simp only [execAckSilence, hd, if_pos hne]

theorem ackReset_of_wrong_token (hd : ackDue s 0xC3 = some tok) (hne : tok ≠ s.safety.token.toNat) :
    exec .ackReset s = finish s (ackDone 0xC3 2 s) := by
  change execAckReset s = _
  simp only [execAckReset, hd, if_pos hne]

theorem ackTroubleAck_of_wrong_token (hd : ackDue s 0x96 = some tok) (hne : tok ≠ s.safety.token.toNat) :
    exec .ackTroubleAck s = finish s (ackDone 0x96 2 s) := by
  change execAckTroubleAck s = _
  simp only [execAckTroubleAck, hd, if_pos hne]

/-! With the right token, SILENCE and RESET below Tier 2 are refused with 3, and RESET also while an alarm is unsilenced
(R173, R180). -/

theorem ackSilence_of_low_tier (hd : ackDue s 0xA5 = some s.safety.token.toNat) (ht : s.sys.tier ≠ 2) :
    exec .ackSilence s = finish s (ackDone 0xA5 3 s) := by
  change execAckSilence s = _
  simp only [execAckSilence, hd, if_neg (not_not_intro rfl), if_pos ht]

theorem ackReset_of_low_tier_or_unsilenced (hd : ackDue s 0xC3 = some s.safety.token.toNat)
    (h : s.sys.tier ≠ 2 ∨ allSilenced s = false) : exec .ackReset s = finish s (ackDone 0xC3 3 s) := by
  have refused : (decide (s.sys.tier ≠ 2) || !allSilenced s) = true := by simpa using h
  change execAckReset s = _
  simp only [execAckReset, hd, if_neg (not_not_intro rfl), if_pos refused]

end

/-- Settles O21: each of the three operations tests its token first (log 79) and ends with ACK_RES 2. -/
theorem wrongTokenRefused : Obligations.WrongTokenRefused := by
  intro s tok hne c hc hd
  simp only [List.mem_cons, List.not_mem_nil, or_false] at hc
  obtain rfl | rfl | rfl := hc
  · exact answers_of_ackDone (ackSilence_of_wrong_token hd hne)
  · exact answers_of_ackDone (ackReset_of_wrong_token hd hne)
  · exact answers_of_ackDone (ackTroubleAck_of_wrong_token hd hne)

/-- Settles O22: past the token, the tier and the silence of every alarm are tested (log 79), and a refusal ends with ACK_RES 3. -/
theorem acknowledgeRefused : Obligations.AcknowledgeRefused := by
  intro s
  refine ⟨fun hd hs => answers_of_ackDone (ackReset_of_low_tier_or_unsilenced hd (.inr hs)), fun ht c hc hd => ?_⟩
  simp only [List.mem_cons, List.not_mem_nil, or_false] at hc
  obtain rfl | rfl := hc
  · exact answers_of_ackDone (ackSilence_of_low_tier hd ht)
  · exact answers_of_ackDone (ackReset_of_low_tier_or_unsilenced hd (.inl ht))

end Sys2Proof.Machine
end

section
/-!
PROOFS. A host's read of a parameter on an open bus, and what a read of TIME.EASEL_LO latches (04_time_base_and_teeth.md).
-/

namespace Sys2Proof.Machine

/-! ### An access that nothing holds (R359, R370, R327, R434) -/

/-- An open bus carries out a read of a parameter at once; its access is an event. -/
theorem onBus_parRd_of_open {s : State} (h : BusOpen s) (p : Nat) (hm : s.legacy.mode = false) :
    onBus (parRd p) s = parTaken p (evt 280 s) := by
  obtain ⟨hmain, hrdy, hwait, hsleep, hmoving, hwin⟩ := h
  have powered : (!s.power.vmain || s.host.nWaitLow) = false := by simp [hmain, hwait]
  have awake : ¬ (s.power.st = .sleep ∨ now s < s.power.movingUntil) := not_or.mpr ⟨hsleep, Nat.not_lt.mpr hmoving⟩
  have noCopy : awaitsCopy (parRd p) (evt 280 s) = false := by simp [awaitsCopy, parRd]
  have noWindow : awaitsWindow (parRd p) (evt 280 s) = false := by
    simp [awaitsWindow, show windowDue (evt 280 s) = false from hwin]
  have done : busDo (parRd p) (evt 280 s) = parTaken p (evt 280 s) := by
    simp [busDo, parRd, show (evt 280 s).legacy.mode = false from hm]
  simp [onBus, powered, hrdy, awake, noCopy, noWindow, done]

/-! ### TIME.EASEL_LO (R246) -/

/-- TIME.EASEL_LO shows the low word of easel time (Table 04-5). -/
theorem readParam_easelLo (s : State) : readParam s 0x0800 = ts32 s := by
  have defined : isDefined 0x0800 = true := by decide
  unfold readParam
  rw [defined]
  rfl

/-- A fetch of the low word takes both its halves of the one easel time. -/
theorem fetched_ts32 (s : State) : fetched (ts32 s) s = { s with host := { s.host with
    dOut := (easelWord (now s)).extractLsb' 0 16, hiLatch := (easelWord (now s)).extractLsb' 16 16 } } := by
  have low : (ts32 s).extractLsb' 0 16 = (easelWord (now s)).extractLsb' 0 16 := by
    unfold ts32; ext; simp
  have high : (ts32 s).extractLsb' 16 16 = (easelWord (now s)).extractLsb' 16 16 := by
    unfold ts32; ext; simp
  rw [fetched, low, high]

/-- What TIME.EASEL_HI latches does not depend on the host's registers. Stated over a variable `h`: with the halves driven and
latched written out, the kernel would compare them with those of `s.host` to see that the two `now` agree. -/
theorem easelTaken_host (s : State) (h : HostBus) : easelTaken { s with host := h } = { s with
    time := { s.time with easelHi := (easelWord (now s)).extractLsb' 32 32 }
    host := h } := rfl

/-- A read of TIME.EASEL_LO drives and latches the halves of its word, latches TIME.EASEL_HI and else only reports. -/
theorem bare_parTaken_easelLo (s : State) : bare (parTaken 0x0800 s) = bare { s with
    time := { s.time with easelHi := (easelWord (now s)).extractLsb' 32 32 }
    host := { s.host with
      dOut := (easelWord (now s)).extractLsb' 0 16, hiLatch := (easelWord (now s)).extractLsb' 16 16 } } := by
  have side (u : State) : readSide 0x0800 u = easelTaken u := if_pos rfl
  have reported (u : State) : bare (easelTaken (evt 282 u)) = bare (easelTaken u) := rfl
  rw [parTaken, side, reported, readParam_easelLo, fetched_ts32, easelTaken_host]

/-- Settles O25: the one access takes both halves of the low word and the high word at the same instant. -/
theorem easelReadLatchesHigh : Obligations.EaselReadLatchesHigh := by
  intro s hopen hm
  have effect : exec .easelLoRead s = finish s (parTaken 0x0800 (evt 280 s)) :=
    congrArg (finish s) (onBus_parRd_of_open hopen 0x0800 hm)
  exact answers_of_bare effect fun t hb _ => hb.trans (bare_parTaken_easelLo (evt 280 s))

end Sys2Proof.Machine
end

section
/-!
PROOFS. Overruns and the loss of a core lane (05_canvas_contract.md): what STROKE_OVERRUN counts and leaves unwritten (R282), and
that the Canvas stops with CORE_A or CORE_B (R285).
-/

namespace Sys2Proof.Machine

/-! ### An overrun is counted and recorded (R282) -/

/-- The count of an overrun writes the overrun registers of the Canvas and the mirror's error mark; the rest of it is reports. -/
theorem bare_countOverrun (i lane : Nat) (held : Bool) (s : State) : bare (countOverrun i lane held s) = bare { s with
    mirror := { s.mirror with errNow := true }
    canvas := { s.canvas with
      ovrCnt := tblSet (fun _ => (0 : Word)) s.canvas.ovrCnt lane (tblGet (fun _ => (0 : Word)) s.canvas.ovrCnt lane + 1)
      ovrLast := put 32 0 i ||| put 32 14 lane ||| put 32 17 held.toNat
      ovrHyper := tblSet (fun _ => 0) s.canvas.ovrHyper lane (ovrIn s lane + 1)
      ovrHigh := s.canvas.ovrHigh || decide (16 < ovrIn s lane + 1) } } := by
  unfold countOverrun
  dsimp only
  split
  · rw [bare_logPush, bare_evt]
  · rw [bare_evt]

/-- Which entries a lane has run, and which of them overran, counts among the reports. -/
theorem bare_noteOverrun_laneRan (i lane : Nat) (s : State) : bare (noteOverrun i (laneRan lane i s)) = bare s := rfl

/-- CANVAS.OVR_LAST of a stroke that holds no output has bit [17] clear (Table 05-11). -/
theorem ovrLast_not_held (w : Word) : w ||| put 32 17 false.toNat = w := by
  have clear : put 32 17 false.toNat = 0 := by decide
  rw [clear]
  exact BitVec.or_zero

/-- The overrun of a due stroke that is no compensator: its count and the note that it overran stand in place of what the stroke
would have written. -/
theorem exec_strokeOverrun_of_not_comp {s : State} {i : Nat} {e : Entry} {k : Stroke} (he : (entries s)[i]? = some e)
    (h20 : e.op ≠ 0x20) (h21 : e.op ≠ 0x21) (hskip : entrySkipped s e = false) (hk : strokeAt s e.op i = some k) :
    exec (.strokeOverrun i) s =
      finish s (noteOverrun i (laneRan k.e.lane i (countOverrun i k.e.lane false s))) := by
  change execStrokeOverrun i s = _
  simp only [execStrokeOverrun, runStroke, he, hk, hskip, Option.isNone_some, Bool.or_self, Bool.false_eq_true, if_false,
    if_neg (not_or.mpr ⟨h20, h21⟩)]

/-- Settles O39: beside its count the overrun only reports, so no signal and no unit is written. -/
theorem overrunAbandoned : Obligations.OverrunAbandoned := by
  intro s i e k he h20 h21 hskip hk
  refine answers_of_bare (exec_strokeOverrun_of_not_comp he h20 h21 hskip hk) fun t hb _ => ?_
  have counted := (hb.trans (bare_noteOverrun_laneRan i k.e.lane _)).trans (bare_countOverrun i k.e.lane false s)
  exact ⟨(kept_of_bare (·.canvas.ovrCnt) (fun _ => rfl) counted :),
    (kept_of_bare (·.canvas.ovrLast) (fun _ => rfl) counted :).trans (ovrLast_not_held _),
    (kept_of_bare (·.canvas.signals) (fun _ => rfl) counted :), (kept_of_bare (·.canvas.fresh) (fun _ => rfl) counted :),
    (kept_of_bare (·.loop) (fun _ => rfl) counted :), (kept_of_bare (·.drive) (fun _ => rfl) counted :),
    (kept_of_bare (·.conv) (fun _ => rfl) counted :), (kept_of_bare (·.clients) (fun _ => rfl) counted :),
    (kept_of_bare (·.bb) (fun _ => rfl) counted :), (kept_of_bare (·.mem) (fun _ => rfl) counted :)⟩

/-! ### Outputs that settle (R25, R160) -/

/-- A state without what reports write, the drive and fan channels and the relay commands of the Canvas: what outputs that go to
their safe states write. -/
def sansOuts (s : State) : State :=
  let u := sansReports s
  { u with drive := State.reset.drive, fans := State.reset.fans, pads := { u.pads with crly := 0 } }

theorem sansOuts_of_reports {s t : State} (e : sansReports t = sansReports s) : sansOuts t = sansOuts s := by
  unfold sansOuts; rw [e]

/-- A field that neither reports nor settling outputs write. -/
theorem kept_of_sansOuts {α : Type} (f : State → α) (h : ∀ s, f (sansOuts s) = f s) {s t : State}
    (e : sansOuts t = sansOuts s) : f t = f s := by rw [← h t, e, h]

/-- A fold of steps that write outputs only writes outputs only. -/
theorem sansOuts_foldl {α : Type} {f : State → α → State} (h : ∀ s a, sansOuts (f s a) = sansOuts s) :
    ∀ (l : List α) (s : State), sansOuts (l.foldl f s) = sansOuts s
  | [], _ => rfl
  | a :: r, s => by rw [List.foldl_cons, sansOuts_foldl h r, h]

@[simp] theorem sansOuts_setDrv (m : Nat) (d : DrvChan) (s : State) : sansOuts (setDrv m d s) = sansOuts s := rfl
@[simp] theorem sansOuts_fixDuty (f : Nat) (v : Int) (s : State) : sansOuts (fixDuty f v s) = sansOuts s := rfl
@[simp] theorem sansOuts_enterDrv (m : Nat) (x : DrvNext) (s : State) : sansOuts (enterDrv m x s) = sansOuts s := by
  unfold enterDrv; dsimp only; split <;> rfl
@[simp] theorem sansOuts_enterFan (f : Nat) (st : FanState) (s : State) : sansOuts (enterFan f st s) = sansOuts s := by
  cases st <;> rfl
@[simp] theorem sansOuts_crlySafe (s : State) : sansOuts (crlySafe s) = sansOuts s :=
  (sansOuts_of_reports (sansReports_noteSwitches s _)).trans rfl

/-- A drive channel at a boundary enters a state or keeps its own, and then may take new values. -/
theorem drvTick_cases (s : State) (m : Nat) :
    ∃ u, (u = s ∨ ∃ x, u = enterDrv m x s) ∧ (drvTick s m = u ∨ ∃ d, drvTick s m = setDrv m d u) := by
  unfold drvTick
  extract_lets d s1 dn d1 d2
  split
  · split
    · exact ⟨s, .inl rfl, .inl rfl⟩
    · exact ⟨_, .inr ⟨_, rfl⟩, .inl rfl⟩
  · have entered : s1 = s ∨ ∃ x, s1 = enterDrv m x s := by
      simp only [s1]
      split
      · exact .inr ⟨_, rfl⟩
      · split
        · exact .inr ⟨_, rfl⟩
        · exact .inl rfl
    refine ⟨s1, entered, .inr ?_⟩
    split
    · split <;> exact ⟨_, rfl⟩
    · exact ⟨_, rfl⟩
    · exact ⟨_, rfl⟩

/-- A fan channel at a boundary enters a state or keeps its own, and then may take its safe duty. -/
theorem fanTick_cases (s : State) (f : Nat) :
    ∃ u, (u = s ∨ ∃ st, u = enterFan f st s) ∧ (fanTick s f = u ∨ ∃ v, fanTick s f = fixDuty f v u) := by
  unfold fanTick
  extract_lets d s1 v
  split
  · split
    · exact ⟨_, .inr ⟨_, rfl⟩, .inl rfl⟩
    · split
      · exact ⟨_, .inr ⟨_, rfl⟩, .inl rfl⟩
      · exact ⟨s, .inl rfl, .inl rfl⟩
  · split
    · split
      · exact ⟨s, .inl rfl, .inl rfl⟩
      · exact ⟨_, .inr ⟨_, rfl⟩, .inl rfl⟩
    · have entered : s1 = s ∨ ∃ st, s1 = enterFan f st s := by
        simp only [s1]
        split
        · exact .inl rfl
        · exact .inr ⟨_, rfl⟩
      refine ⟨s1, entered, ?_⟩
      split
      · exact .inl rfl
      · exact .inr ⟨_, rfl⟩

@[simp] theorem sansOuts_drvTick (s : State) (m : Nat) : sansOuts (drvTick s m) = sansOuts s := by
  obtain ⟨u, rfl | ⟨x, rfl⟩, h | ⟨d, h⟩⟩ := drvTick_cases s m <;> rw [h] <;> simp

@[simp] theorem sansOuts_fanTick (s : State) (f : Nat) : sansOuts (fanTick s f) = sansOuts s := by
  obtain ⟨u, rfl | ⟨st, rfl⟩, h | ⟨v, h⟩⟩ := fanTick_cases s f <;> rw [h] <;> simp

@[simp] theorem sansOuts_settleOuts (s : State) : sansOuts (settleOuts s) = sansOuts s :=
  (sansOuts_foldl (by intro s m; split <;> simp) _ _).trans (sansOuts_foldl (by intro s f; split <;> simp) _ _)

@[simp] theorem sansOuts_driveStop (s : State) : sansOuts (driveStop s) = sansOuts s :=
  sansOuts_foldl (by intro s m; split <;> simp) _ _

/-! ### The Canvas stops with a core lane (R285) -/

/-- A running Canvas that stops holds no output; beside that it only takes its outputs to their safe states. -/
theorem sansOuts_canvasStop {s : State} (h : s.canvas.run ≠ .stopped) :
    sansOuts (canvasStop s) = sansOuts { s with canvas := { s.canvas with run := .stopped, held := [] } } := by
  rw [canvasStop, if_neg h, sansOuts_settleOuts, sansOuts_driveStop, sansOuts_crlySafe]

theorem canvasStop_of_stopped {s : State} (h : s.canvas.run = .stopped) : canvasStop s = s := if_pos h

theorem canvasStop_run (s : State) : (canvasStop s).canvas.run = .stopped := by
  by_cases h : s.canvas.run = .stopped
  · rw [canvasStop_of_stopped h, h]
  · exact (kept_of_sansOuts (·.canvas.run) (fun _ => rfl) (sansOuts_canvasStop h) :)

theorem canvasStop_laneFlt (s : State) : (canvasStop s).canvas.laneFlt = s.canvas.laneFlt := by
  by_cases h : s.canvas.run = .stopped
  · rw [canvasStop_of_stopped h]
  · exact (kept_of_sansOuts (·.canvas.laneFlt) (fun _ => rfl) (sansOuts_canvasStop h) :)

/-- The judgement of a chip's own fault, with the switchover it may trigger, writes the mirror and reports. -/
theorem bare_mirrorSelfFault (s : State) : ∃ m, bare (mirrorSelfFault s) = bare { s with mirror := m } := by
  unfold mirrorSelfFault
  dsimp only
  split
  · unfold mirrorTrigger mirrorNote
    split
    · exact ⟨_, rfl⟩
    · split
      · exact ⟨_, rfl⟩
      · exact ⟨_, bare_setIrq _ _⟩
  · exact ⟨_, rfl⟩

section
variable {α : Type} {f : Canvas → α} (hf : ∀ s, f (bare s).canvas = f s.canvas)
include hf

/-- A field of the Canvas that is no report is read off the remainder. -/
theorem canvas_of_bare {s t : State} (h : bare t = bare s) : f t.canvas = f s.canvas :=
  kept_of_bare (fun x => f x.canvas) hf h

theorem canvas_mirrorSelfFault (s : State) : f (mirrorSelfFault s).canvas = f s.canvas := by
  obtain ⟨m, judged⟩ := bare_mirrorSelfFault s
  exact (canvas_of_bare hf judged :)

/-- Such a field stands through the last judgements of a command, of the tier and of the mirror. -/
theorem canvas_of_judged {old u t : State} (h : bare t = bare (mirrorSelfFault (tierChange old u))) :
    f t.canvas = f u.canvas := by
  rw [canvas_of_bare hf h, canvas_mirrorSelfFault hf, canvas_of_bare hf (tierChange_spec old u).1]

end

/-- A core lane serves domain C (Table 01-5). -/
theorem laneDom_core {lane : Nat} (h : lane < 2) : laneDom lane = 2 := by
  interval_cases lane <;> rfl

/-- With a core lane the Canvas stops. -/
theorem laneStops_core {lane : Nat} (h : lane < 2) (s : State) : laneStops lane s = canvasStop s := by
  interval_cases lane <;> rfl

/-- A lane is marked faulted and reported, its strokes of the tick abandoned, before what stops with it. -/
def laneFaulted (lane : Nat) (s : State) : State :=
  let u := abandonTick lane s
  let v : State := { u with
    canvas := { u.canvas with laneFlt := setBit u.canvas.laneFlt lane true }
    mirror := { u.mirror with errNow := true } }
  latchWake 6 (logPush 0x021 (ovrValue v) v)

/-- A powered lane that is not yet faulted becomes so, and what stops with it stops; the tier and the mirror are judged last. -/
theorem exec_laneFault {s : State} {lane : Fin 8}
    (hdom : (s.sys.applied &&& ~~~s.sys.gated).getLsbD (laneDom lane.val) = true)
    (hflt : s.canvas.laneFlt.getLsbD lane.val = false) : exec (.laneFault lane) s =
      finish s (mirrorSelfFault (tierChange s (laneStops lane.val (laneFaulted lane.val s)))) := by
  have faults : ((s.sys.applied &&& ~~~s.sys.gated).getLsbD (laneDom lane.val) &&
      !s.canvas.laneFlt.getLsbD lane.val) = true := by rw [hdom, hflt]; rfl
  exact congrArg (finish s) (if_pos faults)

/-- The report of a lane fault leaves CANVAS.LANE_FLT. -/
theorem latchWake_logPush_laneFlt (c code : Nat) (v : Word) (s : State) :
    (latchWake c (logPush code v s)).canvas.laneFlt = s.canvas.laneFlt :=
  canvas_of_bare (f := Canvas.laneFlt) (fun _ => rfl) ((bare_latchWake c _).trans (bare_logPush code v s))

/-- CANVAS.LANE_FLT of a faulted lane: its bit is set beside those of the lanes faulted before. -/
theorem laneFaulted_laneFlt (lane : Nat) (s : State) : (laneFaulted lane s).canvas.laneFlt =
    setBit (abandonTick lane s).canvas.laneFlt lane true :=
  latchWake_logPush_laneFlt _ _ _ _

/-- Settles O38: with a core lane the Canvas stops after the mark is set; neither the tier nor the mirror's judgement starts it
again or clears the mark. -/
theorem coreFaultStopsCanvas : Obligations.CoreFaultStopsCanvas := by
  intro s lane hcore hdom hflt
  rw [← laneDom_core hcore] at hdom
  refine answers_of_bare (exec_laneFault hdom hflt) fun t hb _ => ?_
  rw [laneStops_core hcore] at hb
  constructor
  · exact (canvas_of_judged (f := Canvas.run) (fun _ => rfl) hb).trans (canvasStop_run _)
  · rw [canvas_of_judged (f := Canvas.laneFlt) (fun _ => rfl) hb, canvasStop_laneFlt, laneFaulted_laneFlt,
      getLsbD_setBit _ _ _ lane.isLt, if_pos rfl]

end Sys2Proof.Machine
end

section
/-!
PROOFS. A dip of VMAIN that ends before brown-out and the flush that goes on through it (R332), the refusals of a SLEEP_REQ write
(R318-R320, R1218) and what a wake sequence leaves in SLEEP_REQ at its end (R324), from 06_power_reset_and_first_second.md.
-/

namespace Sys2Proof.Machine

/-! ### A dip without a restart (R332) -/

/-- With the warning in force and VMAIN valid, the return of VMAIN ends the warning and counts the dip. -/
theorem exec_pfwRecovered {s : State} (hpfw : s.power.pfw = true) (hmain : s.power.vmain = true) :
    exec .pfwRecovered s =
      finish s { s with power := { s.power with pfw := false, dips := s.power.dips + 1 } } := by
  have recovers : (s.power.pfw && s.power.vmain) = true := by rw [hpfw, hmain]; rfl
  exact congrArg (finish s) (if_pos recovers)

@[simp] theorem jWrite_power (v : DWord) (s : State) : (jWrite v s).power = s.power := rfl
@[simp] theorem jWrite_sys (v : DWord) (s : State) : (jWrite v s).sys = s.sys := rfl

/-- The end of a flush is the store's: the record DUMP_DONE and what its entry of the dumps says. -/
@[simp] theorem storeFlushDone_power (s : State) : (storeFlushDone s).power = s.power := by
  unfold storeFlushDone; split <;> simp
@[simp] theorem storeFlushDone_sys (s : State) : (storeFlushDone s).sys = s.sys := by
  unfold storeFlushDone; split <;> simp

/-- The nRST that waited for N is spent; no other field of the power manager is written. -/
theorem storeResets_power (s : State) : (storeResets s).power = { s.power with storeReset := false } := by
  unfold storeResets
  split
  · rfl
  · next h => rw [← Bool.eq_false_of_not_eq_true h]
@[simp] theorem storeResets_sys (s : State) : (storeResets s).sys = s.sys := by
  unfold storeResets; split <;> rfl

/-- The power manager at the end of a flush: FLUSH_LAST is written, and no nRST waits for N any more. -/
def flushedPower (s : State) : Power := { s.power with
  flushing := false, flushComplete := true, flushValid := true, storeReset := false
  flushDur := BitVec.ofNat 16 ((now s - s.power.flushStart) / 400) }

/-- A flush that ends with VMAIN valid and no restart waiting leaves the power manager so, and the domains as they were. -/
theorem exec_flushComplete_of_vmain {s : State} (hfl : s.power.flushing = true) (hwait : s.power.restartWaits = false)
    (hmain : s.power.vmain = true) :
    ∃ u, exec .flushComplete s = finish s u ∧ u.power = flushedPower s ∧ u.sys = s.sys := by
  change ∃ u, execFlushComplete s = _ ∧ _
  rw [execFlushComplete, if_pos hfl, if_neg (Bool.eq_false_iff.mp hwait), if_pos hmain]
  exact ⟨_, rfl, by rw [storeResets_power, storeFlushDone_power]; rfl, by rw [storeResets_sys, storeFlushDone_sys]⟩

/-- Settles O41: neither the return of VMAIN nor the end of the flush writes the power state, the origin, the reset or the domains'
power. -/
theorem dipWithoutRestart : Obligations.DipWithoutRestart := by
  intro s hmain
  refine ⟨fun hpfw => ?_, fun hfl hwait => ?_⟩
  · refine answers_of_bare (exec_pfwRecovered hpfw hmain) fun t hb _ => ?_
    exact ⟨(kept_of_bare (·.power.dips) (fun _ => rfl) hb :), (kept_of_bare (·.power.flushing) (fun _ => rfl) hb :),
      (kept_of_bare (·.power.st) (fun _ => rfl) hb :), (kept_of_bare (·.power.origin) (fun _ => rfl) hb :),
      (kept_of_bare (·.power.inReset) (fun _ => rfl) hb :)⟩
  · obtain ⟨u, he, hp, hsys⟩ := exec_flushComplete_of_vmain hfl hwait hmain
    refine answers_of_bare he fun t hb _ => ?_
    exact ⟨(kept_of_bare (·.power.flushing) (fun _ => rfl) hb).trans (congrArg Power.flushing hp :),
      (kept_of_bare (·.power.flushComplete) (fun _ => rfl) hb).trans (congrArg Power.flushComplete hp :),
      (kept_of_bare (·.power.st) (fun _ => rfl) hb).trans (congrArg Power.st hp :),
      (kept_of_bare (·.power.origin) (fun _ => rfl) hb).trans (congrArg Power.origin hp :),
      (kept_of_bare (·.power.inReset) (fun _ => rfl) hb).trans (congrArg Power.inReset hp :),
      (kept_of_bare (·.sys.applied) (fun _ => rfl) hb).trans (congrArg Sys.applied hsys)⟩

/-! ### A refused SLEEP_REQ write (R318-R320, R1218) -/

/-- An open bus carries out at once an access that waits for no copy of a client; the access is an event. -/
theorem onBus_of_open {s : State} (h : BusOpen s) {a : BusAcc} (hcopy : awaitsCopy a s = false) :
    onBus a s = busDo a (evt 280 s) := by
  obtain ⟨hmain, hrdy, hwait, hsleep, hmoving, hwin⟩ := h
  have powered : (!s.power.vmain || s.host.nWaitLow) = false := by simp [hmain, hwait]
  have awake : ¬ (s.power.st = .sleep ∨ now s < s.power.movingUntil) := not_or.mpr ⟨hsleep, Nat.not_lt.mpr hmoving⟩
  have noCopy : awaitsCopy a (evt 280 s) = false := hcopy
  have noWindow : awaitsWindow a (evt 280 s) = false := by
    simp [awaitsWindow, show windowDue (evt 280 s) = false from hwin]
  simp [onBus, powered, hrdy, awake, noCopy, noWindow]

/-- On an open bus the command writes SLEEP_REQ. -/
theorem exec_sleepReqWrite {s : State} (h : BusOpen s) (hm : s.legacy.mode = false) (ceil : BitVec 3) :
    exec (.sleepReqWrite ceil) s = finish s (sleepReq ceil (evt 280 s)) := by
  have done : onBus { write := true, off := 0x24, v := ceil.setWidth 16, ok := true } s = sleepReq ceil (evt 280 s) := by
    rw [onBus_of_open h (by simp [awaitsCopy])]
    simp [busDo, regWrite, show (evt 280 s).legacy.mode = false from hm]
  exact congrArg (finish s) done

/-- SLEEP_REQ refused with a code: RES shows it, CEIL and a write that waits for its tick stay. -/
def sleepRefused (n : BitVec 3) (s : State) : State := { s with power := { s.power with sleepRes := n } }

/-- A CEIL that names no state is refused with 4. -/
theorem sleepReq_of_value {ceil : BitVec 3} (h : 3 < ceil.toNat) (s : State) : sleepReq ceil s = sleepRefused 4 s := if_pos h

/-- SLEEP is refused with 3 while an alarm is latched. -/
theorem sleepReq_of_alarm {s : State} (h : anyAlarm s = true) : sleepReq 3 s = sleepRefused 3 s := by
  simp [sleepReq, h, sleepRefused]

/-- SLEEP without an alarm is refused with 2 while a wake cause is latched. -/
theorem sleepReq_of_wake {s : State} (ha : anyAlarm s = false) (hw : s.power.wake ≠ 0) :
    sleepReq 3 s = sleepRefused 2 s := by
  have latched : ¬ s.power.wake = 0#7 := hw
  simp [sleepReq, ha, latched, sleepRefused]

/-- Settles O44: the three refusals in the order in which the write tests them; each writes RES only. -/
theorem sleepRequestsRefused : Obligations.SleepRequestsRefused := by
  intro s ceil hopen hm
  refine ⟨fun hv => ?_, fun ha => ?_, fun ha hw => ?_⟩
  · refine answers_of_bare (exec_sleepReqWrite hopen hm ceil) fun t hb _ => ?_
    rw [hb, sleepReq_of_value hv]; rfl
  · refine answers_of_bare (exec_sleepReqWrite hopen hm 3) fun t hb _ => ?_
    rw [hb, sleepReq_of_alarm (s := evt 280 s) ha]; rfl
  · refine answers_of_bare (exec_sleepReqWrite hopen hm 3) fun t hb _ => ?_
    rw [hb, sleepReq_of_wake (s := evt 280 s) ha hw]; rfl

/-! ### The end of a wake sequence (R324, R1217) -/

@[simp] theorem countIrq_power (old s : State) : (countIrq old s).power = s.power := by unfold countIrq; split <;> rfl
@[simp] theorem setLstat_power (b : Nat) (s : State) : (setLstat b s).power = s.power := by
  unfold setLstat; split <;> simp
@[simp] theorem setIrq_power (b : Nat) (s : State) : (setIrq b s).power = s.power := by
  unfold setIrq; split <;> simp

/-- Setting an interrupt leaves the access that the bus holds. -/
@[simp] theorem setIrq_heldAcc (b : Nat) (s : State) : (setIrq b s).host.heldAcc = s.host.heldAcc :=
  kept_of_bare (·.host.heldAcc) (fun _ => rfl) (bare_setIrq b s)

@[simp] theorem endWake_ceil (s : State) : (endWake s).power.ceil = 2 := congrArg Power.ceil (setIrq_power 7 _)
@[simp] theorem endWake_sleepRes (s : State) : (endWake s).power.sleepRes = 5 := congrArg Power.sleepRes (setIrq_power 7 _)

/-- The end of a wake sequence leaves the access that the bus holds; releasing it is the command's. -/
@[simp] theorem endWake_heldAcc (s : State) : (endWake s).host.heldAcc = s.host.heldAcc := by
  refine (setIrq_heldAcc 7 _).trans ?_
  dsimp only
  split <;> rfl

theorem releaseHeld_of_none {s : State} (h : s.host.heldAcc = none) : releaseHeld s = s := by
  unfold releaseHeld; rw [h]

/-- Releasing the bus after the end of a wake sequence does nothing when it holds no access. -/
theorem releaseHeld_endWake {s : State} (h : s.host.heldAcc = none) : releaseHeld (endWake s) = endWake s :=
  releaseHeld_of_none ((endWake_heldAcc s).trans h)

/-- A wake sequence that exits SLEEP, or that BUSRDY has let through, ends with its command. -/
theorem exec_wakeSequenceEnd {s : State} (hseq : s.power.wakeSeq = true) (hheld : s.host.heldAcc = none)
    (hend : s.power.busrdy = true ∨ s.power.st = .sleep) : exec .wakeSequenceEnd s = finish s (endWake s) := by
  have ends : (s.power.wakeSeq && (s.power.busrdy || decide (s.power.st = .sleep))) = true := by simpa [hseq] using hend
  change execWakeSequenceEnd s = _
  rw [execWakeSequenceEnd, if_pos ends, releaseHeld_endWake hheld, ite_self]

/-- A wake sequence that exits VIGIL ends at BUSRDY, once the host interface is ready. -/
theorem exec_busrdy_of_wakeSeq {s : State} (hseq : s.power.wakeSeq = true) (hheld : s.host.heldAcc = none)
    (hmain : s.power.vmain = true) (hrst : s.power.inReset = false) (hrdy : s.power.busrdy = false)
    (hbus : (domAvail s).getLsbD 10 = true) (hstarted : s.power.canvasStarted.isSome = true) :
    ∃ u, exec .busrdy s = finish s (endWake u) := by
  have ready : (s.power.vmain && !s.power.inReset && !s.power.busrdy && (domAvail s).getLsbD 10 &&
      (s.power.canvasStarted.isSome || (s.canvas.noImage && passed s s.power.origin (400 * ms)))) = true := by
    simp [hmain, hrst, hrdy, hbus, hstarted]
  change ∃ u, execBusrdy s = _
  simp only [execBusrdy, if_pos ready, setIrq_power, if_pos hseq]
  exact ⟨_, congrArg (finish s) (releaseHeld_endWake ((setIrq_heldAcc 8 _).trans hheld))⟩

/-- A command whose effect is the end of a wake sequence leaves CEIL 2 and RES 5. -/
theorem answers_of_endWake {c : Instr} {s u : State} (e : exec c s = finish s (endWake u)) :
    Answers c s fun t => t.power.ceil = 2 ∧ t.power.sleepRes = 5 :=
  answers_of_bare e fun _ hb _ => ⟨(kept_of_bare (·.power.ceil) (fun _ => rfl) hb).trans (endWake_ceil u),
    (kept_of_bare (·.power.sleepRes) (fun _ => rfl) hb).trans (endWake_sleepRes u)⟩

/-- Settles O45: both commands end the sequence by `endWake`, and the bus holds no access that its release would carry out. -/
theorem wakeSequenceEnds : Obligations.WakeSequenceEnds := by
  intro s hseq hheld _
  refine ⟨fun hend => answers_of_endWake (exec_wakeSequenceEnd hseq hheld hend), fun hmain hrst hrdy hbus hstarted => ?_⟩
  obtain ⟨u, e⟩ := exec_busrdy_of_wakeSeq hseq hheld hmain hrst hrdy hbus hstarted
  exact answers_of_endWake e

end Sys2Proof.Machine
end

section
/-!
PROOFS. The arbiter's waiting requests (R717): what a request does while fewer than 16 wait and what it does beyond, whether a
CONV_ARB stroke or a criterion of the safety core makes it.
-/

namespace Sys2Proof.Machine

/-! ### A stroke that runs -/

/-- The mark that a lane has run an entry counts among the reports. -/
@[simp] theorem bare_laneRan (lane i : Nat) (s : State) : bare (laneRan lane i s) = bare s := rfl

/-- A stroke that runs writes what its effect writes; the rest of it is reports. -/
theorem bare_runStroke_of_strokeAt {s : State} {op i : Nat} {k : Stroke} (hk : strokeAt s op i = some k)
    (f : Stroke → State → State) : bare (runStroke op i f s) = bare (f k s) := by
  simp only [runStroke, hk, bare_laneRan]

/-! ### A request to the arbiter (R713, R717) -/

section
variable {s : State} {ch : Nat} (tick : Nat) (j : Option Nat) (harb : isArbiter s = true) (hch : chInService s ch = true)

include harb hch

/-- Fewer than 16 wait: a request for a channel in service joins the end of the queue, with its tick. -/
theorem arbRequest_of_room (h : s.conv.arbWait.length < 16) : arbRequest tick ch j s =
    { s with conv := { s.conv with arbWait := s.conv.arbWait ++ [(ch, j)], arbAt := s.conv.arbAt ++ [tick] } } := by
  rw [arbRequest, if_neg (by simp [harb, hch]), if_neg (Nat.not_le.mpr h)]

/-- 16 wait: a request for a channel in service is dropped and counted. -/
theorem arbRequest_of_full (h : 16 ≤ s.conv.arbWait.length) :
    arbRequest tick ch j s = { s with conv := { s.conv with arbDrop := satInc s.conv.arbDrop } } := by
  rw [arbRequest, if_neg (by simp [harb, hch]), if_pos h]

/-- The queue and the count of dropped requests after a request for a channel in service. -/
theorem arbRequest_queue :
    (s.conv.arbWait.length < 16 → (arbRequest tick ch j s).conv.arbWait = s.conv.arbWait ++ [(ch, j)] ∧
      (arbRequest tick ch j s).conv.arbDrop = s.conv.arbDrop) ∧
    (16 ≤ s.conv.arbWait.length → (arbRequest tick ch j s).conv.arbWait = s.conv.arbWait ∧
      (arbRequest tick ch j s).conv.arbDrop = satInc s.conv.arbDrop) := by
  constructor
  · intro h
    rw [arbRequest_of_room tick j harb hch h]
    exact ⟨rfl, rfl⟩
  · intro h
    rw [arbRequest_of_full tick j harb hch h]
    exact ⟨rfl, rfl⟩

end

/-- A CONV_ARB stroke that runs leaves the converters as its request to the arbiter does. -/
theorem answers_convArb {s : State} {i : Nat} {k : Stroke} (hk : strokeAt s 0x2A i = some k) :
    Answers (.convArb i) s fun t => t.conv = (arbRequest (tickNo s) k.e.target none s).conv :=
  answers_of_bare rfl fun _ hb _ => kept_of_bare (·.conv) (fun _ => rfl) (hb.trans (bare_runStroke_of_strokeAt hk _))

/-- Settles O30: a request is taken or dropped by the length of the queue, whoever makes it, and the stroke's answer has the
converters of its request. -/
theorem arbiterQueueFull : Obligations.ArbiterQueueFull := by
  intro s harb
  constructor
  · intro i k hk hch
    obtain ⟨t, ht, hconv⟩ := answers_convArb hk
    have ⟨room, full⟩ := arbRequest_queue (tickNo s) none harb hch
    rw [← hconv] at room full
    exact ⟨fun h => ⟨t, ht, room h⟩, fun h => ⟨t, ht, full h⟩⟩
  · intro tick ch j hch
    exact arbRequest_queue tick (some j) harb hch

end Sys2Proof.Machine
end

section
/-!
PROOFS. The strokes of the loop engine (13_loop_engine.md): the output of a compensator evaluation in DELAY1 and in ASAP mode
(R743, R747, R750), and a Pentimento instance without a table (R767).
-/

namespace Sys2Proof.Machine

/-- A command that carries out a stroke answers, up to reports, with the effect of the stroke that runs. -/
theorem answers_runStroke {c : Instr} {s : State} {op i : Nat} {k : Stroke} {f : Stroke → State → State}
    (e : exec c s = finish s (runStroke op i f s)) (hk : strokeAt s op i = some k) :
    Answers c s fun t => bare t = bare (f k s) :=
  answers_of_bare e fun _ hb _ => hb.trans (bare_runStroke_of_strokeAt hk f)

/-! ### A compensator evaluation (R743) -/

/-- CMP2 and CMP3 carry out one evaluation each, under their own op-codes. -/
theorem exec_cmp (cmp3 : Bool) (i done : Nat) (s : State) : exec (if cmp3 then .cmp3 i done else .cmp2 i done) s =
    finish s (runStroke (if cmp3 then 0x21 else 0x20) i (fun k s => compensate cmp3 k done s) s) := by
  cases cmp3 <;> rfl

/-- F_SAT and CNT_SAT are beside the slots. -/
@[simp] theorem noteSat_slots (n : Nat) (sat : Bool) (s : State) : (noteSat n sat s).loop.slots = s.loop.slots := by
  unfold noteSat; split <;> rfl
@[simp] theorem noteSat_canvas (n : Nat) (sat : Bool) (s : State) : (noteSat n sat s).canvas = s.canvas := by
  unfold noteSat; split <;> rfl

/-- The output y of an evaluation: the raw output within LO and HI of the slot's set (R743). -/
def compOut (s : State) (cmp3 : Bool) (k : Stroke) : Int :=
  clampI (slotLo s k.e.target) (slotHi s k.e.target) (rawOut s cmp3 k.e.target (readI s k k.e.inn)).1

/-- A state after an evaluation: the event counted, its saturation noted, and the slot's history d. -/
def evaluated (n : Nat) (sat : Bool) (d : Slot) (s : State) : State := setSlot n d (noteSat n sat (evt 272 s))

@[simp] theorem evaluated_slots (n : Nat) (sat : Bool) (d : Slot) (s : State) :
    (evaluated n sat d s).loop.slots = tblSet (fun _ => Slot.blank) s.loop.slots n d :=
  congrArg (tblSet (fun _ => Slot.blank) · n d) (noteSat_slots n sat (evt 272 s))
@[simp] theorem evaluated_canvas (n : Nat) (sat : Bool) (d : Slot) (s : State) : (evaluated n sat d s).canvas = s.canvas :=
  noteSat_canvas n sat (evt 272 s)

/-- In DELAY1 the output of an evaluation waits in its slot, for the entry's OUT signal and with the tick (R747). -/
theorem compensate_of_delay1 {s : State} {k : Stroke} (cmp3 : Bool) (done : Nat) (hin : slotInService s k.e.target = true)
    (hmode : slotAsap s k.e.target = false) :
    ∃ sat d, compensate cmp3 k done s = evaluated k.e.target sat d s ∧ d.pend = some (compOut s cmp3 k, k.e.out, tickNo s) := by
  simp only [compensate, hin, hmode, if_true, Bool.false_eq_true, if_false]
  exact ⟨_, _, rfl, rfl⟩

/-- An ASAP evaluation that meets its deadline writes its output (R749, R750). -/
theorem compensate_of_met {s : State} {k : Stroke} (cmp3 : Bool) {done : Nat} (hin : slotInService s k.e.target = true)
    (hmode : slotAsap s k.e.target = true) (hsched : k.start + opCost k.e.op ≤ slotDeadline s k.e.target)
    (hdone : done ≤ slotDeadline s k.e.target) :
    ∃ sat d, compensate cmp3 k done s = writeAsap k k.e.out (BitVec.ofInt 32 (compOut s cmp3 k))
      (slotDeadline s k.e.target) (evaluated k.e.target sat d s) := by
  simp only [compensate, hin, hmode, if_true, hsched, hdone, and_self]
  exact ⟨_, _, rfl⟩

/-- A met output to a signal that strokes can write is the newest write of the tick. -/
theorem writeAsap_fresh {k : Stroke} {g : Nat} (v : Word) (dl : Nat) (s : State) (hpos : 0 < g) (hlt : g < 0x7F0) :
    (writeAsap k g v dl s).canvas.fresh = { sig := g, lane := k.e.lane, dl := some dl, value := v } :: s.canvas.fresh := by
  rw [writeAsap, if_neg (by omega)]

/-- Settles O31: in both modes the evaluation stores or writes `compOut`, and the reports beside it write neither the slots nor
the signals. -/
theorem compensatorClamped : Obligations.CompensatorClamped := by
  intro s i done k cmp3 hk hin
  obtain ⟨t, ht, hb⟩ := answers_runStroke (exec_cmp cmp3 i done s) hk
  have hslots : t.loop.slots = (compensate cmp3 k done s).loop.slots := kept_of_bare (·.loop.slots) (fun _ => rfl) hb
  have hfresh : t.canvas.fresh = (compensate cmp3 k done s).canvas.fresh := kept_of_bare (·.canvas.fresh) (fun _ => rfl) hb
  constructor
  · intro hmode
    obtain ⟨sat, d, he, hpend⟩ := compensate_of_delay1 cmp3 done hin hmode
    rw [he] at hslots hfresh
    exact ⟨t, ht, d, hslots.trans (evaluated_slots ..), hpend, hfresh.trans (by rw [evaluated_canvas])⟩
  · intro hmode hsched hdone hpos hlt
    obtain ⟨sat, d, he⟩ := compensate_of_met cmp3 hin hmode hsched hdone
    rw [he, writeAsap_fresh _ _ _ hpos hlt, evaluated_canvas] at hfresh
    exact ⟨t, ht, _, compOut s cmp3 k, rfl, hfresh⟩

/-! ### A Pentimento instance without a table (R767) -/

/-- Without a table a step writes nothing of the instance or the tables, and its output is 0. -/
theorem pentStep_of_noTable {s : State} {i : Nat} (h : pentL s i = 0) (e : Int) (q : Word) : pentStep i e q s = (s, 0) :=
  if_pos h

/-- Settles O32: the stroke's effect is its write of the step's output to OUT, and the step without a table changes nothing. -/
theorem pentWithoutTable : Obligations.PentWithoutTable := by
  intro s i k hk hlen
  obtain ⟨t, ht, hb⟩ := answers_runStroke (c := .pent i) rfl hk
  rw [pentStep_of_noTable hlen] at hb
  exact ⟨t, ht, hb⟩

end Sys2Proof.Machine
end

section
/-!
PROOFS. The sounders of domain G (15_fans_relays_sounders.md): a chirp that is discarded.
-/

namespace Sys2Proof.Machine

/-! ### A chirp that is discarded (R905) -/

/-- A sounder that chirps or sounds ALARM only counts a chirp sent to it, a TROUBLE or a PROOF chirp alike (R905). -/
theorem chirp_of_sounding {s : State} {k : Nat} (proof : Bool) (hlive : outputsLive s = true)
    (hsounds : (sounder s k).alarm = true ∨ (sounder s k).chirpEnd ≠ none) :
    chirp k proof s = setSounder k { sounder s k with disc := satInc (sounder s k).disc } s := by
  have hbusy : ((sounder s k).alarm || (sounder s k).chirpEnd.isSome || s.gesso.outCmd.getLsbD k) = true := by
    rcases hsounds with halarm | hchirps
    · rw [halarm, Bool.true_or, Bool.true_or]
    · rw [Option.isSome_iff_ne_none.2 hchirps, Bool.or_true, Bool.true_or]
  simp only [chirp, hlive, hbusy, Bool.not_true, Bool.false_eq_true, if_false, if_true]

/-- The running safety core's chirp command has the effect of the chirp alone. -/
theorem exec_gessoChirp {s : State} (k : Fin 4) (proof : Bool) (hrun : s.safety.run = true) :
    exec (.gessoChirp k proof) s = finish s (chirp k.val proof s) := by
  change finish s (if s.safety.run then chirp k.val proof s else s) = _
  rw [if_pos hrun]

/-- Settles O15: the discarded chirp's effect is the count alone, and a sounder's record is no input of the tier, so the answer
is the effect itself. -/
theorem chirpDiscarded : Obligations.ChirpDiscarded := by
  intro s k proof hsettled hrun hlive hsounds
  have effect : exec (.gessoChirp k proof) s =
      finish s (setSounder k.val { sounder s k.val with disc := satInc (sounder s k.val).disc } s) := by
    rw [exec_gessoChirp k proof hrun, chirp_of_sounding proof hlive hsounds]
  exact answers_of_settled effect (settled_of_bare hsettled (bare_setSounder ..) rfl) rfl

end Sys2Proof.Machine
end

section
/-!
PROOFS. What is left of a state beside some parts: the form in which every operation of the model says what it leaves unchanged.
`keep w s` blanks the parts that `w` names, and what `inner` leaves out; an operation that writes named parts only leaves it. The
lemmas are rewriting rules for `simp`, applied before the arguments of an operation are visited (`↓`), so that an effect made of
several operations and updates reduces from the outside to the state it started from.
-/

namespace Sys2Proof.Machine

/-- What is left of a state beside the parts that `w` names, what reports and a tier change write, and the following of outputs. -/
def keep (w : Part → Bool) (s : State) : State :=
  let u := inner s
  { pending := bif w .pending then [] else u.pending
    free := u.free
    mem := bif w .mem then [] else u.mem
    params := bif w .params then [] else u.params
    gesso := bif w .gesso then resetGesso else u.gesso
    pads := bif w .pads then resetPads else u.pads
    safety := bif w .safety then resetSafety else u.safety
    time := bif w .time then resetTime else u.time
    canvas := bif w .canvas then resetCanvas else u.canvas
    sys := bif w .sys then resetSys else u.sys
    power := bif w .power then resetPower else u.power
    host := bif w .host then resetHost else u.host
    glaze := bif w .glaze then resetGlaze else u.glaze
    zc := bif w .zc then resetZc else u.zc
    bb := bif w .bb then resetBb else u.bb
    clients := bif w .clients then resetClients else u.clients
    evt := bif w .evt then resetEvt else u.evt
    conv := bif w .conv then resetConv else u.conv
    loop := bif w .loop then resetLoop else u.loop
    drive := bif w .drive then resetDrive else u.drive
    fans := bif w .fans then resetFans else u.fans
    store := bif w .store then resetStore else u.store
    mirror := bif w .mirror then resetMirror else u.mirror
    field := bif w .field then resetField else u.field
    proof := bif w .proof then resetProof else u.proof
    legacy := bif w .legacy then resetLegacy else u.legacy }

variable {w : Part → Bool}

theorem keep_of_inner {s t : State} (e : inner t = inner s) : keep w t = keep w s := by unfold keep; rw [e]

theorem same_symm {p : Part} {s t : State} (h : p.same s t) : p.same t s := by
  cases p <;> exact Eq.symm h
theorem same_trans {p : Part} {s t u : State} (h : p.same s t) (h' : p.same t u) : p.same s u := by
  cases p <;> exact Eq.trans h h'

/-- A part that `w` does not name is in what is left. -/
theorem same_keep {p : Part} (h : w p = false) (s : State) : p.same (keep w s) (inner s) := by
  cases p <;> simp [Part.same, keep, h]

/-- Where what is left agrees, every part that `w` does not name agrees. -/
theorem same_of_keep {s t : State} (e : keep w t = keep w s) {p : Part} (h : w p = false) : p.same (inner t) (inner s) :=
  same_trans (same_symm (same_keep h t)) (e ▸ same_keep h s)

/-- A part that is named, or unchanged together with what is left of it. -/
theorem cond_congr_of {α β : Type} {b : Bool} {x y : α} {u v z : β} (h : b = true ∨ x = y) (left : x = y → u = v) :
    (bif b then z else u) = bif b then z else v := by
  obtain rfl | e := h
  · rfl
  · rw [left e]

/-- An update whose every part is named or unchanged. -/
@[simp ↓] theorem keep_mk {s : State} {free : Nat} {mem : Memory} {params : Tbl Word} {gesso : Gesso} {pads : Pads}
    {safety : Safety}
    {time : Time} {canvas : Canvas} {sys : Sys} {power : Power} {host : HostBus} {glaze : Glaze} {zc : Zc} {bb : Bb}
    {clients : Clients} {evt : Evt} {conv : Conv} {loop : Loop} {drive : Drive} {fans : Fans} {store : Store} {mirror : Mirror}
    {field : Field} {proof : Proof} {legacy : Legacy}
    (hmem : w .mem = true ∨ mem = s.mem) (hparams : w .params = true ∨ params = s.params)
    (hgesso : w .gesso = true ∨ gesso = s.gesso) (hpads : w .pads = true ∨ pads = s.pads)
    (hsafety : w .safety = true ∨ safety = s.safety) (htime : w .time = true ∨ time = s.time)
    (hcanvas : w .canvas = true ∨ canvas = s.canvas) (hsys : w .sys = true ∨ sys = s.sys)
    (hpower : w .power = true ∨ power = s.power) (hhost : w .host = true ∨ host = s.host)
    (hglaze : w .glaze = true ∨ glaze = s.glaze) (hzc : w .zc = true ∨ zc = s.zc) (hbb : w .bb = true ∨ bb = s.bb)
    (hclients : w .clients = true ∨ clients = s.clients) (hevt : w .evt = true ∨ evt = s.evt)
    (hconv : w .conv = true ∨ conv = s.conv) (hloop : w .loop = true ∨ loop = s.loop)
    (hdrive : w .drive = true ∨ drive = s.drive) (hfans : w .fans = true ∨ fans = s.fans)
    (hstore : w .store = true ∨ store = s.store) (hmirror : w .mirror = true ∨ mirror = s.mirror)
    (hfield : w .field = true ∨ field = s.field) (hproof : w .proof = true ∨ proof = s.proof)
    (hlegacy : w .legacy = true ∨ legacy = s.legacy) :
    keep w ⟨s.pending, free, mem, params, gesso, pads, safety, time, canvas, sys, power, host, glaze, zc, bb, clients, evt, conv,
      loop, drive, fans, store, mirror, field, proof, legacy⟩ = keep w s := by
  rw [keep, keep, State.mk.injEq]
  exact ⟨rfl, rfl,
    cond_congr_of hmem (by rintro rfl; rfl), cond_congr_of hparams (by rintro rfl; rfl),
    cond_congr_of hgesso (by rintro rfl; rfl), cond_congr_of hpads (by rintro rfl; rfl),
    cond_congr_of hsafety (by rintro rfl; rfl), cond_congr_of htime (by rintro rfl; rfl),
    cond_congr_of hcanvas (by rintro rfl; rfl), cond_congr_of hsys (by rintro rfl; rfl),
    cond_congr_of hpower (by rintro rfl; rfl), cond_congr_of hhost (by rintro rfl; rfl),
    cond_congr_of hglaze (by rintro rfl; rfl), cond_congr_of hzc (by rintro rfl; rfl),
    cond_congr_of hbb (by rintro rfl; rfl), cond_congr_of hclients (by rintro rfl; rfl),
    cond_congr_of hevt (by rintro rfl; rfl), cond_congr_of hconv (by rintro rfl; rfl),
    cond_congr_of hloop (by rintro rfl; rfl), cond_congr_of hdrive (by rintro rfl; rfl),
    cond_congr_of hfans (by rintro rfl; rfl), cond_congr_of hstore (by rintro rfl; rfl),
    cond_congr_of hmirror (by rintro rfl; rfl), cond_congr_of hfield (by rintro rfl; rfl),
    cond_congr_of hproof (by rintro rfl; rfl), cond_congr_of hlegacy (by rintro rfl; rfl)⟩

@[simp ↓] theorem keep_ite {c : Prop} [Decidable c] (a b : State) :
    keep w (if c then a else b) = if c then keep w a else keep w b :=
  apply_ite (keep w) c a b

theorem keep_branch {c : Prop} [Decidable c] {a b s : State} (ha : keep w a = keep w s) (hb : keep w b = keep w s) :
    keep w (if c then a else b) = keep w s := by
  rw [keep_ite, ha, hb, ite_self]

/-- A fold of steps that leave what is left leaves it. -/
@[simp ↓] theorem keep_foldl {α : Type} {f : State → α → State} (h : ∀ s a, keep w (f s a) = keep w s) :
    ∀ (l : List α) (s : State), keep w (l.foldl f s) = keep w s
  | [], _ => rfl
  | a :: r, s => by rw [List.foldl_cons, keep_foldl h r, h]

end Sys2Proof.Machine
end

section
/-!
PROOFS. The frame of every operation that a command's effect is made of, in the order of the files of the model: the parts it writes
are the hypotheses, and nothing else is written.
-/

namespace Sys2Proof.Machine

variable {w : Part → Bool}

/-! ### ParamTable -/

@[simp ↓] theorem keep_setPar (a : Nat) (v : Word) (s : State) (h : w .params) :
    keep w (setPar a v s) = keep w s := by
  simp [setPar, h]

/-! ### Ops -/

@[simp ↓] theorem keep_moveTo (s : State) (e : Nat) (h : w .time) :
    keep w (moveTo s e) = keep w s := by
  simp [moveTo, h]

@[simp ↓] theorem keep_moveIn (s : State) (at_ : Nat) (h : w .time) :
    keep w (moveIn s at_) = keep w s := by
  simp [moveIn, h]

@[simp ↓] theorem keep_evtN (src n : Nat) (s : State) :
    keep w (evtN src n s) = keep w s := keep_of_inner (by simp)

@[simp ↓] theorem keep_evt (src : Nat) (s : State) :
    keep w (evt src s) = keep w s := keep_of_inner (by simp)

@[simp ↓] theorem keep_useReserve (lane user cost : Nat) (s : State) :
    keep w (useReserve lane user cost s) = keep w s := keep_of_inner rfl

@[simp ↓] theorem keep_askReserve (lane user : Nat) (ack : Option (Nat × Nat)) (s : State) :
    keep w (askReserve lane user ack s) = keep w s := keep_of_inner rfl

@[simp ↓] theorem keep_logAt (e code : Nat) (value : Word) (s : State) :
    keep w (logAt e code value s) = keep w s := keep_of_inner (by simp)

@[simp ↓] theorem keep_parPush (cls item : Nat) (v : Word) (s : State) (h : w .store) :
    keep w (parPush cls item v s) = keep w s := by
  simp [parPush, h]

@[simp ↓] theorem keep_logPush (code : Nat) (value : Word) (s : State) :
    keep w (logPush code value s) = keep w s := keep_of_inner (by simp)

@[simp ↓] theorem keep_countIrq (old s : State) :
    keep w (countIrq old s) = keep w s := by
  simp [countIrq]

@[simp ↓] theorem keep_setLstat (b : Nat) (s : State) :
    keep w (setLstat b s) = keep w s := keep_of_inner (by simp)

@[simp ↓] theorem keep_setIrq (b : Nat) (s0 : State) :
    keep w (setIrq b s0) = keep w s0 := keep_of_inner (by simp)

@[simp ↓] theorem keep_latchWake (c : Nat) (s : State) :
    keep w (latchWake c s) = keep w s := keep_of_inner (by simp)

@[simp ↓] theorem keep_setZc (t : Nat) (z : ZcTrack) (s : State) :
    keep w (setZc t z s) = keep w s := keep_of_inner rfl

@[simp ↓] theorem keep_queueP1 (t : Nat) (f : HubFrame) (s : State) :
    keep w (queueP1 t f s) = keep w s := keep_of_inner rfl

@[simp ↓] theorem keep_queueP2 (t : Nat) (f : HubFrame) (s : State) :
    keep w (queueP2 t f s) = keep w s := keep_of_inner rfl

@[simp ↓] theorem keep_hubBcast (code : Nat) (s : State) :
    keep w (hubBcast code s) = keep w s := keep_of_inner (by simp)

@[simp ↓] theorem keep_chirpSettle (s : State) :
    keep w (chirpSettle s) = keep w s := keep_of_inner (inner_of_reports (sansReports_chirpSettle s))

@[simp ↓] theorem keep_raiseCause (code src : Nat) (event : Bool) (s : State) :
    keep w (raiseCause code src event s) = keep w s := keep_of_inner (by simp)

@[simp ↓] theorem keep_dropCause (code src : Nat) (s : State) :
    keep w (dropCause code src s) = keep w s := keep_of_inner (by simp)

@[simp ↓] theorem keep_setCause (code src : Nat) (present : Bool) (s : State) :
    keep w (setCause code src present s) = keep w s := keep_of_inner (by simp)

/-! Updates of reports and of outputs that follow, written out. -/

@[simp ↓] theorem keep_tierLog (l : List (Nat × Word)) (s : State) :
    keep w { s with sys := { s.sys with tierLog := l } } = keep w s := keep_of_inner rfl
@[simp ↓] theorem keep_cmdChanged (n : Nat) (s : State) :
    keep w { s with safety := { s.safety with cmdChanged := n } } = keep w s := keep_of_inner rfl
@[simp ↓] theorem keep_lastBcast (n : Option Nat) (s : State) :
    keep w { s with safety := { s.safety with lastBcast := n } } = keep w s := keep_of_inner rfl
@[simp ↓] theorem keep_lastChirp (n : Option Nat) (s : State) :
    keep w { s with safety := { s.safety with lastChirp := n } } = keep w s := keep_of_inner rfl
@[simp ↓] theorem keep_cycle (c : Option Nat) (n : Nat) (s : State) :
    keep w { s with pads := { s.pads with cycleStart := c, interval := n } } = keep w s := keep_of_inner rfl
@[simp ↓] theorem keep_zcTracks (l : Tbl ZcTrack) (s : State) :
    keep w { s with zc := { s.zc with tracks := l } } = keep w s := keep_of_inner rfl
@[simp ↓] theorem keep_logQ (n : Nat) (l : List LogEntry) (s : State) :
    keep w { s with store := { s.store with ord := n, logQ := l } } = keep w s := keep_of_inner rfl
/-- The work that waits for a lane's reserve counts among the reports. -/
@[simp ↓] theorem keep_work (l : List Work) (b : Bb) (g : Glaze) (s : State) :
    keep w { s with canvas := { s.canvas with work := l }, bb := b, glaze := g } = keep w { s with bb := b, glaze := g } :=
  keep_of_inner rfl

@[simp ↓] theorem keep_flushTierLog (s : State) :
    keep w (flushTierLog s) = keep w s := by
  unfold flushTierLog
  dsimp only
  split
  · exact (keep_tierLog _ _).trans (by simp)
  · rfl

/-! ### Outputs -/

@[simp ↓] theorem keep_setSounder (k : Nat) (d : Sounder) (s : State) :
    keep w (setSounder k d s) = keep w s := keep_of_inner rfl

@[simp ↓] theorem keep_noteSwitches (old s : State) :
    keep w (noteSwitches old s) = keep w s := keep_of_inner (by simp)

@[simp ↓] theorem keep_refreshOut (s : State) :
    keep w (refreshOut s) = keep w s := keep_of_inner (by simp)

@[simp ↓] theorem keep_chirp (k : Nat) (proof : Bool) (s : State) :
    keep w (chirp k proof s) = keep w s := keep_of_inner (by simp)

@[simp ↓] theorem keep_chirpMask (m : BitVec 4) (s : State) :
    keep w (chirpMask m s) = keep w s := keep_of_inner (by simp)

@[simp ↓] theorem keep_gessoChirp (s : State) :
    keep w (gessoChirp s) = keep w s := keep_of_inner (by simp)

@[simp ↓] theorem keep_stopPath (s : State) (h : w .pads) :
    keep w (stopPath s) = keep w s := by
  simp [stopPath, h]

@[simp ↓] theorem keep_crlySafe (s : State) (h : w .pads) :
    keep w (crlySafe s) = keep w s := by
  simp [crlySafe, h]

@[simp ↓] theorem keep_tierChange (old s : State) :
    keep w (tierChange old s) = keep w s := keep_of_inner (by simp)

/-! ### ClientRec -/

@[simp ↓] theorem keep_putC (id w0 : Nat) (mask v : Word) (s : State) (h : w .clients) :
    keep w (putC id w0 mask v s) = keep w s := by
  simp [putC, h]

@[simp ↓] theorem keep_setC (id w0 : Nat) (mask v : Word) (s : State) (h : w .clients ∧ w .store) :
    keep w (setC id w0 mask v s) = keep w s := by
  simp [setC, h]

@[simp ↓] theorem keep_setCF (id w0 lo n v : Nat) (s : State) (h : w .clients ∧ w .store) :
    keep w (setCF id w0 lo n v s) = keep w s := by
  simp [setCF, h]

@[simp ↓] theorem keep_incCF (id w0 lo n : Nat) (s : State) (h : w .clients ∧ w .store) :
    keep w (incCF id w0 lo n s) = keep w s := by
  simp [incCF, h]

/-! ### ProofOps -/

@[simp ↓] theorem keep_proofPauseOnAlarm (s : State) (h : w .proof) :
    keep w (proofPauseOnAlarm s) = keep w s := by
  simp [proofPauseOnAlarm, h]

@[simp ↓] theorem keep_proofAbandonFrame (t slot : Nat) (s : State) (h : w .proof) :
    keep w (proofAbandonFrame t slot s) = keep w s := by
  unfold proofAbandonFrame
  split <;> simp [h]

@[simp ↓] theorem keep_markHead (id out code : Nat) (s : State) (h : w .clients ∧ w .store) :
    keep w (markHead id out code s) = keep w s := by
  simp [markHead, h]

@[simp ↓] theorem keep_proofHeadAnswer (id : Nat) (ok : Bool) (code : Nat) (s : State) (h : w .clients ∧ w .store ∧ w .proof) :
    keep w (proofHeadAnswer id ok code s) = keep w s := by
  simp [proofHeadAnswer, h]

@[simp ↓] theorem keep_proofClose (aborted : Bool) (s : State) (h : w .proof) :
    keep w (proofClose aborted s) = keep w s := by
  simp [proofClose, h]

@[simp ↓] theorem keep_proofCalendar (old new : Nat) (s : State) (h : w .proof) :
    keep w (proofCalendar old new s) = keep w s := by
  unfold proofCalendar
  generalize lastSched s new = last
  refine keep_branch rfl ?_
  cases last with
  | none => rfl
  | some t => exact keep_branch (by simp [h]) rfl

/-! ### MirrorOps -/

@[simp ↓] theorem keep_cntMirror (i : Nat) (s : State) (h : w .mirror) :
    keep w (cntMirror i s) = keep w s := by
  simp [cntMirror, h]

@[simp ↓] theorem keep_mirrorNote (old s : State) :
    keep w (mirrorNote old s) = keep w s := by
  simp [mirrorNote]

@[simp ↓] theorem keep_mirrorTx (typ : Nat) (s : State) (h : w .mirror) :
    keep w (mirrorTx typ s) = keep w s := by
  simp [mirrorTx, h]

@[simp ↓] theorem keep_mirrorTrigger (cause : Nat) (force : Bool) (s : State) (h : w .mirror) :
    keep w (mirrorTrigger cause force s) = keep w s := by
  simp [mirrorTrigger, h]

@[simp ↓] theorem keep_mirrorSelfFault (s : State) (h : w .mirror) :
    keep w (mirrorSelfFault s) = keep w s := by
  simp [mirrorSelfFault, h]

@[simp ↓] theorem keep_mirrorForwardAck (_op : Nat) (s : State) (h : w .mirror) :
    keep w (mirrorForwardAck _op s) = keep w s := by
  simp [mirrorForwardAck, h]

@[simp ↓] theorem keep_mirrorForward (s : State) (h : w .mirror) :
    keep w (mirrorForward s) = keep w s := by
  simp [mirrorForward, h]

@[simp ↓] theorem keep_askTransfer (s : State) (h : w .mirror) :
    keep w (askTransfer s) = keep w s := by
  simp [askTransfer, h]

@[simp ↓] theorem keep_mirrorDiverge (f item blame : Nat) (s : State) (h : w .mirror) :
    keep w (mirrorDiverge f item blame s) = keep w s := by
  simp [mirrorDiverge, h]

@[simp ↓] theorem keep_mirrorRes (n : Nat) (s : State) (h : w .mirror) :
    keep w (mirrorRes n s) = keep w s := by
  simp [mirrorRes, h]

@[simp ↓] theorem keep_mirrorCtl (v : Half) (s : State) (h : w .mirror) :
    keep w (mirrorCtl v s) = keep w s := by
  simp [mirrorCtl, h]

/-! ### Alarm -/

@[simp ↓] theorem keep_latchTrip (src addr : Nat) (s0 : State) (h : w .gesso ∧ w .proof) :
    keep w (latchTrip src addr s0) = keep w s0 := by
  simp [latchTrip, h]

@[simp ↓] theorem keep_pathTakes (snd : BitVec 4) (rly : BitVec 16) (s : State) (h : w .pads) :
    keep w (pathTakes snd rly s) = keep w s := by
  unfold pathTakes
  dsimp only
  split <;> simp [h]

@[simp ↓] theorem keep_writePath (s : State) (h : w .pads) :
    keep w (writePath s) = keep w s := by
  simp [writePath, h]

@[simp ↓] theorem keep_releasePath (rly : Bool) (s : State) (h : w .pads ∧ w .safety) :
    keep w (releasePath rly s) = keep w s := by
  simp [releasePath, h]

@[simp ↓] theorem keep_setHeld (b : Bool) (s : State) (h : w .safety) :
    keep w (setHeld b s) = keep w s := by
  simp [setHeld, h]

@[simp ↓] theorem keep_latchAlarm (src addr : Nat) (s : State) (h : w .pads ∧ w .safety ∧ w .proof) :
    keep w (latchAlarm src addr s) = keep w s := by
  simp [latchAlarm, h]

@[simp ↓] theorem keep_gessoSilence (mask : BitVec 19) (s : State) (h : w .gesso) :
    keep w (gessoSilence mask s) = keep w s := by
  simp [gessoSilence, h]

@[simp ↓] theorem keep_gessoResetTrips (mask : BitVec 19) (s : State) (h : w .gesso) :
    keep w (gessoResetTrips mask s) = keep w s := by
  simp [gessoResetTrips, h]

/-! ### ClientOps -/

@[simp ↓] theorem keep_setRun (id : Nat) (r : ClientRun) (s : State) (h : w .clients) :
    keep w (setRun id r s) = keep w s := by
  simp [setRun, h]

@[simp ↓] theorem keep_cntAdmit (i : Nat) (s : State) (h : w .clients) :
    keep w (cntAdmit i s) = keep w s := by
  simp [cntAdmit, h]

@[simp ↓] theorem keep_classAnswer (cls ans : Nat) (s : State) (h : w .clients) :
    keep w (classAnswer cls ans s) = keep w s := by
  simp [classAnswer, h]

@[simp ↓] theorem keep_clientCause (id kind : Nat) (present : Bool) (s : State) :
    keep w (clientCause id kind present s) = keep w s := by
  simp [clientCause]

@[simp ↓] theorem keep_logClient (id : Nat) (s : State) :
    keep w (logClient id s) = keep w s := by
  simp [logClient]

@[simp ↓] theorem keep_setClientFlag (id bit : Nat) (v : Bool) (s : State) (h : w .clients ∧ w .store) :
    keep w (setClientFlag id bit v s) = keep w s := by
  unfold setClientFlag
  dsimp only
  simp [h]

@[simp ↓] theorem keep_setClientTrouble (id code : Nat) (s : State) (h : w .clients ∧ w .store) :
    keep w (setClientTrouble id code s) = keep w s := by
  simp [setClientTrouble, h]

@[simp ↓] theorem keep_eolCheck (id : Nat) (s : State) (h : w .clients ∧ w .store) :
    keep w (eolCheck id s) = keep w s := by
  simp [eolCheck, h]

@[simp ↓] theorem keep_admitClient (id : Nat) (s : State) (h : w .clients ∧ w .store) :
    keep w (admitClient id s) = keep w s := by
  simp [admitClient, h]

@[simp ↓] theorem keep_svcReport (tag : Byte) (ans reason : Nat) (s : State) (h : w .glaze) :
    keep w (svcReport tag ans reason s) = keep w s := by
  simp [svcReport, h]

@[simp ↓] theorem keep_svcDone (tag : Byte) (ans reason : Nat) (s : State) (h : w .glaze) :
    keep w (svcDone tag ans reason s) = keep w s := by
  simp [svcDone, h]

@[simp ↓] theorem keep_loseAdmission (id : Nat) (s : State) (h : w .glaze ∧ w .bb ∧ w .clients ∧ w .store) :
    keep w (loseAdmission id s) = keep w s := by
  unfold loseAdmission
  dsimp only
  split
  · split <;> simp [h]
  · rfl

@[simp ↓] theorem keep_setW28 (id ans n dlv : Nat) (seq : Byte) (s : State) (h : w .clients ∧ w .store) :
    keep w (setW28 id ans n dlv seq s) = keep w s := by
  simp [setW28, h]

@[simp ↓] theorem keep_refuseQueued (reason : Nat) (q : QCmd) (s : State) (h : w .clients ∧ w .store) :
    keep w (refuseQueued reason q s) = keep w s := by
  simp [refuseQueued, h]

@[simp ↓] theorem keep_refuseAll (reason : Nat) (p : QCmd → Bool) (s : State) (h : w .clients ∧ w .store) :
    keep w (refuseAll reason p s) = keep w s := by
  simp [refuseAll, h]

@[simp ↓] theorem keep_refuseC3 (s : State) (h : w .clients ∧ w .store) :
    keep w (refuseC3 s) = keep w s := by
  simp [refuseC3, h]

@[simp ↓] theorem keep_ageCommands (s : State) (h : w .clients ∧ w .store) :
    keep w (ageCommands s) = keep w s := by
  simp [ageCommands, h]

@[simp ↓] theorem keep_cmdSent (q : QCmd) (s : State) (h : w .clients ∧ w .store) :
    keep w (cmdSent q s) = keep w s := by
  simp [cmdSent, h]

@[simp ↓] theorem keep_cmdAcked (id : Nat) (seq : Byte) (s : State) (h : w .glaze ∧ w .bb ∧ w .clients ∧ w .store) :
    keep w (cmdAcked id seq s) = keep w s := by
  simp [cmdAcked, h]

@[simp ↓] theorem keep_failUnacked (id : Nat) (s : State) (h : w .clients ∧ w .store) :
    keep w (failUnacked id s) = keep w s := by
  simp [failUnacked, h]

@[simp ↓] theorem keep_queueUpdate (id : Nat) (ws : List (Nat × Word × Word)) (counts : Bool) (track : Option Nat) (s : State)
    (h : w .clients) :
    keep w (queueUpdate id ws counts track s) = keep w s := by
  simp [queueUpdate, h]

@[simp ↓] theorem keep_trackSeen (id t : Nat) (s : State) (h : w .clients ∧ w .store) :
    keep w (trackSeen id t s) = keep w s := by
  simp [trackSeen, h]

@[simp ↓] theorem keep_zcRecord (t typ id st : Nat) (s : State) (h : w .clients) :
    keep w (zcRecord t typ id st s) = keep w s := by
  simp [zcRecord, h]

@[simp ↓] theorem keep_recordWrite (id : Nat) (s : State) (w0 : Nat × Word × Word) (h : w .clients ∧ w .store) :
    keep w (recordWrite id s w0) = keep w s := by
  simp [recordWrite, h]

@[simp ↓] theorem keep_applyUpdate (u : ClientUpd) (s : State) (h : w .clients ∧ w .store) :
    keep w (applyUpdate u s) = keep w s := by
  unfold applyUpdate
  dsimp only
  split <;> simp [h]

@[simp ↓] theorem keep_zcJoinAnswer (t id : Nat) (s : State) (h : w .clients) :
    keep w (zcJoinAnswer t id s) = keep w s := by
  simp [zcJoinAnswer, h]

/-! ### CalendarOps -/

@[simp ↓] theorem keep_calendarMoved (old new : Nat) (s : State) (h : w .clients ∧ w .store ∧ w .proof) :
    keep w (calendarMoved old new s) = keep w s := by
  simp [calendarMoved, h]

/-! ### Gesso -/

@[simp ↓] theorem keep_setSen (n : Nat) (d : Sentinel) (s : State) (h : w .gesso) :
    keep w (setSen n d s) = keep w s := by
  simp [setSen, h]

@[simp ↓] theorem keep_swapTakes (n : Nat) (s : State) (h : w .gesso ∧ w .field) :
    keep w (swapTakes n s) = keep w s := by
  simp [swapTakes, h]

@[simp ↓] theorem keep_gessoSample (n mv : Nat) (s' : State) (h : w .gesso ∧ w .field) :
    keep w (gessoSample n mv s') = keep w s' := by
  simp [gessoSample, h]

@[simp ↓] theorem keep_gessoTakes (a : Nat) (comb : Bool) (e : Taken) (s : State) (h : w .gesso) :
    keep w (gessoTakes a comb e s) = keep w s := by
  simp [gessoTakes, h]

@[simp ↓] theorem keep_gessoHeeds (slot fe : Nat) (bits : BitVec 24) (comb : Bool) (before : Option (Nat × Bool)) (s : State)
    (h : w .gesso ∧ w .proof) :
    keep w (gessoHeeds slot fe bits comb before s) = keep w s := by
  unfold gessoHeeds
  split <;> simp [h]

@[simp ↓] theorem keep_gessoZcFrame (fe slot : Nat) (bits : BitVec 24) (singles : Nat) (comb : Combine) (s : State)
    (h : w .gesso ∧ w .proof) :
    keep w (gessoZcFrame fe slot bits singles comb s) = keep w s := by
  unfold gessoZcFrame
  dsimp only
  (repeat' split) <;> simp [h]

@[simp ↓] theorem keep_gessoDrops (th : Int) (lv : List (Int × Int)) (r : Reading) (s : State) (h : w .gesso) :
    keep w (gessoDrops th lv r s) = keep w s := by
  simp [gessoDrops, h]

@[simp ↓] theorem keep_latchScFault (s : State) (h : w .gesso ∧ w .pads) :
    keep w (latchScFault s) = keep w s := by
  simp [latchScFault, h]

@[simp ↓] theorem keep_beginRelatch (s : State) (h : w .gesso) :
    keep w (beginRelatch s) = keep w s := by
  simp [beginRelatch, h]

@[simp ↓] theorem keep_relatchRefused (n : Nat) (s : State) (h : w .gesso) :
    keep w (relatchRefused n s) = keep w s := by
  simp [relatchRefused, h]

@[simp ↓] theorem keep_requestRelatch (s : State) (h : w .gesso) :
    keep w (requestRelatch s) = keep w s := by
  simp [requestRelatch, h]

@[simp ↓] theorem keep_firmwareFails (s : State) (h : w .safety) :
    keep w (firmwareFails s) = keep w s := by
  simp [firmwareFails, h]

/-! ### ZcOps -/

@[simp ↓] theorem keep_zcStop (t : Nat) (s : State) :
    keep w (zcStop t s) = keep w s := by
  unfold zcStop
  dsimp only
  split <;> simp

@[simp ↓] theorem keep_zcAbandon (t : Nat) (s : State) :
    keep w (zcAbandon t s) = keep w s := by
  simp [zcAbandon]

@[simp ↓] theorem keep_zcDrop (t : Nat) (s : State) :
    keep w (zcDrop t s) = keep w s := keep_of_inner rfl

@[simp ↓] theorem keep_zcDropOwed (t : Nat) (s : State) :
    keep w (zcDropOwed t s) = keep w s := by
  simp [zcDropOwed]

@[simp ↓] theorem keep_zcCut (t : Nat) (s : State) :
    keep w (zcCut t s) = keep w s := by
  simp [zcCut]

@[simp ↓] theorem keep_zcTrackLost (t : Nat) (s : State) (h : w .gesso) :
    keep w (zcTrackLost t s) = keep w s := by
  simp [zcTrackLost, h]

@[simp ↓] theorem keep_markSyn (t : Nat) (rising : Bool) (s : State) :
    keep w (markSyn t rising s) = keep w s := keep_of_inner rfl

@[simp ↓] theorem keep_frameStart (t : Nat) (s : State) :
    keep w (frameStart t s) = keep w s := by
  simp [frameStart]

/-! ### TimeBase -/

@[simp ↓] theorem keep_calSetWrite (v : Word) (s : State) (h : w .params ∧ w .time) :
    keep w (calSetWrite v s) = keep w s := by
  simp [calSetWrite, h]

@[simp ↓] theorem keep_setTrack (t : Nat) (k : Track) (s : State) (h : w .time) :
    keep w (setTrack t k s) = keep w s := by
  simp [setTrack, h]

@[simp ↓] theorem keep_updatePhase (t : Nat) (s : State) (h : w .time) :
    keep w (updatePhase t s) = keep w s := by
  simp [updatePhase, h]

@[simp ↓] theorem keep_toothDone (t : Nat) (rising : Bool) (t16 : Int) (k : Track) (s : State) (h : w .time) :
    keep w (toothDone t rising t16 k s) = keep w s := by
  simp [toothDone, h]

@[simp ↓] theorem keep_lockTrack (t : Nat) (c0 c1 : Nat × Bool) (i1 : Nat) (s : State) (h : w .time) :
    keep w (lockTrack t c0 c1 i1 s) = keep w s := by
  simp [lockTrack, h]

@[simp ↓] theorem keep_candUnlocked (t t0 : Nat) (level : Bool) (k : Track) (s : State) (h : w .time) :
    keep w (candUnlocked t t0 level k s) = keep w s := by
  unfold candUnlocked
  dsimp only
  split <;> simp [h]

@[simp ↓] theorem keep_candLocked (t t0 : Nat) (rising : Bool) (k : Track) (s : State) (h : w .time) :
    keep w (candLocked t t0 rising k s) = keep w s := by
  simp [candLocked, h]

@[simp ↓] theorem keep_decideEdge (t : Nat) (s : State) (h : w .time) :
    keep w (decideEdge t s) = keep w s := by
  unfold decideEdge
  dsimp only
  (repeat' split) <;> simp [h]

@[simp ↓] theorem keep_easelTaken (s : State) (h : w .time) :
    keep w (easelTaken s) = keep w s := by
  simp [easelTaken, h]

/-! ### ZcLine -/

@[simp ↓] theorem keep_logLine (fe kind : Nat) (set_ : Bool) (s : State) :
    keep w (logLine fe kind set_ s) = keep w s := by
  simp [logLine]

@[simp ↓] theorem keep_coreNoise (t level : Nat) (s : State) :
    keep w (coreNoise t level s) = keep w s := by
  unfold coreNoise
  dsimp only
  simp

@[simp ↓] theorem keep_coreTakes (a : Nat) (comb : Bool) (e : Taken) (s : State) (h : w .safety) :
    keep w (coreTakes a comb e s) = keep w s := by
  simp [coreTakes, h]

@[simp ↓] theorem keep_coreHeeds (slot fe : Nat) (bits : BitVec 24) (comb : Bool) (before : Option (Nat × Bool)) (s : State)
    (h : w .pads ∧ w .safety ∧ w .proof) :
    keep w (coreHeeds slot fe bits comb before s) = keep w s := by
  unfold coreHeeds
  dsimp only
  (repeat' split) <;> simp [h]

@[simp ↓] theorem keep_coreZcAlarm (fe slot : Nat) (bits : BitVec 24) (comb : Bool) (s : State)
    (h : w .pads ∧ w .safety ∧ w .proof) :
    keep w (coreZcAlarm fe slot bits comb s) = keep w s := by
  unfold coreZcAlarm
  dsimp only
  (repeat' split) <;> simp [h]

@[simp ↓] theorem keep_zcRecordFrame (t typ a st : Nat) (s : State) (h : w .clients ∧ w .store ∧ w .proof) :
    keep w (zcRecordFrame t typ a st s) = keep w s := by
  simp [zcRecordFrame, h]

@[simp ↓] theorem keep_zcDeliver (t slot : Nat) (bits : BitVec 24) (comb : Combine) (s : State)
    (h : w .pads ∧ w .safety ∧ w .zc ∧ w .clients ∧ w .store ∧ w .proof) :
    keep w (zcDeliver t slot bits comb s) = keep w s := by
  unfold zcDeliver
  dsimp only
  (repeat' split) <;> simp [h]

@[simp ↓] theorem keep_zcAccept (t slot : Nat) (bits : BitVec 24) (singles : Nat) (comb : Combine) (syn : Bool) (s : State)
    (h : w .pads ∧ w .safety ∧ w .zc ∧ w .clients ∧ w .store ∧ w .proof) :
    keep w (zcAccept t slot bits singles comb syn s) = keep w s := by
  simp [zcAccept, h]

@[simp ↓] theorem keep_countColls (t n : Nat) (s : State) :
    keep w (countColls t n s) = keep w s := keep_of_inner rfl

@[simp ↓] theorem keep_lostFrame (t : Nat) (r : Reading) (s : State) :
    keep w (lostFrame t r s) = keep w s := by
  simp [lostFrame]

@[simp ↓] theorem keep_burstBack (t : Nat) (back : Int) (s : State) :
    keep w (burstBack t back s) = keep w s := by
  simp [burstBack]

@[simp ↓] theorem keep_burstReserve (t : Nat) (s : State) :
    keep w (burstReserve t s) = keep w s := by
  unfold burstReserve
  split <;> simp

@[simp ↓] theorem keep_sendBurst (t h0 : Nat) (late : Bool) (p16 back : Int) (s : State) :
    keep w (sendBurst t h0 late p16 back s) = keep w s := by
  simp [sendBurst]

@[simp ↓] theorem keep_sendTooth (t h0 : Nat) (b : ToothSend) (p16 backE backL : Int) (s : State) :
    keep w (sendTooth t h0 b p16 backE backL s) = keep w s := by
  simp [sendTooth]

@[simp ↓] theorem keep_hubClaim (t h0 : Nat) (p1 : Bool) (p16 back : Int) (s : State) :
    keep w (hubClaim t h0 p1 p16 back s) = keep w s := by
  unfold hubClaim
  dsimp only
  split <;> simp

@[simp ↓] theorem keep_injectClaim (t : Nat) (p16 back : Int) (s : State) :
    keep w (injectClaim t p16 back s) = keep w s := by
  simp [injectClaim]

@[simp ↓] theorem keep_hubDone (t : Nat) (s0 : State) :
    keep w (hubDone t s0) = keep w s0 := by
  unfold hubDone
  dsimp only
  split
  · rfl
  · rw [keep_setZc]
    split
    · exact keep_lastBcast _ _
    · rfl

@[simp ↓] theorem keep_markInject (t h0 : Nat) (s : State) :
    keep w (markInject t h0 s) = keep w s := by
  simp [markInject]

@[simp ↓] theorem keep_hears (t h0 : Nat) (c : ToothClass) (s : State) :
    keep w (hears t h0 c s) = keep w s := by
  simp [hears]

@[simp ↓] theorem keep_hubTooth (t h0 : Nat) (c : ToothClass) (p16 backE backL : Int) (s : State) :
    keep w (hubTooth t h0 c p16 backE backL s) = keep w s := by
  unfold hubTooth
  dsimp only
  (repeat' split) <;> simp

@[simp ↓] theorem keep_retryMark (t : Nat) (p16 backE backL : Int) (s : State) :
    keep w (retryMark t p16 backE backL s) = keep w s := by
  simp [retryMark]

/-! ### BbOps -/

@[simp ↓] theorem keep_cntBb (i n : Nat) (s : State) (h : w .bb) :
    keep w (cntBb i n s) = keep w s := by
  simp [cntBb, h]

@[simp ↓] theorem keep_setFe (t : Nat) (f : FrontEnd) (s : State) (h : w .bb) :
    keep w (setFe t f s) = keep w s := by
  simp [setFe, h]

@[simp ↓] theorem keep_bbLanded (s : State) (h : w .bb) :
    keep w (bbLanded s) = keep w s := by
  simp [bbLanded, h]

@[simp ↓] theorem keep_applyMask (m : MaskSet) (s : State) (h : w .bb ∧ w .clients) :
    keep w (applyMask m s) = keep w s := by
  simp [applyMask, h]

@[simp ↓] theorem keep_masksDue (s : State) (h : w .bb ∧ w .clients) :
    keep w (masksDue s) = keep w s := by
  simp [masksDue, h]

@[simp ↓] theorem keep_announce (id : Nat) (r : List Nat) (s : State) (h : w .bb) :
    keep w (announce id r s) = keep w s := by
  simp [announce, h]

@[simp ↓] theorem keep_evalRoutes (s : State) (h : w .bb) :
    keep w (evalRoutes s) = keep w s := by
  simp [evalRoutes, h]

@[simp ↓] theorem keep_withdrawRepeater (rid : Nat) (s : State) (h : w .bb ∧ w .clients ∧ w .store) :
    keep w (withdrawRepeater rid s) = keep w s := by
  simp [withdrawRepeater, h]

@[simp ↓] theorem keep_takeRoute (id : Nat) (r : List Nat) (s : State) (h : w .bb ∧ w .clients ∧ w .store) :
    keep w (takeRoute id r s) = keep w s := by
  simp [takeRoute, h]

@[simp ↓] theorem keep_rptFollow (s : State) (h : w .bb ∧ w .clients ∧ w .store) :
    keep w (rptFollow s) = keep w s := by
  simp [rptFollow, h]

@[simp ↓] theorem keep_applyRoutes (bsn : Nat) (s : State) (h : w .bb ∧ w .clients ∧ w .store) :
    keep w (applyRoutes bsn s) = keep w s := by
  refine (keep_rptFollow _ h).trans (keep_foldl (fun st e => ?_) _ _)
  dsimp only
  split
  · rfl
  · exact (keep_foldl (fun u r => by simp [h]) _ _).trans (by simp [h])

@[simp ↓] theorem keep_removeRepeater (rid : Nat) (s : State) (h : w .bb ∧ w .clients ∧ w .store) :
    keep w (removeRepeater rid s) = keep w s := by
  unfold removeRepeater
  dsimp only
  rw [keep_rptFollow _ h, keep_foldl, keep_withdrawRepeater _ _ (by simp [h])]
  intro st id
  split <;> simp [h]

@[simp ↓] theorem keep_overlap (id : Nat) (edge : Bool) (d : Int) (s : State) (h : w .bb ∧ w .clients ∧ w .store) :
    keep w (overlap id edge d s) = keep w s := by
  simp [overlap, h]

@[simp ↓] theorem keep_quarantineStep (prev id : Nat) (s : State) (h : w .bb ∧ w .clients ∧ w .store) :
    keep w (quarantineStep prev id s) = keep w s := by
  simp [quarantineStep, h]

@[simp ↓] theorem keep_loadLevel (s : State) (h : w .clients) :
    keep w (loadLevel s) = keep w s := by
  simp [loadLevel, h]

@[simp ↓] theorem keep_downSend (id : Nat) (s : State) (h : w .bb ∧ w .clients ∧ w .store) :
    keep w (downSend id s) = keep w s := by
  simp [downSend, h]

@[simp ↓] theorem keep_periodEnd (prev : Nat) (silentRpt : List Nat) (s : State) (h : w .bb ∧ w .clients ∧ w .store) :
    keep w (periodEnd prev silentRpt s) = keep w s := by
  simp [periodEnd, h]

@[simp ↓] theorem keep_beaconBack (back : List Int) (s : State) (h : w .bb) :
    keep w (beaconBack back s) = keep w s := by
  simp [beaconBack, h]

@[simp ↓] theorem keep_sendBeacon (empty : Bool) (back : List Int) (s : State) (h : w .bb ∧ w .clients ∧ w .store ∧ w .mirror) :
    keep w (sendBeacon empty back s) = keep w s := by
  simp [sendBeacon, h]

@[simp ↓] theorem keep_applyDown (s : State) (h : w .clients) :
    keep w (applyDown s) = keep w s := by
  simp [applyDown, h]

@[simp ↓] theorem keep_netIdStep (s : State) (h : w .glaze ∧ w .bb ∧ w .clients ∧ w .store) :
    keep w (netIdStep s) = keep w s := by
  simp [netIdStep, h]

@[simp ↓] theorem keep_firstBeacon (back : List Int) (s : State) (h : w .bb ∧ w .clients ∧ w .store ∧ w .mirror) :
    keep w (firstBeacon back s) = keep w s := by
  simp [firstBeacon, h]

/-! ### Broadband -/

@[simp ↓] theorem keep_bbAlarm (id c bsn : Nat) (s : State) (h : w .pads ∧ w .safety ∧ w .proof) :
    keep w (bbAlarm id c bsn s) = keep w s := by
  simp [bbAlarm, h]

@[simp ↓] theorem keep_joinFrame (id : Nat) (b : List Byte) (s : State) (h : w .clients ∧ w .store) :
    keep w (joinFrame id b s) = keep w s := by
  simp [joinFrame, h]

@[simp ↓] theorem keep_requestFrame (id : Nat) (b : List Byte) (s : State) (h : w .bb ∧ w .clients) :
    keep w (requestFrame id b s) = keep w s := by
  simp [requestFrame, h]

@[simp ↓] theorem keep_linkFrame (id : Nat) (est : List (List Nat)) (s : State) (h : w .clients) :
    keep w (linkFrame id est s) = keep w s := by
  simp [linkFrame, h]

@[simp ↓] theorem keep_acceptReport (id kind : Nat) (b : List Byte) (lqDn : Byte) (s : State)
    (h : w .glaze ∧ w .bb ∧ w .clients ∧ w .store) :
    keep w (acceptReport id kind b lqDn s) = keep w s := by
  simp [acceptReport, h]

@[simp ↓] theorem keep_overlapOf (sender : Option Nat) (edge : Bool) (d : Int) (s : State) (h : w .bb ∧ w .clients ∧ w .store) :
    keep w (overlapOf sender edge d s) = keep w s := by
  unfold overlapOf
  split <;> simp [h]

/-! ### ConvOps -/

@[simp ↓] theorem keep_setMod (m : Nat) (d : Modulator) (s : State) (h : w .conv) :
    keep w (setMod m d s) = keep w s := by
  simp [setMod, h]

@[simp ↓] theorem keep_setCh (ch : Nat) (c : ConvCh) (s : State) (h : w .conv) :
    keep w (setCh ch c s) = keep w s := by
  simp [setCh, h]

@[simp ↓] theorem keep_abandon (m : Nat) (s : State) (h : w .conv) :
    keep w (abandon m s) = keep w s := by
  unfold abandon
  dsimp only
  split <;> simp [h]

@[simp ↓] theorem keep_modPowerDown (m : Nat) (s : State) (h : w .conv) :
    keep w (modPowerDown m s) = keep w s := by
  simp [modPowerDown, h]

@[simp ↓] theorem keep_modReturns (m : Nat) (s : State) (h : w .conv) :
    keep w (modReturns m s) = keep w s := by
  simp [modReturns, h]

@[simp ↓] theorem keep_modLanded (m : Nat) (s : State) (h : w .conv) :
    keep w (modLanded m s) = keep w s := by
  simp [modLanded, h]

@[simp ↓] theorem keep_modIdle (m : Nat) (s : State) (h : w .conv) :
    keep w (modIdle m s) = keep w s := by
  simp [modIdle, h]

@[simp ↓] theorem keep_beginConv (m : Nat) (c : Conversion) (s : State) (h : w .conv) :
    keep w (beginConv m c s) = keep w s := by
  simp [beginConv, h]

@[simp ↓] theorem keep_wantConv (ch : Nat) (test : Bool) (s : State) (h : w .conv) :
    keep w (wantConv ch test s) = keep w s := by
  simp [wantConv, h]

@[simp ↓] theorem keep_arbRequest (tick ch : Nat) (j : Option Nat) (s : State) (h : w .conv) :
    keep w (arbRequest tick ch j s) = keep w s := by
  simp [arbRequest, h]

@[simp ↓] theorem keep_arbDropAll (s : State) (h : w .conv) :
    keep w (arbDropAll s) = keep w s := by
  simp [arbDropAll, h]

@[simp ↓] theorem keep_askArbiter (j : Nat) (s : State) (h : w .conv) :
    keep w (askArbiter j s) = keep w s := by
  simp [askArbiter, h]

@[simp ↓] theorem keep_chSettingsLanded (ch : Nat) (s : State) (h : w .conv) :
    keep w (chSettingsLanded ch s) = keep w s := by
  unfold chSettingsLanded
  dsimp only
  split <;> simp [h]

@[simp ↓] theorem keep_modOut (m : Nat) (s : State) (h : w .conv) :
    keep w (modOut m s) = keep w s := by
  simp [modOut, h]

@[simp ↓] theorem keep_convDomainOff (s : State) (h : w .conv) :
    keep w (convDomainOff s) = keep w s := by
  simp [convDomainOff, h]

@[simp ↓] theorem keep_convRestart (s : State) (h : w .conv) :
    keep w (convRestart s) = keep w s := by
  simp [convRestart, h]

@[simp ↓] theorem keep_chsAnew (p : Nat → Bool) (s : State) (h : w .conv) :
    keep w (chsAnew p s) = keep w s := by
  simp [chsAnew, h]

@[simp ↓] theorem keep_refsPower (s : State) (h : w .conv) :
    keep w (refsPower s) = keep w s := by
  simp [refsPower, h]

/-! ### Safety -/

@[simp ↓] theorem keep_coreRestarts (s : State) (h : w .safety) :
    keep w (coreRestarts s) = keep w s := by
  simp [coreRestarts, h]

@[simp ↓] theorem keep_lockstepFails (s : State) (h : w .pads ∧ w .safety) :
    keep w (lockstepFails s) = keep w s := by
  simp [lockstepFails, h]

@[simp ↓] theorem keep_setMon (n : Nat) (d : Sentinel) (s : State) (h : w .safety) :
    keep w (setMon n d s) = keep w s := by
  simp [setMon, h]

@[simp ↓] theorem keep_monitorSample (n mv : Nat) (s : State) (h : w .safety) :
    keep w (monitorSample n mv s) = keep w s := by
  simp [monitorSample, h]

@[simp ↓] theorem keep_judgeRow (s : State) (row : Nat × Nat × Bool) (h : w .safety) :
    keep w (judgeRow s row) = keep w s := by
  simp [judgeRow, h]

@[simp ↓] theorem keep_setCrit (j : Nat) (c : Criterion) (s : State) (h : w .safety) :
    keep w (setCrit j c s) = keep w s := by
  simp [setCrit, h]

@[simp ↓] theorem keep_judgeDf (d : Nat) (s : State) (h : w .pads ∧ w .safety ∧ w .proof) :
    keep w (judgeDf d s) = keep w s := by
  simp [judgeDf, h]

@[simp ↓] theorem keep_critTrue (j : Nat) (s : State) (h : w .pads ∧ w .safety ∧ w .conv ∧ w .proof) :
    keep w (critTrue j s) = keep w s := by
  simp [critTrue, h]

@[simp ↓] theorem keep_ackDone (op res : Nat) (s : State) (h : w .safety) :
    keep w (ackDone op res s) = keep w s := by
  simp [ackDone, h]

@[simp ↓] theorem keep_silenceAll (s : State) (h : w .gesso ∧ w .pads ∧ w .safety) :
    keep w (silenceAll s) = keep w s := by
  simp [silenceAll, h]

@[simp ↓] theorem keep_resetAll (s : State) (h : w .gesso ∧ w .pads ∧ w .safety) :
    keep w (resetAll s) = keep w s := by
  simp [resetAll, h]

@[simp ↓] theorem keep_troubleAck (s : State) (h : w .safety) :
    keep w (troubleAck s) = keep w s := by
  simp [troubleAck, h]

/-! ### Converters -/

@[simp ↓] theorem keep_critResult (code : Int) (valid : Bool) (j : Nat) (s : State)
    (h : w .pads ∧ w .safety ∧ w .conv ∧ w .proof) :
    keep w (critResult code valid j s) = keep w s := by
  unfold critResult
  dsimp only
  (repeat' split) <;> simp [h]

@[simp ↓] theorem keep_coreResult (ch : Nat) (code : Int) (flags : Byte) (s : State)
    (h : w .pads ∧ w .safety ∧ w .conv ∧ w .proof) :
    keep w (coreResult ch code flags s) = keep w s := by
  simp [coreResult, h]

@[simp ↓] theorem keep_criteriaLost (gone : Nat → Bool) (s : State) (h : w .pads ∧ w .safety ∧ w .conv ∧ w .proof) :
    keep w (criteriaLost gone s) = keep w s := by
  simp [criteriaLost, h]

@[simp ↓] theorem keep_judgeLanded (d : Nat) (s : State) (h : w .pads ∧ w .safety ∧ w .proof) :
    keep w (judgeLanded d s) = keep w s := by
  simp [judgeLanded, h]

@[simp ↓] theorem keep_critLanded (anew : Bool) (j : Nat) (s : State) (h : w .pads ∧ w .safety ∧ w .proof) :
    keep w (critLanded anew j s) = keep w s := by
  simp [critLanded, h]

@[simp ↓] theorem keep_coreArb (j ch : Nat) (code : Int) (flags : Byte) (s : State) (h : w .pads ∧ w .safety ∧ w .proof) :
    keep w (coreArb j ch code flags s) = keep w s := by
  simp [coreArb, h]

@[simp ↓] theorem keep_overrange (m : Nat) (c : Conversion) (s : State) (h : w .conv) :
    keep w (overrange m c s) = keep w s := by
  simp [overrange, h]

@[simp ↓] theorem keep_queueEntry (code : Int) (ch : Nat) (arb : Bool) (flags : Byte) (vis : Nat) (s : State) (h : w .conv) :
    keep w (queueEntry code ch arb flags vis s) = keep w s := by
  simp [queueEntry, h]

@[simp ↓] theorem keep_swapCheck (ch : Nat) (cfg : Word) (under : Bool) (s : State) (h : w .conv ∧ w .store) :
    keep w (swapCheck ch cfg under s) = keep w s := by
  simp [swapCheck, h]

@[simp ↓] theorem keep_deliver (m : Nat) (c : Conversion) (v : Int) (ref : Nat) (ovl : Option Bool) (s : State)
    (h : w .pads ∧ w .safety ∧ w .conv ∧ w .store ∧ w .proof) :
    keep w (deliver m c v ref ovl s) = keep w s := by
  simp [deliver, h]

@[simp ↓] theorem keep_proofArb (ch : Nat) (impl : Bool) (s : State) (h : w .proof) :
    keep w (proofArb ch impl s) = keep w s := by
  simp [proofArb, h]

@[simp ↓] theorem keep_fetched (w0 : Word) (s : State) (h : w .host) :
    keep w (fetched w0 s) = keep w s := by
  simp [fetched, h]

@[simp ↓] theorem keep_qLoTaken (s : State) (h : w .conv) :
    keep w (qLoTaken s) = keep w s := by
  simp [qLoTaken, h]

@[simp ↓] theorem keep_qHiTaken (s : State) (h : w .conv) :
    keep w (qHiTaken s) = keep w s := by
  simp [qHiTaken, h]

/-! ### LoopOps -/

@[simp ↓] theorem keep_setSlot (n : Nat) (d : Slot) (s : State) (h : w .loop) :
    keep w (setSlot n d s) = keep w s := by
  simp [setSlot, h]

@[simp ↓] theorem keep_setGen (g : Nat) (d : Gen) (s : State) (h : w .loop) :
    keep w (setGen g d s) = keep w s := by
  simp [setGen, h]

@[simp ↓] theorem keep_setPent (i : Nat) (d : Pent) (s : State) (h : w .loop) :
    keep w (setPent i d s) = keep w s := by
  simp [setPent, h]

@[simp ↓] theorem keep_tabSet (a : Nat) (v : Int) (s : State) (h : w .loop) :
    keep w (tabSet a v s) = keep w s := by
  simp [tabSet, h]

@[simp ↓] theorem keep_noteSat (n : Nat) (sat : Bool) (s : State) (h : w .loop) :
    keep w (noteSat n sat s) = keep w s := by
  simp [noteSat, h]

@[simp ↓] theorem keep_returnSlot (n : Nat) (x y : Int) (s : State) (h : w .loop) :
    keep w (returnSlot n x y s) = keep w s := by
  simp [returnSlot, h]

@[simp ↓] theorem keep_slotOverrun (n : Nat) (s : State) (h : w .loop) :
    keep w (slotOverrun n s) = keep w s := by
  simp [slotOverrun, h]

@[simp ↓] theorem keep_returnGen (g : Nat) (out : Int) (s : State) (h : w .loop) :
    keep w (returnGen g out s) = keep w s := by
  simp [returnGen, h]

@[simp ↓] theorem keep_pentRestart (i : Nat) (s : State) (h : w .loop) :
    keep w (pentRestart i s) = keep w s := by
  simp [pentRestart, h]

@[simp ↓] theorem keep_pentLanded (i : Nat) (s : State) (h : w .loop) :
    keep w (pentLanded i s) = keep w s := by
  simp [pentLanded, h]

/-! ### LoopEngine -/

@[simp ↓] theorem keep_pentStep (i : Nat) (e : Int) (q : Word) (s : State) (h : w .loop) :
    keep w (pentStep i e q s).1 = keep w s := by
  unfold pentStep
  dsimp only
  split
  · rfl
  · split <;> simp [h]

@[simp ↓] theorem keep_tabWrite (v : Word) (s : State) (h : w .loop) :
    keep w (tabWrite v s) = keep w s := by
  simp [tabWrite, h]

/-! ### CanvasOps -/

@[simp ↓] theorem keep_laneRan (lane i : Nat) (s : State) :
    keep w (laneRan lane i s) = keep w s := keep_of_inner rfl

@[simp ↓] theorem keep_runStroke (op i : Nat) {f : Stroke → State → State} (s : State)
    (h : ∀ k, keep w (f k s) = keep w s) : keep w (runStroke op i f s) = keep w s := by
  unfold runStroke
  split <;> simp [h]

@[simp ↓] theorem keep_writeSig (k : Stroke) (g : Nat) (v : Word) (s : State) (h : w .canvas) :
    keep w (writeSig k g v s) = keep w s := by
  simp [writeSig, h]

@[simp ↓] theorem keep_writeAsap (k : Stroke) (g : Nat) (v : Word) (dl : Nat) (s : State) (h : w .canvas) :
    keep w (writeAsap k g v dl s) = keep w s := by
  simp [writeAsap, h]

@[simp ↓] theorem keep_setSignal (g : Nat) (v : Word) (s : State) (h : w .canvas) :
    keep w (setSignal g v s) = keep w s := by
  simp [setSignal, h]

@[simp ↓] theorem keep_commitSignals (s : State) (h : w .canvas) :
    keep w (commitSignals s) = keep w s := by
  simp [commitSignals, h]

/-! ### DriveOps -/

@[simp ↓] theorem keep_setDrv (m : Nat) (d : DrvChan) (s : State) (h : w .drive) :
    keep w (setDrv m d s) = keep w s := by
  simp [setDrv, h]

@[simp ↓] theorem keep_decideDrv (m : Nat) (x : DrvNext) (s : State) (h : w .drive) :
    keep w (decideDrv m x s) = keep w s := by
  unfold decideDrv
  dsimp only
  split <;> simp [h]

@[simp ↓] theorem keep_goTo (m : Nat) (st : DrvState) (s : State) (h : w .drive) :
    keep w (goTo m st s) = keep w s := by
  simp [goTo, h]

@[simp ↓] theorem keep_enterBridge (m : Nat) (b : Bridge) (duty : Int) (f : DrvChan → DrvChan) (st : DrvState) (s : State)
    (h : w .drive) :
    keep w (enterBridge m b duty f st s) = keep w s := by
  simp [enterBridge, h]

@[simp ↓] theorem keep_enterDrv (m : Nat) (x : DrvNext) (s : State) (h : w .drive) :
    keep w (enterDrv m x s) = keep w s := by
  unfold enterDrv
  split <;> simp [h]

@[simp ↓] theorem keep_raiseFlt (m bit : Nat) (s : State) (h : w .drive) :
    keep w (raiseFlt m bit s) = keep w s := by
  simp [raiseFlt, h]

@[simp ↓] theorem keep_faultHeld (m bit : Nat) (s : State) (h : w .drive) :
    keep w (faultHeld m bit s) = keep w s := by
  simp [faultHeld, h]

@[simp ↓] theorem keep_retryDrv (m : Nat) (attempt : Bool) (s : State) (h : w .drive) :
    keep w (retryDrv m attempt s) = keep w s := by
  simp [retryDrv, h]

@[simp ↓] theorem keep_measured (m iv : Nat) (rev : Bool) (s : State) (h : w .drive) :
    keep w (measured m iv rev s) = keep w s := by
  simp [measured, h]

@[simp ↓] theorem keep_drvTick (s : State) (m : Nat) (h : w .drive) :
    keep w (drvTick s m) = keep w s := by
  unfold drvTick
  dsimp only
  (repeat' split) <;> simp [h]

@[simp ↓] theorem keep_driveTick (s : State) (h : w .drive) :
    keep w (driveTick s) = keep w s := by
  simp [driveTick, h]

@[simp ↓] theorem keep_driveStop (s : State) (h : w .drive) :
    keep w (driveStop s) = keep w s := by
  simp [driveStop, h]

/-! ### FanOps -/

@[simp ↓] theorem keep_setFan (f : Nat) (d : Fan) (s : State) (h : w .fans) :
    keep w (setFan f d s) = keep w s := by
  simp [setFan, h]

@[simp ↓] theorem keep_fixDuty (f : Nat) (v : Int) (s : State) (h : w .fans) :
    keep w (fixDuty f v s) = keep w s := by
  simp [fixDuty, h]

@[simp ↓] theorem keep_pushDuty (f : Nat) (v : Int) (t : Nat) (s : State) (h : w .fans) :
    keep w (pushDuty f v t s) = keep w s := by
  simp [pushDuty, h]

@[simp ↓] theorem keep_setDuty (f : Nat) (v : Int) (s : State) (h : w .fans) :
    keep w (setDuty f v s) = keep w s := by
  simp [setDuty, h]

@[simp ↓] theorem keep_raiseFan (f bit : Nat) (s : State) (h : w .fans) :
    keep w (raiseFan f bit s) = keep w s := by
  simp [raiseFan, h]

@[simp ↓] theorem keep_decideFan (f : Nat) (st : FanState) (s : State) (h : w .fans) :
    keep w (decideFan f st s) = keep w s := by
  unfold decideFan
  dsimp only
  split <;> simp [h]

@[simp ↓] theorem keep_enterFan (f : Nat) (st : FanState) (s : State) (h : w .fans) :
    keep w (enterFan f st s) = keep w s := by
  unfold enterFan
  split <;> simp [h]

@[simp ↓] theorem keep_fanTick (s : State) (f : Nat) (h : w .fans) :
    keep w (fanTick s f) = keep w s := by
  unfold fanTick
  dsimp only
  (repeat' split) <;> simp [h]

@[simp ↓] theorem keep_fansTick (s : State) (h : w .fans) :
    keep w (fansTick s) = keep w s := by
  simp [fansTick, h]

/-! ### Fans -/

@[simp ↓] theorem keep_testOutcome (f : Nat) (t : LineTest) (s : State) (h : w .fans) :
    keep w (testOutcome f t s) = keep w s := by
  simp [testOutcome, h]

@[simp ↓] theorem keep_boundStep (f m : Nat) (failed : Bool) (s : State) (h : w .fans) :
    keep w (boundStep f m failed s) = keep w s := by
  unfold boundStep
  dsimp only
  (repeat' split) <;> simp [h]

@[simp ↓] theorem keep_tachStep (f : Nat) (s : State) (h : w .fans) :
    keep w (tachStep f s) = keep w s := by
  unfold tachStep
  dsimp only
  (repeat' split) <;> simp [h]

@[simp ↓] theorem keep_fanToIdle (f : Nat) (s : State) (h : w .fans) :
    keep w (fanToIdle f s) = keep w s := by
  simp [fanToIdle, h]

@[simp ↓] theorem keep_runDuty (f : Nat) (s : State) (h : w .fans) :
    keep w (runDuty f s) = keep w s := by
  simp [runDuty, h]

@[simp ↓] theorem keep_setLoad (n : Nat) (d : LoadDiag) (s : State) :
    keep w (setLoad n d s) = keep w s := keep_of_inner rfl

/-! ### LoopStrokes -/

@[simp ↓] theorem keep_compensate (cmp3 : Bool) (k : Stroke) (done : Nat) (s : State) (h : w .canvas ∧ w .loop) :
    keep w (compensate cmp3 k done s) = keep w s := by
  simp [compensate, h]

/-! ### StoreOps -/

@[simp ↓] theorem keep_pctlOut (code : Nat) (s : State) (h : w .host) :
    keep w (pctlOut code s) = keep w s := by
  simp [pctlOut, h]

@[simp ↓] theorem keep_readFlaw (s : State) (p : Nat × Nat) (h : w .store) :
    keep w (readFlaw s p) = keep w s := by
  simp [readFlaw, h]

@[simp ↓] theorem keep_readGroups (g n : Nat) (s : State) (h : w .store) :
    keep w (readGroups g n s) = keep w s := by
  simp [readGroups, h]

@[simp ↓] theorem keep_clearFlaws (g n : Nat) (s : State) (h : w .store) :
    keep w (clearFlaws g n s) = keep w s := by
  simp [clearFlaws, h]

@[simp ↓] theorem keep_progWords (a : Nat) (ws : List Word) (s : State) (h : w .mem) :
    keep w (progWords a ws s) = keep w s := by
  simp [progWords, h]

@[simp ↓] theorem keep_decay (found : List (Nat × Fin 3)) (s : State) (h : w .mem ∧ w .store) :
    keep w (decay found s) = keep w s := by
  simp [decay, h]

@[simp ↓] theorem keep_progPage (pg : Nat) (ws : List Word) (s : State) (h : w .mem) :
    keep w (progPage pg ws s) = keep w s := by
  simp [progPage, h]

@[simp ↓] theorem keep_progPageBad (pg : Nat) (s : State) (h : w .mem) :
    keep w (progPageBad pg s) = keep w s := by
  simp [progPageBad, h]

@[simp ↓] theorem keep_jWrite (v : DWord) (s : State) (h : w .mem ∧ w .store) :
    keep w (jWrite v s) = keep w s := by
  simp [jWrite, h]

@[simp ↓] theorem keep_jIntent (sec cause : Nat) (s : State) (h : w .mem ∧ w .store) :
    keep w (jIntent sec cause s) = keep w s := by
  simp [jIntent, h]

@[simp ↓] theorem keep_jDone (sec cause : Nat) (s : State) (h : w .mem ∧ w .store) :
    keep w (jDone sec cause s) = keep w s := by
  simp [jDone, h]

@[simp ↓] theorem keep_eraseRaw (sec : Nat) (s : State) (h : w .mem ∧ w .store) :
    keep w (eraseRaw sec s) = keep w s := by
  simp [eraseRaw, h]

@[simp ↓] theorem keep_eraseJournalled (sec cause : Nat) (s : State) (h : w .mem ∧ w .store) :
    keep w (eraseJournalled sec cause s) = keep w s := by
  simp [eraseJournalled, h]

@[simp ↓] theorem keep_jRoll (s : State) (h : w .mem ∧ w .store) :
    keep w (jRoll s) = keep w s := by
  simp [jRoll, h]

@[simp ↓] theorem keep_eraseSector (sec cause : Nat) (s : State) (h : w .mem ∧ w .store) :
    keep w (eraseSector sec cause s) = keep w s := by
  simp [eraseSector, h]

@[simp ↓] theorem keep_eraseSectors (sec n cause : Nat) (s : State) (h : w .mem ∧ w .store) :
    keep w (eraseSectors sec n cause s) = keep w s := by
  simp [eraseSectors, h]

@[simp ↓] theorem keep_logWrite (hyper word2 value : Word) (s : State) (h : w .mem ∧ w .store) :
    keep w (logWrite hyper word2 value s) = keep w s := by
  simp [logWrite, h]

@[simp ↓] theorem keep_writeOneLog (s : State) (h : w .mem ∧ w .store) :
    keep w (writeOneLog s) = keep w s := by
  unfold writeOneLog
  dsimp only
  (repeat' split) <;> simp [h]

@[simp ↓] theorem keep_parAppend (key : Nat) (v : Word) (s : State) (h : w .mem ∧ w .store) :
    keep w (parAppend key v s) = keep w s := by
  simp [parAppend, h]

@[simp ↓] theorem keep_parCompact (s : State) (h : w .mem ∧ w .store) :
    keep w (parCompact s) = keep w s := by
  simp [parCompact, h]

@[simp ↓] theorem keep_writeOnePar (s : State) (h : w .mem ∧ w .store) :
    keep w (writeOnePar s) = keep w s := by
  unfold writeOnePar
  split <;> simp [h]

@[simp ↓] theorem keep_writeOnePage (s : State) (h : w .mem ∧ w .store) :
    keep w (writeOnePage s) = keep w s := by
  unfold writeOnePage
  split <;> simp [h]

@[simp ↓] theorem keep_shadowPage (pg : Nat) (ws : List Word) (s : State) (h : w .store) :
    keep w (shadowPage pg ws s) = keep w s := by
  simp [shadowPage, h]

@[simp ↓] theorem keep_setCnt (k : Nat) (v : Word) (s : State) (h : w .store) :
    keep w (setCnt k v s) = keep w s := by
  simp [setCnt, h]

@[simp ↓] theorem keep_storeFlush (s : State) (h : w .mem ∧ w .store) :
    keep w (storeFlush s) = keep w s := by
  simp [storeFlush, h]

@[simp ↓] theorem keep_storeFlushDone (s : State) (h : w .mem ∧ w .store) :
    keep w (storeFlushDone s) = keep w s := by
  unfold storeFlushDone
  split <;> simp [h]

@[simp ↓] theorem keep_loseShadow (s : State) (h : w .store) :
    keep w (loseShadow s) = keep w s := by
  simp [loseShadow, h]

/-! ### GlazeOps -/

@[simp ↓] theorem keep_stageWrite (a : Nat) (v : Word) (s : State) (h : w .host ∧ w .glaze) :
    keep w (stageWrite a v s) = keep w s := by
  simp [stageWrite, h]

@[simp ↓] theorem keep_swapChains (t : Nat) (s : State) (h : w .time) :
    keep w (swapChains t s) = keep w s := by
  simp [swapChains, h]

@[simp ↓] theorem keep_safeLanded (i : Nat) (diff : Word) (s : State) (h : w .pads ∧ w .safety ∧ w .proof) :
    keep w (safeLanded i diff s) = keep w s := by
  simp [safeLanded, h]

@[simp ↓] theorem keep_chOut (gone : Nat → Bool) (s : State) (h : w .pads ∧ w .safety ∧ w .conv ∧ w .proof) :
    keep w (chOut gone s) = keep w s := by
  simp [chOut, h]

@[simp ↓] theorem keep_convLanded (i : Nat) (old : Word) (s : State) (h : w .pads ∧ w .safety ∧ w .conv ∧ w .proof) :
    keep w (convLanded i old s) = keep w s := by
  simp [convLanded, h]

@[simp ↓] theorem keep_landedHook (a : Nat) (old v : Word) (s : State)
    (h : w .pads ∧ w .safety ∧ w .time ∧ w .bb ∧ w .conv ∧ w .loop ∧ w .proof) :
    keep w (landedHook a old v s) = keep w s := by
  unfold landedHook
  dsimp only
  (repeat' split) <;> simp [h]

@[simp ↓] theorem keep_landWord (a : Nat) (v : Word) (s : State)
    (h : w .params ∧ w .pads ∧ w .safety ∧ w .time ∧ w .bb ∧ w .conv ∧ w .loop ∧ w .store ∧ w .proof) :
    keep w (landWord a v s) = keep w s := by
  simp [landWord, h]

@[simp ↓] theorem keep_landWords (ws : List (Nat × Word)) (s : State)
    (h : w .params ∧ w .pads ∧ w .safety ∧ w .time ∧ w .bb ∧ w .conv ∧ w .loop ∧ w .store ∧ w .proof) :
    keep w (landWords ws s) = keep w s := by
  simp [landWords, h]

@[simp ↓] theorem keep_reportGroup (g : Nat) (st : GroupState) (reason : Nat) (s : State) (h : w .glaze) :
    keep w (reportGroup g st reason s) = keep w s := by
  simp [reportGroup, h]

@[simp ↓] theorem keep_landGroup (g : Nat) (s : State)
    (h : w .params ∧ w .pads ∧ w .safety ∧ w .time ∧ w .glaze ∧ w .bb ∧ w .conv ∧ w .loop ∧ w .store ∧ w .proof) :
    keep w (landGroup g s) = keep w s := by
  simp [landGroup, h]

@[simp ↓] theorem keep_decideGroup (g : Nat) (s : State)
    (h : w .params ∧ w .pads ∧ w .safety ∧ w .time ∧ w .glaze ∧ w .bb ∧ w .conv ∧ w .loop ∧ w .store ∧ w .proof) :
    keep w (decideGroup g s) = keep w s := by
  simp [decideGroup, h]

@[simp ↓] theorem keep_followGroup (g : Nat) (s : State)
    (h : w .params ∧ w .pads ∧ w .safety ∧ w .time ∧ w .glaze ∧ w .bb ∧ w .conv ∧ w .loop ∧ w .store ∧ w .proof) :
    keep w (followGroup g s) = keep w s := by
  unfold followGroup
  split <;> simp [h]

@[simp ↓] theorem keep_unsealIfDone (s : State) (h : w .glaze) :
    keep w (unsealIfDone s) = keep w s := by
  simp [unsealIfDone, h]

@[simp ↓] theorem keep_applyWindow (s : State)
    (h : w .params ∧ w .pads ∧ w .safety ∧ w .time ∧ w .glaze ∧ w .bb ∧ w .conv ∧ w .loop ∧ w .store ∧ w .proof) :
    keep w (applyWindow s) = keep w s := by
  simp [applyWindow, h]

@[simp ↓] theorem keep_glazeRefuseAll (reason : Nat) (s : State) (h : w .glaze) :
    keep w (glazeRefuseAll reason s) = keep w s := by
  simp [glazeRefuseAll, h]

@[simp ↓] theorem keep_setUnit (kind ix : Nat) (out : Bool) (s : State) (h : w .glaze ∧ w .clients ∧ w .store) :
    keep w (setUnit kind ix out s) = keep w s := by
  unfold setUnit
  split <;> simp [h]

@[simp ↓] theorem keep_slotReturns (n : Nat) (s : State) (h : w .loop) :
    keep w (slotReturns n s) = keep w s := by
  simp [slotReturns, h]

@[simp ↓] theorem keep_genReturns (g : Nat) (s : State) (h : w .loop) :
    keep w (genReturns g s) = keep w s := by
  simp [genReturns, h]

@[simp ↓] theorem keep_phaseOut (t : Nat) (s : State) :
    keep w (phaseOut t s) = keep w s := by
  unfold phaseOut
  split <;> simp

@[simp ↓] theorem keep_unitLeaves (kind ix : Nat) (s : State)
    (h : w .pads ∧ w .safety ∧ w .glaze ∧ w .bb ∧ w .clients ∧ w .conv ∧ w .loop ∧ w .drive ∧ w .store ∧ w .proof) :
    keep w (unitLeaves kind ix s) = keep w s := by
  unfold unitLeaves
  split <;> simp [h]

@[simp ↓] theorem keep_unitReturns (kind ix : Nat) (s : State)
    (h : w .glaze ∧ w .clients ∧ w .conv ∧ w .loop ∧ w .drive ∧ w .store) :
    keep w (unitReturns kind ix s) = keep w s := by
  unfold unitReturns
  split <;> simp [h]

@[simp ↓] theorem keep_decideSvc (q : SvcReq) (s : State)
    (h : w .pads ∧ w .safety ∧ w .glaze ∧ w .bb ∧ w .clients ∧ w .conv ∧ w .loop ∧ w .drive ∧ w .store ∧ w .proof) :
    keep w (decideSvc q s) = keep w s := by
  unfold decideSvc
  split <;> simp [h]

@[simp ↓] theorem keep_decideServices (s : State)
    (h : w .pads ∧ w .safety ∧ w .glaze ∧ w .bb ∧ w .clients ∧ w .conv ∧ w .loop ∧ w .drive ∧ w .store ∧ w .proof) :
    keep w (decideServices s) = keep w s := by
  simp [decideServices, h]

@[simp ↓] theorem keep_svcWrite (v : Word) (s : State) (h : w .params ∧ w .glaze ∧ w .mirror) :
    keep w (svcWrite v s) = keep w s := by
  simp [svcWrite, h]

/-! ### Field -/

@[simp ↓] theorem keep_cmdRefuse (id cls reason : Nat) (s : State) (h : w .clients ∧ w .store) :
    keep w (cmdRefuse id cls reason s).1 = keep w s := by
  simp [cmdRefuse, h]

@[simp ↓] theorem keep_cmdQueue (id code cls : Nat) (zc : Bool) (args : List Word) (s : State) (h : w .clients ∧ w .store) :
    keep w (cmdQueue id code cls zc args s).1 = keep w s := by
  unfold cmdQueue
  dsimp only
  split <;> simp [h]

@[simp ↓] theorem keep_submitCmd (id code : Nat) (zc : Bool) (args : List Word) (s : State) (h : w .clients ∧ w .store) :
    keep w (submitCmd id code zc args s).1 = keep w s := by
  unfold submitCmd
  dsimp only
  split
  · split
    · simp [h]
    · split <;> simp [h]
  · simp [h]

@[simp ↓] theorem keep_setBall (b : Nat) (d : Ball) (s : State) (h : w .field) :
    keep w (setBall b d s) = keep w s := by
  simp [setBall, h]

@[simp ↓] theorem keep_ballTakes (b st : Nat) (d : Ball) (s : State) (h : w .field) :
    keep w (ballTakes b st d s) = keep w s := by
  simp [ballTakes, h]

@[simp ↓] theorem keep_scanBall (vana : Nat) (scan : List (Nat × BallScan)) (s : State) (b : Nat) (h : w .field) :
    keep w (scanBall vana scan s b) = keep w s := by
  unfold scanBall
  dsimp only
  (repeat' split) <;> simp [h]

@[simp ↓] theorem keep_fieldOvervRestart (s : State) (h : w .field) :
    keep w (fieldOvervRestart s) = keep w s := by
  simp [fieldOvervRestart, h]

/-! ### LongOps -/

@[simp ↓] theorem keep_ringPut (typ : Nat) (ws : List Word) (s : State) (h : w .host) :
    keep w (ringPut typ ws s) = keep w s := by
  simp [ringPut, h]

@[simp ↓] theorem keep_ringFill (h : w .host) : ∀ (l : List (Nat × List Word)) (s : State), keep w (ringFill s l) = keep w s
  | [], s => by simp [ringFill, h]
  | (t, ws) :: r, s => by
    unfold ringFill
    split
    · rw [keep_ringFill h r, keep_ringPut t ws s h]
    · simp [h]

@[simp ↓] theorem keep_ringDrain (s : State) (h : w .host) :
    keep w (ringDrain s) = keep w s := by
  unfold ringDrain
  split <;> simp [h]

@[simp ↓] theorem keep_opRecord (typ : Nat) (ws : List Word) (s : State) (h : w .host) :
    keep w (opRecord typ ws s) = keep w s := by
  simp [opRecord, h]

@[simp ↓] theorem keep_opAsks (s : State) :
    keep w (opAsks s) = keep w s := by
  simp [opAsks]

@[simp ↓] theorem keep_opEnd (st : OpState) (err : Nat) (s : State) (h : w .canvas ∧ w .host) :
    keep w (opEnd st err s) = keep w s := by
  simp [opEnd, h]

@[simp ↓] theorem keep_opFail (err : Nat) (s : State) (h : w .canvas ∧ w .host) :
    keep w (opFail err s) = keep w s := by
  simp [opFail, h]

@[simp ↓] theorem keep_opRes (l : List Half) (s : State) (h : w .host) :
    keep w (opRes l s) = keep w s := by
  simp [opRes, h]

@[simp ↓] theorem keep_opAccept (code : Nat) (a : List Half) (legacy : Bool) (s : State) (h : w .canvas ∧ w .host) :
    keep w (opAccept code a legacy s) = keep w s := by
  simp [opAccept, h]

@[simp ↓] theorem keep_cmdRes (n : Nat) (s : State) (h : w .host) :
    keep w (cmdRes n s) = keep w s := by
  simp [cmdRes, h]

@[simp ↓] theorem keep_opAbort (s : State) (h : w .host) :
    keep w (opAbort s) = keep w s := by
  simp [opAbort, h]

@[simp ↓] theorem keep_opStart (code : Nat) (s : State) (h : w .canvas ∧ w .host) :
    keep w (opStart code s) = keep w s := by
  simp [opStart, h]

@[simp ↓] theorem keep_workOne (s : State) (h : w .mem ∧ w .host ∧ w .store) :
    keep w (workOne s) = keep w s := by
  unfold workOne
  dsimp only
  (repeat' split) <;> simp [h]

@[simp ↓] theorem keep_workUnits (n : Nat) (s : State) (h : w .mem ∧ w .host ∧ w .store) :
    keep w (workUnits n s) = keep w s := by
  simp [workUnits, h]

@[simp ↓] theorem keep_keyAppend (id : Nat) (k : DWord) (s : State) (h : w .mem ∧ w .store) :
    keep w (keyAppend id k s) = keep w s := by
  simp [keyAppend, h]

@[simp ↓] theorem keep_keyRewrite (sec_ : Nat) (s : State) (h : w .mem ∧ w .store) :
    keep w (keyRewrite sec_ s) = keep w s := by
  simp [keyRewrite, h]

@[simp ↓] theorem keep_keyCompact (s : State) (h : w .mem ∧ w .store) :
    keep w (keyCompact s) = keep w s := by
  simp [keyCompact, h]

@[simp ↓] theorem keep_keySet (s : State) (h : w .mem ∧ w .store) :
    keep w (keySet s) = keep w s := by
  simp [keySet, h]

/-! ### ProofRun -/

@[simp ↓] theorem keep_proofRecord (typ : Nat) (ws : List Word) (s : State) (h : w .host) :
    keep w (proofRecord typ ws s) = keep w s := by
  simp [proofRecord, h]

@[simp ↓] theorem keep_headRecords (s : State) (h : w .host) :
    keep w (headRecords s) = keep w s := by
  simp [headRecords, h]

@[simp ↓] theorem keep_endStep (k out tested : Nat) (fails : List (Nat × Half)) (s : State) (h : w .host ∧ w .proof) :
    keep w (endStep k out tested fails s) = keep w s := by
  simp [endStep, h]

@[simp ↓] theorem keep_proofAbort (s : State) (h : w .host ∧ w .store ∧ w .proof) :
    keep w (proofAbort s) = keep w s := by
  simp [proofAbort, h]

@[simp ↓] theorem keep_feedHeads (h : w .clients ∧ w .store ∧ w .proof) :
    ∀ (l : List Nat) (s : State), keep w (feedHeads l s) = keep w s
  | [], s => by simp [feedHeads, h]
  | id :: r, s => by
    unfold feedHeads
    dsimp only
    split
    · simp [h]
    · split
      · simp [h]
      · rw [keep_feedHeads h r]
        simp [h]

@[simp ↓] theorem keep_feedConv (h : w .conv ∧ w .proof) : ∀ (l : List Nat) (s : State), keep w (feedConv l s) = keep w s
  | [], s => by simp [feedConv, h]
  | ch :: r, s => by
    unfold feedConv
    dsimp only
    split
    · simp [h]
    · rw [keep_feedConv h r]
      simp [h]

@[simp ↓] theorem keep_feedChirps (x : List Nat) (x' : State) (h : w .proof) :
    keep w (feedChirps x x') = keep w x' := by
  unfold feedChirps
  dsimp only
  (repeat' split) <;> simp [h]

@[simp ↓] theorem keep_proofFeed (s : State) (h : w .clients ∧ w .conv ∧ w .store ∧ w .proof) :
    keep w (proofFeed s) = keep w s := by
  unfold proofFeed
  split
  · split <;> simp [h]
  · rfl

@[simp ↓] theorem keep_beginStep (k : Nat) (s : State) (h : w .clients ∧ w .conv ∧ w .store ∧ w .proof) :
    keep w (beginStep k s) = keep w s := by
  unfold beginStep
  split <;> simp [h]

@[simp ↓] theorem keep_proofGo (h : w .host ∧ w .clients ∧ w .conv ∧ w .store ∧ w .proof) :
    ∀ (l : List Nat) (s : State), keep w (proofGo l s) = keep w s
  | [], _ => rfl
  | k :: r, s => by
    unfold proofGo
    split
    · exact keep_proofGo h r s
    · split
      · rw [keep_proofGo h r]
        simp [h]
      · simp [h]

@[simp ↓] theorem keep_proofNext (s : State) (h : w .host ∧ w .clients ∧ w .conv ∧ w .store ∧ w .proof) :
    keep w (proofNext s) = keep w s := keep_proofGo (by simp [h]) _ _

@[simp ↓] theorem keep_proofStart (sched : Bool) (mask : Nat) (s : State)
    (h : w .host ∧ w .clients ∧ w .conv ∧ w .store ∧ w .proof) :
    keep w (proofStart sched mask s) = keep w s := by
  simp [proofStart, h]

/-! ### Verify -/

@[simp ↓] theorem keep_noteVerify (k : Bool) (r : Option (Nat × Word)) (s : State) (h : w .canvas) :
    keep w (noteVerify k r s) = keep w s := by
  simp [noteVerify, h]

/-! ### RunState -/

@[simp ↓] theorem keep_settleOuts (s : State) (h : w .drive ∧ w .fans) :
    keep w (settleOuts s) = keep w s := by
  simp [settleOuts, h]

@[simp ↓] theorem keep_setCrly (n : Nat) (v : Bool) (s : State) (h : w .pads) :
    keep w (setCrly n v s) = keep w s := by
  simp [setCrly, h]

@[simp ↓] theorem keep_crlyToSafe (n : Nat) (s : State) (h : w .pads) :
    keep w (crlyToSafe n s) = keep w s := by
  simp [crlyToSafe, h]

@[simp ↓] theorem keep_orphanRelays (was is : List Entry) (s : State) (h : w .pads) :
    keep w (orphanRelays was is s) = keep w s := by
  simp [orphanRelays, h]

@[simp ↓] theorem keep_instReturn (e : Entry) (s : State) (h : w .loop) :
    keep w (instReturn e s) = keep w s := by
  unfold instReturn
  split <;> simp [h]

@[simp ↓] theorem keep_returnNew (op : Nat → Nat) (is was : List Entry) (s : State) (h : w .loop) :
    keep w (returnNew op is was s) = keep w s := by
  simp [returnNew, h]

@[simp ↓] theorem keep_dropDelays (s : State) (h : w .loop) :
    keep w (dropDelays s) = keep w s := by
  simp [dropDelays, h]

@[simp ↓] theorem keep_holdOut (c i : Nat) (s : State) (h : w .canvas) :
    keep w (holdOut c i s) = keep w s := by
  simp [holdOut, h]

@[simp ↓] theorem keep_valueOut (c i : Nat) (v : Word) (s : State)
    (h : w .pads ∧ w .canvas ∧ w .clients ∧ w .drive ∧ w .fans ∧ w .store) :
    keep w (valueOut c i v s) = keep w s := by
  unfold valueOut
  split <;> simp [h]

@[simp ↓] theorem keep_disposeOne (w0 : DWord) (s : State)
    (h : w .pads ∧ w .canvas ∧ w .clients ∧ w .drive ∧ w .fans ∧ w .store) :
    keep w (disposeOne w0 s) = keep w s := by
  unfold disposeOne
  split <;> simp [h]

@[simp ↓] theorem keep_dispose (s : State) (h : w .pads ∧ w .canvas ∧ w .clients ∧ w .drive ∧ w .fans ∧ w .store) :
    keep w (dispose s) = keep w s := by
  simp [dispose, h]

@[simp ↓] theorem keep_toEmergency (s : State)
    (h : w .pads ∧ w .canvas ∧ w .host ∧ w .clients ∧ w .loop ∧ w .drive ∧ w .fans ∧ w .store) :
    keep w (toEmergency s) = keep w s := by
  simp [toEmergency, h]

@[simp ↓] theorem keep_toComfort (s : State) (h : w .pads ∧ w .canvas ∧ w .host ∧ w .loop ∧ w .drive ∧ w .fans) :
    keep w (toComfort s) = keep w s := by
  simp [toComfort, h]

@[simp ↓] theorem keep_enterRun (r : RunState) (s : State)
    (h : w .pads ∧ w .canvas ∧ w .host ∧ w .clients ∧ w .loop ∧ w .drive ∧ w .fans ∧ w .store) :
    keep w (enterRun r s) = keep w s := by
  unfold enterRun
  split <;> simp [h]

@[simp ↓] theorem keep_settleRun (s : State)
    (h : w .pads ∧ w .canvas ∧ w .host ∧ w .clients ∧ w .loop ∧ w .drive ∧ w .fans ∧ w .store) :
    keep w (settleRun s) = keep w s := by
  simp [settleRun, h]

@[simp ↓] theorem keep_canvasStop (s : State) (h : w .pads ∧ w .canvas ∧ w .drive ∧ w .fans) :
    keep w (canvasStop s) = keep w s := by
  simp [canvasStop, h]

@[simp ↓] theorem keep_initSignals (m : Image) (s : State) (h : w .canvas) :
    keep w (initSignals m s) = keep w s := by
  simp [initSignals, h]

@[simp ↓] theorem keep_startImage (k fallback : Bool) (s : State) (h : w .canvas ∧ w .power ∧ w .loop) :
    keep w (startImage k fallback s) = keep w s := by
  simp [startImage, h]

@[simp ↓] theorem keep_startCanvas (s : State) (h : w .canvas ∧ w .power ∧ w .loop) :
    keep w (startCanvas s) = keep w s := by
  unfold startCanvas
  dsimp only
  (repeat' split) <;> simp [h]

@[simp ↓] theorem keep_swapImage (s : State) (h : w .pads ∧ w .canvas ∧ w .loop ∧ w .drive ∧ w .fans) :
    keep w (swapImage s) = keep w s := by
  simp [swapImage, h]

@[simp ↓] theorem keep_staged (k : Bool) (r : Option (Nat × Word)) (s : State) (h : w .canvas) :
    keep w (staged k r s) = keep w s := by
  simp [staged, h]

@[simp ↓] theorem keep_verifyEnds (s : State) (h : w .canvas) :
    keep w (verifyEnds s) = keep w s := by
  simp [verifyEnds, h]

@[simp ↓] theorem keep_swapNow (s : State) (h : w .pads ∧ w .canvas ∧ w .loop ∧ w .drive ∧ w .fans) :
    keep w (swapNow s) = keep w s := by
  unfold swapNow
  dsimp only
  (repeat' split) <;> simp [h]

@[simp ↓] theorem keep_settleFrame (s : State)
    (h : w .pads ∧ w .canvas ∧ w .host ∧ w .clients ∧ w .loop ∧ w .drive ∧ w .fans ∧ w .store) :
    keep w (settleFrame s) = keep w s := by
  simp [settleFrame, h]

/-! ### Reset -/

@[simp ↓] theorem keep_coreLeaves (s : State) (h : w .gesso) :
    keep w (coreLeaves s) = keep w s := by
  simp [coreLeaves, h]

@[simp ↓] theorem keep_coreHalts (s : State) (h : w .safety) :
    keep w (coreHalts s) = keep w s := by
  simp [coreHalts, h]

@[simp ↓] theorem keep_coreUnpowered (s : State) (h : w .gesso ∧ w .pads ∧ w .safety) :
    keep w (coreUnpowered s) = keep w s := by
  simp [coreUnpowered, h]

@[simp ↓] theorem keep_zcSilent (s : State) :
    keep w (zcSilent s) = keep w s := keep_of_inner rfl

@[simp ↓] theorem keep_bbSilent (s : State) (h : w .bb) :
    keep w (bbSilent s) = keep w s := by
  unfold bbSilent
  exact (keep_work _ _ s.glaze s).trans (by simp [h])

@[simp ↓] theorem keep_linkDown (s : State) (h : w .mirror) :
    keep w (linkDown s) = keep w s := by
  simp [linkDown, h]

@[simp ↓] theorem keep_hostDown (s : State) (h : w .power ∧ w .host) :
    keep w (hostDown s) = keep w s := by
  simp [hostDown, h]

@[simp ↓] theorem keep_coresOff (s : State) (h : w .pads ∧ w .canvas ∧ w .drive ∧ w .fans) :
    keep w (coresOff s) = keep w s := by
  simp [coresOff, h]

@[simp ↓] theorem keep_convOff (s : State) (h : w .pads ∧ w .safety ∧ w .conv ∧ w .proof) :
    keep w (convOff s) = keep w s := by
  simp [convOff, h]

@[simp ↓] theorem keep_domainsLost (lost : BitVec 12) (s : State)
    (h : w .gesso ∧ w .pads ∧ w .safety ∧ w .canvas ∧ w .power ∧ w .host ∧ w .bb ∧ w .conv ∧ w .loop ∧ w .drive ∧ w .fans ∧
      w .mirror ∧ w .field ∧ w .proof) :
    keep w (domainsLost lost s) = keep w s := by
  simp [domainsLost, h]

@[simp ↓] theorem keep_dropDomains (s : State)
    (h : w .gesso ∧ w .pads ∧ w .safety ∧ w .canvas ∧ w .power ∧ w .host ∧ w .bb ∧ w .conv ∧ w .loop ∧ w .drive ∧ w .fans ∧
      w .mirror ∧ w .field ∧ w .proof) :
    keep w (dropDomains s) = keep w s := by
  simp [dropDomains, h]

@[simp ↓] theorem keep_domainsReset (fresh : BitVec 12) (s : State)
    (h : w .gesso ∧ w .safety ∧ w .canvas ∧ w .power ∧ w .bb ∧ w .conv ∧ w .loop ∧ w .drive ∧ w .fans ∧ w .mirror) :
    keep w (domainsReset fresh s) = keep w s := by
  unfold domainsReset
  extract_lets on canvas s0 s1 safety s2 loop s3 s4 conv s5 s6 s7
  have h1 : keep w s1 = keep w s := by simp [s1, s0, on, h]
  have h2 : keep w s2 = keep w s := by
    simp only [s2, on]
    split
    · split <;> simp [h, h1]
    · exact h1
  have h3 : keep w s3 = keep w s := by simp [s3, on, h, h2]
  have h4 : keep w s4 = keep w s := by simp [s4, on, h, h3]
  have h5 : keep w s5 = keep w s := by simp [s5, on, h, h4]
  have h6 : keep w s6 = keep w s := by simp [s6, on, h, h5]
  have h7 : keep w s7 = keep w s := by
    simp only [s7, on]
    split
    · exact (keep_zcTracks _ _).trans h6
    · exact h6
  simp [on, h, h7]

@[simp ↓] theorem keep_glazeAbort (reason : Nat) (s : State) (h : w .glaze) :
    keep w (glazeAbort reason s) = keep w s := by
  simp [glazeAbort, h]

@[simp ↓] theorem keep_legacyPfw (s : State) (h : w .host ∧ w .legacy) :
    keep w (legacyPfw s) = keep w s := by
  simp [legacyPfw, h]

@[simp ↓] theorem keep_loseRetention (s : State) (h : w .safety ∧ w .host ∧ w .store) :
    keep w (loseRetention s) = keep w s := by
  simp [loseRetention, h]

@[simp ↓] theorem keep_groundOff (s : State) (h : w .gesso ∧ w .pads) :
    keep w (groundOff s) = keep w s := by
  simp [groundOff, h]

@[simp ↓] theorem keep_stopWork (s : State)
    (h : w .mem ∧ w .pads ∧ w .safety ∧ w .canvas ∧ w .host ∧ w .bb ∧ w .conv ∧ w .drive ∧ w .fans ∧ w .store ∧ w .proof) :
    keep w (stopWork s) = keep w s := by
  simp [stopWork, h]

@[simp ↓] theorem keep_enterReset (s : State)
    (h : w .mem ∧ w .params ∧ w .gesso ∧ w .pads ∧ w .safety ∧ w .canvas ∧ w .sys ∧ w .power ∧ w .host ∧ w .glaze ∧ w .bb ∧
      w .clients ∧ w .evt ∧ w .conv ∧ w .loop ∧ w .drive ∧ w .fans ∧ w .store ∧ w .mirror ∧ w .proof ∧ w .legacy) :
    keep w (enterReset s) = keep w s := by
  simp [enterReset, h]

@[simp ↓] theorem keep_releaseReset (kind : Nat) (s : State) (h : w .gesso ∧ w .power ∧ w .legacy) :
    keep w (releaseReset kind s) = keep w s := by
  simp [releaseReset, h]

@[simp ↓] theorem keep_restartVigil (s : State)
    (h : w .params ∧ w .gesso ∧ w .safety ∧ w .canvas ∧ w .sys ∧ w .power ∧ w .host ∧ w .glaze ∧ w .zc ∧ w .bb ∧ w .clients ∧
      w .evt ∧ w .conv ∧ w .loop ∧ w .drive ∧ w .fans ∧ w .store ∧ w .mirror ∧ w .field ∧ w .proof ∧ w .legacy) :
    keep w (restartVigil s) = keep w s := by
  simp [restartVigil, h]

@[simp ↓] theorem keep_nrstResumes (s : State) (h : w .power) :
    keep w (nrstResumes s) = keep w s := by
  simp [nrstResumes, h]

@[simp ↓] theorem keep_nrstStands (s : State)
    (h : w .mem ∧ w .params ∧ w .gesso ∧ w .pads ∧ w .safety ∧ w .canvas ∧ w .sys ∧ w .power ∧ w .host ∧ w .glaze ∧ w .bb ∧
      w .clients ∧ w .evt ∧ w .conv ∧ w .loop ∧ w .drive ∧ w .fans ∧ w .store ∧ w .mirror ∧ w .proof ∧ w .legacy) :
    keep w (nrstStands s) = keep w s := by
  simp [nrstStands, h]

@[simp ↓] theorem keep_leaveReset (kind : Nat) (s : State)
    (h : w .mem ∧ w .params ∧ w .gesso ∧ w .pads ∧ w .safety ∧ w .canvas ∧ w .sys ∧ w .power ∧ w .host ∧ w .glaze ∧ w .zc ∧
      w .bb ∧ w .clients ∧ w .evt ∧ w .conv ∧ w .loop ∧ w .drive ∧ w .fans ∧ w .store ∧ w .mirror ∧ w .field ∧ w .proof ∧
      w .legacy) :
    keep w (leaveReset kind s) = keep w s := by
  simp [leaveReset, h]

@[simp ↓] theorem keep_mainRises (s : State)
    (h : w .mem ∧ w .params ∧ w .gesso ∧ w .pads ∧ w .safety ∧ w .canvas ∧ w .sys ∧ w .power ∧ w .host ∧ w .glaze ∧ w .bb ∧
      w .clients ∧ w .evt ∧ w .conv ∧ w .loop ∧ w .drive ∧ w .fans ∧ w .store ∧ w .mirror ∧ w .field ∧ w .proof ∧
      w .legacy) :
    keep w (mainRises s) = keep w s := by
  simp [mainRises, h]

/-! ### CanvasCmds -/

@[simp ↓] theorem keep_countOverrun (i lane : Nat) (held : Bool) (s : State) (h : w .canvas ∧ w .mirror) :
    keep w (countOverrun i lane held s) = keep w s := by
  simp [countOverrun, h]

@[simp ↓] theorem keep_noteOverrun (i : Nat) (s : State) :
    keep w (noteOverrun i s) = keep w s := keep_of_inner rfl

@[simp ↓] theorem keep_abandonTick (lane : Nat) (s : State) (h : w .pads ∧ w .canvas ∧ w .host ∧ w .mirror) :
    keep w (abandonTick lane s) = keep w s := by
  simp [abandonTick, h]

@[simp ↓] theorem keep_laneStops (lane : Nat) (s : State)
    (h : w .pads ∧ w .safety ∧ w .canvas ∧ w .bb ∧ w .conv ∧ w .drive ∧ w .fans ∧ w .proof) :
    keep w (laneStops lane s) = keep w s := by
  unfold laneStops
  split <;> simp [h]

/-! ### Drive -/

@[simp ↓] theorem keep_kickDecide (m : Nat) (s : State) (h : w .drive) :
    keep w (kickDecide m s) = keep w s := by
  unfold kickDecide
  dsimp only
  split <;> simp [h]

@[simp ↓] theorem keep_supDecide (m : Nat) (c : Word) (rev turned bad : Bool) (s : State) (h : w .drive) :
    keep w (supDecide m c rev turned bad s) = keep w s := by
  unfold supDecide
  dsimp only
  split <;> simp [h]

@[simp ↓] theorem keep_dtcUpdate (m : Nat) (i : List Int) (s : State) (h : w .drive) :
    keep w (dtcUpdate m i s) = keep w s := by
  simp [dtcUpdate, h]

@[simp ↓] theorem keep_judgeRevolution (m : Nat) (s : State) (h : w .drive) :
    keep w (judgeRevolution m s) = keep w s := by
  simp [judgeRevolution, h]

@[simp ↓] theorem keep_brakeSample (m : Nat) (i : List Int) (s : State) (h : w .drive) :
    keep w (brakeSample m i s) = keep w s := by
  unfold brakeSample
  dsimp only
  (repeat' split) <;> simp [h]

@[simp ↓] theorem keep_boundarySet (m : Nat) (i : List Int) (s : State) (h : w .drive) :
    keep w (boundarySet m i s) = keep w s := by
  unfold boundarySet
  dsimp only
  (repeat' split) <;> simp [h]

@[simp ↓] theorem keep_runCrossing (m t : Nat) (s : State) (h : w .drive) :
    keep w (runCrossing m t s) = keep w s := by
  unfold runCrossing
  dsimp only
  split <;> simp [h]

@[simp ↓] theorem keep_floatCrossing (m t : Nat) (s : State) (h : w .drive) :
    keep w (floatCrossing m t s) = keep w s := by
  unfold floatCrossing
  dsimp only
  (repeat' split) <;> simp [h]

@[simp ↓] theorem keep_floatSample (m : Nat) (lv : BitVec 3) (s : State) (h : w .drive) :
    keep w (floatSample m lv s) = keep w s := by
  unfold floatSample
  dsimp only
  (repeat' split) <;> simp [h]

@[simp ↓] theorem keep_freeSample (m : Nat) (lv : BitVec 3) (s : State) (h : w .drive) :
    keep w (freeSample m lv s) = keep w s := by
  unfold freeSample
  dsimp only
  split <;> simp [h]

@[simp ↓] theorem keep_kickListen (m : Nat) (s : State) (h : w .drive) :
    keep w (kickListen m s) = keep w s := by
  unfold kickListen
  dsimp only
  split <;> simp [h]

@[simp ↓] theorem keep_commutate (m t : Nat) (s : State) (h : w .drive) :
    keep w (commutate m t s) = keep w s := by
  simp [commutate, h]

@[simp ↓] theorem keep_hallRun (m : Nat) (duty : Int) (s : State) (h : w .drive) :
    keep w (hallRun m duty s) = keep w s := by
  simp [hallRun, h]

@[simp ↓] theorem keep_hallRunFree (m : Nat) (s : State) (h : w .drive) :
    keep w (hallRunFree m s) = keep w s := by
  simp [hallRunFree, h]

@[simp ↓] theorem keep_atRest (m : Nat) (s : State) (h : w .drive) :
    keep w (atRest m s) = keep w s := by
  unfold atRest
  dsimp only
  split <;> simp [h]

/-! ### KeyOps -/

@[simp ↓] theorem keep_setKeyLock (id : Nat) (l : KeyLock) (s : State) (h : w .host) :
    keep w (setKeyLock id l s) = keep w s := by
  simp [setKeyLock, h]

@[simp ↓] theorem keep_setKeyValid (id : Nat) (t : Option Nat) (s : State) (h : w .host) :
    keep w (setKeyValid id t s) = keep w s := by
  simp [setKeyValid, h]

@[simp ↓] theorem keep_keyResult (id res : Nat) (s : State) (h : w .host) :
    keep w (keyResult id res s) = keep w s := by
  simp [keyResult, h]

@[simp ↓] theorem keep_keyClose (v : Half) (s : State) (h : w .host) :
    keep w (keyClose v s) = keep w s := by
  simp [keyClose, h]

@[simp ↓] theorem keep_keyInWrite (v : Half) (s : State) (h : w .host) :
    keep w (keyInWrite v s) = keep w s := by
  unfold keyInWrite
  dsimp only
  (repeat' split) <;> simp [h]

@[simp ↓] theorem keep_keyWrong (id : Nat) (s : State) (h : w .host) :
    keep w (keyWrong id s) = keep w s := by
  simp [keyWrong, h]

@[simp ↓] theorem keep_keyAccept (id : Nat) (s : State) (h : w .host) :
    keep w (keyAccept id s) = keep w s := by
  simp [keyAccept, h]

@[simp ↓] theorem keep_keyTry (id : Nat) (k : DWord) (s : State) (h : w .host) :
    keep w (keyTry id k s) = keep w s := by
  simp [keyTry, h]

/-! ### Store -/

@[simp ↓] theorem keep_dstat (n : Nat) (s : State) (h : w .store) :
    keep w (dstat n s) = keep w s := by
  simp [dstat, h]

@[simp ↓] theorem keep_dctlWrite (page : BitVec 13) (reg : BitVec 2) (op : Nat) {f : Nat → State → State} (s : State)
    (hf : ∀ pg u, keep w (f pg u) = keep w u) (h : w .params ∧ w .host ∧ w .store) :
    keep w (dctlWrite page reg op f s) = keep w s := by
  unfold dctlWrite
  dsimp only
  split
  · split <;> simp [h, hf]
  · simp [h]

@[simp ↓] theorem keep_dctlHold (most : Nat) (s : State) (h : w .host) :
    keep w (dctlHold most s) = keep w s := by
  simp [dctlHold, h]

@[simp ↓] theorem keep_dctlProg (done : Nat) (ok : Bool) (pg : Nat) (s : State) (h : w .mem ∧ w .host ∧ w .store) :
    keep w (dctlProg done ok pg s) = keep w s := by
  simp [dctlProg, h]

@[simp ↓] theorem keep_dctlShadow (ok : Bool) (pg : Nat) (s : State) (h : w .mem ∧ w .host ∧ w .store) :
    keep w (dctlShadow ok pg s) = keep w s := by
  simp [dctlShadow, h]

@[simp ↓] theorem keep_dctlSector (pg : Nat) (s : State) (h : w .mem ∧ w .host ∧ w .store) :
    keep w (dctlSector pg s) = keep w s := by
  simp [dctlSector, h]

@[simp ↓] theorem keep_dctlAny (v : Word) (ok : Bool) (s : State) (h : w .mem ∧ w .params ∧ w .host ∧ w .store) :
    keep w (dctlAny v ok s) = keep w s := by
  unfold dctlAny
  split <;> simp [h]

@[simp ↓] theorem keep_cntClear (v : Word) (s : State) (h : w .params ∧ w .store) :
    keep w (cntClear v s) = keep w s := by
  simp [cntClear, h]

@[simp ↓] theorem keep_writeCheckpoint (s : State) (h : w .mem ∧ w .store) :
    keep w (writeCheckpoint s) = keep w s := by
  simp [writeCheckpoint, h]

@[simp ↓] theorem keep_readJournal (s : State) (h : w .mem ∧ w .store) :
    keep w (readJournal s) = keep w s := by
  unfold readJournal
  split <;> simp [h]

@[simp ↓] theorem keep_markTorn (s : State) (h : w .store) :
    keep w (markTorn s) = keep w s := by
  simp [markTorn, h]

@[simp ↓] theorem keep_readCkpt (s : State) (h : w .store) :
    keep w (readCkpt s) = keep w s := by
  -- By the function's equation: to see that an unfolded `readCkpt s` is itself the kernel would evaluate `ckptOf`.
  have step : ∀ f, f = readCkpt → keep w (f s) = keep w s := by
    intro f hf
    delta readCkpt at hf
    rw [hf]
    beta_reduce
    generalize ckptOf s false = a
    generalize ckptOf s true = b
    obtain _ | a := a <;> obtain _ | b := b <;> simp [h]
  exact step _ rfl

@[simp ↓] theorem keep_applyItem (key : Nat) (v : Word) (s : State) (h : w .params ∧ w .glaze ∧ w .clients ∧ w .conv ∧ w .store) :
    keep w (applyItem key v s) = keep w s := by
  unfold applyItem
  dsimp only
  (repeat' split) <;> simp [h]

@[simp ↓] theorem keep_readParLog (s : State) (h : w .params ∧ w .glaze ∧ w .clients ∧ w .conv ∧ w .store) :
    keep w (readParLog s) = keep w s := by
  simp [readParLog, h]

@[simp ↓] theorem keep_readLogEnd (s : State) (h : w .store) :
    keep w (readLogEnd s) = keep w s := by
  unfold readLogEnd
  dsimp only
  split <;> simp [h]

@[simp ↓] theorem keep_overlayRow (a : Bool) (s : State) (r : Nat) (h : w .params ∧ w .glaze ∧ w .clients ∧ w .conv ∧ w .store) :
    keep w (overlayRow a s r) = keep w s := by
  unfold overlayRow
  dsimp only
  split
  · simp [h]
  · split
    · refine keep_foldl (fun st i => ?_) _ _
      split
      · rfl
      · exact keep_logQ _ _ _
    · split
      · refine keep_foldl (fun st i => ?_) _ _
        split <;> simp [h]
      · refine keep_foldl (fun st i => ?_) _ _
        split <;> simp [h]

@[simp ↓] theorem keep_replayDump (s : State) (h : w .params ∧ w .glaze ∧ w .clients ∧ w .conv ∧ w .store) :
    keep w (replayDump s) = keep w s := by
  unfold replayDump
  split <;> simp [h]

@[simp ↓] theorem keep_rebuildShadow (s : State) (h : w .params ∧ w .glaze ∧ w .clients ∧ w .conv ∧ w .store) :
    keep w (rebuildShadow s) = keep w s := by
  simp [rebuildShadow, h]

@[simp ↓] theorem keep_restartCells (s : State) (h : w .store) :
    keep w (restartCells s) = keep w s := by
  simp [restartCells, h]

/-! ### ParamWrite -/

@[simp ↓] theorem keep_immWrite (a : Nat) (v : Word) (s : State) (h : w .params ∧ w .time ∧ w .host ∧ w .clients ∧ w .evt) :
    keep w (immWrite a v s) = keep w s := by
  simp [immWrite, h]

@[simp ↓] theorem keep_paramWrite (a : Nat) (v : Word) (ok : Bool) (s : State)
    (h : w .mem ∧ w .params ∧ w .gesso ∧ w .time ∧ w .host ∧ w .glaze ∧ w .clients ∧ w .evt ∧ w .store) :
    keep w (paramWrite a v ok s) = keep w s := by
  unfold paramWrite
  dsimp only
  (repeat' split) <;> simp [h]

@[simp ↓] theorem keep_paddrNext (s : State) (h : w .host) :
    keep w (paddrNext s) = keep w s := by
  simp [paddrNext, h]

@[simp ↓] theorem keep_pdataHiWrite (hi : Half) (ok : Bool) (s : State)
    (h : w .mem ∧ w .params ∧ w .gesso ∧ w .time ∧ w .host ∧ w .glaze ∧ w .clients ∧ w .evt ∧ w .store) :
    keep w (pdataHiWrite hi ok s) = keep w s := by
  unfold pdataHiWrite
  split <;> simp [h]

@[simp ↓] theorem keep_readSide (a : Nat) (s : State) (h : w .time ∧ w .conv ∧ w .loop) :
    keep w (readSide a s) = keep w s := by
  simp [readSide, h]

@[simp ↓] theorem keep_parTaken (a : Nat) (s : State) (h : w .time ∧ w .host ∧ w .conv ∧ w .loop) :
    keep w (parTaken a s) = keep w s := by
  simp [parTaken, h]

@[simp ↓] theorem keep_pdataLoRead (s : State) (h : w .time ∧ w .host ∧ w .conv ∧ w .loop) :
    keep w (pdataLoRead s) = keep w s := by
  simp [pdataLoRead, h]

@[simp ↓] theorem keep_pdataHiRead (s : State) (h : w .host) :
    keep w (pdataHiRead s) = keep w s := by
  simp [pdataHiRead, h]

@[simp ↓] theorem keep_clearDriveFlt (m : Nat) (v : Word) (s : State) (h : w .drive) :
    keep w (clearDriveFlt m v s) = keep w s := by
  simp [clearDriveFlt, h]

@[simp ↓] theorem keep_clearFanFlt (f : Nat) (v : Word) (s : State) (h : w .fans) :
    keep w (clearFanFlt f v s) = keep w s := by
  simp [clearFanFlt, h]

@[simp ↓] theorem keep_clearLoopFlags (i : Nat) (v : Word) (s : State) (h : w .loop) :
    keep w (clearLoopFlags i v s) = keep w s := by
  simp [clearLoopFlags, h]

@[simp ↓] theorem keep_clearSwapped (ch : Nat) (v : Word) (s : State) (h : w .conv ∧ w .store) :
    keep w (clearSwapped ch v s) = keep w s := by
  simp [clearSwapped, h]

@[simp ↓] theorem keep_clearRstStat (v : Word) (s : State) (h : w .power) :
    keep w (clearRstStat v s) = keep w s := by
  simp [clearRstStat, h]

@[simp ↓] theorem keep_evtCfgWrite (c : Nat) (v : Word) (s : State) (h : w .params ∧ w .evt) :
    keep w (evtCfgWrite c v s) = keep w s := by
  simp [evtCfgWrite, h]

@[simp ↓] theorem keep_tailWrite (v : BitVec 10) (s : State) (h : w .host) :
    keep w (tailWrite v s) = keep w s := by
  simp [tailWrite, h]

@[simp ↓] theorem keep_immChannels (a : Nat) (v : Word) (s : State)
    (h : w .params ∧ w .conv ∧ w .loop ∧ w .drive ∧ w .fans ∧ w .store) :
    keep w (immChannels a v s) = keep w s := by
  simp [immChannels, h]

@[simp ↓] theorem keep_immApply (a : Nat) (v : Word) (s : State)
    (h : w .params ∧ w .gesso ∧ w .time ∧ w .canvas ∧ w .power ∧ w .host ∧ w .glaze ∧ w .evt ∧ w .conv ∧ w .loop ∧ w .drive ∧
      w .fans ∧ w .store ∧ w .mirror ∧ w .field) :
    keep w (immApply a v s) = keep w s := by
  simp [immApply, h]

/-! ### PowerOps -/

@[simp ↓] theorem keep_exitFrom (t : Nat) (s : State) (h : w .sys ∧ w .power) :
    keep w (exitFrom t s) = keep w s := by
  simp [exitFrom, h]

@[simp ↓] theorem keep_exitState (s : State) (h : w .sys ∧ w .power) :
    keep w (exitState s) = keep w s := by
  simp [exitState, h]

@[simp ↓] theorem keep_exitMade (s : State) (h : w .sys ∧ w .power) :
    keep w (exitMade s) = keep w s := by
  simp [exitMade, h]

@[simp ↓] theorem keep_wakeTaken (s : State) :
    keep w (wakeTaken s) = keep w s := keep_of_inner rfl

@[simp ↓] theorem keep_sleepReq (ceil : BitVec 3) (s : State) (h : w .power) :
    keep w (sleepReq ceil s) = keep w s := by
  simp [sleepReq, h]

/-! ### HostOps -/

@[simp ↓] theorem keep_busError (s : State) (h : w .host) :
    keep w (busError s) = keep w s := by
  simp [busError, h]

@[simp ↓] theorem keep_windowNext (s : State) (h : w .host) :
    keep w (windowNext s) = keep w s := by
  simp [windowNext, h]

@[simp ↓] theorem keep_readEffect (off : Nat) (s : State) (h : w .time ∧ w .host ∧ w .conv ∧ w .loop ∧ w .mirror) :
    keep w (readEffect off s) = keep w s := by
  unfold readEffect
  split <;> simp [h]

@[simp ↓] theorem keep_regRead (off : Nat) (s : State) (h : w .time ∧ w .host ∧ w .conv ∧ w .loop ∧ w .mirror) :
    keep w (regRead off s) = keep w s := by
  simp [regRead, h]

@[simp ↓] theorem keep_ctrlWrite (v : Half) (s : State) (h : w .host) :
    keep w (ctrlWrite v s) = keep w s := by
  simp [ctrlWrite, h]

@[simp ↓] theorem keep_irqClear (v : Half) (s : State) :
    keep w (irqClear v s) = keep w s := keep_of_inner rfl

@[simp ↓] theorem keep_glazeDiscard (s : State) (h : w .glaze) :
    keep w (glazeDiscard s) = keep w s := by
  simp [glazeDiscard, h]

@[simp ↓] theorem keep_glazeCtl (v : Half) (s : State) (h : w .glaze) :
    keep w (glazeCtl v s) = keep w s := by
  simp [glazeCtl, h]

@[simp ↓] theorem keep_clientSelWrite (v : Half) (s : State) (h : w .host) :
    keep w (clientSelWrite v s) = keep w s := by
  simp [clientSelWrite, h]

@[simp ↓] theorem keep_clientHiWrite (hi : Half) (s : State) (h : w .host) :
    keep w (clientHiWrite hi s) = keep w s := by
  unfold clientHiWrite
  dsimp only
  split <;> simp [h]

@[simp ↓] theorem keep_clientSnap (s : State) (h : w .host) :
    keep w (clientSnap s) = keep w s := by
  simp [clientSnap, h]

@[simp ↓] theorem keep_clientCtl (v : Half) (s : State) (h : w .host) :
    keep w (clientCtl v s) = keep w s := by
  simp [clientCtl, h]

@[simp ↓] theorem keep_hostBeat (v : Half) (s : State) (h : w .host) :
    keep w (hostBeat v s) = keep w s := by
  simp [hostBeat, h]

@[simp ↓] theorem keep_regWrite (off : Nat) (v : Half) (ok : Bool) (s : State)
    (h : w .mem ∧ w .params ∧ w .gesso ∧ w .safety ∧ w .time ∧ w .canvas ∧ w .power ∧ w .host ∧ w .glaze ∧ w .clients ∧
      w .evt ∧ w .store ∧ w .mirror) :
    keep w (regWrite off v ok s) = keep w s := by
  unfold regWrite
  split <;> simp [h]

/-! ### LegacyOps -/

@[simp ↓] theorem keep_legacyFetch (off : Nat) (s : State) (h : w .time ∧ w .conv ∧ w .loop ∧ w .legacy) :
    keep w (legacyFetch off s) = keep w s := by
  unfold legacyFetch
  split <;> simp [h]

@[simp ↓] theorem keep_legacyOut (b : Byte) (s : State) (h : w .host) :
    keep w (legacyOut b s) = keep w s := by
  simp [legacyOut, h]

@[simp ↓] theorem keep_legacyTaken (off : Nat) (s : State) (h : w .legacy) :
    keep w (legacyTaken off s) = keep w s := by
  unfold legacyTaken
  split <;> simp [h]

@[simp ↓] theorem keep_legacyRead (off : Nat) (s : State) (h : w .time ∧ w .host ∧ w .conv ∧ w .loop ∧ w .legacy) :
    keep w (legacyRead off s) = keep w s := by
  unfold legacyRead
  dsimp only
  (repeat' split) <;> simp [h]

@[simp ↓] theorem keep_latchByte (k : Nat) (b : Byte) (s : State) (h : w .legacy) :
    keep w (latchByte k b s) = keep w s := by
  simp [latchByte, h]

@[simp ↓] theorem keep_latchUsed (s : State) (h : w .legacy) :
    keep w (latchUsed s) = keep w s := by
  simp [latchUsed, h]

@[simp ↓] theorem keep_breakAck (s : State) (h : w .legacy) :
    keep w (breakAck s) = keep w s := by
  simp [breakAck, h]

@[simp ↓] theorem keep_legacyQueue (w0 : LegWrite) (s : State) (h : w .host ∧ w .legacy) :
    keep w (legacyQueue w0 s) = keep w s := by
  simp [legacyQueue, h]

@[simp ↓] theorem keep_legacyParam (a : Nat) (v : Word) (s : State) (h : w .host ∧ w .legacy) :
    keep w (legacyParam a v s) = keep w s := by
  unfold legacyParam
  dsimp only
  (repeat' split) <;> simp [h]

@[simp ↓] theorem keep_legacyFan (b : Byte) (s : State) (h : w .host ∧ w .legacy) :
    keep w (legacyFan b s) = keep w s := by
  simp [legacyFan, h]

@[simp ↓] theorem keep_ackFail (s : State) (h : w .legacy) :
    keep w (ackFail s) = keep w s := by
  simp [ackFail, h]

@[simp ↓] theorem keep_legacyAck (b : Byte) (s : State) (h : w .safety ∧ w .legacy) :
    keep w (legacyAck b s) = keep w s := by
  unfold legacyAck
  split <;> simp [h]

@[simp ↓] theorem keep_legacyCommand (b : Byte) (s : State) (h : w .clients ∧ w .store) :
    keep w (legacyCommand b s) = keep w s := by
  simp [legacyCommand, h]

@[simp ↓] theorem keep_legacyOpcmd (b : Byte) (s : State) (h : w .canvas ∧ w .host ∧ w .legacy) :
    keep w (legacyOpcmd b s) = keep w s := by
  unfold legacyOpcmd
  dsimp only
  (repeat' split) <;> simp [h]

@[simp ↓] theorem keep_legacyWrite (off : Nat) (b : Byte) (s : State)
    (h : w .safety ∧ w .canvas ∧ w .host ∧ w .clients ∧ w .store ∧ w .legacy) :
    keep w (legacyWrite off b s) = keep w s := by
  unfold legacyWrite
  dsimp only
  (repeat' split) <;> simp [h]

@[simp ↓] theorem keep_legacyEffect (w0 : LegWrite) (s : State)
    (h : w .params ∧ w .pads ∧ w .safety ∧ w .time ∧ w .host ∧ w .bb ∧ w .clients ∧ w .evt ∧ w .conv ∧ w .loop ∧ w .store ∧
      w .proof ∧ w .legacy) :
    keep w (legacyEffect w0 s) = keep w s := by
  unfold legacyEffect
  dsimp only
  (repeat' split) <;> simp [h]

@[simp ↓] theorem keep_legacyPost (w0 : LegWrite) (s : State)
    (h : w .params ∧ w .pads ∧ w .safety ∧ w .time ∧ w .host ∧ w .bb ∧ w .clients ∧ w .evt ∧ w .conv ∧ w .loop ∧ w .store ∧
      w .proof ∧ w .legacy) :
    keep w (legacyPost w0 s) = keep w s := by
  simp [legacyPost, h]

@[simp ↓] theorem keep_legacyRoom (s : State) (h : w .host ∧ w .legacy) :
    keep w (legacyRoom s) = keep w s := by
  unfold legacyRoom
  split <;> simp [h]

@[simp ↓] theorem keep_legacyApply (s : State)
    (h : w .params ∧ w .pads ∧ w .safety ∧ w .time ∧ w .host ∧ w .bb ∧ w .clients ∧ w .evt ∧ w .conv ∧ w .loop ∧ w .store ∧
      w .proof ∧ w .legacy) :
    keep w (legacyApply s) = keep w s := by
  unfold legacyApply
  split <;> simp [h]

/-! ### BusOps -/

@[simp ↓] theorem keep_busDo (a : BusAcc) (s : State)
    (h : w .mem ∧ w .params ∧ w .gesso ∧ w .safety ∧ w .time ∧ w .canvas ∧ w .power ∧ w .host ∧ w .glaze ∧ w .clients ∧
      w .evt ∧ w .conv ∧ w .loop ∧ w .store ∧ w .mirror ∧ w .legacy) :
    keep w (busDo a s) = keep w s := by
  unfold busDo
  split <;> simp [h]

@[simp ↓] theorem keep_busHold (bound : Nat) (a : BusAcc) (s : State) (h : w .host) :
    keep w (busHold bound a s) = keep w s := by
  simp [busHold, h]

@[simp ↓] theorem keep_onBus (a : BusAcc) (s : State)
    (h : w .mem ∧ w .params ∧ w .gesso ∧ w .safety ∧ w .time ∧ w .canvas ∧ w .power ∧ w .host ∧ w .glaze ∧ w .clients ∧
      w .evt ∧ w .conv ∧ w .loop ∧ w .store ∧ w .mirror ∧ w .legacy) :
    keep w (onBus a s) = keep w s := by
  simp [onBus, h]

@[simp ↓] theorem keep_releaseHeld (s : State)
    (h : w .mem ∧ w .params ∧ w .gesso ∧ w .safety ∧ w .time ∧ w .canvas ∧ w .power ∧ w .host ∧ w .glaze ∧ w .clients ∧
      w .evt ∧ w .conv ∧ w .loop ∧ w .store ∧ w .mirror ∧ w .legacy) :
    keep w (releaseHeld s) = keep w s := by
  unfold releaseHeld
  split <;> simp [h]

@[simp ↓] theorem keep_releaseWindow (s : State)
    (h : w .mem ∧ w .params ∧ w .gesso ∧ w .safety ∧ w .time ∧ w .canvas ∧ w .power ∧ w .host ∧ w .glaze ∧ w .clients ∧
      w .evt ∧ w .conv ∧ w .loop ∧ w .store ∧ w .mirror ∧ w .legacy) :
    keep w (releaseWindow s) = keep w s := by
  simp [releaseWindow, h]

/-! ### LongCmds -/

@[simp ↓] theorem keep_readPages (s : State) (h : w .host ∧ w .store) :
    keep w (readPages s) = keep w s := by
  simp [readPages, h]

@[simp ↓] theorem keep_giveRecords (l : List (Nat × List Word)) (s : State) (h : w .host) :
    keep w (giveRecords l s) = keep w s := by
  simp [giveRecords, h]

@[simp ↓] theorem keep_opProduce (s : State) (h : w .host ∧ w .store) :
    keep w (opProduce s) = keep w s := by
  unfold opProduce
  dsimp only
  (repeat' split) <;> simp [h]

@[simp ↓] theorem keep_askVerify (s : State) (h : w .canvas) :
    keep w (askVerify s) = keep w s := by
  simp [askVerify, h]

@[simp ↓] theorem keep_opBegin (s0 : State)
    (h : w .mem ∧ w .canvas ∧ w .host ∧ w .clients ∧ w .conv ∧ w .store ∧ w .mirror ∧ w .proof ∧ w .legacy) :
    keep w (opBegin s0) = keep w s0 := by
  unfold opBegin
  dsimp only
  (repeat' split) <;> simp [h]

@[simp ↓] theorem keep_endPages (bad : Bool) (s : State) (h : w .mem ∧ w .canvas ∧ w .host) :
    keep w (endPages bad s) = keep w s := by
  unfold endPages
  split <;> simp [h]

@[simp ↓] theorem keep_opFinish (bad : Bool) (s : State) (h : w .mem ∧ w .canvas ∧ w .host ∧ w .store) :
    keep w (opFinish bad s) = keep w s := by
  unfold opFinish
  split
  · rfl
  · split <;> simp [h]

/-! ### Mirror -/

@[simp ↓] theorem keep_mirrorCause (i : Nat) (on : Bool) (s : State) :
    keep w (mirrorCause i on s) = keep w s := by
  simp [mirrorCause]

@[simp ↓] theorem keep_closeFrame (f : Nat) (s : State) (h : w .mirror) :
    keep w (closeFrame f s) = keep w s := by
  simp [closeFrame, h]

@[simp ↓] theorem keep_recordIn (s : State) (h : w .mirror) :
    keep w (recordIn s) = keep w s := by
  simp [recordIn, h]

@[simp ↓] theorem keep_chunkIn (sector : Nat) (data : List Word) (s : State) (h : w .mem ∧ w .canvas ∧ w .store) :
    keep w (chunkIn sector data s) = keep w s := by
  simp [chunkIn, h]

@[simp ↓] theorem keep_forwardIn (x : Forward) (s : State)
    (h : w .mem ∧ w .pads ∧ w .safety ∧ w .canvas ∧ w .glaze ∧ w .bb ∧ w .clients ∧ w .conv ∧ w .loop ∧ w .drive ∧ w .store ∧
      w .mirror ∧ w .proof) :
    keep w (forwardIn x s) = keep w s := by
  unfold forwardIn
  split <;> simp [h]

@[simp ↓] theorem keep_alignPair (m : MirrorStatus) (s : State) (h : w .mirror) :
    keep w (alignPair m s) = keep w s := by
  simp [alignPair, h]

@[simp ↓] theorem keep_statusIn (m : MirrorStatus) (s : State) (h : w .mirror) :
    keep w (statusIn m s) = keep w s := by
  unfold statusIn
  dsimp only
  (repeat' split) <;> simp [h]

@[simp ↓] theorem keep_itemIn (x : StateItem) (s : State)
    (h : w .params ∧ w .pads ∧ w .safety ∧ w .time ∧ w .canvas ∧ w .bb ∧ w .clients ∧ w .conv ∧ w .loop ∧ w .drive ∧
      w .fans ∧ w .store ∧ w .proof) :
    keep w (itemIn x s) = keep w s := by
  unfold itemIn
  split <;> simp [h]

@[simp ↓] theorem keep_transferIn (s : State)
    (h : w .params ∧ w .pads ∧ w .safety ∧ w .time ∧ w .canvas ∧ w .bb ∧ w .clients ∧ w .conv ∧ w .loop ∧ w .drive ∧
      w .fans ∧ w .store ∧ w .mirror ∧ w .proof) :
    keep w (transferIn s) = keep w s := by
  unfold transferIn
  dsimp only
  refine (keep_zcTracks _ _).trans ((keep_foldl (fun st x => by simp [h]) _ _).trans ?_)
  exact (keep_zcTracks _ { s with clients := { s.clients with queue := [] }
                                  mirror := { s.mirror with xfer := false, xferState := [] } }).trans (by simp [h])

@[simp ↓] theorem keep_endReplay (s : State) (h : w .mirror) :
    keep w (endReplay s) = keep w s := by
  unfold endReplay
  split <;> simp [h]

@[simp ↓] theorem keep_noteSwitchover (b2 : Nat) (s : State) (h : w .mirror) :
    keep w (noteSwitchover b2 s) = keep w s := by
  simp [noteSwitchover, h]

@[simp ↓] theorem keep_becomeStandby (s : State) (h : w .bb ∧ w .drive ∧ w .fans ∧ w .mirror) :
    keep w (becomeStandby s) = keep w s := by
  simp [becomeStandby, h]

@[simp ↓] theorem keep_catchDrives (s : State) (h : w .drive) :
    keep w (catchDrives s) = keep w s := by
  refine keep_foldl (fun st m => ?_) _ _
  dsimp only
  split <;> simp [h]

@[simp ↓] theorem keep_newRun (s : State)
    (h : w .pads ∧ w .canvas ∧ w .host ∧ w .clients ∧ w .loop ∧ w .drive ∧ w .fans ∧ w .store) :
    keep w (newRun s) = keep w s := by
  simp [newRun, h]

/-! ### ProofCmds -/

@[simp ↓] theorem keep_judgeInjection (s : State) (x : Nat × Bool) (h : w .proof) :
    keep w (judgeInjection s x) = keep w s := by
  simp [judgeInjection, h]

@[simp ↓] theorem keep_judgeInjections (s : State) (h : w .proof) :
    keep w (judgeInjections s) = keep w s := by
  simp [judgeInjections, h]

@[simp ↓] theorem keep_feedFrame (t singles : Nat) (s : State)
    (h : w .gesso ∧ w .pads ∧ w .safety ∧ w .zc ∧ w .clients ∧ w .store ∧ w .proof) :
    keep w (feedFrame t singles s) = keep w s := by
  simp [feedFrame, h]

@[simp ↓] theorem keep_setNonAlarm (n : Nat) (on : Bool) (s : State) (h : w .pads) :
    keep w (setNonAlarm n on s) = keep w s := by
  simp [setNonAlarm, h]

@[simp ↓] theorem keep_relayPulse (s : State) (n : Nat) (h : w .pads) :
    keep w (relayPulse s n) = keep w s := by
  simp [relayPulse, h]

@[simp ↓] theorem keep_stepWork (k : Nat) (m : ProofMeas) (s : State) (h : w .pads ∧ w .host) :
    keep w (stepWork k m s) = keep w s := by
  unfold stepWork
  split <;> simp [h]

@[simp ↓] theorem keep_runEnds (s : State) (h : w .canvas ∧ w .host ∧ w .proof) :
    keep w (runEnds s) = keep w s := by
  simp [runEnds, h]

/-! ### Frame -/

@[simp ↓] theorem keep_tickOutputs (s : State) (h : w .pads ∧ w .host) :
    keep w (tickOutputs s) = keep w s := by
  simp [tickOutputs, h]

@[simp ↓] theorem keep_tickCeil (s : State) (h : w .power) :
    keep w (tickCeil s) = keep w s := by
  unfold tickCeil
  split <;> simp [h]

@[simp ↓] theorem keep_tickDctl (s : State) (h : w .mem ∧ w .host ∧ w .store) :
    keep w (tickDctl s) = keep w s := by
  unfold tickDctl
  split <;> simp [h]

@[simp ↓] theorem keep_tickTrackClr (s : State) (h : w .host ∧ w .clients ∧ w .store) :
    keep w (tickTrackClr s) = keep w s := by
  simp [tickTrackClr, h]

@[simp ↓] theorem keep_tickAck (s : State) (h : w .safety) :
    keep w (tickAck s) = keep w s := by
  unfold tickAck
  split <;> simp [h]

@[simp ↓] theorem keep_tickMirror (s : State) (h : w .mirror) :
    keep w (tickMirror s) = keep w s := by
  simp [tickMirror, h]

@[simp ↓] theorem keep_serveOne (lane user room : Nat) (s : State) (h : w .bb) :
    keep w (serveOne lane user room s) = keep w s := by
  unfold serveOne
  exact (keep_of_inner (inner_evtN _ _ _)).trans ((keep_work _ _ _ s).trans (by simp [h]))

@[simp ↓] theorem keep_serveLog (n : Nat) (s : State) :
    keep w (serveLog n s) = keep w s := keep_of_inner rfl

@[simp ↓] theorem keep_serveLane (s : State) (lane : Nat) (h : w .canvas ∧ w .bb) :
    keep w (serveLane s lane) = keep w s := by
  simp [serveLane, h]

@[simp ↓] theorem keep_tickReserve (s : State) (h : w .canvas ∧ w .host ∧ w .bb ∧ w .store) :
    keep w (tickReserve s) = keep w s := by
  simp [tickReserve, h]

@[simp ↓] theorem keep_issueAsks (s : State) (h : w .conv) :
    keep w (issueAsks s) = keep w s := by
  simp [issueAsks, h]

@[simp ↓] theorem keep_nextTick (s : State) (h : w .time) :
    keep w (nextTick s) = keep w s := by
  simp [nextTick, h]

@[simp ↓] theorem keep_feedbackJudged (s : State) (h : w .gesso) :
    keep w (feedbackJudged s) = keep w s := by
  simp [feedbackJudged, h]

@[simp ↓] theorem keep_gessoSnapshot (s : State) (h : w .gesso) :
    keep w (gessoSnapshot s) = keep w s := by
  simp [gessoSnapshot, h]

@[simp ↓] theorem keep_cmdNoted (old s : State) :
    keep w (cmdNoted old s) = keep w s := by
  unfold cmdNoted
  dsimp only
  (repeat' split) <;> simp

@[simp ↓] theorem keep_refreshPath (s : State) (h : w .pads) :
    keep w (refreshPath s) = keep w s := by
  simp [refreshPath, h]

@[simp ↓] theorem keep_snapCounters (s : State) (h : w .evt) :
    keep w (snapCounters s) = keep w s := by
  simp [snapCounters, h]

@[simp ↓] theorem keep_opPartial (s : State) (h : w .host) :
    keep w (opPartial s) = keep w s := by
  simp [opPartial, h]

@[simp ↓] theorem keep_opWork (units : Nat) (noise : List (Nat × List Word)) (s : State)
    (h : w .mem ∧ w .canvas ∧ w .host ∧ w .clients ∧ w .conv ∧ w .store ∧ w .proof) :
    keep w (opWork units noise s) = keep w s := by
  unfold opWork
  dsimp only
  (repeat' split) <;> simp [h]

@[simp ↓] theorem keep_opAbortEnd (s : State) (h : w .mem ∧ w .canvas ∧ w .host ∧ w .store ∧ w .proof) :
    keep w (opAbortEnd s) = keep w s := by
  simp [opAbortEnd, h]

@[simp ↓] theorem keep_opPause (s : State) (h : w .host) :
    keep w (opPause s) = keep w s := by
  simp [opPause, h]

@[simp ↓] theorem keep_frameHold (s : State) :
    keep w (frameHold s) = keep w s := by
  simp [frameHold]

@[simp ↓] theorem keep_frameDigest (s : State) (h : w .mirror) :
    keep w (frameDigest s) = keep w s := by
  simp [frameDigest, h]

@[simp ↓] theorem keep_settleCauses (s : State) :
    keep w (settleCauses s) = keep w s := by
  simp [settleCauses]

@[simp ↓] theorem keep_frameSignature (s : State) (h : w .safety) :
    keep w (frameSignature s) = keep w s := by
  simp [frameSignature, h]

@[simp ↓] theorem keep_glazeLate (s : State) :
    keep w (glazeLate s) = keep w s := keep_foldl (fun _ _ => keep_logPush _ _ _) _ _

@[simp ↓] theorem keep_eolSweep (s : State) (h : w .clients ∧ w .store) :
    keep w (eolSweep s) = keep w s := by
  simp [eolSweep, h]

/-! ### GlazeCmds -/

@[simp ↓] theorem keep_probeEnd (ans reason : Nat) (s : State) (h : w .glaze) :
    keep w (probeEnd ans reason s) = keep w s := by
  simp [probeEnd, h]

/-! ### HostBus -/

@[simp ↓] theorem keep_endWake (s : State) (h : w .sys ∧ w .power) :
    keep w (endWake s) = keep w s := by
  simp [endWake, h]

/-! ### LegacyCmds -/

@[simp ↓] theorem keep_onLegacy (a : BusAcc) (s : State)
    (h : w .mem ∧ w .params ∧ w .gesso ∧ w .safety ∧ w .time ∧ w .canvas ∧ w .power ∧ w .host ∧ w .glaze ∧ w .clients ∧
      w .evt ∧ w .conv ∧ w .loop ∧ w .store ∧ w .mirror ∧ w .legacy) :
    keep w (onLegacy a s) = keep w s := by
  simp [onLegacy, h]

/-! ### Power -/

@[simp ↓] theorem keep_powerFail (s : State)
    (h : w .mem ∧ w .canvas ∧ w .power ∧ w .host ∧ w .glaze ∧ w .store ∧ w .proof ∧ w .legacy) :
    keep w (powerFail s) = keep w s := by
  simp [powerFail, h]

@[simp ↓] theorem keep_fallEnds (s : State) (h : w .gesso ∧ w .pads ∧ w .safety ∧ w .sys ∧ w .power ∧ w .host ∧ w .store) :
    keep w (fallEnds s) = keep w s := by
  simp [fallEnds, h]

@[simp ↓] theorem keep_storeResets (s : State) (h : w .power ∧ w .store) :
    keep w (storeResets s) = keep w s := by
  simp [storeResets, h]

end Sys2Proof.Machine
end

section
/-!
PROOFS. The frame of every command (95_what_each_step_holds.md): the parts its effect writes are the hypotheses, and `writes` lists
them.
-/

namespace Sys2Proof.Machine

variable {w : Part → Bool}

/-- The outcome of a command whose effect writes only what `w` names. -/
def Leaves (w : Part → Bool) (s : State) (r : Res) : Prop := ∃ u, r = finish s u ∧ keep w u = keep w s

theorem leaves_finish {s u : State} (h : keep w u = keep w s) : Leaves w s (finish s u) := ⟨u, rfl, h⟩

/-! ### Gesso -/

@[simp] theorem leaves_execGessoSentinelSample (n : Fin 16) (mv : Nat) (s : State) (h : w .gesso ∧ w .field) :
    Leaves w s (execGessoSentinelSample n mv s) := leaves_finish (by simp [h])

@[simp] theorem leaves_execGessoAlarmDwellExpiry (n : Fin 16) (s : State) (h : w .gesso ∧ w .proof) :
    Leaves w s (execGessoAlarmDwellExpiry n s) := leaves_finish (by simp [h])

@[simp] theorem leaves_execGessoTroubleDwellExpiry (n : Fin 16) (s : State) (h : w .gesso) :
    Leaves w s (execGessoTroubleDwellExpiry n s) := leaves_finish (by simp [h])

@[simp] theorem leaves_execGessoTroubleClear (n : Fin 16) (s : State) (h : w .gesso) :
    Leaves w s (execGessoTroubleClear n s) := leaves_finish (by simp [h])

@[simp] theorem leaves_execGessoArmed (s : State) (h : w .gesso ∧ w .field) :
    Leaves w s (execGessoArmed s) := leaves_finish (by simp [h])

@[simp] theorem leaves_execGessoZcDecodeLive (s : State) (h : w .gesso) :
    Leaves w s (execGessoZcDecodeLive s) := leaves_finish (by simp [h])

@[simp] theorem leaves_execGessoZcFrame (fe : Fin 3) (slot : Nat) (lv : List (Int × Int)) (s : State) (h : w .gesso ∧ w .proof) :
    Leaves w s (execGessoZcFrame fe slot lv s) := by
  refine leaves_finish ?_
  dsimp only
  (repeat' split) <;> simp [h]

@[simp] theorem leaves_execGessoFirstFrameExpiry (a : Fin 2048) (s : State) (h : w .gesso) :
    Leaves w s (execGessoFirstFrameExpiry a s) := by
  refine leaves_finish ?_
  split <;> simp [h]

@[simp] theorem leaves_execHeartbeatAnswer (err : Byte) (s : State) (h : w .gesso ∧ w .pads ∧ w .safety) :
    Leaves w s (execHeartbeatAnswer err s) := leaves_finish (by simp [h])

@[simp] theorem leaves_execScFaultLatch (s : State) (h : w .gesso ∧ w .pads) :
    Leaves w s (execScFaultLatch s) := leaves_finish (by simp [h])

@[simp] theorem leaves_execScFaultClear (s : State) (h : w .gesso ∧ w .pads) :
    Leaves w s (execScFaultClear s) := leaves_finish (by simp [h])

@[simp] theorem leaves_execScFirstAnswerTimeout (s : State) (h : w .gesso ∧ w .pads) :
    Leaves w s (execScFirstAnswerTimeout s) := by
  refine leaves_finish ?_
  split <;> simp [h]

@[simp] theorem leaves_execGessoSilence (mask : BitVec 19) (s : State) (h : w .gesso) :
    Leaves w s (execGessoSilence mask s) := leaves_finish (by simp [h])

@[simp] theorem leaves_execGessoReset (mask : BitVec 19) (s : State) (h : w .gesso) :
    Leaves w s (execGessoReset mask s) := leaves_finish (by simp [h])

@[simp] theorem leaves_execGessoChirp (k : Fin 4) (proof : Bool) (s : State) :
    Leaves w s (execGessoChirp k proof s) := leaves_finish (by simp)

@[simp] theorem leaves_execGessoRelatch (s : State) (h : w .gesso) :
    Leaves w s (execGessoRelatch s) := leaves_finish (by simp [h])

@[simp] theorem leaves_execGessoRelatchDone (s : State) (h : w .gesso ∧ w .safety) :
    Leaves w s (execGessoRelatchDone s) := by
  refine leaves_finish ?_
  (repeat' split) <;> simp [h]

@[simp] theorem leaves_execGessoRecordCrcCheck (mismatch : Bool) (s : State) (h : w .gesso) :
    Leaves w s (execGessoRecordCrcCheck mismatch s) := leaves_finish (by simp [h])

@[simp] theorem leaves_execGessoTroubleChirp (s : State) :
    Leaves w s (execGessoTroubleChirp s) := leaves_finish (by simp)

@[simp] theorem leaves_execDomainSelfCheckDone (d : Domain) (pass : Bool) (s : State) (h : w .safety ∧ w .sys ∧ w .mirror) :
    Leaves w s (execDomainSelfCheckDone d pass s) := leaves_finish (by simp [h])

/-! ### TimeBase -/

@[simp] theorem leaves_execX40Restart (cycles : Nat) (s : State) (h : w .time) :
    Leaves w s (execX40Restart cycles s) := leaves_finish (by simp [h])

@[simp] theorem leaves_execX32Stop (s : State) (h : w .gesso ∧ w .time) :
    Leaves w s (execX32Stop s) := leaves_finish (by simp [h])

@[simp] theorem leaves_execX32RunResume (s : State) (h : w .time) :
    Leaves w s (execX32RunResume s) := leaves_finish (by simp [h])

@[simp] theorem leaves_execX32OkReturn (s : State) (h : w .gesso ∧ w .time) :
    Leaves w s (execX32OkReturn s) := by
  refine leaves_finish ?_
  split <;> simp [h]

@[simp] theorem leaves_execDisciplineCount (n : Nat) (s : State) (h : w .time) :
    Leaves w s (execDisciplineCount n s) := by
  refine leaves_finish ?_
  split <;> simp [h]

@[simp] theorem leaves_execCalendarSecond (cycles : Nat) (s : State) (h : w .time ∧ w .clients ∧ w .store ∧ w .proof) :
    Leaves w s (execCalendarSecond cycles s) := by
  refine leaves_finish ?_
  dsimp only
  (repeat' split) <;> simp [h]

@[simp] theorem leaves_execToothCandidate (t : Fin 3) (at_ : Nat) (s : State) (h : w .time) :
    Leaves w s (execToothCandidate t at_ s) := leaves_finish (by simp [h])

@[simp] theorem leaves_execComparatorEdge (t : Fin 3) (level : Bool) (at_ : Nat) (s : State) (h : w .time) :
    Leaves w s (execComparatorEdge t level at_ s) := by
  refine leaves_finish ?_
  dsimp only
  (repeat' split) <;> simp [h]

@[simp] theorem leaves_execToothSynthesis (t : Fin 3) (rising : Bool) (at_ : Nat) (s : State) (h : w .gesso ∧ w .time) :
    Leaves w s (execToothSynthesis t rising at_ s) := leaves_finish (by simp [h])

/-! ### ZcLine -/

@[simp] theorem leaves_execNoiseFloorMeasure (t : Fin 3) (core gesso : Nat) (s : State) (h : w .gesso) :
    Leaves w s (execNoiseFloorMeasure t core gesso s) := leaves_finish (by simp [h])

@[simp] theorem leaves_execZcFrameReceived (t : Fin 3) (slot : Nat) (lv : List TeethLevels) (s : State)
    (h : w .pads ∧ w .safety ∧ w .zc ∧ w .clients ∧ w .store ∧ w .proof) :
    Leaves w s (execZcFrameReceived t slot lv s) := leaves_finish (by simp [h])

@[simp] theorem leaves_execZcSlotCombine (t : Fin 3) (slot : Nat) (s : State)
    (h : w .pads ∧ w .safety ∧ w .zc ∧ w .clients ∧ w .store ∧ w .proof) :
    Leaves w s (execZcSlotCombine t slot s) := by
  refine leaves_finish ?_
  (repeat' split) <;> simp [h]

@[simp] theorem leaves_execToothAnchoredEvent (t : Fin 3) (h0 : Fin 64) (lv : List (Int × Int)) (backE backL : Int) (s : State)
    (h : w .time) :
    Leaves w s (execToothAnchoredEvent t h0 lv backE backL s) := by
  refine leaves_finish ?_
  split <;> simp [h]

@[simp] theorem leaves_execHubFrameAged (t : Fin 3) (s : State) :
    Leaves w s (execHubFrameAged t s) := leaves_finish (by simp)

@[simp] theorem leaves_execZcTxRetry (t : Fin 3) (backE backL : Int) (s : State) (h : w .time) :
    Leaves w s (execZcTxRetry t backE backL s) := by
  refine leaves_finish ?_
  split <;> simp [h]

/-! ### Broadband -/

@[simp] theorem leaves_execMaskChange (s : State) (h : w .bb ∧ w .clients) :
    Leaves w s (execMaskChange s) := leaves_finish (by simp [h])

@[simp] theorem leaves_execRouteUpdateEffect (s : State) (h : w .bb ∧ w .clients ∧ w .store) :
    Leaves w s (execRouteUpdateEffect s) := leaves_finish (by simp [h])

@[simp] theorem leaves_execRepeaterWithdrawn (id : Fin 2048) (s : State) (h : w .bb ∧ w .clients ∧ w .store) :
    Leaves w s (execRepeaterWithdrawn id s) := leaves_finish (by simp [h])

@[simp] theorem leaves_execBeaconBoundary (back : List Int) (silentRpt : List Nat) (s : State)
    (h : w .glaze ∧ w .bb ∧ w .clients ∧ w .store ∧ w .mirror) :
    Leaves w s (execBeaconBoundary back silentRpt s) := leaves_finish (by simp [h])

@[simp] theorem leaves_execBbTxRetry (t : Fin 3) (back : Int) (s : State) (h : w .bb) :
    Leaves w s (execBbTxRetry t back s) := leaves_finish (by simp [h])

@[simp] theorem leaves_execBbNoisy (t : Fin 3) (level : Byte) (s : State) (h : w .bb) :
    Leaves w s (execBbNoisy t level s) := leaves_finish (by simp [h])

@[simp] theorem leaves_execBbFrameReceived (win p : Nat) (d : Int) (ok : Bool) (bytes : List Byte) (est : List (List Nat)) (lqDn : Byte) (s : State)
    (h : w .pads ∧ w .safety ∧ w .glaze ∧ w .bb ∧ w .clients ∧ w .store ∧ w .proof) :
    Leaves w s (execBbFrameReceived win p d ok bytes est lqDn s) := by
  refine leaves_finish ?_
  generalize classOf (rByte bytes 6) = cls
  refine keep_branch rfl (keep_branch ?_ (keep_branch rfl (keep_branch ?_ (keep_branch ?_ ?_))))
  · cases cls <;> simp [h]
  · simp [h]
  · dsimp only
    split <;> simp [h]
  · generalize senderOf s _ bytes = sender
    cases sender <;> cases cls <;> simp [h]

/-! ### Safety -/

@[simp] theorem leaves_execLockstepMismatch (fault : CoreFault) (s : State) (h : w .pads ∧ w .safety) :
    Leaves w s (execLockstepMismatch fault s) := by
  refine leaves_finish ?_
  dsimp only
  (repeat' split) <;> simp [h]

@[simp] theorem leaves_execSafetyCoreRestartDone (setOk : Bool) (s : State) (h : w .gesso ∧ w .safety ∧ w .conv) :
    Leaves w s (execSafetyCoreRestartDone setOk s) := leaves_finish (by simp [h])

@[simp] theorem leaves_execSafeRecordReload (s : State) (h : w .pads ∧ w .safety) :
    Leaves w s (execSafeRecordReload s) := leaves_finish (by simp [h])

@[simp] theorem leaves_execRegionACheck (s : State) (h : w .safety) :
    Leaves w s (execRegionACheck s) := leaves_finish (by simp [h])

@[simp] theorem leaves_execMonitorSample (n : Fin 16) (mv : Nat) (s : State) (h : w .safety) :
    Leaves w s (execMonitorSample n mv s) := leaves_finish (by simp [h])

@[simp] theorem leaves_execScSentinelAlarmLatch (n : Fin 16) (s : State) (h : w .pads ∧ w .safety ∧ w .proof) :
    Leaves w s (execScSentinelAlarmLatch n s) := leaves_finish (by simp [h])

@[simp] theorem leaves_execSnapshotCompare (s : State) (h : w .safety) :
    Leaves w s (execSnapshotCompare s) := leaves_finish (by simp [h])

@[simp] theorem leaves_execCriterionDwellExpiry (j : Fin 256) (s : State) (h : w .pads ∧ w .safety ∧ w .conv ∧ w .proof) :
    Leaves w s (execCriterionDwellExpiry j s) := by
  refine leaves_finish ?_
  (repeat' split) <;> simp [h]

@[simp] theorem leaves_execArbTimeout (j : Fin 256) (s : State) (h : w .pads ∧ w .safety ∧ w .proof) :
    Leaves w s (execArbTimeout j s) := by
  refine leaves_finish ?_
  dsimp only
  split <;> simp [h]

@[simp] theorem leaves_execSafetyTroubleChirp (s : State) :
    Leaves w s (execSafetyTroubleChirp s) := by
  refine leaves_finish ?_
  split <;> split <;> simp

@[simp] theorem leaves_execAckSilence (s : State) (h : w .gesso ∧ w .pads ∧ w .safety ∧ w .mirror) :
    Leaves w s (execAckSilence s) := by
  refine leaves_finish ?_
  split <;> simp [h]

@[simp] theorem leaves_execAckReset (s : State) (h : w .gesso ∧ w .pads ∧ w .safety ∧ w .mirror) :
    Leaves w s (execAckReset s) := by
  refine leaves_finish ?_
  split <;> simp [h]

@[simp] theorem leaves_execAckTroubleAck (s : State) (h : w .safety ∧ w .mirror) :
    Leaves w s (execAckTroubleAck s) := by
  refine leaves_finish ?_
  split <;> simp [h]

/-! ### Converters -/

@[simp] theorem leaves_execConvResultDelivery (m : Fin 16) (v : Int) (ref : Nat) (ovl : Option Bool) (s : State)
    (h : w .pads ∧ w .safety ∧ w .conv ∧ w .store ∧ w .proof) :
    Leaves w s (execConvResultDelivery m v ref ovl s) := by
  refine leaves_finish ?_
  split <;> simp [h]

@[simp] theorem leaves_execConversionBegin (m : Fin 16) (s : State) (h : w .conv) :
    Leaves w s (execConversionBegin m s) := by
  refine leaves_finish ?_
  dsimp only
  (repeat' split) <;> simp [h]

@[simp] theorem leaves_execReferenceCheck (m : Fin 16) (good : Bool) (s : State) (h : w .conv) :
    Leaves w s (execReferenceCheck m good s) := leaves_finish (by simp [h])

@[simp] theorem leaves_execOpenwireTestResult (m : Fin 16) (v : Int) (ref : Nat) (ovl : Option Bool) (s : State) (h : w .conv) :
    Leaves w s (execOpenwireTestResult m v ref ovl s) := by
  refine leaves_finish ?_
  split <;> simp [h]

@[simp] theorem leaves_execStreamRestart (m : Fin 16) (s : State) (h : w .conv) :
    Leaves w s (execStreamRestart m s) := by
  refine leaves_finish ?_
  split <;> simp [h]

@[simp] theorem leaves_execArbiterResampleBegin (s : State) (h : w .conv) :
    Leaves w s (execArbiterResampleBegin s) := by
  refine leaves_finish ?_
  split <;> simp [h]

@[simp] theorem leaves_execArbiterResult (v : Int) (ref : Nat) (ovl : Option Bool) (s : State)
    (h : w .pads ∧ w .safety ∧ w .conv ∧ w .proof) :
    Leaves w s (execArbiterResult v ref ovl s) := by
  refine leaves_finish ?_
  dsimp only
  (repeat' split) <;> simp [h]

/-! ### LoopEngine -/

@[simp] theorem leaves_execPentWaitClear (i : Fin 32) (s : State) (h : w .loop) :
    Leaves w s (execPentWaitClear i s) := leaves_finish (by simp [h])

/-! ### Fans -/

@[simp] theorem leaves_execFanPwm (i : Nat) (s : State) (h : w .fans) :
    Leaves w s (execFanPwm i s) := leaves_finish (by simp [h])

@[simp] theorem leaves_execTach (i : Nat) (s : State) (h : w .canvas) :
    Leaves w s (execTach i s) := leaves_finish (by simp [h])

@[simp] theorem leaves_execFanSup (i : Nat) (s : State) (h : w .canvas ∧ w .fans) :
    Leaves w s (execFanSup i s) := by
  refine leaves_finish (keep_runStroke _ _ _ fun k => ?_)
  dsimp only
  split
  · rfl
  · have decided (u : State) (f m : Nat) (b : Bool) : keep w (boundStep f m b u) = keep w u := by simp [h]
    split
    · simp [h]
    · split
      · simp [h]
      · split
        · simp [h]
        · cases fanMotor s k.e.target <;> simp [h]

@[simp] theorem leaves_execTachEdge (f : Fin 48) (s : State) (h : w .fans) :
    Leaves w s (execTachEdge f s) := leaves_finish (by simp [h])

@[simp] theorem leaves_execFanStartTimeout (f : Fin 48) (s : State) (h : w .fans) :
    Leaves w s (execFanStartTimeout f s) := leaves_finish (by simp [h])

@[simp] theorem leaves_execFanStallTimeout (f : Fin 48) (s : State) (h : w .fans) :
    Leaves w s (execFanStallTimeout f s) := leaves_finish (by simp [h])

@[simp] theorem leaves_execTachLineTestPhase (f : Fin 48) (mv : Nat) (s : State) (h : w .time ∧ w .fans) :
    Leaves w s (execTachLineTestPhase f mv s) := by
  refine leaves_finish ?_
  dsimp only
  split <;> simp [h]

@[simp] theorem leaves_execFanWaitEnd (f : Fin 48) (s : State) (h : w .fans) :
    Leaves w s (execFanWaitEnd f s) := leaves_finish (by simp [h])

@[simp] theorem leaves_execFanAttemptReset (f : Fin 48) (s : State) (h : w .fans) :
    Leaves w s (execFanAttemptReset f s) := leaves_finish (by simp [h])

@[simp] theorem leaves_execFanBlockedExit (f : Fin 48) (s : State) (h : w .fans) :
    Leaves w s (execFanBlockedExit f s) := leaves_finish (by simp [h])

@[simp] theorem leaves_execAlarmPatternInterval (s : State) (h : w .time) :
    Leaves w s (execAlarmPatternInterval s) := by
  refine leaves_finish ?_
  split
  · dsimp only
    split
    · split <;> simp [h]
    · rfl
  · rfl

@[simp] theorem leaves_execChirpEnd (k : Fin 4) (s : State) (h : w .time) :
    Leaves w s (execChirpEnd k s) := by
  refine leaves_finish ?_
  dsimp only
  split <;> simp [h]

@[simp] theorem leaves_execProofChirpMeasure (k : Fin 4) (ua : Nat) (s : State) (h : w .time) :
    Leaves w s (execProofChirpMeasure k ua s) := by
  refine leaves_finish ?_
  dsimp only
  split <;> simp [h]

@[simp] theorem leaves_execLoadFlagSet (n : Fin 36) (flag : Fin 4) (i : Byte) (s : State) :
    Leaves w s (execLoadFlagSet n flag i s) := leaves_finish (by simp)

@[simp] theorem leaves_execLoadFlagClear (n : Fin 36) (flag : Fin 4) (i : Byte) (s : State) :
    Leaves w s (execLoadFlagClear n flag i s) := leaves_finish (by simp)

/-! ### LineStrokes -/

@[simp] theorem leaves_execBbBeacon (i : Nat) (s : State) (h : w .bb) :
    Leaves w s (execBbBeacon i s) := leaves_finish (by simp [h])

@[simp] theorem leaves_execBbSlot (i : Nat) (s : State) (h : w .bb) :
    Leaves w s (execBbSlot i s) := leaves_finish (by simp [h])

@[simp] theorem leaves_execBbRx (i : Nat) (s : State) (h : w .clients ∧ w .store) :
    Leaves w s (execBbRx i s) := by
  refine leaves_finish (keep_runStroke _ _ _ fun k => ?_)
  dsimp only
  split <;> simp [h]

@[simp] theorem leaves_execBbTx (i : Nat) (s : State) (h : w .bb) :
    Leaves w s (execBbTx i s) := leaves_finish (by simp [h])

@[simp] theorem leaves_execZcTx (i : Nat) (s : State) (h : w .glaze ∧ w .bb ∧ w .clients ∧ w .store) :
    Leaves w s (execZcTx i s) := by
  refine leaves_finish (keep_runStroke _ _ _ fun k => ?_)
  dsimp only
  split <;> simp [h]

@[simp] theorem leaves_execZcRx (i : Nat) (s : State) (h : w .clients ∧ w .store) :
    Leaves w s (execZcRx i s) := by
  refine leaves_finish (keep_runStroke _ _ _ fun k => ?_)
  dsimp only
  split
  · rfl
  · refine (keep_foldl (fun st f => ?_) _ _).trans (keep_setZc _ _ _)
    exact (keep_eolCheck _ _ h).trans (keep_foldl (fun u x => by simp [h]) _ _)

/-! ### LoopStrokes -/

@[simp] theorem leaves_execCmp2 (i done : Nat) (s : State) (h : w .canvas ∧ w .loop) :
    Leaves w s (execCmp2 i done s) := leaves_finish (by simp [h])

@[simp] theorem leaves_execCmp3 (i done : Nat) (s : State) (h : w .canvas ∧ w .loop) :
    Leaves w s (execCmp3 i done s) := leaves_finish (by simp [h])

@[simp] theorem leaves_execProf (i : Nat) (s : State) (h : w .canvas ∧ w .loop) :
    Leaves w s (execProf i s) := leaves_finish (by simp [h])

@[simp] theorem leaves_execPent (i : Nat) (s : State) (h : w .canvas ∧ w .loop) :
    Leaves w s (execPent i s) := leaves_finish (by simp [h])

@[simp] theorem leaves_execDelay1Output (n : Fin 512) (s : State) (h : w .canvas ∧ w .loop) :
    Leaves w s (execDelay1Output n s) := by
  refine leaves_finish ?_
  split <;> simp [h]

/-! ### Field -/

@[simp] theorem leaves_execRingScan (scan : List (Nat × BallScan)) (vana vf : Nat) (tj : Half) (s : State) (h : w .field) :
    Leaves w s (execRingScan scan vana vf tj s) := leaves_finish (by simp [h])

@[simp] theorem leaves_execBallStateSet (b : Fin 444) (c : Fin 8) (s : State) (h : w .field) :
    Leaves w s (execBallStateSet b c s) := leaves_finish (by simp [h])

@[simp] theorem leaves_execBallStateClear (b : Fin 444) (c : Fin 8) (s : State) (h : w .field) :
    Leaves w s (execBallStateClear b c s) := leaves_finish (by simp [h])

@[simp] theorem leaves_execReverseProbe (n : Fin 16) (mv : Nat) (s : State) (h : w .field) :
    Leaves w s (execReverseProbe n mv s) := leaves_finish (by simp [h])

/-! ### CanvasCmds -/

@[simp] theorem leaves_execEmergencySetChange (s : State)
    (h : w .pads ∧ w .canvas ∧ w .host ∧ w .clients ∧ w .loop ∧ w .drive ∧ w .fans ∧ w .store) :
    Leaves w s (execEmergencySetChange s) := leaves_finish (by simp [h])

@[simp] theorem leaves_execComfortSetReturn (s : State) (h : w .pads ∧ w .canvas ∧ w .host ∧ w .loop ∧ w .drive ∧ w .fans) :
    Leaves w s (execComfortSetReturn s) := leaves_finish (by simp [h])

@[simp] theorem leaves_execCanvasRunInEnd (s : State)
    (h : w .pads ∧ w .canvas ∧ w .host ∧ w .clients ∧ w .loop ∧ w .drive ∧ w .fans ∧ w .store) :
    Leaves w s (execCanvasRunInEnd s) := leaves_finish (by simp [h])

@[simp] theorem leaves_execCanvasStart (s : State) (h : w .canvas ∧ w .power ∧ w .loop) :
    Leaves w s (execCanvasStart s) := leaves_finish (by simp [h])

@[simp] theorem leaves_execVerificationDone (s : State) (h : w .canvas) :
    Leaves w s (execVerificationDone s) := leaves_finish (by simp [h])

@[simp] theorem leaves_execCanvasSwap (s : State)
    (h : w .pads ∧ w .canvas ∧ w .host ∧ w .clients ∧ w .loop ∧ w .drive ∧ w .fans ∧ w .store) :
    Leaves w s (execCanvasSwap s) := leaves_finish (by simp [h])

@[simp] theorem leaves_execStrokeOverrun (i : Nat) (s : State) (h : w .canvas ∧ w .loop ∧ w .mirror) :
    Leaves w s (execStrokeOverrun i s) := by
  refine leaves_finish ?_
  split <;> simp [h]

@[simp] theorem leaves_execLaneFault (lane : Fin 8) (s : State)
    (h : w .pads ∧ w .safety ∧ w .canvas ∧ w .host ∧ w .bb ∧ w .conv ∧ w .drive ∧ w .fans ∧ w .mirror ∧ w .proof) :
    Leaves w s (execLaneFault lane s) := leaves_finish (by simp [h])

/-! ### Clients -/

@[simp] theorem leaves_execAdmissionPhaseEnd (s : State) (h : w .clients) :
    Leaves w s (execAdmissionPhaseEnd s) := leaves_finish (by simp [h])

@[simp] theorem leaves_execClientDrop (id : Fin 2048) (s : State) (h : w .glaze ∧ w .bb ∧ w .clients ∧ w .store) :
    Leaves w s (execClientDrop id s) := leaves_finish (by simp [h])

@[simp] theorem leaves_execAdmitForget (s : State) (h : w .glaze ∧ w .bb ∧ w .clients ∧ w .store) :
    Leaves w s (execAdmitForget s) := by
  refine leaves_finish ?_
  split <;> simp [h]

@[simp] theorem leaves_execClientRecordUpdate (s : State) (h : w .clients ∧ w .store) :
    Leaves w s (execClientRecordUpdate s) := by
  refine leaves_finish ?_
  split <;> simp [h]

@[simp] theorem leaves_execCommandAged (s : State) (h : w .clients ∧ w .store) :
    Leaves w s (execCommandAged s) := leaves_finish (by simp [h])

@[simp] theorem leaves_execSupervLost (id : Fin 2048) (s : State) (h : w .clients ∧ w .store) :
    Leaves w s (execSupervLost id s) := leaves_finish (by simp [h])

/-! ### ConvStrokes -/

@[simp] theorem leaves_execConvStart (i : Nat) (s : State) (h : w .conv) :
    Leaves w s (execConvStart i s) := leaves_finish (by simp [h])

@[simp] theorem leaves_execConvRead (i : Nat) (s : State) (h : w .canvas ∧ w .conv) :
    Leaves w s (execConvRead i s) := by
  refine leaves_finish (keep_runStroke _ _ _ fun k => ?_)
  dsimp only
  split
  · rfl
  · split <;> simp [h]

@[simp] theorem leaves_execConvArb (i : Nat) (s : State) (h : w .conv) :
    Leaves w s (execConvArb i s) := leaves_finish (by simp [h])

@[simp] theorem leaves_execOpenwire (i : Nat) (s : State) (h : w .conv) :
    Leaves w s (execOpenwire i s) := leaves_finish (by simp [h])

/-! ### CoreStrokes -/

@[simp] theorem leaves_execCopy (i : Nat) (s : State) (h : w .canvas) :
    Leaves w s (execCopy i s) := leaves_finish (by simp [h])

@[simp] theorem leaves_execScale (i : Nat) (s : State) (h : w .canvas) :
    Leaves w s (execScale i s) := leaves_finish (by simp [h])

@[simp] theorem leaves_execLimit (i : Nat) (s : State) (h : w .canvas) :
    Leaves w s (execLimit i s) := leaves_finish (by simp [h])

@[simp] theorem leaves_execCompare (i : Nat) (s : State) (h : w .canvas) :
    Leaves w s (execCompare i s) := leaves_finish (by simp [h])

@[simp] theorem leaves_execLogic (i : Nat) (s : State) (h : w .canvas) :
    Leaves w s (execLogic i s) := leaves_finish (by simp [h])

@[simp] theorem leaves_execTimer (i : Nat) (s : State) (h : w .canvas) :
    Leaves w s (execTimer i s) := leaves_finish (by simp [h])

@[simp] theorem leaves_execLowpass (i : Nat) (s : State) (h : w .canvas) :
    Leaves w s (execLowpass i s) := leaves_finish (by simp [h])

@[simp] theorem leaves_execMedian (i : Nat) (s : State) (h : w .canvas) :
    Leaves w s (execMedian i s) := by
  refine leaves_finish (keep_runStroke _ _ _ fun k => ?_)
  dsimp only
  split <;> simp [h]

@[simp] theorem leaves_execTable8 (i : Nat) (s : State) (h : w .canvas) :
    Leaves w s (execTable8 i s) := leaves_finish (by simp [h])

@[simp] theorem leaves_execSched (i : Nat) (s : State) (h : w .canvas) :
    Leaves w s (execSched i s) := by
  refine leaves_finish (keep_runStroke _ _ _ fun k => ?_)
  dsimp only
  split <;> simp [h]

@[simp] theorem leaves_execClientIn (i : Nat) (s : State) (h : w .canvas) :
    Leaves w s (execClientIn i s) := by
  refine leaves_finish (keep_runStroke _ _ _ fun k => ?_)
  simp [h]

@[simp] theorem leaves_execClientOut (i : Nat) (s : State) (h : w .clients ∧ w .store) :
    Leaves w s (execClientOut i s) := leaves_finish (by simp [h])

@[simp] theorem leaves_execRelay (i : Nat) (s : State) (h : w .pads) :
    Leaves w s (execRelay i s) := leaves_finish (by simp [h])

@[simp] theorem leaves_execHostpub (i : Nat) (s : State) (h : w .host) :
    Leaves w s (execHostpub i s) := leaves_finish (by simp [h])

@[simp] theorem leaves_execLog (i : Nat) (s : State) :
    Leaves w s (execLog i s) := leaves_finish (by simp)

/-! ### Drive -/

@[simp] theorem leaves_execPwm (i : Nat) (s : State) (h : w .drive) :
    Leaves w s (execPwm i s) := leaves_finish (by simp [h])

@[simp] theorem leaves_execSixstep (i : Nat) (s : State) (h : w .drive) :
    Leaves w s (execSixstep i s) := leaves_finish (by simp [h])

@[simp] theorem leaves_execDtc (i : Nat) (s : State) (h : w .canvas ∧ w .drive) :
    Leaves w s (execDtc i s) := leaves_finish (by simp [h])

@[simp] theorem leaves_execShunt (i : Nat) (s : State) (h : w .canvas) :
    Leaves w s (execShunt i s) := by
  refine leaves_finish (keep_runStroke _ _ _ fun k => ?_)
  dsimp only
  split
  · rfl
  · split <;> simp [h]

@[simp] theorem leaves_execCmdin (i mv high period : Nat) (edges level : Bool) (s : State) (h : w .canvas ∧ w .drive) :
    Leaves w s (execCmdin i mv high period edges level s) := by
  refine leaves_finish (keep_runStroke _ _ _ fun k => ?_)
  extract_lets m d src c0 s1 cls c1
  have h1 : keep w s1 = keep w s := by simp [s1, h]
  split
  · rfl
  · split
    · simp [h, h1]
    · split <;> simp [h, h1]

@[simp] theorem leaves_execCmdinStaticTimeout (m : Fin 24) (level : Bool) (s : State) (h : w .drive) :
    Leaves w s (execCmdinStaticTimeout m level s) := leaves_finish (by simp [h])

@[simp] theorem leaves_execCmdinAutoDetect (m : Fin 24) (period : Nat) (s : State) (h : w .drive) :
    Leaves w s (execCmdinAutoDetect m period s) := by
  refine leaves_finish ?_
  dsimp only
  (repeat' split) <;> simp [h]

@[simp] theorem leaves_execDrvSup (i : Nat) (s : State) (h : w .canvas ∧ w .drive) :
    Leaves w s (execDrvSup i s) := leaves_finish (by simp [h])

@[simp] theorem leaves_execPwmPeriodBoundary (m : Fin 24) (k : Nat) (u v w0 : Int) (s : State) (h : w .time ∧ w .drive) :
    Leaves w s (execPwmPeriodBoundary m k u v w0 s) := leaves_finish (by simp [h])

@[simp] theorem leaves_execBemfSample (m : Fin 24) (k : Nat) (lv : BitVec 3) (s : State) (h : w .time ∧ w .drive) :
    Leaves w s (execBemfSample m k lv s) := by
  refine leaves_finish ?_
  dsimp only
  (repeat' split) <;> simp [h]

@[simp] theorem leaves_execCommutation (m : Fin 24) (s : State) (h : w .time ∧ w .drive) :
    Leaves w s (execCommutation m s) := by
  refine leaves_finish ?_
  dsimp only
  split <;> simp [h]

@[simp] theorem leaves_execBlindCommutation (m : Fin 24) (s : State) (h : w .time ∧ w .drive) :
    Leaves w s (execBlindCommutation m s) := leaves_finish (by simp [h])

@[simp] theorem leaves_execHallEdge (m : Fin 24) (code : BitVec 3) (hold : Nat) (s : State) (h : w .drive) :
    Leaves w s (execHallEdge m code hold s) := by
  refine leaves_finish ?_
  dsimp only
  (repeat' split) <;> simp [h]

@[simp] theorem leaves_execNdfltAssert (m : Fin 24) (s : State) (h : w .drive) :
    Leaves w s (execNdfltAssert m s) := leaves_finish (by simp [h])

@[simp] theorem leaves_execSpeedTimeout (m : Fin 24) (s : State) (h : w .drive) :
    Leaves w s (execSpeedTimeout m s) := leaves_finish (by simp [h])

@[simp] theorem leaves_execCatchEnd (m : Fin 24) (s : State) (h : w .drive) :
    Leaves w s (execCatchEnd m s) := by
  refine leaves_finish ?_
  dsimp only
  (repeat' split) <;> simp [h]

@[simp] theorem leaves_execBrakeExit (m : Fin 24) (s : State) (h : w .drive) :
    Leaves w s (execBrakeExit m s) := leaves_finish (by simp [h])

@[simp] theorem leaves_execBrakeTimeout (m : Fin 24) (s : State) (h : w .drive) :
    Leaves w s (execBrakeTimeout m s) := leaves_finish (by simp [h])

@[simp] theorem leaves_execAlignEnd (m : Fin 24) (s : State) (h : w .drive) :
    Leaves w s (execAlignEnd m s) := leaves_finish (by simp [h])

@[simp] theorem leaves_execRampHandover (m : Fin 24) (s : State) (h : w .drive) :
    Leaves w s (execRampHandover m s) := leaves_finish (by simp [h])

@[simp] theorem leaves_execRampTimeout (m : Fin 24) (s : State) (h : w .drive) :
    Leaves w s (execRampTimeout m s) := leaves_finish (by simp [h])

@[simp] theorem leaves_execKickPulseEnd (m : Fin 24) (s : State) (h : w .drive) :
    Leaves w s (execKickPulseEnd m s) := leaves_finish (by simp [h])

@[simp] theorem leaves_execKickListenEnd (m : Fin 24) (s : State) (h : w .drive) :
    Leaves w s (execKickListenEnd m s) := leaves_finish (by simp [h])

@[simp] theorem leaves_execPauseEnd (m : Fin 24) (s : State) (h : w .drive) :
    Leaves w s (execPauseEnd m s) := leaves_finish (by simp [h])

@[simp] theorem leaves_execRetryReset (m : Fin 24) (s : State) (h : w .drive) :
    Leaves w s (execRetryReset m s) := leaves_finish (by simp [h])

@[simp] theorem leaves_execHeldExit (m : Fin 24) (nDflt : Bool) (s : State) (h : w .drive) :
    Leaves w s (execHeldExit m nDflt s) := leaves_finish (by simp [h])

/-! ### KeyOps -/

@[simp] theorem leaves_execKeyCheck (s : State) (h : w .host) :
    Leaves w s (execKeyCheck s) := by
  refine leaves_finish ?_
  split <;> simp [h]

@[simp] theorem leaves_execKeyExpiry (k : Fin 16) (s : State) (h : w .host) :
    Leaves w s (execKeyExpiry k s) := by
  refine leaves_finish ?_
  split <;> simp [h]

@[simp] theorem leaves_execKeyLockExpiry (k : Fin 16) (s : State) (h : w .host) :
    Leaves w s (execKeyLockExpiry k s) := leaves_finish (by simp [h])

/-! ### Store -/

@[simp] theorem leaves_execStCnt (i : Nat) (s : State) (h : w .store) :
    Leaves w s (execStCnt i s) := leaves_finish (by simp [h])

@[simp] theorem leaves_execStLogq (i : Nat) (s : State) (h : w .mem ∧ w .store) :
    Leaves w s (execStLogq i s) := leaves_finish (by simp [h])

@[simp] theorem leaves_execCntClr (s : State) (h : w .params ∧ w .host ∧ w .store) :
    Leaves w s (execCntClr s) := leaves_finish (by simp [h])

@[simp] theorem leaves_execShadowWriteback (s : State) (h : w .mem ∧ w .store) :
    Leaves w s (execShadowWriteback s) := by
  refine leaves_finish ?_
  (repeat' split) <;> simp [h]

@[simp] theorem leaves_execCheckpoint (s : State) (h : w .mem ∧ w .store) :
    Leaves w s (execCheckpoint s) := leaves_finish (by simp [h])

@[simp] theorem leaves_execDumpConsumed (s : State) (h : w .mem ∧ w .store) :
    Leaves w s (execDumpConsumed s) := by
  refine leaves_finish ?_
  split <;> simp [h]

@[simp] theorem leaves_execRefreshScanStart (found : List (Nat × Fin 3)) (s : State) (h : w .mem ∧ w .store) :
    Leaves w s (execRefreshScanStart found s) := leaves_finish (by simp [h])

@[simp] theorem leaves_execSectorRefresh (sec : Fin 128) (s : State) (h : w .mem ∧ w .store) :
    Leaves w s (execSectorRefresh sec s) := leaves_finish (by simp [h])

@[simp] theorem leaves_execRefreshScanDone (s : State) (h : w .store) :
    Leaves w s (execRefreshScanDone s) := leaves_finish (by simp [h])

@[simp] theorem leaves_execStoreRestartRebuild (found : List (Nat × Fin 3)) (s : State)
    (h : w .mem ∧ w .params ∧ w .glaze ∧ w .clients ∧ w .conv ∧ w .store ∧ w .mirror) :
    Leaves w s (execStoreRestartRebuild found s) := leaves_finish (by simp [h])

@[simp] theorem leaves_execTornSectorRepair (sec : Fin 128) (s : State) (h : w .mem ∧ w .store) :
    Leaves w s (execTornSectorRepair sec s) := leaves_finish (by simp [h])

/-! ### ParamWrite -/

@[simp] theorem leaves_execImmediateParamApply (s : State)
    (h : w .params ∧ w .gesso ∧ w .time ∧ w .canvas ∧ w .power ∧ w .host ∧ w .glaze ∧ w .evt ∧ w .conv ∧ w .loop ∧ w .drive ∧
      w .fans ∧ w .store ∧ w .mirror ∧ w .field) :
    Leaves w s (execImmediateParamApply s) := leaves_finish (by simp [h])

/-! ### LongCmds -/

@[simp] theorem leaves_execStoreWrite (s : State)
    (h : w .mem ∧ w .params ∧ w .gesso ∧ w .safety ∧ w .time ∧ w .canvas ∧ w .power ∧ w .host ∧ w .glaze ∧ w .clients ∧
      w .evt ∧ w .conv ∧ w .loop ∧ w .store ∧ w .mirror ∧ w .legacy) :
    Leaves w s (execStoreWrite s) := leaves_finish (by simp [h])

@[simp] theorem leaves_execStoreErase (s : State)
    (h : w .mem ∧ w .params ∧ w .gesso ∧ w .safety ∧ w .time ∧ w .canvas ∧ w .power ∧ w .host ∧ w .glaze ∧ w .clients ∧
      w .evt ∧ w .conv ∧ w .loop ∧ w .store ∧ w .mirror ∧ w .legacy) :
    Leaves w s (execStoreErase s) := leaves_finish (by simp [h])

@[simp] theorem leaves_execStoreRead (s : State)
    (h : w .mem ∧ w .params ∧ w .gesso ∧ w .safety ∧ w .time ∧ w .canvas ∧ w .power ∧ w .host ∧ w .glaze ∧ w .clients ∧
      w .evt ∧ w .conv ∧ w .loop ∧ w .store ∧ w .mirror ∧ w .legacy) :
    Leaves w s (execStoreRead s) := leaves_finish (by simp [h])

@[simp] theorem leaves_execCanvasChunk (s : State)
    (h : w .mem ∧ w .params ∧ w .gesso ∧ w .safety ∧ w .time ∧ w .canvas ∧ w .power ∧ w .host ∧ w .glaze ∧ w .clients ∧
      w .evt ∧ w .conv ∧ w .loop ∧ w .store ∧ w .mirror ∧ w .legacy) :
    Leaves w s (execCanvasChunk s) := leaves_finish (by simp [h])

@[simp] theorem leaves_execCanvasVerify (s : State)
    (h : w .mem ∧ w .params ∧ w .gesso ∧ w .safety ∧ w .time ∧ w .canvas ∧ w .power ∧ w .host ∧ w .glaze ∧ w .clients ∧
      w .evt ∧ w .conv ∧ w .loop ∧ w .store ∧ w .mirror ∧ w .legacy) :
    Leaves w s (execCanvasVerify s) := leaves_finish (by simp [h])

@[simp] theorem leaves_execLineSurvey (s : State)
    (h : w .mem ∧ w .params ∧ w .gesso ∧ w .safety ∧ w .time ∧ w .canvas ∧ w .power ∧ w .host ∧ w .glaze ∧ w .clients ∧
      w .evt ∧ w .conv ∧ w .loop ∧ w .store ∧ w .mirror ∧ w .legacy) :
    Leaves w s (execLineSurvey s) := leaves_finish (by simp [h])

@[simp] theorem leaves_execProofRun (s : State)
    (h : w .mem ∧ w .params ∧ w .gesso ∧ w .safety ∧ w .time ∧ w .canvas ∧ w .power ∧ w .host ∧ w .glaze ∧ w .clients ∧
      w .evt ∧ w .conv ∧ w .loop ∧ w .store ∧ w .mirror ∧ w .legacy) :
    Leaves w s (execProofRun s) := leaves_finish (by simp [h])

@[simp] theorem leaves_execLogExport (s : State)
    (h : w .mem ∧ w .params ∧ w .gesso ∧ w .safety ∧ w .time ∧ w .canvas ∧ w .power ∧ w .host ∧ w .glaze ∧ w .clients ∧
      w .evt ∧ w .conv ∧ w .loop ∧ w .store ∧ w .mirror ∧ w .legacy) :
    Leaves w s (execLogExport s) := leaves_finish (by simp [h])

@[simp] theorem leaves_execClientQuery (s : State)
    (h : w .mem ∧ w .params ∧ w .gesso ∧ w .safety ∧ w .time ∧ w .canvas ∧ w .power ∧ w .host ∧ w .glaze ∧ w .clients ∧
      w .evt ∧ w .conv ∧ w .loop ∧ w .store ∧ w .mirror ∧ w .legacy) :
    Leaves w s (execClientQuery s) := leaves_finish (by simp [h])

@[simp] theorem leaves_execKeySet (s : State)
    (h : w .mem ∧ w .params ∧ w .gesso ∧ w .safety ∧ w .time ∧ w .canvas ∧ w .power ∧ w .host ∧ w .glaze ∧ w .clients ∧
      w .evt ∧ w .conv ∧ w .loop ∧ w .store ∧ w .mirror ∧ w .legacy) :
    Leaves w s (execKeySet s) := leaves_finish (by simp [h])

@[simp] theorem leaves_execAbort (s : State)
    (h : w .mem ∧ w .params ∧ w .gesso ∧ w .safety ∧ w .time ∧ w .canvas ∧ w .power ∧ w .host ∧ w .glaze ∧ w .clients ∧
      w .evt ∧ w .conv ∧ w .loop ∧ w .store ∧ w .mirror ∧ w .legacy) :
    Leaves w s (execAbort s) := leaves_finish (by simp [h])

@[simp] theorem leaves_execOpFirstWork (s : State)
    (h : w .mem ∧ w .canvas ∧ w .host ∧ w .clients ∧ w .conv ∧ w .store ∧ w .mirror ∧ w .proof ∧ w .legacy) :
    Leaves w s (execOpFirstWork s) := leaves_finish (by simp [h])

@[simp] theorem leaves_execOpComplete (bad : Bool) (s : State) (h : w .mem ∧ w .canvas ∧ w .host ∧ w .store) :
    Leaves w s (execOpComplete bad s) := leaves_finish (by simp [h])

/-! ### Mirror -/

@[simp] theorem leaves_execDigest (i : Nat) (s : State) (h : w .mirror) :
    Leaves w s (execDigest i s) := by
  refine leaves_finish (keep_runStroke _ _ _ fun k => ?_)
  split <;> simp [h]

@[simp] theorem leaves_execInputRecord (k : Nat) (ws : List Word) (s : State) (h : w .mirror) :
    Leaves w s (execInputRecord k ws s) := leaves_finish (by simp [h])

@[simp] theorem leaves_execSummaryRecord (f : Nat) (digest : Word) (state : List Word) (err : Bool) (s : State) (h : w .mirror) :
    Leaves w s (execSummaryRecord f digest state err s) := leaves_finish (by simp [h])

@[simp] theorem leaves_execForwardRecord (x : Forward) (s : State)
    (h : w .mem ∧ w .pads ∧ w .safety ∧ w .canvas ∧ w .glaze ∧ w .bb ∧ w .clients ∧ w .conv ∧ w .loop ∧ w .drive ∧ w .store ∧
      w .mirror ∧ w .proof) :
    Leaves w s (execForwardRecord x s) := leaves_finish (by simp [h])

@[simp] theorem leaves_execStateRecord (x : StateItem) (s : State) (h : w .mirror) :
    Leaves w s (execStateRecord x s) := leaves_finish (by simp [h])

@[simp] theorem leaves_execStatusRecord (m : MirrorStatus) (s : State) (h : w .mirror) :
    Leaves w s (execStatusRecord m s) := leaves_finish (by simp [h])

@[simp] theorem leaves_execRecordResend (seq : Byte) (s : State) (h : w .mirror) :
    Leaves w s (execRecordResend seq s) := by
  refine leaves_finish ?_
  split <;> simp [h]

@[simp] theorem leaves_execMirrorLaneFail (s : State) (h : w .mirror) :
    Leaves w s (execMirrorLaneFail s) := leaves_finish (by simp [h])

@[simp] theorem leaves_execStateTransferStart (s : State) (h : w .mirror) :
    Leaves w s (execStateTransferStart s) := leaves_finish (by simp [h])

@[simp] theorem leaves_execStateTransferDone (s : State) (h : w .mirror) :
    Leaves w s (execStateTransferDone s) := leaves_finish (by simp [h])

@[simp] theorem leaves_execFrameReplay (s : State)
    (h : w .params ∧ w .pads ∧ w .safety ∧ w .time ∧ w .canvas ∧ w .bb ∧ w .clients ∧ w .conv ∧ w .loop ∧ w .drive ∧
      w .fans ∧ w .store ∧ w .mirror ∧ w .proof) :
    Leaves w s (execFrameReplay s) := leaves_finish (by simp [h])

@[simp] theorem leaves_execDigestCompare (s : State) (h : w .mirror) :
    Leaves w s (execDigestCompare s) := by
  refine leaves_finish ?_
  split <;> simp [h]

@[simp] theorem leaves_execSummaryTimeout (s : State) (h : w .mirror) :
    Leaves w s (execSummaryTimeout s) := by
  refine leaves_finish ?_
  split <;> simp [h]

@[simp] theorem leaves_execMirrorSwitch (force : Bool) (s : State)
    (h : w .mem ∧ w .params ∧ w .gesso ∧ w .safety ∧ w .time ∧ w .canvas ∧ w .power ∧ w .host ∧ w .glaze ∧ w .clients ∧
      w .evt ∧ w .conv ∧ w .loop ∧ w .store ∧ w .mirror ∧ w .legacy) :
    Leaves w s (execMirrorSwitch force s) := leaves_finish (by simp [h])

@[simp] theorem leaves_execMirrorXferReq (s : State)
    (h : w .mem ∧ w .params ∧ w .gesso ∧ w .safety ∧ w .time ∧ w .canvas ∧ w .power ∧ w .host ∧ w .glaze ∧ w .clients ∧
      w .evt ∧ w .conv ∧ w .loop ∧ w .store ∧ w .mirror ∧ w .legacy) :
    Leaves w s (execMirrorXferReq s) := leaves_finish (by simp [h])

@[simp] theorem leaves_execMirrorRoleDecision (nmactP : Bool) (s : State) (h : w .bb ∧ w .mirror) :
    Leaves w s (execMirrorRoleDecision nmactP s) := leaves_finish (by simp [h])

@[simp] theorem leaves_execMirrorHeartbeatLoss (nmactP : Bool) (s : State) (h : w .mirror) :
    Leaves w s (execMirrorHeartbeatLoss nmactP s) := leaves_finish (by simp [h])

@[simp] theorem leaves_execSwitchoverB1 (s : State) (h : w .bb ∧ w .drive ∧ w .fans ∧ w .mirror) :
    Leaves w s (execSwitchoverB1 s) := leaves_finish (by simp [h])

@[simp] theorem leaves_execSwitchoverB2 (s : State)
    (h : w .pads ∧ w .canvas ∧ w .host ∧ w .bb ∧ w .clients ∧ w .loop ∧ w .drive ∧ w .fans ∧ w .store ∧ w .mirror) :
    Leaves w s (execSwitchoverB2 s) := by
  refine leaves_finish ?_
  split <;> simp [h]

@[simp] theorem leaves_execTlockSet (phase pull : Int) (s : State) (h : w .mirror) :
    Leaves w s (execTlockSet phase pull s) := leaves_finish (by simp [h])

@[simp] theorem leaves_execTlockClear (phase pull : Int) (s : State) (h : w .mirror) :
    Leaves w s (execTlockClear phase pull s) := leaves_finish (by simp [h])

@[simp] theorem leaves_execSideConflictResolve (higher nmactP : Bool) (s : State) (h : w .bb ∧ w .drive ∧ w .fans ∧ w .mirror) :
    Leaves w s (execSideConflictResolve higher nmactP s) := leaves_finish (by simp [h])

@[simp] theorem leaves_execMsyncIRise (lowFor : Nat) (s : State) :
    Leaves w s (execMsyncIRise lowFor s) := by
  refine leaves_finish ?_
  split <;> simp

/-! ### ProofCmds -/

@[simp] theorem leaves_execProofScheduledStart (s : State)
    (h : w .canvas ∧ w .host ∧ w .clients ∧ w .conv ∧ w .store ∧ w .proof) :
    Leaves w s (execProofScheduledStart s) := leaves_finish (by simp [h])

@[simp] theorem leaves_execProofPostpone24h (s : State) :
    Leaves w s (execProofPostpone24h s) := by
  refine leaves_finish ?_
  split <;> simp

@[simp] theorem leaves_execSentinelInjection (n : Fin 16) (mv : Nat) (s : State)
    (h : w .gesso ∧ w .safety ∧ w .field ∧ w .proof) :
    Leaves w s (execSentinelInjection n mv s) := leaves_finish (by simp [h])

@[simp] theorem leaves_execInjectedFrame (t : Fin 3) (second : Bool) (s : State)
    (h : w .gesso ∧ w .pads ∧ w .safety ∧ w .zc ∧ w .clients ∧ w .store ∧ w .proof) :
    Leaves w s (execInjectedFrame t second s) := leaves_finish (by simp [h])

@[simp] theorem leaves_execHeadTimeout (id : Fin 2048) (s : State) (h : w .clients ∧ w .store ∧ w .proof) :
    Leaves w s (execHeadTimeout id s) := by
  refine leaves_finish ?_
  split <;> simp [h]

@[simp] theorem leaves_execProofStepEnd (m : ProofMeas) (s : State)
    (h : w .pads ∧ w .host ∧ w .clients ∧ w .conv ∧ w .store ∧ w .proof) :
    Leaves w s (execProofStepEnd m s) := leaves_finish (by simp [h])

@[simp] theorem leaves_execProofRunEnd (s : State) (h : w .canvas ∧ w .host ∧ w .proof) :
    Leaves w s (execProofRunEnd s) := leaves_finish (by simp [h])

@[simp] theorem leaves_execEvtCfgApply (s : State) (h : w .evt) :
    Leaves w s (execEvtCfgApply s) := leaves_finish (by simp [h])

@[simp] theorem leaves_execEvtClr (s : State) (h : w .evt) :
    Leaves w s (execEvtClr s) := leaves_finish (by simp [h])

/-! ### Frame -/

@[simp] theorem leaves_execMinorTick (s : State)
    (h : w .mem ∧ w .pads ∧ w .safety ∧ w .time ∧ w .canvas ∧ w .sys ∧ w .power ∧ w .host ∧ w .bb ∧ w .clients ∧ w .conv ∧
      w .drive ∧ w .fans ∧ w .store ∧ w .mirror ∧ w .proof) :
    Leaves w s (execMinorTick s) := leaves_finish (by simp [h])

@[simp] theorem leaves_execMajorFrameBoundary (units : Nat) (noise : List (Nat × List Word)) (fbErr : BitVec 20) (s : State)
    (h : w .mem ∧ w .gesso ∧ w .pads ∧ w .safety ∧ w .time ∧ w .canvas ∧ w .host ∧ w .clients ∧ w .evt ∧ w .conv ∧ w .store ∧
      w .mirror ∧ w .proof) :
    Leaves w s (execMajorFrameBoundary units noise fbErr s) := leaves_finish (by simp [h])

@[simp] theorem leaves_execHyperframeBoundary (s : State) (h : w .time ∧ w .canvas ∧ w .bb ∧ w .clients ∧ w .mirror) :
    Leaves w s (execHyperframeBoundary s) := leaves_finish (by simp [h])

/-! ### GlazeCmds -/

@[simp] theorem leaves_execGlazeCommit (s : State) (h : w .glaze ∧ w .mirror) :
    Leaves w s (execGlazeCommit s) := by
  refine leaves_finish ?_
  split <;> simp [h]

@[simp] theorem leaves_execGlazeApply (s : State)
    (h : w .mem ∧ w .params ∧ w .gesso ∧ w .pads ∧ w .safety ∧ w .time ∧ w .canvas ∧ w .power ∧ w .host ∧ w .glaze ∧ w .bb ∧
      w .clients ∧ w .evt ∧ w .conv ∧ w .loop ∧ w .drive ∧ w .fans ∧ w .store ∧ w .mirror ∧ w .proof ∧ w .legacy) :
    Leaves w s (execGlazeApply s) := leaves_finish (by simp [h])

@[simp] theorem leaves_execGlazePersist (g : Fin 8) (s : State) (h : w .glaze) :
    Leaves w s (execGlazePersist g s) := by
  refine leaves_finish ?_
  split <;> simp [h]

@[simp] theorem leaves_execRepeaterProbePeriod (lq : Option Byte) (s : State) (h : w .glaze ∧ w .clients ∧ w .store) :
    Leaves w s (execRepeaterProbePeriod lq s) := leaves_finish (by simp [h])

/-! ### HostBus -/

@[simp] theorem leaves_execUnmappedOffsetAccess (write : Bool) (off : Fin 16) (v : Half) (s : State)
    (h : w .mem ∧ w .params ∧ w .gesso ∧ w .safety ∧ w .time ∧ w .canvas ∧ w .power ∧ w .host ∧ w .glaze ∧ w .clients ∧
      w .evt ∧ w .conv ∧ w .loop ∧ w .store ∧ w .mirror ∧ w .legacy) :
    Leaves w s (execUnmappedOffsetAccess write off v s) := leaves_finish (by simp [h])

@[simp] theorem leaves_execBusAccessDiscard (s : State) (h : w .host) :
    Leaves w s (execBusAccessDiscard s) := leaves_finish (by simp [h])

@[simp] theorem leaves_execNwaitTimeout (s : State) (h : w .host ∧ w .legacy) :
    Leaves w s (execNwaitTimeout s) := leaves_finish (by simp [h])

@[simp] theorem leaves_execRegisterWrite (off : Fin 48) (v : Half) (s : State)
    (h : w .mem ∧ w .params ∧ w .gesso ∧ w .safety ∧ w .time ∧ w .canvas ∧ w .power ∧ w .host ∧ w .glaze ∧ w .clients ∧
      w .evt ∧ w .conv ∧ w .loop ∧ w .store ∧ w .mirror ∧ w .legacy) :
    Leaves w s (execRegisterWrite off v s) := leaves_finish (by simp [h])

@[simp] theorem leaves_execRclRegisterRead (off : Fin 48) (s : State)
    (h : w .mem ∧ w .params ∧ w .gesso ∧ w .safety ∧ w .time ∧ w .canvas ∧ w .power ∧ w .host ∧ w .glaze ∧ w .clients ∧
      w .evt ∧ w .conv ∧ w .loop ∧ w .store ∧ w .mirror ∧ w .legacy) :
    Leaves w s (execRclRegisterRead off s) := leaves_finish (by simp [h])

@[simp] theorem leaves_execTickNowRead (s : State)
    (h : w .mem ∧ w .params ∧ w .gesso ∧ w .safety ∧ w .time ∧ w .canvas ∧ w .power ∧ w .host ∧ w .glaze ∧ w .clients ∧
      w .evt ∧ w .conv ∧ w .loop ∧ w .store ∧ w .mirror ∧ w .legacy) :
    Leaves w s (execTickNowRead s) := leaves_finish (by simp [h])

@[simp] theorem leaves_execEvtDataLoRead (s : State)
    (h : w .mem ∧ w .params ∧ w .gesso ∧ w .safety ∧ w .time ∧ w .canvas ∧ w .power ∧ w .host ∧ w .glaze ∧ w .clients ∧
      w .evt ∧ w .conv ∧ w .loop ∧ w .store ∧ w .mirror ∧ w .legacy) :
    Leaves w s (execEvtDataLoRead s) := leaves_finish (by simp [h])

@[simp] theorem leaves_execOpres0Read (s : State)
    (h : w .mem ∧ w .params ∧ w .gesso ∧ w .safety ∧ w .time ∧ w .canvas ∧ w .power ∧ w .host ∧ w .glaze ∧ w .clients ∧
      w .evt ∧ w .conv ∧ w .loop ∧ w .store ∧ w .mirror ∧ w .legacy) :
    Leaves w s (execOpres0Read s) := leaves_finish (by simp [h])

@[simp] theorem leaves_execStatRead (s : State)
    (h : w .mem ∧ w .params ∧ w .gesso ∧ w .safety ∧ w .time ∧ w .canvas ∧ w .power ∧ w .host ∧ w .glaze ∧ w .clients ∧
      w .evt ∧ w .conv ∧ w .loop ∧ w .store ∧ w .mirror ∧ w .legacy) :
    Leaves w s (execStatRead s) := leaves_finish (by simp [h])

@[simp] theorem leaves_execPaddrWrite (v : Half) (s : State)
    (h : w .mem ∧ w .params ∧ w .gesso ∧ w .safety ∧ w .time ∧ w .canvas ∧ w .power ∧ w .host ∧ w .glaze ∧ w .clients ∧
      w .evt ∧ w .conv ∧ w .loop ∧ w .store ∧ w .mirror ∧ w .legacy) :
    Leaves w s (execPaddrWrite v s) := leaves_finish (by simp [h])

@[simp] theorem leaves_execPdataLoRead (s : State)
    (h : w .mem ∧ w .params ∧ w .gesso ∧ w .safety ∧ w .time ∧ w .canvas ∧ w .power ∧ w .host ∧ w .glaze ∧ w .clients ∧
      w .evt ∧ w .conv ∧ w .loop ∧ w .store ∧ w .mirror ∧ w .legacy) :
    Leaves w s (execPdataLoRead s) := leaves_finish (by simp [h])

@[simp] theorem leaves_execPdataLoWrite (v : Half) (s : State)
    (h : w .mem ∧ w .params ∧ w .gesso ∧ w .safety ∧ w .time ∧ w .canvas ∧ w .power ∧ w .host ∧ w .glaze ∧ w .clients ∧
      w .evt ∧ w .conv ∧ w .loop ∧ w .store ∧ w .mirror ∧ w .legacy) :
    Leaves w s (execPdataLoWrite v s) := leaves_finish (by simp [h])

@[simp] theorem leaves_execPdataHiRead (s : State)
    (h : w .mem ∧ w .params ∧ w .gesso ∧ w .safety ∧ w .time ∧ w .canvas ∧ w .power ∧ w .host ∧ w .glaze ∧ w .clients ∧
      w .evt ∧ w .conv ∧ w .loop ∧ w .store ∧ w .mirror ∧ w .legacy) :
    Leaves w s (execPdataHiRead s) := leaves_finish (by simp [h])

@[simp] theorem leaves_execPdataHiWrite (v : Half) (ok : Bool) (s : State)
    (h : w .mem ∧ w .params ∧ w .gesso ∧ w .safety ∧ w .time ∧ w .canvas ∧ w .power ∧ w .host ∧ w .glaze ∧ w .clients ∧
      w .evt ∧ w .conv ∧ w .loop ∧ w .store ∧ w .mirror ∧ w .legacy) :
    Leaves w s (execPdataHiWrite v ok s) := leaves_finish (by simp [h])

@[simp] theorem leaves_execKeyInWrite (v : Half) (s : State)
    (h : w .mem ∧ w .params ∧ w .gesso ∧ w .safety ∧ w .time ∧ w .canvas ∧ w .power ∧ w .host ∧ w .glaze ∧ w .clients ∧
      w .evt ∧ w .conv ∧ w .loop ∧ w .store ∧ w .mirror ∧ w .legacy) :
    Leaves w s (execKeyInWrite v s) := leaves_finish (by simp [h])

@[simp] theorem leaves_execHostHbWrite (v : Half) (s : State)
    (h : w .mem ∧ w .params ∧ w .gesso ∧ w .safety ∧ w .time ∧ w .canvas ∧ w .power ∧ w .host ∧ w .glaze ∧ w .clients ∧
      w .evt ∧ w .conv ∧ w .loop ∧ w .store ∧ w .mirror ∧ w .legacy) :
    Leaves w s (execHostHbWrite v s) := leaves_finish (by simp [h])

@[simp] theorem leaves_execGlazeDiscard (s : State)
    (h : w .mem ∧ w .params ∧ w .gesso ∧ w .safety ∧ w .time ∧ w .canvas ∧ w .power ∧ w .host ∧ w .glaze ∧ w .clients ∧
      w .evt ∧ w .conv ∧ w .loop ∧ w .store ∧ w .mirror ∧ w .legacy) :
    Leaves w s (execGlazeDiscard s) := leaves_finish (by simp [h])

@[simp] theorem leaves_execSleepReqWrite (ceil : BitVec 3) (s : State)
    (h : w .mem ∧ w .params ∧ w .gesso ∧ w .safety ∧ w .time ∧ w .canvas ∧ w .power ∧ w .host ∧ w .glaze ∧ w .clients ∧
      w .evt ∧ w .conv ∧ w .loop ∧ w .store ∧ w .mirror ∧ w .legacy) :
    Leaves w s (execSleepReqWrite ceil s) := leaves_finish (by simp [h])

@[simp] theorem leaves_execWakeCauseRead (s : State)
    (h : w .mem ∧ w .params ∧ w .gesso ∧ w .safety ∧ w .time ∧ w .canvas ∧ w .power ∧ w .host ∧ w .glaze ∧ w .clients ∧
      w .evt ∧ w .conv ∧ w .loop ∧ w .store ∧ w .mirror ∧ w .legacy) :
    Leaves w s (execWakeCauseRead s) := leaves_finish (by simp [h])

@[simp] theorem leaves_execSvcReqWrite (kind : BitVec 3) (ret : Bool) (index : BitVec 11) (tag : Byte) (s : State)
    (h : w .mem ∧ w .params ∧ w .gesso ∧ w .safety ∧ w .time ∧ w .canvas ∧ w .power ∧ w .host ∧ w .glaze ∧ w .clients ∧
      w .evt ∧ w .conv ∧ w .loop ∧ w .store ∧ w .mirror ∧ w .legacy) :
    Leaves w s (execSvcReqWrite kind ret index tag s) := leaves_finish (by simp [h])

@[simp] theorem leaves_execResultTailWrite (v : BitVec 10) (s : State)
    (h : w .mem ∧ w .params ∧ w .gesso ∧ w .safety ∧ w .time ∧ w .canvas ∧ w .power ∧ w .host ∧ w .glaze ∧ w .clients ∧
      w .evt ∧ w .conv ∧ w .loop ∧ w .store ∧ w .mirror ∧ w .legacy) :
    Leaves w s (execResultTailWrite v s) := leaves_finish (by simp [h])

@[simp] theorem leaves_execCalSet (v : Word) (s : State)
    (h : w .mem ∧ w .params ∧ w .gesso ∧ w .safety ∧ w .time ∧ w .canvas ∧ w .power ∧ w .host ∧ w .glaze ∧ w .clients ∧
      w .evt ∧ w .conv ∧ w .loop ∧ w .store ∧ w .mirror ∧ w .legacy) :
    Leaves w s (execCalSet v s) := leaves_finish (by simp [h])

@[simp] theorem leaves_execEaselLoRead (s : State)
    (h : w .mem ∧ w .params ∧ w .gesso ∧ w .safety ∧ w .time ∧ w .canvas ∧ w .power ∧ w .host ∧ w .glaze ∧ w .clients ∧
      w .evt ∧ w .conv ∧ w .loop ∧ w .store ∧ w .mirror ∧ w .legacy) :
    Leaves w s (execEaselLoRead s) := leaves_finish (by simp [h])

@[simp] theorem leaves_execConvQLoRead (s : State)
    (h : w .mem ∧ w .params ∧ w .gesso ∧ w .safety ∧ w .time ∧ w .canvas ∧ w .power ∧ w .host ∧ w .glaze ∧ w .clients ∧
      w .evt ∧ w .conv ∧ w .loop ∧ w .store ∧ w .mirror ∧ w .legacy) :
    Leaves w s (execConvQLoRead s) := leaves_finish (by simp [h])

@[simp] theorem leaves_execConvQHiRead (s : State)
    (h : w .mem ∧ w .params ∧ w .gesso ∧ w .safety ∧ w .time ∧ w .canvas ∧ w .power ∧ w .host ∧ w .glaze ∧ w .clients ∧
      w .evt ∧ w .conv ∧ w .loop ∧ w .store ∧ w .mirror ∧ w .legacy) :
    Leaves w s (execConvQHiRead s) := leaves_finish (by simp [h])

@[simp] theorem leaves_execPentTabDataRead (s : State)
    (h : w .mem ∧ w .params ∧ w .gesso ∧ w .safety ∧ w .time ∧ w .canvas ∧ w .power ∧ w .host ∧ w .glaze ∧ w .clients ∧
      w .evt ∧ w .conv ∧ w .loop ∧ w .store ∧ w .mirror ∧ w .legacy) :
    Leaves w s (execPentTabDataRead s) := leaves_finish (by simp [h])

@[simp] theorem leaves_execPentTabDataWrite (v : Word) (s : State)
    (h : w .mem ∧ w .params ∧ w .gesso ∧ w .safety ∧ w .time ∧ w .canvas ∧ w .power ∧ w .host ∧ w .glaze ∧ w .clients ∧
      w .evt ∧ w .conv ∧ w .loop ∧ w .store ∧ w .mirror ∧ w .legacy) :
    Leaves w s (execPentTabDataWrite v s) := leaves_finish (by simp [h])

@[simp] theorem leaves_execDctlProgram (page : BitVec 13) (reg : BitVec 2) (ok : Bool) (s : State)
    (h : w .mem ∧ w .params ∧ w .gesso ∧ w .safety ∧ w .time ∧ w .canvas ∧ w .power ∧ w .host ∧ w .glaze ∧ w .clients ∧
      w .evt ∧ w .conv ∧ w .loop ∧ w .store ∧ w .mirror ∧ w .legacy) :
    Leaves w s (execDctlProgram page reg ok s) := leaves_finish (by simp [h])

@[simp] theorem leaves_execDctlShadowProgram (page : BitVec 13) (reg : BitVec 2) (ok : Bool) (s : State)
    (h : w .mem ∧ w .params ∧ w .gesso ∧ w .safety ∧ w .time ∧ w .canvas ∧ w .power ∧ w .host ∧ w .glaze ∧ w .clients ∧
      w .evt ∧ w .conv ∧ w .loop ∧ w .store ∧ w .mirror ∧ w .legacy) :
    Leaves w s (execDctlShadowProgram page reg ok s) := leaves_finish (by simp [h])

@[simp] theorem leaves_execDctlErase (page : BitVec 13) (reg : BitVec 2) (s : State)
    (h : w .mem ∧ w .params ∧ w .gesso ∧ w .safety ∧ w .time ∧ w .canvas ∧ w .power ∧ w .host ∧ w .glaze ∧ w .clients ∧
      w .evt ∧ w .conv ∧ w .loop ∧ w .store ∧ w .mirror ∧ w .legacy) :
    Leaves w s (execDctlErase page reg s) := leaves_finish (by simp [h])

@[simp] theorem leaves_execDbufWrite (i : Fin 16) (v : Word) (s : State)
    (h : w .mem ∧ w .params ∧ w .gesso ∧ w .safety ∧ w .time ∧ w .canvas ∧ w .power ∧ w .host ∧ w .glaze ∧ w .clients ∧
      w .evt ∧ w .conv ∧ w .loop ∧ w .store ∧ w .mirror ∧ w .legacy) :
    Leaves w s (execDbufWrite i v s) := leaves_finish (by simp [h])

@[simp] theorem leaves_execHostSilenceDeclared (s : State) (h : w .host) :
    Leaves w s (execHostSilenceDeclared s) := leaves_finish (by simp [h])

@[simp] theorem leaves_execHostSilenceEnd (s : State) (h : w .host) :
    Leaves w s (execHostSilenceEnd s) := leaves_finish (by simp [h])

@[simp] theorem leaves_execClientSnap (s : State)
    (h : w .mem ∧ w .params ∧ w .gesso ∧ w .safety ∧ w .time ∧ w .canvas ∧ w .power ∧ w .host ∧ w .glaze ∧ w .clients ∧
      w .evt ∧ w .conv ∧ w .loop ∧ w .store ∧ w .mirror ∧ w .legacy) :
    Leaves w s (execClientSnap s) := leaves_finish (by simp [h])

@[simp] theorem leaves_execClientSnapComplete (s : State)
    (h : w .mem ∧ w .params ∧ w .gesso ∧ w .safety ∧ w .time ∧ w .canvas ∧ w .power ∧ w .host ∧ w .glaze ∧ w .clients ∧
      w .evt ∧ w .conv ∧ w .loop ∧ w .store ∧ w .mirror ∧ w .legacy) :
    Leaves w s (execClientSnapComplete s) := by
  refine leaves_finish ?_
  split <;> simp [h]

@[simp] theorem leaves_execClientSelWrite (v : Half) (s : State)
    (h : w .mem ∧ w .params ∧ w .gesso ∧ w .safety ∧ w .time ∧ w .canvas ∧ w .power ∧ w .host ∧ w .glaze ∧ w .clients ∧
      w .evt ∧ w .conv ∧ w .loop ∧ w .store ∧ w .mirror ∧ w .legacy) :
    Leaves w s (execClientSelWrite v s) := leaves_finish (by simp [h])

@[simp] theorem leaves_execClientDataLoRead (s : State)
    (h : w .mem ∧ w .params ∧ w .gesso ∧ w .safety ∧ w .time ∧ w .canvas ∧ w .power ∧ w .host ∧ w .glaze ∧ w .clients ∧
      w .evt ∧ w .conv ∧ w .loop ∧ w .store ∧ w .mirror ∧ w .legacy) :
    Leaves w s (execClientDataLoRead s) := leaves_finish (by simp [h])

@[simp] theorem leaves_execClientDataHiRead (s : State)
    (h : w .mem ∧ w .params ∧ w .gesso ∧ w .safety ∧ w .time ∧ w .canvas ∧ w .power ∧ w .host ∧ w .glaze ∧ w .clients ∧
      w .evt ∧ w .conv ∧ w .loop ∧ w .store ∧ w .mirror ∧ w .legacy) :
    Leaves w s (execClientDataHiRead s) := leaves_finish (by simp [h])

@[simp] theorem leaves_execClientDataHiWrite (v : Half) (s : State)
    (h : w .mem ∧ w .params ∧ w .gesso ∧ w .safety ∧ w .time ∧ w .canvas ∧ w .power ∧ w .host ∧ w .glaze ∧ w .clients ∧
      w .evt ∧ w .conv ∧ w .loop ∧ w .store ∧ w .mirror ∧ w .legacy) :
    Leaves w s (execClientDataHiWrite v s) := leaves_finish (by simp [h])

@[simp] theorem leaves_execClientCmdGo (s : State) (h : w .host ∧ w .clients ∧ w .store) :
    Leaves w s (execClientCmdGo s) := by
  refine leaves_finish ?_
  split <;> simp [h]

@[simp] theorem leaves_execWakeSequenceEnd (s : State)
    (h : w .mem ∧ w .params ∧ w .gesso ∧ w .safety ∧ w .time ∧ w .canvas ∧ w .sys ∧ w .power ∧ w .host ∧ w .glaze ∧
      w .clients ∧ w .evt ∧ w .conv ∧ w .loop ∧ w .store ∧ w .mirror ∧ w .legacy) :
    Leaves w s (execWakeSequenceEnd s) := leaves_finish (by simp [h])

@[simp] theorem leaves_execBusrdy (s : State)
    (h : w .mem ∧ w .params ∧ w .gesso ∧ w .safety ∧ w .time ∧ w .canvas ∧ w .sys ∧ w .power ∧ w .host ∧ w .glaze ∧
      w .clients ∧ w .evt ∧ w .conv ∧ w .loop ∧ w .store ∧ w .mirror ∧ w .legacy) :
    Leaves w s (execBusrdy s) := leaves_finish (by simp [h])

/-! ### LegacyCmds -/

@[simp] theorem leaves_execLegacyBadAddress (write : Bool) (off : Fin 32) (b : Byte) (s : State)
    (h : w .mem ∧ w .params ∧ w .gesso ∧ w .safety ∧ w .time ∧ w .canvas ∧ w .power ∧ w .host ∧ w .glaze ∧ w .clients ∧
      w .evt ∧ w .conv ∧ w .loop ∧ w .store ∧ w .mirror ∧ w .legacy) :
    Leaves w s (execLegacyBadAddress write off b s) := leaves_finish (by simp [h])

@[simp] theorem leaves_execLegacyLoWrite (off : Fin 32) (b : Byte) (s : State)
    (h : w .mem ∧ w .params ∧ w .gesso ∧ w .safety ∧ w .time ∧ w .canvas ∧ w .power ∧ w .host ∧ w .glaze ∧ w .clients ∧
      w .evt ∧ w .conv ∧ w .loop ∧ w .store ∧ w .mirror ∧ w .legacy) :
    Leaves w s (execLegacyLoWrite off b s) := leaves_finish (by simp [h])

@[simp] theorem leaves_execLegacyHiWrite (off : Fin 32) (b : Byte) (s : State)
    (h : w .mem ∧ w .params ∧ w .gesso ∧ w .safety ∧ w .time ∧ w .canvas ∧ w .power ∧ w .host ∧ w .glaze ∧ w .clients ∧
      w .evt ∧ w .conv ∧ w .loop ∧ w .store ∧ w .mirror ∧ w .legacy) :
    Leaves w s (execLegacyHiWrite off b s) := leaves_finish (by simp [h])

@[simp] theorem leaves_execLegacyLoRead (off : Fin 32) (s : State)
    (h : w .mem ∧ w .params ∧ w .gesso ∧ w .safety ∧ w .time ∧ w .canvas ∧ w .power ∧ w .host ∧ w .glaze ∧ w .clients ∧
      w .evt ∧ w .conv ∧ w .loop ∧ w .store ∧ w .mirror ∧ w .legacy) :
    Leaves w s (execLegacyLoRead off s) := leaves_finish (by simp [h])

@[simp] theorem leaves_execLegacyHiRead (off : Fin 32) (s : State)
    (h : w .mem ∧ w .params ∧ w .gesso ∧ w .safety ∧ w .time ∧ w .canvas ∧ w .power ∧ w .host ∧ w .glaze ∧ w .clients ∧
      w .evt ∧ w .conv ∧ w .loop ∧ w .store ∧ w .mirror ∧ w .legacy) :
    Leaves w s (execLegacyHiRead off s) := leaves_finish (by simp [h])

@[simp] theorem leaves_execLfanSpdWrite (b : Byte) (s : State)
    (h : w .mem ∧ w .params ∧ w .gesso ∧ w .safety ∧ w .time ∧ w .canvas ∧ w .power ∧ w .host ∧ w .glaze ∧ w .clients ∧
      w .evt ∧ w .conv ∧ w .loop ∧ w .store ∧ w .mirror ∧ w .legacy) :
    Leaves w s (execLfanSpdWrite b s) := leaves_finish (by simp [h])

@[simp] theorem leaves_execLegacyQueueFullWait (fanSpd : Bool) (b : Byte) (s : State)
    (h : w .mem ∧ w .params ∧ w .gesso ∧ w .safety ∧ w .time ∧ w .canvas ∧ w .power ∧ w .host ∧ w .glaze ∧ w .clients ∧
      w .evt ∧ w .conv ∧ w .loop ∧ w .store ∧ w .mirror ∧ w .legacy) :
    Leaves w s (execLegacyQueueFullWait fanSpd b s) := leaves_finish (by simp [h])

@[simp] theorem leaves_execLalarmRead (s : State)
    (h : w .mem ∧ w .params ∧ w .gesso ∧ w .safety ∧ w .time ∧ w .canvas ∧ w .power ∧ w .host ∧ w .glaze ∧ w .clients ∧
      w .evt ∧ w .conv ∧ w .loop ∧ w .store ∧ w .mirror ∧ w .legacy) :
    Leaves w s (execLalarmRead s) := leaves_finish (by simp [h])

@[simp] theorem leaves_execLackWrite (b : Byte) (s : State)
    (h : w .mem ∧ w .params ∧ w .gesso ∧ w .safety ∧ w .time ∧ w .canvas ∧ w .power ∧ w .host ∧ w .glaze ∧ w .clients ∧
      w .evt ∧ w .conv ∧ w .loop ∧ w .store ∧ w .mirror ∧ w .legacy) :
    Leaves w s (execLackWrite b s) := leaves_finish (by simp [h])

@[simp] theorem leaves_execLclCmd (b : Byte) (s : State)
    (h : w .mem ∧ w .params ∧ w .gesso ∧ w .safety ∧ w .time ∧ w .canvas ∧ w .power ∧ w .host ∧ w .glaze ∧ w .clients ∧
      w .evt ∧ w .conv ∧ w .loop ∧ w .store ∧ w .mirror ∧ w .legacy) :
    Leaves w s (execLclCmd b s) := leaves_finish (by simp [h])

@[simp] theorem leaves_execLegacyLogRead (s : State)
    (h : w .mem ∧ w .params ∧ w .gesso ∧ w .safety ∧ w .time ∧ w .canvas ∧ w .power ∧ w .host ∧ w .glaze ∧ w .clients ∧
      w .evt ∧ w .conv ∧ w .loop ∧ w .store ∧ w .mirror ∧ w .legacy) :
    Leaves w s (execLegacyLogRead s) := leaves_finish (by simp [h])

@[simp] theorem leaves_execLegacyProof (s : State)
    (h : w .mem ∧ w .params ∧ w .gesso ∧ w .safety ∧ w .time ∧ w .canvas ∧ w .power ∧ w .host ∧ w .glaze ∧ w .clients ∧
      w .evt ∧ w .conv ∧ w .loop ∧ w .store ∧ w .mirror ∧ w .legacy) :
    Leaves w s (execLegacyProof s) := leaves_finish (by simp [h])

@[simp] theorem leaves_execClientScan (s : State)
    (h : w .mem ∧ w .params ∧ w .gesso ∧ w .safety ∧ w .time ∧ w .canvas ∧ w .power ∧ w .host ∧ w .glaze ∧ w .clients ∧
      w .evt ∧ w .conv ∧ w .loop ∧ w .store ∧ w .mirror ∧ w .legacy) :
    Leaves w s (execClientScan s) := leaves_finish (by simp [h])

@[simp] theorem leaves_execLegacyAbort (s : State)
    (h : w .mem ∧ w .params ∧ w .gesso ∧ w .safety ∧ w .time ∧ w .canvas ∧ w .power ∧ w .host ∧ w .glaze ∧ w .clients ∧
      w .evt ∧ w .conv ∧ w .loop ∧ w .store ∧ w .mirror ∧ w .legacy) :
    Leaves w s (execLegacyAbort s) := leaves_finish (by simp [h])

@[simp] theorem leaves_execLopDataRead (s : State)
    (h : w .mem ∧ w .params ∧ w .gesso ∧ w .safety ∧ w .time ∧ w .canvas ∧ w .power ∧ w .host ∧ w .glaze ∧ w .clients ∧
      w .evt ∧ w .conv ∧ w .loop ∧ w .store ∧ w .mirror ∧ w .legacy) :
    Leaves w s (execLopDataRead s) := leaves_finish (by simp [h])

@[simp] theorem leaves_execLstatRead (s : State)
    (h : w .mem ∧ w .params ∧ w .gesso ∧ w .safety ∧ w .time ∧ w .canvas ∧ w .power ∧ w .host ∧ w .glaze ∧ w .clients ∧
      w .evt ∧ w .conv ∧ w .loop ∧ w .store ∧ w .mirror ∧ w .legacy) :
    Leaves w s (execLstatRead s) := leaves_finish (by simp [h])

@[simp] theorem leaves_execLwakeRead (s : State)
    (h : w .mem ∧ w .params ∧ w .gesso ∧ w .safety ∧ w .time ∧ w .canvas ∧ w .power ∧ w .host ∧ w .glaze ∧ w .clients ∧
      w .evt ∧ w .conv ∧ w .loop ∧ w .store ∧ w .mirror ∧ w .legacy) :
    Leaves w s (execLwakeRead s) := leaves_finish (by simp [h])

@[simp] theorem leaves_execLegacyApply (s : State)
    (h : w .params ∧ w .pads ∧ w .safety ∧ w .time ∧ w .canvas ∧ w .host ∧ w .bb ∧ w .clients ∧ w .evt ∧ w .conv ∧ w .loop ∧
      w .drive ∧ w .fans ∧ w .store ∧ w .proof ∧ w .legacy) :
    Leaves w s (execLegacyApply s) := leaves_finish (by simp [h])

@[simp] theorem leaves_execLackTimeout (s : State) (h : w .legacy) :
    Leaves w s (execLackTimeout s) := by
  refine leaves_finish ?_
  split <;> simp [h]

/-! ### Power -/

@[simp] theorem leaves_execVmainValid (s : State)
    (h : w .mem ∧ w .params ∧ w .gesso ∧ w .pads ∧ w .safety ∧ w .canvas ∧ w .sys ∧ w .power ∧ w .host ∧ w .glaze ∧ w .zc ∧
      w .bb ∧ w .clients ∧ w .evt ∧ w .conv ∧ w .loop ∧ w .drive ∧ w .fans ∧ w .store ∧ w .mirror ∧ w .field ∧ w .proof ∧
      w .legacy) :
    Leaves w s (execVmainValid s) := leaves_finish (by simp [h])

@[simp] theorem leaves_execPowerFailWarning (s : State)
    (h : w .mem ∧ w .canvas ∧ w .power ∧ w .host ∧ w .glaze ∧ w .store ∧ w .proof ∧ w .legacy) :
    Leaves w s (execPowerFailWarning s) := leaves_finish (by simp [h])

@[simp] theorem leaves_execPfwRecovered (s : State) (h : w .power) :
    Leaves w s (execPfwRecovered s) := leaves_finish (by simp [h])

@[simp] theorem leaves_execBrownOut (s : State)
    (h : w .mem ∧ w .gesso ∧ w .pads ∧ w .safety ∧ w .canvas ∧ w .sys ∧ w .power ∧ w .host ∧ w .glaze ∧ w .bb ∧ w .conv ∧
      w .loop ∧ w .drive ∧ w .fans ∧ w .store ∧ w .mirror ∧ w .field ∧ w .proof ∧ w .legacy) :
    Leaves w s (execBrownOut s) := leaves_finish (by simp [h])

@[simp] theorem leaves_execFlushComplete (s : State)
    (h : w .mem ∧ w .params ∧ w .gesso ∧ w .pads ∧ w .safety ∧ w .canvas ∧ w .sys ∧ w .power ∧ w .host ∧ w .glaze ∧ w .zc ∧
      w .bb ∧ w .clients ∧ w .evt ∧ w .conv ∧ w .loop ∧ w .drive ∧ w .fans ∧ w .store ∧ w .mirror ∧ w .field ∧ w .proof ∧
      w .legacy) :
    Leaves w s (execFlushComplete s) := leaves_finish (by simp [h])

@[simp] theorem leaves_execVcoreVanaLoss (core ana : Bool) (s : State)
    (h : w .gesso ∧ w .pads ∧ w .safety ∧ w .canvas ∧ w .sys ∧ w .power ∧ w .host ∧ w .bb ∧ w .conv ∧ w .loop ∧ w .drive ∧
      w .fans ∧ w .mirror ∧ w .field ∧ w .proof) :
    Leaves w s (execVcoreVanaLoss core ana s) := leaves_finish (by simp [h])

@[simp] theorem leaves_execVcoreVanaReturn (core ana : Bool) (s : State)
    (h : w .gesso ∧ w .safety ∧ w .canvas ∧ w .sys ∧ w .power ∧ w .bb ∧ w .conv ∧ w .loop ∧ w .drive ∧ w .fans ∧ w .mirror) :
    Leaves w s (execVcoreVanaReturn core ana s) := leaves_finish (by simp [h])

@[simp] theorem leaves_execVfieldValidChange (ok : Bool) (mv : Half) (s : State) (h : w .power ∧ w .field) :
    Leaves w s (execVfieldValidChange ok mv s) := leaves_finish (by simp [h])

@[simp] theorem leaves_execVbatAbsent (s : State) (h : w .gesso ∧ w .pads ∧ w .sys ∧ w .power) :
    Leaves w s (execVbatAbsent s) := leaves_finish (by simp [h])

@[simp] theorem leaves_execVbatReturn (s : State) (h : w .power) :
    Leaves w s (execVbatReturn s) := leaves_finish (by simp [h])

@[simp] theorem leaves_execVbatLow (s : State) (h : w .power) :
    Leaves w s (execVbatLow s) := leaves_finish (by simp [h])

@[simp] theorem leaves_execVbatLowRecover (s : State) (h : w .power) :
    Leaves w s (execVbatLowRecover s) := leaves_finish (by simp [h])

@[simp] theorem leaves_execVholdThreshold (charged : Bool) (mv : Half) (s : State) (h : w .power) :
    Leaves w s (execVholdThreshold charged mv s) := leaves_finish (by simp [h])

@[simp] theorem leaves_execX40Stop (sub : Nat) (s : State) (h : w .pads ∧ w .time ∧ w .drive ∧ w .fans) :
    Leaves w s (execX40Stop sub s) := leaves_finish (by simp [h])

@[simp] theorem leaves_execPowerStateChoice (rtc : Option Nat) (at_ : Nat) (s : State) (h : w .time ∧ w .sys ∧ w .power) :
    Leaves w s (execPowerStateChoice rtc at_ s) := leaves_finish (by simp [h])

@[simp] theorem leaves_execScheduledExit (at_ : Nat) (s : State) (h : w .time ∧ w .sys ∧ w .power) :
    Leaves w s (execScheduledExit at_ s) := leaves_finish (by simp [h])

@[simp] theorem leaves_execUnscheduledExit (at_ : Nat) (s : State) (h : w .time ∧ w .sys ∧ w .power) :
    Leaves w s (execUnscheduledExit at_ s) := leaves_finish (by simp [h])

@[simp] theorem leaves_execWakeCauseLatch (c : Fin 7) (s : State) :
    Leaves w s (execWakeCauseLatch c s) := leaves_finish (by simp)

@[simp] theorem leaves_execGessoPor (mside p8 x32 : Bool) (s : State)
    (h : w .mem ∧ w .params ∧ w .gesso ∧ w .pads ∧ w .safety ∧ w .time ∧ w .canvas ∧ w .sys ∧ w .power ∧ w .host ∧ w .glaze ∧
      w .zc ∧ w .bb ∧ w .clients ∧ w .evt ∧ w .conv ∧ w .loop ∧ w .drive ∧ w .fans ∧ w .store ∧ w .mirror ∧ w .field ∧
      w .proof ∧ w .legacy) :
    Leaves w s (execGessoPor mside p8 x32 s) := by
  -- By its equation, and with `recLatch` generalized: to compare the branches the kernel would evaluate it.
  rw [execGessoPor]
  generalize recLatch s.mem = l
  obtain ⟨r, crc, dup, dflt⟩ := l
  refine leaves_finish ?_
  split <;> simp [h]

@[simp] theorem leaves_execNrstAssert (ns : Nat) (s : State)
    (h : w .mem ∧ w .params ∧ w .gesso ∧ w .pads ∧ w .safety ∧ w .canvas ∧ w .sys ∧ w .power ∧ w .host ∧ w .glaze ∧ w .bb ∧
      w .clients ∧ w .evt ∧ w .conv ∧ w .loop ∧ w .drive ∧ w .fans ∧ w .store ∧ w .mirror ∧ w .proof ∧ w .legacy) :
    Leaves w s (execNrstAssert ns s) := leaves_finish (by simp [h])

@[simp] theorem leaves_execNrstRelease (s : State)
    (h : w .mem ∧ w .params ∧ w .gesso ∧ w .pads ∧ w .safety ∧ w .canvas ∧ w .sys ∧ w .power ∧ w .host ∧ w .glaze ∧ w .zc ∧
      w .bb ∧ w .clients ∧ w .evt ∧ w .conv ∧ w .loop ∧ w .drive ∧ w .fans ∧ w .store ∧ w .mirror ∧ w .field ∧ w .proof ∧
      w .legacy) :
    Leaves w s (execNrstRelease s) := leaves_finish (by simp [h])

@[simp] theorem leaves_execNrstMask (s : State)
    (h : w .mem ∧ w .params ∧ w .gesso ∧ w .pads ∧ w .safety ∧ w .canvas ∧ w .sys ∧ w .power ∧ w .host ∧ w .glaze ∧ w .zc ∧
      w .bb ∧ w .clients ∧ w .evt ∧ w .conv ∧ w .loop ∧ w .drive ∧ w .fans ∧ w .store ∧ w .mirror ∧ w .field ∧ w .proof ∧
      w .legacy) :
    Leaves w s (execNrstMask s) := by
  refine leaves_finish ?_
  split <;> simp [h]

@[simp] theorem leaves_execNrstUnmask (s : State) (h : w .power) :
    Leaves w s (execNrstUnmask s) := by
  refine leaves_finish ?_
  split <;> simp [h]

@[simp] theorem leaves_execTier2FirstBeacon (back : List Int) (s : State)
    (h : w .power ∧ w .bb ∧ w .clients ∧ w .store ∧ w .mirror) :
    Leaves w s (execTier2FirstBeacon back s) := by
  refine leaves_finish ?_
  split <;> simp [h]

/-! ### Every command -/

/-- The parts that a command can write. -/
def own (c : Instr) (p : Part) : Bool := (writes c).contains p

theorem leaves_exec (s : State) : (c : Instr) → Leaves (own c) s (exec c s)
  | .domainSelfCheckDone .. => leaves_execDomainSelfCheckDone _ _ _ ⟨rfl, rfl, rfl⟩
  | .gessoPor .. => leaves_execGessoPor _ _ _ _ ⟨rfl, rfl, rfl, rfl, rfl, rfl, rfl, rfl, rfl, rfl, rfl, rfl, rfl, rfl, rfl, rfl, rfl, rfl, rfl, rfl, rfl, rfl, rfl, rfl⟩
  | .gessoSentinelSample .. => leaves_execGessoSentinelSample _ _ _ ⟨rfl, rfl⟩
  | .gessoAlarmDwellExpiry .. => leaves_execGessoAlarmDwellExpiry _ _ ⟨rfl, rfl⟩
  | .gessoTroubleDwellExpiry .. => leaves_execGessoTroubleDwellExpiry _ _ rfl
  | .gessoTroubleClear .. => leaves_execGessoTroubleClear _ _ rfl
  | .gessoZcFrame .. => leaves_execGessoZcFrame _ _ _ _ ⟨rfl, rfl⟩
  | .gessoFirstFrameExpiry .. => leaves_execGessoFirstFrameExpiry _ _ rfl
  | .heartbeatAnswer .. => leaves_execHeartbeatAnswer _ _ ⟨rfl, rfl, rfl⟩
  | .gessoSilence .. => leaves_execGessoSilence _ _ rfl
  | .gessoReset .. => leaves_execGessoReset _ _ rfl
  | .gessoChirp .. => leaves_execGessoChirp _ _ _
  | .gessoRecordCrcCheck .. => leaves_execGessoRecordCrcCheck _ _ rfl
  | .lockstepMismatch .. => leaves_execLockstepMismatch _ _ ⟨rfl, rfl⟩
  | .safetyCoreRestartDone .. => leaves_execSafetyCoreRestartDone _ _ ⟨rfl, rfl, rfl⟩
  | .monitorSample .. => leaves_execMonitorSample _ _ _ rfl
  | .scSentinelAlarmLatch .. => leaves_execScSentinelAlarmLatch _ _ ⟨rfl, rfl, rfl⟩
  | .criterionDwellExpiry .. => leaves_execCriterionDwellExpiry _ _ ⟨rfl, rfl, rfl, rfl⟩
  | .arbTimeout .. => leaves_execArbTimeout _ _ ⟨rfl, rfl, rfl⟩
  | .majorFrameBoundary .. => leaves_execMajorFrameBoundary _ _ _ _ ⟨rfl, rfl, rfl, rfl, rfl, rfl, rfl, rfl, rfl, rfl, rfl, rfl, rfl⟩
  | .x40Stop .. => leaves_execX40Stop _ _ ⟨rfl, rfl, rfl, rfl⟩
  | .x40Restart .. => leaves_execX40Restart _ _ rfl
  | .disciplineCount .. => leaves_execDisciplineCount _ _ rfl
  | .calendarSecond .. => leaves_execCalendarSecond _ _ ⟨rfl, rfl, rfl, rfl⟩
  | .calSet .. => leaves_execCalSet _ _ ⟨rfl, rfl, rfl, rfl, rfl, rfl, rfl, rfl, rfl, rfl, rfl, rfl, rfl, rfl, rfl, rfl⟩
  | .comparatorEdge .. => leaves_execComparatorEdge _ _ _ _ rfl
  | .toothCandidate .. => leaves_execToothCandidate _ _ _ rfl
  | .toothSynthesis .. => leaves_execToothSynthesis _ _ _ _ ⟨rfl, rfl⟩
  | .toothAnchoredEvent .. => leaves_execToothAnchoredEvent _ _ _ _ _ _ rfl
  | .copy .. => leaves_execCopy _ _ rfl
  | .scale .. => leaves_execScale _ _ rfl
  | .limit .. => leaves_execLimit _ _ rfl
  | .compare .. => leaves_execCompare _ _ rfl
  | .logic .. => leaves_execLogic _ _ rfl
  | .timer .. => leaves_execTimer _ _ rfl
  | .lowpass .. => leaves_execLowpass _ _ rfl
  | .median .. => leaves_execMedian _ _ rfl
  | .table8 .. => leaves_execTable8 _ _ rfl
  | .sched .. => leaves_execSched _ _ rfl
  | .clientIn .. => leaves_execClientIn _ _ rfl
  | .clientOut .. => leaves_execClientOut _ _ ⟨rfl, rfl⟩
  | .fanSup .. => leaves_execFanSup _ _ ⟨rfl, rfl⟩
  | .drvSup .. => leaves_execDrvSup _ _ ⟨rfl, rfl⟩
  | .relay .. => leaves_execRelay _ _ rfl
  | .hostpub .. => leaves_execHostpub _ _ rfl
  | .log .. => leaves_execLog _ _
  | .digest .. => leaves_execDigest _ _ rfl
  | .cmp2 .. => leaves_execCmp2 _ _ _ ⟨rfl, rfl⟩
  | .cmp3 .. => leaves_execCmp3 _ _ _ ⟨rfl, rfl⟩
  | .prof .. => leaves_execProf _ _ ⟨rfl, rfl⟩
  | .pent .. => leaves_execPent _ _ ⟨rfl, rfl⟩
  | .convStart .. => leaves_execConvStart _ _ rfl
  | .convRead .. => leaves_execConvRead _ _ ⟨rfl, rfl⟩
  | .convArb .. => leaves_execConvArb _ _ rfl
  | .openwire .. => leaves_execOpenwire _ _ rfl
  | .pwm .. => leaves_execPwm _ _ rfl
  | .sixstep .. => leaves_execSixstep _ _ rfl
  | .dtc .. => leaves_execDtc _ _ ⟨rfl, rfl⟩
  | .shunt .. => leaves_execShunt _ _ rfl
  | .cmdin .. => leaves_execCmdin _ _ _ _ _ _ _ ⟨rfl, rfl⟩
  | .fanPwm .. => leaves_execFanPwm _ _ rfl
  | .tach .. => leaves_execTach _ _ rfl
  | .bbBeacon .. => leaves_execBbBeacon _ _ rfl
  | .bbSlot .. => leaves_execBbSlot _ _ rfl
  | .bbRx .. => leaves_execBbRx _ _ ⟨rfl, rfl⟩
  | .bbTx .. => leaves_execBbTx _ _ rfl
  | .zcTx .. => leaves_execZcTx _ _ ⟨rfl, rfl, rfl, rfl⟩
  | .zcRx .. => leaves_execZcRx _ _ ⟨rfl, rfl⟩
  | .stCnt .. => leaves_execStCnt _ _ rfl
  | .stLogq .. => leaves_execStLogq _ _ ⟨rfl, rfl⟩
  | .strokeOverrun .. => leaves_execStrokeOverrun _ _ ⟨rfl, rfl, rfl⟩
  | .laneFault .. => leaves_execLaneFault _ _ ⟨rfl, rfl, rfl, rfl, rfl, rfl, rfl, rfl, rfl, rfl⟩
  | .vcoreVanaLoss .. => leaves_execVcoreVanaLoss _ _ _ ⟨rfl, rfl, rfl, rfl, rfl, rfl, rfl, rfl, rfl, rfl, rfl, rfl, rfl, rfl, rfl⟩
  | .vholdThreshold .. => leaves_execVholdThreshold _ _ _ rfl
  | .powerStateChoice .. => leaves_execPowerStateChoice _ _ _ ⟨rfl, rfl, rfl⟩
  | .scheduledExit .. => leaves_execScheduledExit _ _ ⟨rfl, rfl, rfl⟩
  | .unscheduledExit .. => leaves_execUnscheduledExit _ _ ⟨rfl, rfl, rfl⟩
  | .sleepReqWrite .. => leaves_execSleepReqWrite _ _ ⟨rfl, rfl, rfl, rfl, rfl, rfl, rfl, rfl, rfl, rfl, rfl, rfl, rfl, rfl, rfl, rfl⟩
  | .wakeCauseLatch .. => leaves_execWakeCauseLatch _ _
  | .nrstAssert .. => leaves_execNrstAssert _ _ ⟨rfl, rfl, rfl, rfl, rfl, rfl, rfl, rfl, rfl, rfl, rfl, rfl, rfl, rfl, rfl, rfl, rfl, rfl, rfl, rfl, rfl⟩
  | .tier2FirstBeacon .. => leaves_execTier2FirstBeacon _ _ ⟨rfl, rfl, rfl, rfl, rfl⟩
  | .unmappedOffsetAccess .. => leaves_execUnmappedOffsetAccess _ _ _ _ ⟨rfl, rfl, rfl, rfl, rfl, rfl, rfl, rfl, rfl, rfl, rfl, rfl, rfl, rfl, rfl, rfl⟩
  | .registerWrite .. => leaves_execRegisterWrite _ _ _ ⟨rfl, rfl, rfl, rfl, rfl, rfl, rfl, rfl, rfl, rfl, rfl, rfl, rfl, rfl, rfl, rfl⟩
  | .paddrWrite .. => leaves_execPaddrWrite _ _ ⟨rfl, rfl, rfl, rfl, rfl, rfl, rfl, rfl, rfl, rfl, rfl, rfl, rfl, rfl, rfl, rfl⟩
  | .pdataLoWrite .. => leaves_execPdataLoWrite _ _ ⟨rfl, rfl, rfl, rfl, rfl, rfl, rfl, rfl, rfl, rfl, rfl, rfl, rfl, rfl, rfl, rfl⟩
  | .pdataHiWrite .. => leaves_execPdataHiWrite _ _ _ ⟨rfl, rfl, rfl, rfl, rfl, rfl, rfl, rfl, rfl, rfl, rfl, rfl, rfl, rfl, rfl, rfl⟩
  | .keyInWrite .. => leaves_execKeyInWrite _ _ ⟨rfl, rfl, rfl, rfl, rfl, rfl, rfl, rfl, rfl, rfl, rfl, rfl, rfl, rfl, rfl, rfl⟩
  | .keyExpiry .. => leaves_execKeyExpiry _ _ rfl
  | .keyLockExpiry .. => leaves_execKeyLockExpiry _ _ rfl
  | .clientSelWrite .. => leaves_execClientSelWrite _ _ ⟨rfl, rfl, rfl, rfl, rfl, rfl, rfl, rfl, rfl, rfl, rfl, rfl, rfl, rfl, rfl, rfl⟩
  | .clientDataHiWrite .. => leaves_execClientDataHiWrite _ _ ⟨rfl, rfl, rfl, rfl, rfl, rfl, rfl, rfl, rfl, rfl, rfl, rfl, rfl, rfl, rfl, rfl⟩
  | .opComplete .. => leaves_execOpComplete _ _ ⟨rfl, rfl, rfl, rfl⟩
  | .resultTailWrite .. => leaves_execResultTailWrite _ _ ⟨rfl, rfl, rfl, rfl, rfl, rfl, rfl, rfl, rfl, rfl, rfl, rfl, rfl, rfl, rfl, rfl⟩
  | .hostHbWrite .. => leaves_execHostHbWrite _ _ ⟨rfl, rfl, rfl, rfl, rfl, rfl, rfl, rfl, rfl, rfl, rfl, rfl, rfl, rfl, rfl, rfl⟩
  | .glazePersist .. => leaves_execGlazePersist _ _ rfl
  | .svcReqWrite .. => leaves_execSvcReqWrite _ _ _ _ _ ⟨rfl, rfl, rfl, rfl, rfl, rfl, rfl, rfl, rfl, rfl, rfl, rfl, rfl, rfl, rfl, rfl⟩
  | .repeaterProbePeriod .. => leaves_execRepeaterProbePeriod _ _ ⟨rfl, rfl, rfl⟩
  | .zcFrameReceived .. => leaves_execZcFrameReceived _ _ _ _ ⟨rfl, rfl, rfl, rfl, rfl, rfl⟩
  | .zcSlotCombine .. => leaves_execZcSlotCombine _ _ _ ⟨rfl, rfl, rfl, rfl, rfl, rfl⟩
  | .noiseFloorMeasure .. => leaves_execNoiseFloorMeasure _ _ _ _ rfl
  | .hubFrameAged .. => leaves_execHubFrameAged _ _
  | .zcTxRetry .. => leaves_execZcTxRetry _ _ _ _ rfl
  | .beaconBoundary .. => leaves_execBeaconBoundary _ _ _ ⟨rfl, rfl, rfl, rfl, rfl⟩
  | .repeaterWithdrawn .. => leaves_execRepeaterWithdrawn _ _ ⟨rfl, rfl, rfl⟩
  | .bbTxRetry .. => leaves_execBbTxRetry _ _ _ rfl
  | .bbNoisy .. => leaves_execBbNoisy _ _ _ rfl
  | .bbFrameReceived .. => leaves_execBbFrameReceived _ _ _ _ _ _ _ _ ⟨rfl, rfl, rfl, rfl, rfl, rfl, rfl⟩
  | .clientDrop .. => leaves_execClientDrop _ _ ⟨rfl, rfl, rfl, rfl⟩
  | .supervLost .. => leaves_execSupervLost _ _ ⟨rfl, rfl⟩
  | .conversionBegin .. => leaves_execConversionBegin _ _ rfl
  | .convResultDelivery .. => leaves_execConvResultDelivery _ _ _ _ _ ⟨rfl, rfl, rfl, rfl, rfl⟩
  | .referenceCheck .. => leaves_execReferenceCheck _ _ _ rfl
  | .openwireTestResult .. => leaves_execOpenwireTestResult _ _ _ _ _ rfl
  | .streamRestart .. => leaves_execStreamRestart _ _ rfl
  | .arbiterResult .. => leaves_execArbiterResult _ _ _ _ ⟨rfl, rfl, rfl, rfl⟩
  | .delay1Output .. => leaves_execDelay1Output _ _ ⟨rfl, rfl⟩
  | .pentTabDataWrite .. => leaves_execPentTabDataWrite _ _ ⟨rfl, rfl, rfl, rfl, rfl, rfl, rfl, rfl, rfl, rfl, rfl, rfl, rfl, rfl, rfl, rfl⟩
  | .pentWaitClear .. => leaves_execPentWaitClear _ _ rfl
  | .pwmPeriodBoundary .. => leaves_execPwmPeriodBoundary _ _ _ _ _ _ ⟨rfl, rfl⟩
  | .bemfSample .. => leaves_execBemfSample _ _ _ _ ⟨rfl, rfl⟩
  | .commutation .. => leaves_execCommutation _ _ ⟨rfl, rfl⟩
  | .blindCommutation .. => leaves_execBlindCommutation _ _ ⟨rfl, rfl⟩
  | .hallEdge .. => leaves_execHallEdge _ _ _ _ rfl
  | .ndfltAssert .. => leaves_execNdfltAssert _ _ rfl
  | .speedTimeout .. => leaves_execSpeedTimeout _ _ rfl
  | .cmdinStaticTimeout .. => leaves_execCmdinStaticTimeout _ _ _ rfl
  | .cmdinAutoDetect .. => leaves_execCmdinAutoDetect _ _ _ rfl
  | .catchEnd .. => leaves_execCatchEnd _ _ rfl
  | .brakeExit .. => leaves_execBrakeExit _ _ rfl
  | .brakeTimeout .. => leaves_execBrakeTimeout _ _ rfl
  | .alignEnd .. => leaves_execAlignEnd _ _ rfl
  | .rampHandover .. => leaves_execRampHandover _ _ rfl
  | .rampTimeout .. => leaves_execRampTimeout _ _ rfl
  | .kickPulseEnd .. => leaves_execKickPulseEnd _ _ rfl
  | .kickListenEnd .. => leaves_execKickListenEnd _ _ rfl
  | .pauseEnd .. => leaves_execPauseEnd _ _ rfl
  | .retryReset .. => leaves_execRetryReset _ _ rfl
  | .heldExit .. => leaves_execHeldExit _ _ _ rfl
  | .tachEdge .. => leaves_execTachEdge _ _ rfl
  | .fanStartTimeout .. => leaves_execFanStartTimeout _ _ rfl
  | .fanStallTimeout .. => leaves_execFanStallTimeout _ _ rfl
  | .tachLineTestPhase .. => leaves_execTachLineTestPhase _ _ _ ⟨rfl, rfl⟩
  | .fanWaitEnd .. => leaves_execFanWaitEnd _ _ rfl
  | .fanAttemptReset .. => leaves_execFanAttemptReset _ _ rfl
  | .fanBlockedExit .. => leaves_execFanBlockedExit _ _ rfl
  | .loadFlagSet .. => leaves_execLoadFlagSet _ _ _ _
  | .loadFlagClear .. => leaves_execLoadFlagClear _ _ _ _
  | .proofChirpMeasure .. => leaves_execProofChirpMeasure _ _ _ rfl
  | .msyncIRise .. => leaves_execMsyncIRise _ _
  | .dctlProgram .. => leaves_execDctlProgram _ _ _ _ ⟨rfl, rfl, rfl, rfl, rfl, rfl, rfl, rfl, rfl, rfl, rfl, rfl, rfl, rfl, rfl, rfl⟩
  | .dctlShadowProgram .. => leaves_execDctlShadowProgram _ _ _ _ ⟨rfl, rfl, rfl, rfl, rfl, rfl, rfl, rfl, rfl, rfl, rfl, rfl, rfl, rfl, rfl, rfl⟩
  | .dctlErase .. => leaves_execDctlErase _ _ _ ⟨rfl, rfl, rfl, rfl, rfl, rfl, rfl, rfl, rfl, rfl, rfl, rfl, rfl, rfl, rfl, rfl⟩
  | .dbufWrite .. => leaves_execDbufWrite _ _ _ ⟨rfl, rfl, rfl, rfl, rfl, rfl, rfl, rfl, rfl, rfl, rfl, rfl, rfl, rfl, rfl, rfl⟩
  | .refreshScanStart .. => leaves_execRefreshScanStart _ _ ⟨rfl, rfl⟩
  | .sectorRefresh .. => leaves_execSectorRefresh _ _ ⟨rfl, rfl⟩
  | .storeRestartRebuild .. => leaves_execStoreRestartRebuild _ _ ⟨rfl, rfl, rfl, rfl, rfl, rfl, rfl⟩
  | .tornSectorRepair .. => leaves_execTornSectorRepair _ _ ⟨rfl, rfl⟩
  | .inputRecord .. => leaves_execInputRecord _ _ _ rfl
  | .summaryRecord .. => leaves_execSummaryRecord _ _ _ _ _ rfl
  | .forwardRecord .. => leaves_execForwardRecord _ _ ⟨rfl, rfl, rfl, rfl, rfl, rfl, rfl, rfl, rfl, rfl, rfl, rfl, rfl⟩
  | .stateRecord .. => leaves_execStateRecord _ _ rfl
  | .statusRecord .. => leaves_execStatusRecord _ _ rfl
  | .recordResend .. => leaves_execRecordResend _ _ rfl
  | .mirrorHeartbeatLoss .. => leaves_execMirrorHeartbeatLoss _ _ rfl
  | .mirrorSwitch .. => leaves_execMirrorSwitch _ _ ⟨rfl, rfl, rfl, rfl, rfl, rfl, rfl, rfl, rfl, rfl, rfl, rfl, rfl, rfl, rfl, rfl⟩
  | .tlockSet .. => leaves_execTlockSet _ _ _ rfl
  | .tlockClear .. => leaves_execTlockClear _ _ _ rfl
  | .sideConflictResolve .. => leaves_execSideConflictResolve _ _ _ ⟨rfl, rfl, rfl, rfl⟩
  | .mirrorRoleDecision .. => leaves_execMirrorRoleDecision _ _ ⟨rfl, rfl⟩
  | .sentinelInjection .. => leaves_execSentinelInjection _ _ _ ⟨rfl, rfl, rfl, rfl⟩
  | .injectedFrame .. => leaves_execInjectedFrame _ _ _ ⟨rfl, rfl, rfl, rfl, rfl, rfl, rfl⟩
  | .headTimeout .. => leaves_execHeadTimeout _ _ ⟨rfl, rfl, rfl⟩
  | .proofStepEnd .. => leaves_execProofStepEnd _ _ ⟨rfl, rfl, rfl, rfl, rfl, rfl⟩
  | .legacyBadAddress .. => leaves_execLegacyBadAddress _ _ _ _ ⟨rfl, rfl, rfl, rfl, rfl, rfl, rfl, rfl, rfl, rfl, rfl, rfl, rfl, rfl, rfl, rfl⟩
  | .legacyLoWrite .. => leaves_execLegacyLoWrite _ _ _ ⟨rfl, rfl, rfl, rfl, rfl, rfl, rfl, rfl, rfl, rfl, rfl, rfl, rfl, rfl, rfl, rfl⟩
  | .legacyHiWrite .. => leaves_execLegacyHiWrite _ _ _ ⟨rfl, rfl, rfl, rfl, rfl, rfl, rfl, rfl, rfl, rfl, rfl, rfl, rfl, rfl, rfl, rfl⟩
  | .legacyQueueFullWait .. => leaves_execLegacyQueueFullWait _ _ _ ⟨rfl, rfl, rfl, rfl, rfl, rfl, rfl, rfl, rfl, rfl, rfl, rfl, rfl, rfl, rfl, rfl⟩
  | .legacyLoRead .. => leaves_execLegacyLoRead _ _ ⟨rfl, rfl, rfl, rfl, rfl, rfl, rfl, rfl, rfl, rfl, rfl, rfl, rfl, rfl, rfl, rfl⟩
  | .legacyHiRead .. => leaves_execLegacyHiRead _ _ ⟨rfl, rfl, rfl, rfl, rfl, rfl, rfl, rfl, rfl, rfl, rfl, rfl, rfl, rfl, rfl, rfl⟩
  | .lfanSpdWrite .. => leaves_execLfanSpdWrite _ _ ⟨rfl, rfl, rfl, rfl, rfl, rfl, rfl, rfl, rfl, rfl, rfl, rfl, rfl, rfl, rfl, rfl⟩
  | .lackWrite .. => leaves_execLackWrite _ _ ⟨rfl, rfl, rfl, rfl, rfl, rfl, rfl, rfl, rfl, rfl, rfl, rfl, rfl, rfl, rfl, rfl⟩
  | .lclCmd .. => leaves_execLclCmd _ _ ⟨rfl, rfl, rfl, rfl, rfl, rfl, rfl, rfl, rfl, rfl, rfl, rfl, rfl, rfl, rfl, rfl⟩
  | .ringScan .. => leaves_execRingScan _ _ _ _ _ rfl
  | .ballStateSet .. => leaves_execBallStateSet _ _ _ rfl
  | .ballStateClear .. => leaves_execBallStateClear _ _ _ rfl
  | .reverseProbe .. => leaves_execReverseProbe _ _ _ rfl
  | .vcoreVanaReturn .. => leaves_execVcoreVanaReturn _ _ _ ⟨rfl, rfl, rfl, rfl, rfl, rfl, rfl, rfl, rfl, rfl, rfl⟩
  | .vfieldValidChange .. => leaves_execVfieldValidChange _ _ _ ⟨rfl, rfl⟩
  | .chirpEnd .. => leaves_execChirpEnd _ _ rfl
  | .rclRegisterRead .. => leaves_execRclRegisterRead _ _ ⟨rfl, rfl, rfl, rfl, rfl, rfl, rfl, rfl, rfl, rfl, rfl, rfl, rfl, rfl, rfl, rfl⟩
  | .emergencySetChange => leaves_execEmergencySetChange _ ⟨rfl, rfl, rfl, rfl, rfl, rfl, rfl, rfl⟩
  | .comfortSetReturn => leaves_execComfortSetReturn _ ⟨rfl, rfl, rfl, rfl, rfl, rfl⟩
  | .canvasRunInEnd => leaves_execCanvasRunInEnd _ ⟨rfl, rfl, rfl, rfl, rfl, rfl, rfl, rfl⟩
  | .gessoArmed => leaves_execGessoArmed _ ⟨rfl, rfl⟩
  | .gessoZcDecodeLive => leaves_execGessoZcDecodeLive _ rfl
  | .scFaultLatch => leaves_execScFaultLatch _ ⟨rfl, rfl⟩
  | .scFaultClear => leaves_execScFaultClear _ ⟨rfl, rfl⟩
  | .scFirstAnswerTimeout => leaves_execScFirstAnswerTimeout _ ⟨rfl, rfl⟩
  | .gessoRelatch => leaves_execGessoRelatch _ rfl
  | .gessoRelatchDone => leaves_execGessoRelatchDone _ ⟨rfl, rfl⟩
  | .gessoTroubleChirp => leaves_execGessoTroubleChirp _
  | .safeRecordReload => leaves_execSafeRecordReload _ ⟨rfl, rfl⟩
  | .regionACheck => leaves_execRegionACheck _ rfl
  | .snapshotCompare => leaves_execSnapshotCompare _ rfl
  | .safetyTroubleChirp => leaves_execSafetyTroubleChirp _
  | .ackSilence => leaves_execAckSilence _ ⟨rfl, rfl, rfl, rfl⟩
  | .ackReset => leaves_execAckReset _ ⟨rfl, rfl, rfl, rfl⟩
  | .ackTroubleAck => leaves_execAckTroubleAck _ ⟨rfl, rfl⟩
  | .minorTick => leaves_execMinorTick _ ⟨rfl, rfl, rfl, rfl, rfl, rfl, rfl, rfl, rfl, rfl, rfl, rfl, rfl, rfl, rfl, rfl⟩
  | .hyperframeBoundary => leaves_execHyperframeBoundary _ ⟨rfl, rfl, rfl, rfl, rfl⟩
  | .x32Stop => leaves_execX32Stop _ ⟨rfl, rfl⟩
  | .x32RunResume => leaves_execX32RunResume _ rfl
  | .x32OkReturn => leaves_execX32OkReturn _ ⟨rfl, rfl⟩
  | .easelLoRead => leaves_execEaselLoRead _ ⟨rfl, rfl, rfl, rfl, rfl, rfl, rfl, rfl, rfl, rfl, rfl, rfl, rfl, rfl, rfl, rfl⟩
  | .verificationDone => leaves_execVerificationDone _ rfl
  | .canvasSwap => leaves_execCanvasSwap _ ⟨rfl, rfl, rfl, rfl, rfl, rfl, rfl, rfl⟩
  | .canvasStart => leaves_execCanvasStart _ ⟨rfl, rfl, rfl⟩
  | .vmainValid => leaves_execVmainValid _ ⟨rfl, rfl, rfl, rfl, rfl, rfl, rfl, rfl, rfl, rfl, rfl, rfl, rfl, rfl, rfl, rfl, rfl, rfl, rfl, rfl, rfl, rfl, rfl⟩
  | .powerFailWarning => leaves_execPowerFailWarning _ ⟨rfl, rfl, rfl, rfl, rfl, rfl, rfl, rfl⟩
  | .flushComplete => leaves_execFlushComplete _ ⟨rfl, rfl, rfl, rfl, rfl, rfl, rfl, rfl, rfl, rfl, rfl, rfl, rfl, rfl, rfl, rfl, rfl, rfl, rfl, rfl, rfl, rfl, rfl⟩
  | .pfwRecovered => leaves_execPfwRecovered _ rfl
  | .brownOut => leaves_execBrownOut _ ⟨rfl, rfl, rfl, rfl, rfl, rfl, rfl, rfl, rfl, rfl, rfl, rfl, rfl, rfl, rfl, rfl, rfl, rfl, rfl⟩
  | .vbatAbsent => leaves_execVbatAbsent _ ⟨rfl, rfl, rfl, rfl⟩
  | .vbatReturn => leaves_execVbatReturn _ rfl
  | .vbatLow => leaves_execVbatLow _ rfl
  | .wakeSequenceEnd => leaves_execWakeSequenceEnd _ ⟨rfl, rfl, rfl, rfl, rfl, rfl, rfl, rfl, rfl, rfl, rfl, rfl, rfl, rfl, rfl, rfl, rfl⟩
  | .wakeCauseRead => leaves_execWakeCauseRead _ ⟨rfl, rfl, rfl, rfl, rfl, rfl, rfl, rfl, rfl, rfl, rfl, rfl, rfl, rfl, rfl, rfl⟩
  | .nrstRelease => leaves_execNrstRelease _ ⟨rfl, rfl, rfl, rfl, rfl, rfl, rfl, rfl, rfl, rfl, rfl, rfl, rfl, rfl, rfl, rfl, rfl, rfl, rfl, rfl, rfl, rfl, rfl⟩
  | .nrstMask => leaves_execNrstMask _ ⟨rfl, rfl, rfl, rfl, rfl, rfl, rfl, rfl, rfl, rfl, rfl, rfl, rfl, rfl, rfl, rfl, rfl, rfl, rfl, rfl, rfl, rfl, rfl⟩
  | .nrstUnmask => leaves_execNrstUnmask _ rfl
  | .busrdy => leaves_execBusrdy _ ⟨rfl, rfl, rfl, rfl, rfl, rfl, rfl, rfl, rfl, rfl, rfl, rfl, rfl, rfl, rfl, rfl, rfl⟩
  | .busAccessDiscard => leaves_execBusAccessDiscard _ rfl
  | .nwaitTimeout => leaves_execNwaitTimeout _ ⟨rfl, rfl⟩
  | .tickNowRead => leaves_execTickNowRead _ ⟨rfl, rfl, rfl, rfl, rfl, rfl, rfl, rfl, rfl, rfl, rfl, rfl, rfl, rfl, rfl, rfl⟩
  | .evtDataLoRead => leaves_execEvtDataLoRead _ ⟨rfl, rfl, rfl, rfl, rfl, rfl, rfl, rfl, rfl, rfl, rfl, rfl, rfl, rfl, rfl, rfl⟩
  | .opres0Read => leaves_execOpres0Read _ ⟨rfl, rfl, rfl, rfl, rfl, rfl, rfl, rfl, rfl, rfl, rfl, rfl, rfl, rfl, rfl, rfl⟩
  | .statRead => leaves_execStatRead _ ⟨rfl, rfl, rfl, rfl, rfl, rfl, rfl, rfl, rfl, rfl, rfl, rfl, rfl, rfl, rfl, rfl⟩
  | .pdataLoRead => leaves_execPdataLoRead _ ⟨rfl, rfl, rfl, rfl, rfl, rfl, rfl, rfl, rfl, rfl, rfl, rfl, rfl, rfl, rfl, rfl⟩
  | .pdataHiRead => leaves_execPdataHiRead _ ⟨rfl, rfl, rfl, rfl, rfl, rfl, rfl, rfl, rfl, rfl, rfl, rfl, rfl, rfl, rfl, rfl⟩
  | .immediateParamApply => leaves_execImmediateParamApply _ ⟨rfl, rfl, rfl, rfl, rfl, rfl, rfl, rfl, rfl, rfl, rfl, rfl, rfl, rfl, rfl⟩
  | .keyCheck => leaves_execKeyCheck _ rfl
  | .clientSnap => leaves_execClientSnap _ ⟨rfl, rfl, rfl, rfl, rfl, rfl, rfl, rfl, rfl, rfl, rfl, rfl, rfl, rfl, rfl, rfl⟩
  | .clientSnapComplete => leaves_execClientSnapComplete _ ⟨rfl, rfl, rfl, rfl, rfl, rfl, rfl, rfl, rfl, rfl, rfl, rfl, rfl, rfl, rfl, rfl⟩
  | .clientDataLoRead => leaves_execClientDataLoRead _ ⟨rfl, rfl, rfl, rfl, rfl, rfl, rfl, rfl, rfl, rfl, rfl, rfl, rfl, rfl, rfl, rfl⟩
  | .clientDataHiRead => leaves_execClientDataHiRead _ ⟨rfl, rfl, rfl, rfl, rfl, rfl, rfl, rfl, rfl, rfl, rfl, rfl, rfl, rfl, rfl, rfl⟩
  | .clientCmdGo => leaves_execClientCmdGo _ ⟨rfl, rfl, rfl⟩
  | .storeWrite => leaves_execStoreWrite _ ⟨rfl, rfl, rfl, rfl, rfl, rfl, rfl, rfl, rfl, rfl, rfl, rfl, rfl, rfl, rfl, rfl⟩
  | .storeErase => leaves_execStoreErase _ ⟨rfl, rfl, rfl, rfl, rfl, rfl, rfl, rfl, rfl, rfl, rfl, rfl, rfl, rfl, rfl, rfl⟩
  | .storeRead => leaves_execStoreRead _ ⟨rfl, rfl, rfl, rfl, rfl, rfl, rfl, rfl, rfl, rfl, rfl, rfl, rfl, rfl, rfl, rfl⟩
  | .canvasChunk => leaves_execCanvasChunk _ ⟨rfl, rfl, rfl, rfl, rfl, rfl, rfl, rfl, rfl, rfl, rfl, rfl, rfl, rfl, rfl, rfl⟩
  | .canvasVerify => leaves_execCanvasVerify _ ⟨rfl, rfl, rfl, rfl, rfl, rfl, rfl, rfl, rfl, rfl, rfl, rfl, rfl, rfl, rfl, rfl⟩
  | .lineSurvey => leaves_execLineSurvey _ ⟨rfl, rfl, rfl, rfl, rfl, rfl, rfl, rfl, rfl, rfl, rfl, rfl, rfl, rfl, rfl, rfl⟩
  | .proofRun => leaves_execProofRun _ ⟨rfl, rfl, rfl, rfl, rfl, rfl, rfl, rfl, rfl, rfl, rfl, rfl, rfl, rfl, rfl, rfl⟩
  | .logExport => leaves_execLogExport _ ⟨rfl, rfl, rfl, rfl, rfl, rfl, rfl, rfl, rfl, rfl, rfl, rfl, rfl, rfl, rfl, rfl⟩
  | .clientQuery => leaves_execClientQuery _ ⟨rfl, rfl, rfl, rfl, rfl, rfl, rfl, rfl, rfl, rfl, rfl, rfl, rfl, rfl, rfl, rfl⟩
  | .keySet => leaves_execKeySet _ ⟨rfl, rfl, rfl, rfl, rfl, rfl, rfl, rfl, rfl, rfl, rfl, rfl, rfl, rfl, rfl, rfl⟩
  | .abort => leaves_execAbort _ ⟨rfl, rfl, rfl, rfl, rfl, rfl, rfl, rfl, rfl, rfl, rfl, rfl, rfl, rfl, rfl, rfl⟩
  | .opFirstWork => leaves_execOpFirstWork _ ⟨rfl, rfl, rfl, rfl, rfl, rfl, rfl, rfl, rfl⟩
  | .hostSilenceDeclared => leaves_execHostSilenceDeclared _ rfl
  | .hostSilenceEnd => leaves_execHostSilenceEnd _ rfl
  | .glazeCommit => leaves_execGlazeCommit _ ⟨rfl, rfl⟩
  | .glazeDiscard => leaves_execGlazeDiscard _ ⟨rfl, rfl, rfl, rfl, rfl, rfl, rfl, rfl, rfl, rfl, rfl, rfl, rfl, rfl, rfl, rfl⟩
  | .glazeApply => leaves_execGlazeApply _ ⟨rfl, rfl, rfl, rfl, rfl, rfl, rfl, rfl, rfl, rfl, rfl, rfl, rfl, rfl, rfl, rfl, rfl, rfl, rfl, rfl, rfl⟩
  | .maskChange => leaves_execMaskChange _ ⟨rfl, rfl⟩
  | .routeUpdateEffect => leaves_execRouteUpdateEffect _ ⟨rfl, rfl, rfl⟩
  | .admissionPhaseEnd => leaves_execAdmissionPhaseEnd _ rfl
  | .admitForget => leaves_execAdmitForget _ ⟨rfl, rfl, rfl, rfl⟩
  | .clientRecordUpdate => leaves_execClientRecordUpdate _ ⟨rfl, rfl⟩
  | .commandAged => leaves_execCommandAged _ ⟨rfl, rfl⟩
  | .arbiterResampleBegin => leaves_execArbiterResampleBegin _ rfl
  | .convQLoRead => leaves_execConvQLoRead _ ⟨rfl, rfl, rfl, rfl, rfl, rfl, rfl, rfl, rfl, rfl, rfl, rfl, rfl, rfl, rfl, rfl⟩
  | .convQHiRead => leaves_execConvQHiRead _ ⟨rfl, rfl, rfl, rfl, rfl, rfl, rfl, rfl, rfl, rfl, rfl, rfl, rfl, rfl, rfl, rfl⟩
  | .pentTabDataRead => leaves_execPentTabDataRead _ ⟨rfl, rfl, rfl, rfl, rfl, rfl, rfl, rfl, rfl, rfl, rfl, rfl, rfl, rfl, rfl, rfl⟩
  | .alarmPatternInterval => leaves_execAlarmPatternInterval _ rfl
  | .cntClr => leaves_execCntClr _ ⟨rfl, rfl, rfl⟩
  | .shadowWriteback => leaves_execShadowWriteback _ ⟨rfl, rfl⟩
  | .checkpoint => leaves_execCheckpoint _ ⟨rfl, rfl⟩
  | .dumpConsumed => leaves_execDumpConsumed _ ⟨rfl, rfl⟩
  | .refreshScanDone => leaves_execRefreshScanDone _ rfl
  | .mirrorLaneFail => leaves_execMirrorLaneFail _ rfl
  | .frameReplay => leaves_execFrameReplay _ ⟨rfl, rfl, rfl, rfl, rfl, rfl, rfl, rfl, rfl, rfl, rfl, rfl, rfl, rfl⟩
  | .digestCompare => leaves_execDigestCompare _ rfl
  | .summaryTimeout => leaves_execSummaryTimeout _ rfl
  | .stateTransferStart => leaves_execStateTransferStart _ rfl
  | .stateTransferDone => leaves_execStateTransferDone _ rfl
  | .mirrorXferReq => leaves_execMirrorXferReq _ ⟨rfl, rfl, rfl, rfl, rfl, rfl, rfl, rfl, rfl, rfl, rfl, rfl, rfl, rfl, rfl, rfl⟩
  | .switchoverB1 => leaves_execSwitchoverB1 _ ⟨rfl, rfl, rfl, rfl⟩
  | .switchoverB2 => leaves_execSwitchoverB2 _ ⟨rfl, rfl, rfl, rfl, rfl, rfl, rfl, rfl, rfl, rfl⟩
  | .proofScheduledStart => leaves_execProofScheduledStart _ ⟨rfl, rfl, rfl, rfl, rfl, rfl⟩
  | .proofPostpone24h => leaves_execProofPostpone24h _
  | .proofRunEnd => leaves_execProofRunEnd _ ⟨rfl, rfl, rfl⟩
  | .evtCfgApply => leaves_execEvtCfgApply _ rfl
  | .evtClr => leaves_execEvtClr _ rfl
  | .legacyApply => leaves_execLegacyApply _ ⟨rfl, rfl, rfl, rfl, rfl, rfl, rfl, rfl, rfl, rfl, rfl, rfl, rfl, rfl, rfl, rfl⟩
  | .lalarmRead => leaves_execLalarmRead _ ⟨rfl, rfl, rfl, rfl, rfl, rfl, rfl, rfl, rfl, rfl, rfl, rfl, rfl, rfl, rfl, rfl⟩
  | .lackTimeout => leaves_execLackTimeout _ rfl
  | .legacyLogRead => leaves_execLegacyLogRead _ ⟨rfl, rfl, rfl, rfl, rfl, rfl, rfl, rfl, rfl, rfl, rfl, rfl, rfl, rfl, rfl, rfl⟩
  | .legacyProof => leaves_execLegacyProof _ ⟨rfl, rfl, rfl, rfl, rfl, rfl, rfl, rfl, rfl, rfl, rfl, rfl, rfl, rfl, rfl, rfl⟩
  | .clientScan => leaves_execClientScan _ ⟨rfl, rfl, rfl, rfl, rfl, rfl, rfl, rfl, rfl, rfl, rfl, rfl, rfl, rfl, rfl, rfl⟩
  | .legacyAbort => leaves_execLegacyAbort _ ⟨rfl, rfl, rfl, rfl, rfl, rfl, rfl, rfl, rfl, rfl, rfl, rfl, rfl, rfl, rfl, rfl⟩
  | .lopDataRead => leaves_execLopDataRead _ ⟨rfl, rfl, rfl, rfl, rfl, rfl, rfl, rfl, rfl, rfl, rfl, rfl, rfl, rfl, rfl, rfl⟩
  | .lstatRead => leaves_execLstatRead _ ⟨rfl, rfl, rfl, rfl, rfl, rfl, rfl, rfl, rfl, rfl, rfl, rfl, rfl, rfl, rfl, rfl⟩
  | .lwakeRead => leaves_execLwakeRead _ ⟨rfl, rfl, rfl, rfl, rfl, rfl, rfl, rfl, rfl, rfl, rfl, rfl, rfl, rfl, rfl, rfl⟩
  | .vbatLowRecover => leaves_execVbatLowRecover _ rfl

/-- Settles O5: the effect of a command leaves what is left beside its own parts, and deciding the tier anew changes none of it. -/
theorem frames : Obligations.Frames := by
  intro c s t h p hp
  obtain ⟨u, hu, hk⟩ := leaves_exec s c
  rw [inner_finish (hu.symm.trans h)]
  exact same_of_keep hk (by simpa [own] using hp)

end Sys2Proof.Machine
end

section
/-!
PROOFS. How the answer of a command is read: from its effect, at what reports, a change of tier, the outputs that follow and some
named parts leave.
-/

namespace Sys2Proof.Machine

/-- The parts of a list. -/
abbrev parts (l : List Part) (p : Part) : Bool := l.contains p

/-- Every part but those of a list. -/
abbrev allBut (l : List Part) (p : Part) : Bool := !l.contains p

@[simp] theorem inner_ite {c : Prop} [Decidable c] (a b : State) : inner (if c then a else b) = if c then inner a else inner b :=
  apply_ite inner c a b

/-- A command whose effect agrees with a state in all but reports, the tier and the outputs that follow: what holds of that state
holds of the answer, if it does not speak of what `inner` leaves out. -/
theorem answers_of_inner {c : Instr} {s u : State} {P : State → Prop} (v : State) (e : exec c s = finish s u)
    (h : inner u = inner v) (hP : ∀ x, P (inner x) = P x) (p : P v) : Answers c s P :=
  answers_of_bare e fun t hb _ => by rw [← hP, inner_of_bare hb, h, hP]; exact p

/-- The same of a state that agrees in what is left beside the parts that `w` names. -/
theorem answers_of_keep {c : Instr} {s u : State} {P : State → Prop} (w : Part → Bool) (v : State) (e : exec c s = finish s u)
    (h : keep w u = keep w v) (hP : ∀ x, P (keep w x) = P x) (p : P v) : Answers c s P :=
  answers_of_bare e fun t hb _ => by rw [← hP, keep_of_inner (inner_of_bare hb), h, hP]; exact p

/-- The same, read at what is left of the effect. -/
theorem answers_at_keep {c : Instr} {s u : State} {P : State → Prop} (w : Part → Bool) (e : exec c s = finish s u)
    (hP : ∀ x, P (keep w x) = P x) (p : ∀ x, keep w u = x → P x) : Answers c s P :=
  answers_of_keep w u e rfl hP (hP u ▸ p _ rfl)

/-- The same of all that neither reports, the tier nor the outputs that follow write. -/
theorem answers_at_inner {c : Instr} {s u : State} {P : State → Prop} (e : exec c s = finish s u)
    (hP : ∀ x, P (inner x) = P x) (p : ∀ x, inner u = x → P x) : Answers c s P :=
  answers_of_inner u e rfl hP (hP u ▸ p _ rfl)

/-- A field that the parts named do not hold, read off what is left. -/
theorem kept_of_keep {α : Type} {w : Part → Bool} (f : State → α) (h : ∀ s, f (keep w s) = f s) {s t : State}
    (e : keep w t = keep w s) : f t = f s := by rw [← h t, e, h]

/-- The safety core's record without what reports and the outputs that follow write. -/
def innerSafety (f : Safety) : Safety := { f with causes := [], lastBcast := none, lastChirp := none, cmdChanged := 0 }
/-- Gesso's record without what reports and the outputs that follow write. -/
def innerGesso (g : Gesso) : Gesso := { g with tier0Fault := false, lastChirp := none, outCmd := 0 }

section
variable {w : Part → Bool} {s t : State}

theorem keep_with_safety (t : State) (f : Safety) : keep w { t with safety := f } =
    { keep w t with safety := bif w .safety then resetSafety else innerSafety f } := rfl
theorem keep_with_gesso (t : State) (g : Gesso) : keep w { t with gesso := g } =
    { keep w t with gesso := bif w .gesso then resetGesso else innerGesso g } := rfl

/-- What is left agrees after the same write of the core's record. -/
theorem keep_safety_congr (F : Safety → Safety) (hF : ∀ f, innerSafety (F (innerSafety f)) = innerSafety (F f))
    (h : keep w t = keep w s) (hw : w .safety = false) :
    keep w { t with safety := F t.safety } = keep w { s with safety := F s.safety } := by
  have hf : innerSafety t.safety = innerSafety s.safety := same_of_keep h (p := .safety) hw
  have e : innerSafety (F t.safety) = innerSafety (F s.safety) := by rw [← hF, hf, hF]
  rw [keep_with_safety t (F t.safety), keep_with_safety s (F s.safety), h, e]

/-- What is left agrees after the same write of Gesso's record. -/
theorem keep_gesso_congr (F : Gesso → Gesso) (hF : ∀ g, innerGesso (F (innerGesso g)) = innerGesso (F g))
    (h : keep w t = keep w s) (hw : w .gesso = false) :
    keep w { t with gesso := F t.gesso } = keep w { s with gesso := F s.gesso } := by
  have hg : innerGesso t.gesso = innerGesso s.gesso := same_of_keep h (p := .gesso) hw
  have e : innerGesso (F t.gesso) = innerGesso (F s.gesso) := by rw [← hF, hg, hF]
  rw [keep_with_gesso t (F t.gesso), keep_with_gesso s (F s.gesso), h, e]

end

/-- A fold of steps that keep a field keeps it. -/
theorem foldl_kept {α β : Type} (f : State → β) {g : State → α → State} (h : ∀ s a, f (g s a) = f s) :
    ∀ (l : List α) (s : State), f (l.foldl g s) = f s
  | [], _ => rfl
  | a :: r, s => by rw [List.foldl_cons, foldl_kept f h r, h]

theorem answers_and {c : Instr} {s : State} {P Q : State → Prop} (hp : Answers c s P) (hq : Answers c s Q) :
    Answers c s fun t => P t ∧ Q t := by
  obtain ⟨t, ht, h⟩ := hp
  obtain ⟨t', ht', h'⟩ := hq
  obtain rfl : t = t' := Host.Outcome.next.inj (ht.symm.trans ht')
  exact ⟨t, ht, h, h'⟩

end Sys2Proof.Machine
end

section
/-!
PROOFS. The step, Gesso's starts and record, its judgement of the safety core, its acknowledgements and chirps, and its samples,
dwells and frames (02_gesso.md).
-/

namespace Sys2Proof.Machine

/-! ### The step (log 1) -/

/-- Settles O1: the queue's front is the command that runs. -/
theorem stepTakesFront : Obligations.StepTakesFront := fun _ _ _ => rfl

/-- Settles O2 (log 1). -/
theorem stepIdles : Obligations.StepIdles := by
  intro s h
  unfold step
  rw [h]

/-- Settles O3: only G's own supply counts at reset. -/
theorem resetTierSettled : Obligations.ResetTierSettled := by
  unfold Obligations.ResetTierSettled Settled
  decide

/-! ### Gesso starts, takes its record again and checks it (R84, R85) -/

/-- Work stops without a write of the array when no erase is under way. -/
theorem stopWork_mem {s : State} (he : s.store.erasing = none) : (stopWork s).mem = s.mem := by
  have h : keep (allBut [.mem]) (stopWork s) = keep (allBut [.mem]) s := by simp [stopWork, he]
  exact kept_of_keep State.mem (fun _ => rfl) h

theorem enterReset_mem {s : State} (he : s.store.erasing = none) : (enterReset s).mem = s.mem := by
  have h : keep (allBut [.mem]) (enterReset s) = keep (allBut [.mem]) (stopWork s) := by simp [enterReset]
  exact (kept_of_keep State.mem (fun _ => rfl) h).trans (stopWork_mem he)

theorem enterReset_mside (s : State) : (enterReset s).mirror.mside = s.mirror.mside := by
  have h : keep (allBut [.mirror]) (legacyPfw (glazeAbort 4 (stopWork s))) = keep (allBut [.mirror]) s := by simp
  unfold enterReset
  generalize legacyPfw (glazeAbort 4 (stopWork s)) = u at h ⊢
  exact (kept_of_keep (·.mirror.mside) (fun _ => rfl) h :)

theorem enterReset_legacyMode (s : State) : (enterReset s).legacy.mode = s.legacy.mode := by
  have h : keep (allBut [.legacy]) (glazeAbort 4 (stopWork s)) = keep (allBut [.legacy]) s := by simp
  unfold enterReset
  generalize glazeAbort 4 (stopWork s) = u at h ⊢
  exact (kept_of_keep (·.legacy.mode) (fun _ => rfl) h :)

/-- A held nRST leaves what a power-on reset latched, the time, the image, the side and the legacy mode alone. -/
theorem nrstStands_spares {s : State} (he : s.store.erasing = none) :
    (nrstStands s).time.easel = s.time.easel ∧ (nrstStands s).mirror.mside = s.mirror.mside ∧
    (nrstStands s).legacy.mode = s.legacy.mode ∧ (nrstStands s).mem = s.mem ∧ (nrstStands s).pending = s.pending := by
  unfold nrstStands
  split
  · have h : keep (allBut [.time, .pending]) (enterReset s) = keep (allBut [.time, .pending]) s := by simp
    exact ⟨kept_of_keep (·.time.easel) (fun _ => rfl) h, enterReset_mside s, enterReset_legacyMode s, enterReset_mem he,
      kept_of_keep State.pending (fun _ => rfl) h⟩
  · exact ⟨rfl, rfl, rfl, rfl, rfl⟩


theorem nrstStands_spares_of_inner {b : Bool} {s t : State} (e : inner t = inner ((if b then nrstStands else id) s))
    (he : s.store.erasing = none) :
    t.time.easel = s.time.easel ∧ t.mirror.mside = s.mirror.mside ∧ t.legacy.mode = s.legacy.mode ∧ t.mem = s.mem ∧
      t.pending = s.pending := by
  rw [(kept_of_inner State.mem (fun _ => rfl) e :), (kept_of_inner (·.time.easel) (fun _ => rfl) e :),
    (kept_of_inner (·.mirror.mside) (fun _ => rfl) e :), (kept_of_inner (·.legacy.mode) (fun _ => rfl) e :),
    (kept_of_inner State.pending (fun _ => rfl) e :)]
  cases b with
  | false => exact ⟨rfl, rfl, rfl, rfl, rfl⟩
  | true => exact nrstStands_spares he

/-- A power-on reset: Gesso unarmed and without a trip, the time at zero, side and mode from the pins, the image kept. -/
theorem gessoPor_starts {mside p8 x32 : Bool} {s t : State} (h : execGessoPor mside p8 x32 s = .next t) :
    t.gesso.armed = false ∧ t.gesso.trip = 0 ∧ t.time.easel = 0 ∧ t.mirror.mside = mside ∧ t.legacy.mode = p8 ∧
      t.mem = s.mem ∧ t.pending = s.pending := by
  rw [execGessoPor] at h
  generalize recLatch s.mem = l at h
  obtain ⟨r, crc, dup, dflt⟩ := l
  have hc := gessoCore_finish h
  rw [gessoCore_nrstStands_if] at hc
  exact ⟨(kept_of_gessoCore Gesso.armed (fun _ => rfl) hc :), (kept_of_gessoCore Gesso.trip (fun _ => rfl) hc :),
    nrstStands_spares_of_inner (inner_finish h) rfl⟩

theorem gessoArmed_arms {s : State} (ha : s.gesso.armed = false) (hb : s.gesso.rlBusy = false) :
    Answers .gessoArmed s fun t => t.gesso.armed = true ∧ t.gesso.record = s.gesso.record ∧ t.gesso.trip = s.gesso.trip ∧
      t.gesso.sen = s.gesso.sen := by
  refine answers_of_inner { s with
    gesso := { s.gesso with armed := true, clkRc := !s.time.x32Ok, clkTrouble := s.time.x32Since.isNone }
    field := { s.field with armedAt := now s, probeAt := [], probeRun := [], swapDue := 0 } } rfl ?_ (fun _ => rfl)
    ⟨rfl, rfl, rfl, rfl⟩
  simp [ha, hb]

theorem gessoZcDecodeLive_lives {s : State} (ha : s.gesso.armed = true) (hz : recZen s.gesso.record = true)
    (hp : ∃ fe < 3, recZph s.gesso.record fe = true ∧ phaseOn s fe = true) :
    Answers .gessoZcDecodeLive s fun t => bare t = bare { s with gesso := { s.gesso with zcLive := true } } := by
  refine answers_of_bare rfl fun t hb _ => hb.trans ?_
  obtain ⟨fe, hlt, hph, hon⟩ := hp
  have hany : (List.range 3).any (fun fe => recZph s.gesso.record fe && phaseOn s fe) = true :=
    List.any_eq_true.2 ⟨fe, List.mem_range.2 hlt, by rw [hph, hon, Bool.and_true]⟩
  rw [ha, hz, hany]
  rfl

theorem gessoRelatch_begins {s : State} (ha : s.gesso.armed = true) (hk : keyOk s 3 = true) (ht : s.gesso.trip = 0)
    (hn : ∀ n < 16, recEn s.gesso.record n = true → (gSen s n).band = .normal) :
    Answers .gessoRelatch s fun t => bare t = bare { s with gesso := { s.gesso with armed := false, rlBusy := true } } := by
  refine answers_of_bare rfl fun t hb _ => hb.trans ?_
  have hany : (List.range 16).any (fun n => recEn s.gesso.record n && !decide ((gSen s n).band = .normal)) = false := by
    simpa using hn
  rw [requestRelatch, ha, hk, hany, ht]
  rfl

theorem gessoRelatchDone_ends {s t : State} (hb : s.gesso.rlBusy = true) (h : execGessoRelatchDone s = .next t) :
    t.gesso.armed = true ∧ t.gesso.rlBusy = false ∧ t.gesso.rlResult = 1 ∧ t.gesso.confirm = [] ∧
      t.gesso.trip = s.gesso.trip := by
  unfold execGessoRelatchDone at h
  rw [if_pos hb] at h
  generalize recLatch s.mem = l at h
  obtain ⟨r, crc, dup, dflt⟩ := l
  have e := inner_finish h
  rw [inner_setCause, inner_refreshOut] at e
  exact ⟨(kept_of_inner (·.gesso.armed) (fun _ => rfl) e :), (kept_of_inner (·.gesso.rlBusy) (fun _ => rfl) e :),
    (kept_of_inner (·.gesso.rlResult) (fun _ => rfl) e :), (kept_of_inner (·.gesso.confirm) (fun _ => rfl) e :),
    (kept_of_inner (·.gesso.trip) (fun _ => rfl) e :)⟩

theorem gessoRecordCrcCheck_relatches {s : State} (ha : s.gesso.armed = true) :
    Answers (.gessoRecordCrcCheck true) s fun t => t.gesso.armed = false ∧ t.gesso.rlBusy = true ∧
      t.gesso.relatchCnt = satInc s.gesso.relatchCnt ∧ t.gesso.trip = s.gesso.trip ∧ t.gesso.outCmd = s.gesso.outCmd := by
  have hrule : exec (.gessoRecordCrcCheck true) s = execGessoRecordCrcCheck true s := rfl
  unfold execGessoRecordCrcCheck at hrule
  rw [ha, Bool.and_true, if_pos rfl] at hrule
  refine answers_of_bare hrule fun t hb _ => ?_
  rw [bare_gessoChirp, apply_ite bare, bare_raiseCause, ite_self] at hb
  exact ⟨(kept_of_bare (·.gesso.armed) (fun _ => rfl) hb :), (kept_of_bare (·.gesso.rlBusy) (fun _ => rfl) hb :),
    (kept_of_bare (·.gesso.relatchCnt) (fun _ => rfl) hb :), (kept_of_bare (·.gesso.trip) (fun _ => rfl) hb :),
    (kept_of_bare (·.gesso.outCmd) (fun _ => rfl) hb :)⟩

/-- Settles O6: what each starting command latches, arms and clears. -/
theorem gessoStarts : Obligations.GessoStarts := fun _ =>
  ⟨fun _ _ _ => answers_of_next fun _ h => ⟨(gessoPor_latched h).1, gessoPor_starts h⟩,
    gessoArmed_arms, gessoZcDecodeLive_lives, gessoRelatch_begins,
    fun hb => answers_of_next fun _ h => ⟨(gessoRelatchDone_latched hb h).1, gessoRelatchDone_ends hb h⟩,
    gessoRecordCrcCheck_relatches⟩

/-! ### Cross-comparison with the safety core (R161, R96, R98) -/

/-- The return of the path writes the relays owed and what the path drives. -/
theorem keep_releasePath_owed {w : Part → Bool} (rly : Bool) (s : State) (h : w .pads) :
    keep w (releasePath rly s) = keep w { s with safety := { s.safety with
      pathOwed := if pathWrites s then 0 else max s.safety.pathOwed (if rly then 2 else 1) } } := by
  unfold releasePath
  split
  · simp [h]
  · simp

/-- An answer counts as good or bad by its error alone, and shows the rotated challenge XORed with the error. -/
theorem heartbeatAnswer_counts {s : State} (err : Byte) (hr : s.safety.run = true) (hp : s.gesso.snap.published = true)
    (ha : s.gesso.snap.answered = false) : Answers (.heartbeatAnswer err) s fun t =>
      t.safety.hbLast = heartbeat s.gesso.snap.challenge ^^^ err ∧ t.safety.hbCnt = s.safety.hbCnt + 1 ∧
      t.gesso.goodRun = (if err = 0 then s.gesso.goodRun + 1 else 0) ∧
      t.gesso.badRun = (if err = 0 then 0 else s.gesso.badRun + 1) ∧ t.gesso.snap.answered = true ∧
      t.gesso.trip = s.gesso.trip := by
  refine answers_at_keep (parts [.pads]) rfl (fun _ => rfl) fun x hx => ?_
  simp [hr, hp, ha, keep_releasePath_owed] at hx
  rw [ite_eq_iff, ite_eq_iff] at hx
  obtain ⟨_, rfl⟩ | ⟨_, ⟨_, rfl⟩ | ⟨_, rfl⟩⟩ := hx <;> exact ⟨rfl, rfl, rfl, rfl, rfl, rfl⟩

/-- Settles O11: the answer without an error. -/
theorem heartbeatAnswered : Obligations.HeartbeatAnswered := by
  intro s hr hp ha
  obtain ⟨t, ht, hlast, hcnt, hgood, hbad, hans, htrip⟩ := heartbeatAnswer_counts 0 hr hp ha
  exact ⟨t, ht, hlast.trans (by simp [heartbeat]), hcnt, hgood, hbad, hans, htrip⟩

theorem scFaultLatch_latches {s : State} (hb : 2 ≤ s.gesso.badRun) (hf : s.gesso.scFault = false) :
    Answers .scFaultLatch s fun t => t.gesso.scFault = true ∧ t.pads.pathStopped = true ∧ t.gesso.trip = s.gesso.trip ∧
      t.pads.pathRly = s.pads.pathRly := by
  refine answers_at_inner rfl (fun _ => rfl) fun x hx => ?_
  simp [hb, hf, latchScFault, stopPath] at hx
  subst hx
  exact ⟨rfl, rfl, rfl, rfl⟩

theorem inner_pathTakes (snd : BitVec 4) (rly : BitVec 16) (s : State) : inner (pathTakes snd rly s) =
    inner { s with pads := { s.pads with pathSnd := snd, pathRly := rly } } := by
  unfold pathTakes
  split
  · simp
  · exact Eq.trans (b := inner (noteSwitches s (refreshOut _))) rfl (by simp)

/-- What the path takes leaves the stop alone. -/
theorem inner_writePath (s : State) : ∃ a b, inner (writePath s) =
    inner { s with pads := { s.pads with pathSnd := a, pathRly := b } } := by
  unfold writePath
  split
  · exact ⟨_, _, inner_pathTakes _ _ s⟩
  · exact ⟨_, _, rfl⟩

theorem scFaultClear_clears {s : State} (hg : 64 ≤ s.gesso.goodRun) (hf : s.gesso.scFault = true) :
    Answers .scFaultClear s fun t => t.gesso.scFault = false ∧ t.pads.pathStopped = s.safety.lockstep ∧
      t.gesso.trip = s.gesso.trip := by
  refine answers_at_inner rfl (fun _ => rfl) fun x hx => ?_
  obtain ⟨a, b, he⟩ := inner_writePath { s with
    gesso := { s.gesso with scFault := false }, pads := { s.pads with pathStopped := s.safety.lockstep } }
  simp [hg, hf, he] at hx
  subst hx
  exact ⟨rfl, rfl, rfl⟩

theorem scFirstAnswerTimeout_latches {s : State} {start : Nat} (hc : s.gesso.coreReset = some start)
    (hp : start + 200 * ms ≤ now s) (hf : s.gesso.scFault = false) (ha : s.sys.applied.getLsbD 3 = true) :
    Answers .scFirstAnswerTimeout s fun t => t.gesso.scFault = true ∧ t.pads.pathStopped = true := by
  refine answers_at_inner rfl (fun _ => rfl) fun x hx => ?_
  simp [hc, hp, hf, ha, passed, latchScFault, stopPath] at hx
  subst hx
  exact ⟨rfl, rfl⟩

/-- Settles O12: one answer counts, two bad ones latch, 64 good ones clear. -/
theorem gessoJudgesCore : Obligations.GessoJudgesCore := by
  intro s
  refine ⟨fun err he hr hp ha => ?_, scFaultLatch_latches, scFaultClear_clears, fun _ => scFirstAnswerTimeout_latches⟩
  obtain ⟨t, ht, _, _, hgood, hbad, _, htrip⟩ := heartbeatAnswer_counts err hr hp ha
  exact ⟨t, ht, hbad.trans (if_neg he), hgood.trans (if_neg he), htrip⟩

/-! ### SILENCE, RESET and chirps of Gesso (R81, R82, R105) -/

theorem gessoSilence_silences {s : State} (mask : BitVec 19) (ha : ackWrites s = true) :
    Answers (.gessoSilence mask) s fun t =>
      t.gesso.silenced = s.gesso.silenced ||| (s.gesso.trip &&& mask &&& ~~~justTripped s) ∧ t.gesso.trip = s.gesso.trip ∧
      t.gesso.record = s.gesso.record ∧ t.gesso.sen = s.gesso.sen ∧ t.pads.pathRly = s.pads.pathRly := by
  refine answers_at_inner rfl (fun _ => rfl) fun x hx => ?_
  simp [ha, gessoSilence] at hx
  subst hx
  exact ⟨rfl, rfl, rfl, rfl, rfl⟩

theorem gessoReset_resets {s : State} (mask : BitVec 19) (ha : ackWrites s = true) : Answers (.gessoReset mask) s fun t =>
    t.gesso.trip = s.gesso.trip &&& ~~~(mask &&& resettable s &&& ~~~justHit s) ∧
    t.gesso.silenced = s.gesso.silenced &&& t.gesso.trip ∧ t.gesso.record = s.gesso.record ∧ t.gesso.sen = s.gesso.sen ∧
    t.pads.pathRly = s.pads.pathRly := by
  refine answers_at_inner rfl (fun _ => rfl) fun x hx => ?_
  simp [ha, gessoResetTrips] at hx
  subst hx
  exact ⟨rfl, rfl, rfl, rfl, rfl⟩

theorem ack_outside_sequence {s : State} (ha : ackWrites s = false) (mask : BitVec 19) :
    ∀ c ∈ [Instr.gessoSilence mask, .gessoReset mask], Answers c s fun t => bare t = bare s := by
  intro c hc
  simp only [List.mem_cons, List.not_mem_nil, or_false] at hc
  obtain rfl | rfl := hc <;> exact answers_of_bare rfl fun t hb _ => hb.trans (by rw [ha]; rfl)

theorem noteSwitches_snd (old s : State) : (noteSwitches old s).pads.snd = s.pads.snd := by
  unfold noteSwitches
  refine (foldl_kept (·.pads.snd) (fun u i => ?_) _ _ :)
  split <;> rfl

/-- A TROUBLE chirp to a silent sounder under live outputs lasts 40 ms. -/
theorem chirp_snd {s : State} {k : Nat} (hl : outputsLive s = true) (ha : (sounder s k).alarm = false)
    (hc : (sounder s k).chirpEnd = none) (ho : s.gesso.outCmd.getLsbD k = false) :
    (chirp k false s).pads.snd = tblSet (fun _ => Sounder.blank) s.pads.snd k
      { sounder s k with chirpEnd := some (now s + 40 * ms), chirpProof := false } := by
  simp only [chirp, hl, ha, hc, ho, Bool.not_true, Bool.false_eq_true, if_false, Option.isSome_none, Bool.or_self]
  exact noteSwitches_snd _ _

theorem gessoChirp_sounds {s : State} {k : Fin 4} (hs : Settled s) (hr : s.safety.run = true) (hl : outputsLive s = true)
    (ha : (sounder s k.val).alarm = false) (hc : (sounder s k.val).chirpEnd = none)
    (ho : s.gesso.outCmd.getLsbD k.val = false) : Answers (.gessoChirp k false) s fun t =>
      t.pads.snd = tblSet (fun _ => Sounder.blank) s.pads.snd k.val
        { sounder s k.val with chirpEnd := some (now s + 40 * ms), chirpProof := false } ∧ bare t = bare s :=
  answers_of_settled (exec_gessoChirp k false hr) (settled_reports (sansReports_chirp _ _ _) hs)
    ⟨chirp_snd hl ha hc ho, bare_chirp _ _ _⟩

/-- In Tier 0 a due TROUBLE chirp of Gesso is noted as its last. -/
theorem gessoChirp_lastChirp {s : State} (ht : s.sys.tier = 0) (hd : chirpDue s = true) (hl : outputsLive s = true) :
    (gessoChirp s).gesso.lastChirp = some (now s) := by
  unfold gessoChirp
  rw [if_pos (by simp [ht, hd, hl])]
  refine (congrArg Gesso.lastChirp (foldl_gesso (fun u i => ?_) _ _) :)
  split <;> simp

theorem gessoTroubleChirp_chirps {s : State} (hs : Settled s) (ht : s.sys.tier = 0) (hd : chirpDue s = true)
    (hg : gessoTrouble s = true) (hl : outputsLive s = true) : Answers .gessoTroubleChirp s fun t =>
      t.gesso.lastChirp = some (now s) ∧ bare t = bare s := by
  have hrule : exec .gessoTroubleChirp s = finish s (gessoChirp s) := by
    change finish s (if gessoTrouble s || s.gesso.tier0Fault then gessoChirp s else s) = _
    rw [hg, Bool.true_or, if_pos rfl]
  exact answers_of_settled hrule (settled_reports (sansReports_gessoChirp s) hs)
    ⟨gessoChirp_lastChirp ht hd hl, bare_gessoChirp s⟩

/-- Settles O13: what each of the four writes. -/
theorem gessoWrites : Obligations.GessoWrites := fun _ =>
  ⟨gessoSilence_silences, gessoReset_resets, ack_outside_sequence, fun _ => gessoChirp_sounds, gessoTroubleChirp_chirps⟩

/-! ### Samples, dwells and class frames (R65 to R69, R533) -/

theorem swapTakes_sen (n : Nat) (s : State) : (swapTakes n s).gesso.sen = s.gesso.sen := by
  unfold swapTakes; split <;> rfl
theorem swapTakes_record (n : Nat) (s : State) : (swapTakes n s).gesso.record = s.gesso.record := by
  unfold swapTakes; split <;> rfl

theorem timeBands_band (en : Bool) (span : Nat) (d : Sentinel) :
    (timeBands en span d).band = d.band ∧ (timeBands en span d).known = d.known := by
  cases en <;> exact ⟨rfl, rfl⟩

/-- A sample of an armed Gesso: the sentinel's record anew, by the band that follows from the sample, and reports. -/
theorem gessoSample_effect {s : State} (n mv : Nat) (ha : s.gesso.armed = true) : ∃ d : Sentinel,
    bare (gessoSample n mv s) = bare (setSen n d (swapTakes n s)) ∧ d.known = true ∧
      d.band = nextBand s.gesso.record n mv (gSen s n) := by
  have hsen : gSen (swapTakes n s) n = gSen s n := by rw [gSen, gSen, swapTakes_sen]
  unfold gessoSample
  rw [if_pos ha]
  extract_lets u d vigil span d1 d2 normal d3 s0 s1
  have hd1 : d1.band = nextBand s.gesso.record n mv (gSen s n) := by
    simp only [d1, sampleBand, d, u, hsen, swapTakes_record]
  refine ⟨d3, ?_, (timeBands_band _ _ _).2, (timeBands_band _ _ _).1.trans hd1⟩
  have hs1 : bare s1 = bare s0 := by
    simp only [s1]
    split <;> simp
  rw [apply_ite bare, bare_evt, ite_self, hs1]

theorem gessoSentinelSample_samples {s : State} (n : Fin 16) (mv : Nat) (ha : s.gesso.armed = true) :
    Answers (.gessoSentinelSample n mv) s fun t =>
      (∃ d : Sentinel, t.gesso.sen = tblSet (fun _ => Sentinel.blank) s.gesso.sen n.val d ∧ d.known = true ∧
        d.band = nextBand s.gesso.record n.val mv (gSen s n.val)) ∧
      bare { t with gesso := { t.gesso with sen := s.gesso.sen } } = bare (swapTakes n.val s) := by
  obtain ⟨d, he, hk, hband⟩ := gessoSample_effect n.val mv ha
  refine answers_of_bare rfl fun t hb _ => ?_
  rw [he] at hb
  refine ⟨⟨d, (kept_of_bare (·.gesso.sen) (fun _ => rfl) hb).trans ?_, hk, hband⟩, ?_⟩
  · simp [setSen, swapTakes_sen]
  · refine (kept_of_bare (fun x => bare { x with gesso := { x.gesso with sen := s.gesso.sen } }) (fun _ => rfl) hb).trans ?_
    rw [← swapTakes_sen n.val s]
    rfl

/-- A source that is not latched latches (R69), and the counts of frames stay. -/
theorem latchTrip_fresh {src addr : Nat} {s : State} (h : s.gesso.trip.getLsbD src = false) :
    keep (parts [.proof]) (latchTrip src addr s) = keep (parts [.proof]) { s with gesso := { s.gesso with
      hitAt := tblSet (fun _ => 0) s.gesso.hitAt src (now s / ms + 1), trip := setBit s.gesso.trip src true
      tripAt := tblSet (fun _ => 0) s.gesso.tripAt src (now s / ms + 1), silenced := setBit s.gesso.silenced src false
      lastSrc := BitVec.ofNat 5 src, lastAddr := BitVec.ofNat 11 addr } } := by
  simp [latchTrip, h]
  rfl

theorem gessoAlarmDwellExpiry_trips {s : State} (n : Fin 16) (ha : s.gesso.armed = true)
    (he : recEn s.gesso.record n.val = true)
    (hd : dwellDone (gSen s n.val).alarmRun (recAdw s.gesso.record n.val) = true)
    (ht : s.gesso.trip.getLsbD n.val = false) : Answers (.gessoAlarmDwellExpiry n) s fun t =>
      t.gesso.trip = setBit s.gesso.trip n.val true ∧ t.gesso.silenced = setBit s.gesso.silenced n.val false ∧
      t.gesso.lastSrc = BitVec.ofNat 5 n.val ∧ t.gesso.sen = s.gesso.sen ∧ t.gesso.record = s.gesso.record := by
  refine answers_at_keep (parts [.proof]) rfl (fun _ => rfl) fun x hx => ?_
  simp [ha, he, hd, ht, latchTrip_fresh] at hx
  subst hx
  exact ⟨rfl, rfl, rfl, rfl, rfl⟩

theorem gessoTroubleDwellExpiry_troubles {s : State} (n : Fin 16) (ha : s.gesso.armed = true)
    (he : recEn s.gesso.record n.val = true)
    (hd : dwellDone (gSen s n.val).troubleRun (recTdw s.gesso.record n.val) = true)
    (ht : (gSen s n.val).trouble = false) : Answers (.gessoTroubleDwellExpiry n) s fun t =>
      bare t = bare (setSen n.val { gSen s n.val with trouble := true } s) :=
  answers_of_bare rfl fun t hb _ => hb.trans (by simp [ha, he, hd, ht])

theorem gessoTroubleClear_clears {s : State} (n : Fin 16)
    (hd : dwellDone (gSen s n.val).clearRun (recTdw s.gesso.record n.val) = true) (ht : (gSen s n.val).trouble = true) :
    Answers (.gessoTroubleClear n) s fun t =>
      bare t = bare (setSen n.val { gSen s n.val with trouble := false } s) :=
  answers_of_bare rfl fun t hb _ => hb.trans (by simp [hd, ht])

theorem tryHyp_ok {cs : List Copy} {slot n k : Nat} {bits : BitVec 24} {y : Bool}
    (h : tryHyp cs slot n = some (bits, k, y)) : frameOk bits = true ∧ k ≤ 2 := by
  unfold tryHyp at h
  split at h
  · cases h
  · dsimp only at h
    split at h
    · next hc =>
      simp only [Option.some.injEq, Prod.mk.injEq] at h
      obtain ⟨rfl, rfl, rfl⟩ := h
      simp only [Bool.and_eq_true, decide_eq_true_eq] at hc
      obtain ⟨⟨_, hok⟩, hk⟩ := hc
      exact ⟨hok, hk⟩
    · cases h

/-- A combination answers a whole frame with two single half-bits at most, of four or six copies (R533). -/
theorem combineSlot_ok {cs : List Copy} {slot : Nat} {bits : BitVec 24} {n : Nat} {y : Bool} {x : Combine}
    (h : combineSlot cs slot = some (bits, n, y, x)) : frameOk bits = true ∧ n ≤ 2 ∧ x ≠ .x1 := by
  unfold combineSlot at h
  split at h
  · next h6 =>
    simp only [Option.some.injEq, Prod.mk.injEq] at h
    obtain ⟨rfl, rfl, rfl, rfl⟩ := h
    obtain ⟨hok, hn⟩ := tryHyp_ok h6
    exact ⟨hok, hn, by decide⟩
  · simp only [Option.map_eq_some_iff, Prod.mk.injEq] at h
    obtain ⟨⟨b, k, y'⟩, h4, rfl, rfl, rfl, rfl⟩ := h
    obtain ⟨hok, hn⟩ := tryHyp_ok h4
    exact ⟨hok, hn, by decide⟩

theorem gessoTakes_gesso (a : Nat) (comb : Bool) (e : Taken) (s : State) : ∃ g : Gesso,
    gessoTakes a comb e s = { s with gesso := g } ∧ g.cntAcc = s.gesso.cntAcc ∧ g.trip = s.gesso.trip ∧
      g.cntDrop = s.gesso.cntDrop := by
  cases comb <;> exact ⟨_, rfl, rfl, rfl, rfl⟩

/-- A class frame that counts as seen before, or is combined, trips its class. -/
theorem gessoHeeds_trips {s : State} {slot fe c : Nat} {bits : BitVec 24} {comb : Bool} {before : Option (Nat × Bool)}
    (ht : s.gesso.trip.getLsbD (16 + c) = false) (hc : classOf (frameState bits) = some c)
    (hm : recZmask s.gesso.record (frameAddr bits) = false)
    (hhit : (comb || (confirmAlive (now s) before).isSome) = true) :
    ∃ g : Gesso, keep (parts [.proof]) (gessoHeeds slot fe bits comb before s) =
        keep (parts [.proof]) { s with gesso := g } ∧
      g.cntAcc = s.gesso.cntAcc ∧ g.trip = setBit s.gesso.trip (16 + c) true ∧
      g.lastAddr = BitVec.ofNat 11 (frameAddr bits) ∧ g.cntDrop = s.gesso.cntDrop := by
  unfold gessoHeeds
  obtain ⟨g, he, hacc, htrip, hdrop⟩ := gessoTakes_gesso (frameAddr bits) comb
    { slot := slot, fe := fe, content := frameState bits, before := confirmAlive (now s) before } s
  dsimp only
  rw [hc, hm, he]
  dsimp only
  rw [if_neg Bool.false_ne_true, if_pos hhit, latchTrip_fresh (by rw [← ht, ← htrip])]
  exact ⟨_, rfl, hacc, by rw [← htrip], rfl, hdrop⟩

/-- The first copy of a class frame that confirms: it counts as accepted and the class trips. -/
theorem gessoZcFrame_trips {s : State} {fe slot n c : Nat} {bits : BitVec 24} {x : Combine}
    (ha : s.gesso.armed = true) (hl : s.gesso.zcLive = true) (hz : recZen s.gesso.record = true)
    (hp : recZph s.gesso.record fe = true) (hon : phaseOn s fe = true) (hty : frameType bits = 0)
    (hok : frameOk bits = true) (hn : n ≤ 2) (ht : s.gesso.trip.getLsbD (16 + c) = false)
    (hfirst : slotKinds (if decide (x ≠ .x1) then s.gesso.takenComb else s.gesso.taken)
      (if decide (x ≠ .x1) then s.gesso.taken else s.gesso.takenComb) (frameAddr bits) slot fe (frameState bits) = .first)
    (hc : classOf (frameState bits) = some c) (hm : recZmask s.gesso.record (frameAddr bits) = false)
    (hhit : (decide (x ≠ .x1) ||
      (confirmAlive (now s) (tblGet (fun _ => none) s.gesso.confirm (frameAddr bits))).isSome) = true) :
    ∃ g : Gesso, keep (parts [.proof]) (gessoZcFrame fe slot bits n x s) = keep (parts [.proof]) { s with gesso := g } ∧
      g.cntAcc = s.gesso.cntAcc + 1 ∧ g.trip = setBit s.gesso.trip (16 + c) true ∧
      g.lastAddr = BitVec.ofNat 11 (frameAddr bits) ∧ g.cntDrop = s.gesso.cntDrop := by
  unfold gessoZcFrame
  rw [if_neg (by simp [ha, hl, hz, hp, hon, hty]), if_neg (by simp [hok, hn])]
  dsimp only
  rw [hfirst]
  exact gessoHeeds_trips (s := { s with gesso := { s.gesso with cntAcc := s.gesso.cntAcc + 1 } }) ht hc hm hhit

theorem gessoDrops_eq (th : Int) (lv : List (Int × Int)) (r : Reading) (s : State) :
    gessoDrops th lv r s = { s with gesso := { s.gesso with
      cntDrop := if typeRead th lv && frameType r.copy.bits == 0 then s.gesso.cntDrop + 1 else s.gesso.cntDrop } } := by
  unfold gessoDrops; split <;> rfl

theorem gessoZcFrame_class {s : State} {fe : Fin 3} {slot c : Nat} {lv : List (Int × Int)} {r : Reading} {comb : Bool}
    {bits : BitVec 24} (hr : r = readBody (gessoTh s fe.val) slot (synUsed s fe.val) (lv.drop 1))
    (ha : s.gesso.armed = true) (hl : s.gesso.zcLive = true) (hz : recZen s.gesso.record = true)
    (hp : recZph s.gesso.record fe.val = true) (hon : phaseOn s fe.val = true)
    (hs : startMark (gessoTh s fe.val) lv = true) (ht : s.gesso.trip.getLsbD (16 + c) = false)
    (halone : comb = false → readingOk r = true ∧ r.copy.bits = bits ∧
      combineSlot (keepCopy r.copy (tblGet (fun _ => []) s.gesso.copies fe.val)) slot = none ∧
      confirmAlive (now s) (tblGet (fun _ => none) s.gesso.confirm (frameAddr bits)) ≠ none)
    (hcomb : comb = true → readingOk r = false ∧ ∃ n y x,
      combineSlot (keepCopy r.copy (tblGet (fun _ => []) s.gesso.copies fe.val)) slot = some (bits, n, y, x))
    (hfirst : slotKinds (if comb then s.gesso.takenComb else s.gesso.taken)
      (if comb then s.gesso.taken else s.gesso.takenComb) (frameAddr bits) slot fe.val (frameState bits) = .first)
    (hty : frameType bits = 0) (hc : classOf (frameState bits) = some c)
    (hm : recZmask s.gesso.record (frameAddr bits) = false) : Answers (.gessoZcFrame fe slot lv) s fun t =>
      t.gesso.cntAcc = s.gesso.cntAcc + 1 ∧ t.gesso.trip = setBit s.gesso.trip (16 + c) true ∧
      t.gesso.lastAddr = BitVec.ofNat 11 (frameAddr bits) ∧
      t.gesso.cntDrop = (if comb && !r.erased && typeRead (gessoTh s fe.val) lv && frameType r.copy.bits == 0
        then s.gesso.cntDrop + 1 else s.gesso.cntDrop) := by
  generalize hcs : keepCopy r.copy (tblGet (fun _ => []) s.gesso.copies fe.val) = cs at halone hcomb
  let s1 : State := { s with gesso := { s.gesso with copies := tblSet (fun _ => []) s.gesso.copies fe.val cs } }
  refine answers_at_keep (parts [.proof]) rfl (fun _ => rfl) fun x hx => ?_
  rw [if_neg (by simp [ha, hl, hz, hp, hs]), if_neg (by simp [hon])] at hx
  dsimp only at hx
  rw [← hr, hcs] at hx
  change keep _ (match combineSlot cs slot with | some (bits, n, _, y) => _ | none => _) = x at hx
  cases comb with
  | false =>
    obtain ⟨hok, rfl, hnone, halive⟩ := halone rfl
    have hread := hok
    simp only [readingOk, Bool.and_eq_true, decide_eq_true_eq] at hread
    obtain ⟨⟨⟨_, hframe⟩, hn⟩, _⟩ := hread
    obtain ⟨g, he, hacc, htrip, haddr, hdrop⟩ := gessoZcFrame_trips (s := s1) (x := .x1) ha hl hz hp hon hty hframe hn ht
      hfirst hc hm (Option.isSome_iff_ne_none.2 halive)
    rw [hnone, hok] at hx
    obtain rfl := he.symm.trans hx
    exact ⟨hacc, htrip, haddr, hdrop⟩
  | true =>
    obtain ⟨hok, n, y, x, hsome⟩ := hcomb rfl
    obtain ⟨hframe, hn, hx1⟩ := combineSlot_ok hsome
    rw [hsome, hok, Bool.or_false] at hx
    let s2 : State := { s1 with gesso := { s1.gesso with
      cntDrop := if true && !r.erased && typeRead (gessoTh s fe.val) lv && frameType r.copy.bits == 0
        then s.gesso.cntDrop + 1 else s.gesso.cntDrop } }
    have hs2 : (if r.erased then s1 else gessoDrops (gessoTh s fe.val) lv r s1) = s2 := by
      rw [gessoDrops_eq]
      cases he : r.erased <;> simp [s2, he, s1]
    obtain ⟨g, he, hacc, htrip, haddr, hdrop⟩ := gessoZcFrame_trips (s := s2) (x := x) ha hl hz hp hon hty hframe hn ht
      (by simpa [hx1] using hfirst) hc hm (by simp [hx1])
    change keep _ (gessoZcFrame fe.val slot bits n x (if r.erased then s1 else gessoDrops (gessoTh s fe.val) lv r s1)) = _ at hx
    rw [hs2] at hx
    obtain rfl := he.symm.trans hx
    exact ⟨hacc, htrip, haddr, hdrop⟩

/-- Settles O9: what a sample, each dwell and a class frame write. -/
theorem gessoQualifies : Obligations.GessoQualifies := fun _ =>
  ⟨gessoSentinelSample_samples, gessoAlarmDwellExpiry_trips, gessoTroubleDwellExpiry_troubles, gessoTroubleClear_clears,
    fun _ _ _ _ _ _ _ => gessoZcFrame_class⟩

end Sys2Proof.Machine
end

section
/-!
PROOFS. The safety core: self-checks, lockstep, restarts and reloads of its record, its monitors, snapshots and criteria, and the
acknowledge sequence (03_safety_core_and_alarms.md).
-/

namespace Sys2Proof.Machine

/-! ### Self-checks, restarts and the record (R149 to R152, R158, log 77) -/

theorem domainSelfCheckDone_checks {s : State} (d : Domain) (pass : Bool) (ha : s.sys.applied.getLsbD d.bit = true)
    (hr : s.power.inReset = true → d.bit ≤ 1) : Answers (.domainSelfCheckDone d pass) s fun t =>
      t.sys.checked = setBit s.sys.checked d.bit pass ∧ t.sys.failed = setBit s.sys.failed d.bit (!pass) ∧
      t.sys.applied = s.sys.applied ∧ t.gesso.trip = s.gesso.trip ∧ t.safety.alarms = s.safety.alarms := by
  have hcond : (s.sys.applied.getLsbD d.bit && !(s.power.inReset && decide (1 < d.bit))) = true := by
    cases h : s.power.inReset with
    | false => simp [ha]
    | true => simpa [ha] using hr h
  refine answers_at_keep (parts [.mirror]) rfl (fun _ => rfl) fun x hx => ?_
  dsimp only at hx
  rw [if_pos hcond] at hx
  simp [firmwareFails] at hx
  rw [ite_eq_iff] at hx
  obtain ⟨_, rfl⟩ | ⟨_, rfl⟩ := hx <;> exact ⟨rfl, rfl, rfl, rfl, rfl⟩

/-- The stopped path, read at what is left. -/
theorem inner_stopPath_at (s : State) : inner (stopPath s) =
    inner { inner s with pads := { (inner s).pads with pathStopped := true } } := by
  rw [stopPath, inner_noteSwitches]
  rfl

/-- A fault of the pair halts the core; only a mismatch counts (log 77). -/
theorem lockstepMismatch_halts {s : State} (fault : CoreFault) (ha : s.sys.applied.getLsbD 3 = true)
    (hr : s.power.inReset = false) (hl : s.safety.lockstep = false) (hf : s.safety.fwFail = false) :
    Answers (.lockstepMismatch fault) s fun t =>
      t.safety.lsCnt = (if fault = .mismatch then s.safety.lsCnt + 1 else s.safety.lsCnt) ∧
      t.safety.sram = (if fault = .sram then true else s.safety.sram) ∧ t.safety.fwFail = decide (fault = .rom) ∧
      t.safety.run = false ∧ t.safety.core = true ∧ t.safety.alarms = s.safety.alarms ∧
      t.pads.pathSnd = s.pads.pathSnd ∧ t.pads.pathRly = s.pads.pathRly := by
  refine answers_at_inner rfl (fun _ => rfl) fun x hx => ?_
  rw [if_pos (by simp [ha, hr, hl, hf])] at hx
  cases fault with
  | mismatch =>
    simp [lockstepFails, coreRestarts, inner_stopPath_at] at hx
    rw [ite_eq_iff] at hx
    obtain ⟨_, rfl⟩ | ⟨_, rfl⟩ := hx <;> exact ⟨rfl, rfl, hf, rfl, rfl, rfl, rfl, rfl⟩
  | sram =>
    simp [coreRestarts] at hx
    subst hx
    exact ⟨rfl, rfl, hf, rfl, rfl, rfl, rfl, rfl⟩
  | rom =>
    simp [firmwareFails] at hx
    subst hx
    exact ⟨rfl, rfl, rfl, rfl, rfl, rfl, rfl, rfl⟩

theorem safetyCoreRestartDone_resumes {s : State} (setOk : Bool) (hr : s.safety.run = false)
    (hl : s.safety.lockstep = false) (hf : s.safety.fwFail = false) (ha : s.sys.applied.getLsbD 3 = true)
    (hi : s.power.inReset = false) : Answers (.safetyCoreRestartDone setOk) s fun t =>
        t.safety.run = true ∧ t.safety.record = (coreRecord s).1 ∧ t.safety.recordCrc = (coreRecord s).2 ∧
        t.safety.alarms = (if setOk && !s.safety.setLost then s.safety.alarms else 0) ∧
        t.safety.sil = (if setOk && !s.safety.setLost then s.safety.sil else 0) ∧
        t.safety.mon = troubleOnly s.safety.mon ∧ bare { t with pads := s.pads } = bare t ∧ t.gesso.firstAnswer = false := by
  have hrule : exec (.safetyCoreRestartDone setOk) s = execSafetyCoreRestartDone setOk s := rfl
  unfold execSafetyCoreRestartDone at hrule
  rw [if_pos (by simp [hr, hl, hf, ha, hi])] at hrule
  generalize hrec : coreRecord s = r at hrule ⊢
  obtain ⟨r, crc⟩ := r
  refine answers_of_bare hrule fun t hb _ => ?_
  exact ⟨(kept_of_bare (·.safety.run) (fun _ => rfl) hb :), (kept_of_bare (·.safety.record) (fun _ => rfl) hb :),
    (kept_of_bare (·.safety.recordCrc) (fun _ => rfl) hb :), (kept_of_bare (·.safety.alarms) (fun _ => rfl) hb :),
    (kept_of_bare (·.safety.sil) (fun _ => rfl) hb :), (kept_of_bare (·.safety.mon) (fun _ => rfl) hb :),
    (kept_of_bare (fun x => bare { x with pads := s.pads }) (fun _ => rfl) hb).trans hb.symm,
    (kept_of_bare (·.gesso.firstAnswer) (fun _ => rfl) hb :)⟩

theorem safeRecordReload_reloads {s : State} (hr : s.safety.run = true) (hd : s.safety.reloadDue.isSome = true)
    (ht : atFrame s = true) : Answers .safeRecordReload s fun t =>
      t.safety.record = (coreRecord s).1 ∧ t.safety.reloadDue = none ∧ t.safety.confirm = [] ∧
      t.safety.alarms = s.safety.alarms := by
  have hrule : exec .safeRecordReload s = execSafeRecordReload s := rfl
  unfold execSafeRecordReload at hrule
  rw [if_pos (by simp [hr, hd, ht])] at hrule
  generalize coreRecord s = r at hrule ⊢
  obtain ⟨r, crc⟩ := r
  refine answers_at_keep (parts [.pads]) hrule (fun _ => rfl) fun x hx => ?_
  simp at hx
  subst hx
  exact ⟨rfl, rfl, rfl, rfl⟩

theorem regionACheck_compares {s : State} (hr : s.safety.run = true) : Answers .regionACheck s fun t =>
    bare t = bare { s with safety := { s.safety with recPend := decide ((recLatch s.mem).2.1 ≠ s.gesso.cfgCrc) } } :=
  answers_of_bare (u := { s with safety :=
    { s.safety with recPend := decide ((recLatch s.mem).2.1 ≠ s.gesso.cfgCrc) } })
    (congrArg (finish s) (if_pos hr)) fun _ hb _ => hb

/-- Settles O16: only a mismatch counts in LS_CNT (log 77, the model's choice). -/
theorem safetyCoreRestarts : Obligations.SafetyCoreRestarts := fun _ =>
  ⟨domainSelfCheckDone_checks, lockstepMismatch_halts, safetyCoreRestartDone_resumes, safeRecordReload_reloads,
    regionACheck_compares⟩

/-! ### Monitors, snapshots and criteria (R121, R141, R143, R156) -/

/-- A monitor's sample: its record anew, by the band that follows from the sample, and reports. -/
theorem monitorSample_effect {s : State} (n mv : Nat) (hr : s.safety.run = true) : ∃ d : Sentinel,
    bare (monitorSample n mv s) = bare (setMon n d s) ∧ d.known = true ∧
      d.band = nextBand s.safety.record n mv (mSen s n) := by
  unfold monitorSample
  rw [if_pos hr]
  extract_lets r d set_ clr tr tr' s1
  refine ⟨{ d with trouble := tr' }, ?_, (timeBands_band _ _ _).2, (timeBands_band _ _ _).1⟩
  rw [apply_ite bare, bare_setCause, ite_self]

theorem monitorSample_samples {s : State} (n : Fin 16) (mv : Nat) (hr : s.safety.run = true) :
    Answers (.monitorSample n mv) s fun t =>
      (∃ d : Sentinel, t.safety.mon = tblSet (fun _ => Sentinel.blank) s.safety.mon n.val d ∧ d.known = true ∧
        d.band = nextBand s.safety.record n.val mv (mSen s n.val)) ∧
      bare { t with safety := { t.safety with mon := s.safety.mon } } = bare s := by
  obtain ⟨d, he, hk, hband⟩ := monitorSample_effect n.val mv hr
  refine answers_of_bare rfl fun t hb _ => ?_
  rw [he] at hb
  exact ⟨⟨d, (kept_of_bare (·.safety.mon) (fun _ => rfl) hb :), hk, hband⟩,
    (kept_of_bare (fun x => bare { x with safety := { x.safety with mon := s.safety.mon } }) (fun _ => rfl) hb :)⟩

/-- Holding writes what is held and since when. -/
theorem setHeld_of_keep {w : Part → Bool} {b : Bool} {u v : State} (hw : w .safety = false) (h : keep w u = keep w v) :
    ∃ held at_ was, keep w (setHeld b u) =
      keep w { v with safety := { v.safety with held := held, heldAt := at_, heldWas := was } } := by
  have hc (held at_ was) := keep_safety_congr (fun f => { f with held := held, heldAt := at_, heldWas := was })
    (fun _ => rfl) h hw
  unfold setHeld
  split
  · exact ⟨_, _, _, hc u.safety.held u.safety.heldAt u.safety.heldWas⟩
  · exact ⟨_, _, _, hc b (now u) _⟩

/-- What a latched alarm writes beside the path and a paused proof: the set, its token and what is held. -/
theorem latchAlarm_fresh {s : State} {src : Nat} (addr : Nat) (h : s.safety.alarms.getLsbD src = false) :
    ∃ f : Safety, keep (parts [.pads, .proof]) (latchAlarm src addr s) =
        keep (parts [.pads, .proof]) { s with safety := f } ∧
      f.alarms = setBit s.safety.alarms src true ∧ f.sil = setBit s.safety.sil src false ∧
      f.token = (if s.safety.tokenTick = some (tickNo s) then s.safety.token else s.safety.token + 1) ∧
      f.mon = s.safety.mon ∧ f.crit = s.safety.crit := by
  unfold latchAlarm
  rw [if_neg (by simp [h])]
  extract_lets f s1 s2
  have hs : keep (parts [.pads, .proof]) (evt 347 <| logPush 0x010 (BitVec.ofNat 32 (src + addr * 256)) (setIrq 0 s1)) =
      keep (parts [.pads, .proof]) s1 := by simp
  obtain ⟨held, at_, was, he⟩ := setHeld_of_keep (b := true) rfl hs
  exact ⟨_, Eq.trans (by simp [s2]) he, rfl, rfl, rfl, rfl, rfl⟩

theorem scSentinelAlarmLatch_latches {s : State} (n : Fin 16) (hr : s.safety.run = true)
    (he : recEn s.safety.record n.val = true)
    (hd : dwellDone (mSen s n.val).alarmRun (recAdw s.safety.record n.val) = true)
    (ha : s.safety.alarms.getLsbD n.val = false) (ht : s.safety.tokenTick ≠ some (tickNo s)) :
    Answers (.scSentinelAlarmLatch n) s fun t =>
        t.safety.alarms = setBit s.safety.alarms n.val true ∧ t.safety.sil = setBit s.safety.sil n.val false ∧
        t.safety.token = s.safety.token + 1 ∧ t.safety.mon = s.safety.mon ∧ t.gesso.trip = s.gesso.trip := by
  obtain ⟨f, hk, halarms, hsil, htoken, hmon, _⟩ := latchAlarm_fresh 0 ha
  refine answers_of_keep (parts [.pads, .proof]) { s with safety := f } rfl ?_ (fun _ => rfl)
    ⟨halarms, hsil, htoken.trans (if_neg ht), hmon, rfl⟩
  simp only [hr, he, hd, Bool.and_self, if_true]
  exact hk

/-- A state without what the judgement of a snapshot's rows and the hold on it write (R156). -/
def unjudged (s : State) : State := bare { s with safety := { s.safety with
  disRun := [], disNow := [], xdisItem := 0, xdisIndex := 0, xdisCnt := 0, held := false, heldAt := 0, heldWas := false } }

theorem unjudged_of_bare {s t : State} (e : bare t = bare s) : unjudged t = unjudged s :=
  kept_of_bare unjudged (fun _ => rfl) e

theorem unjudged_judgeRow (s : State) (row : Nat × Nat × Bool) : unjudged (judgeRow s row) = unjudged s := by
  obtain ⟨item, idx, diff⟩ := row
  unfold judgeRow
  dsimp only
  generalize (if diff then rowRun s item (32 * item + idx) else 0) = run
  split
  · exact (unjudged_of_bare ((bare_evt _ _).trans ((bare_raiseCause _ _ _ _).trans (bare_logPush _ _ _)))).trans rfl
  · split
    · exact (unjudged_of_bare (bare_dropCause _ _ _)).trans rfl
    · rfl

theorem unjudged_setHeld (b : Bool) (s : State) : unjudged (setHeld b s) = unjudged s := by
  unfold setHeld; split <;> rfl

theorem snapshotCompare_compares {s : State} (hr : s.safety.run = true) (hp : s.gesso.snap.published = true)
    (hl : s.safety.lastCmp ≠ s.gesso.chalCount) : Answers .snapshotCompare s fun t =>
      t.safety.lastCmp = s.gesso.chalCount ∧
      t.safety.gessoOnly = s.gesso.snap.trip &&& s.gesso.trip &&& ~~~(s.safety.alarms.setWidth 19) ∧
      t.safety.alarms = s.safety.alarms ∧ bare { t with safety := s.safety } = bare s := by
  have hrule : exec .snapshotCompare s = execSnapshotCompare s := rfl
  unfold execSnapshotCompare at hrule
  rw [if_pos (by simp [hr, hp, hl])] at hrule
  refine answers_of_bare hrule fun t hb _ => ?_
  have hu := unjudged_of_bare hb
  rw [foldl_kept unjudged unjudged_judgeRow, apply_ite unjudged, unjudged_setHeld, ite_self] at hu
  exact ⟨(congrArg (·.safety.lastCmp) hu :), (congrArg (·.safety.gessoOnly) hu :), (congrArg (·.safety.alarms) hu :),
    (congrArg (fun x => bare { x with safety := s.safety }) hu :)⟩

/-- A detection function judged may latch an alarm and leaves the criteria. -/
theorem judgeDf_crit (d : Nat) (s : State) : (judgeDf d s).safety.crit = s.safety.crit := by
  have hc : (setCause (512 + d) 0 (dfTrouble s d) s).safety.crit = s.safety.crit :=
    kept_of_bare (·.safety.crit) (fun _ => rfl) (bare_setCause _ _ _ _)
  unfold judgeDf
  generalize setCause (512 + d) 0 (dfTrouble s d) s = s1 at hc ⊢
  dsimp only
  split
  · refine Eq.trans ?_ hc
    cases h : s1.safety.alarms.getLsbD (22 + d) with
    | true => rw [latchAlarm, if_pos h]
    | false =>
      obtain ⟨f, hk, _, _, _, _, hcrit⟩ := latchAlarm_fresh 0 h
      exact (kept_of_keep (·.safety.crit) (fun _ => rfl) hk).trans hcrit
  · exact hc

theorem criterionDwellExpiry_confirms {s : State} (j : Fin 256) (since : Nat) (hr : s.safety.run = true)
    (hk : crKind s j.val = 1 ∨ crKind s j.val = 2) (hs : (crit s j.val).since = some since)
    (hp : since + crTime s j.val ≤ now s) (ht : (crit s j.val).isTrue = false) (ha : crArb s j.val = false) :
    Answers (.criterionDwellExpiry j) s fun t =>
        t.safety.crit = tblSet (fun _ => Criterion.blank) s.safety.crit j.val
          { crit s j.val with isTrue := true, confirmed := true } := by
  have hrule : exec (.criterionDwellExpiry j) s = finish s (critTrue j.val s) := by
    change finish s _ = _
    rw [if_pos (by simpa [hr] using hk), hs]
    simp [passed, hp]
  refine answers_of_bare hrule fun t hb _ => (kept_of_bare (·.safety.crit) (fun _ => rfl) hb).trans ?_
  rw [critTrue, ht, if_neg Bool.false_ne_true, ha, if_neg Bool.false_ne_true, judgeDf_crit]
  rfl

theorem arbTimeout_confirms {s : State} (j : Fin 256) (due : Nat) (hr : s.safety.run = true)
    (hd : (crit s j.val).arbDue = some due) (hn : due ≤ now s) (ht : (crit s j.val).isTrue = true) :
    Answers (.arbTimeout j) s fun t =>
        t.safety.crit = tblSet (fun _ => Criterion.blank) s.safety.crit j.val
          { crit s j.val with confirmed := true, unarb := true, arbDue := none } := by
  have hrule : exec (.arbTimeout j) s = finish s (judgeDf (j.val / 4)
      (setCrit j.val { crit s j.val with confirmed := true, unarb := true, arbDue := none } s)) := by
    change finish s (match (crit s j.val).arbDue with | some _ => _ | none => _) = _
    rw [hd]
    simp [hr, hn, ht]
  refine answers_of_bare hrule fun t hb _ => (kept_of_bare (·.safety.crit) (fun _ => rfl) hb).trans ?_
  rw [judgeDf_crit]
  rfl

theorem noteSwitches_safety (old s : State) : (noteSwitches old s).safety = s.safety := by
  unfold noteSwitches
  refine (foldl_kept (·.safety) (fun u i => ?_) _ _ :)
  split <;> rfl

theorem chirp_safety (k : Nat) (proof : Bool) (s : State) : (chirp k proof s).safety = s.safety := by
  unfold chirp
  dsimp only
  split
  · rfl
  · split
    · rfl
    · exact noteSwitches_safety _ _

theorem chirpMask_safety (m : BitVec 4) (s : State) : (chirpMask m s).safety = s.safety := by
  refine (foldl_kept (·.safety) (fun u k => ?_) _ _ :)
  split
  · exact chirp_safety k false u
  · rfl

theorem safetyTroubleChirp_chirps {s : State} (hr : s.safety.run = true) (hu : unacked s = true)
    (hm : fld (par s (parAddr 4 0)) 0 2 = 2) (hs : Settled s) (hl : s.safety.lastChirp = none) (ht : atTick s = true) :
    Answers .safetyTroubleChirp s fun t => bare t = bare s ∧ t.safety.lastChirp = some (now s) := by
  have hrule : exec .safetyTroubleChirp s = finish s (chirpMask (BitVec.ofNat 4 (fld (par s (parAddr 4 0)) 2 4))
      { s with safety := { s.safety with lastChirp := some (now s) } }) := by
    have hc : chirpCond s = true := by simp [chirpCond, hr, hu, hm]
    change finish s (if chirpCond s && (match s.safety.lastChirp with | some t => _ | none => true) && atTick s then _ else _)
      = _
    rw [hc, hl, ht]
    rfl
  exact answers_of_settled hrule (settled_reports ((sansReports_chirpMask _ _).trans rfl) hs)
    ⟨(bare_chirpMask _ _).trans rfl, by rw [chirpMask_safety]⟩

/-- Settles O19: what each sample, comparison, dwell and chirp of the core writes. -/
theorem safetyCoreQualifies : Obligations.SafetyCoreQualifies := fun _ =>
  ⟨monitorSample_samples, scSentinelAlarmLatch_latches, snapshotCompare_compares, criterionDwellExpiry_confirms,
    arbTimeout_confirms, safetyTroubleChirp_chirps⟩

/-! ### The acknowledge sequence (R172, R173, R180) -/

/-- The answer to an acknowledge write: its result, with nothing pending. -/
def ackAnswered (res : Nat) (f : Safety) : Safety := { f with ackRes := BitVec.ofNat 2 res, ackPending := none }

theorem keep_acknowledged {s u : State} (op res : Nat)
    (h : keep (parts [.mirror, .pads]) s = keep (parts [.mirror, .pads]) u) :
    keep (parts [.mirror, .pads]) (mirrorForwardAck op (ackDone op res s)) =
      keep (parts [.mirror, .pads]) { u with safety := ackAnswered res u.safety } := by
  rw [keep_mirrorForwardAck _ _ rfl, keep_of_inner (inner_of_bare (bare_ackDone op res s))]
  exact keep_safety_congr (ackAnswered res) (fun _ => rfl) h rfl

theorem releasePath_owes {w : Part → Bool} {u v : State} (rly : Bool) (h : keep w u = keep w v) (hw : w .safety = false)
    (hp : w .pads = true) : ∃ n, keep w (releasePath rly u) =
      keep w { v with safety := { v.safety with pathOwed := n } } := by
  obtain ⟨n, hn⟩ : ∃ n, keep w (releasePath rly u) = keep w { u with safety := { u.safety with pathOwed := n } } :=
    ⟨_, keep_releasePath_owed rly u hp⟩
  have hc := keep_safety_congr (fun f => { f with pathOwed := n }) (fun _ => rfl) h hw
  exact ⟨n, hn.trans hc⟩

/-- Gesso's silence after a state of which Gesso's trips are known. -/
theorem gessoSilence_of_keep {w : Part → Bool} {u v : State} (h : keep w u = keep w v) (hw : w .gesso = false)
    (ht : w .time = false) (mask : BitVec 19) : keep w (gessoSilence mask u) = keep w { v with gesso := { v.gesso with
      silenced := v.gesso.silenced ||| (v.gesso.trip &&& mask &&& ~~~justTripped v) } } := by
  have hg : innerGesso u.gesso = innerGesso v.gesso := same_of_keep h (p := .gesso) hw
  have htime : u.time = v.time := same_of_keep h (p := .time) ht
  have hnow : now u = now v := congrArg (·.easel) htime
  have htrip : u.gesso.trip = v.gesso.trip := (congrArg Gesso.trip hg :)
  have hat : u.gesso.tripAt = v.gesso.tripAt := (congrArg Gesso.tripAt hg :)
  have hj : justTripped u = justTripped v := by unfold justTripped inPeriod; rw [hnow, hat]
  unfold gessoSilence
  rw [keep_refreshOut, hj, htrip]
  exact keep_gesso_congr (fun g => { g with
    silenced := g.silenced ||| (v.gesso.trip &&& mask &&& ~~~justTripped v) }) (fun _ => rfl) h hw

theorem keep_silenceAll_at (s : State) : ∃ owed, keep (parts [.mirror, .pads]) (silenceAll s) =
    keep (parts [.mirror, .pads]) { s with
      safety := { s.safety with sil := s.safety.sil ||| s.safety.alarms, pathOwed := owed }
      gesso := { s.gesso with silenced := s.gesso.silenced ||| (s.gesso.trip &&& s.gesso.trip &&& ~~~justTripped s) } } := by
  obtain ⟨n, h⟩ := releasePath_owes (w := parts [.mirror, .pads]) false
    (rfl : keep _ { s with safety := { s.safety with sil := s.safety.sil ||| s.safety.alarms } } = keep _ _) rfl rfl
  exact ⟨n, gessoSilence_of_keep h rfl rfl s.gesso.trip⟩

theorem ackSilence_silences {s : State} (hd : ackDue s 0xA5 = some s.safety.token.toNat) (ht : s.sys.tier = 2) :
    Answers .ackSilence s fun t =>
      t.safety.ackRes = 1 ∧ t.safety.ackPending = none ∧ t.safety.sil = s.safety.sil ||| s.safety.alarms ∧
      t.safety.alarms = s.safety.alarms ∧ t.gesso.silenced = s.gesso.silenced ||| (s.gesso.trip &&& ~~~justTripped s) ∧
      t.gesso.trip = s.gesso.trip := by
  have hrule : exec .ackSilence s = finish s (mirrorForwardAck 0xA5 (ackDone 0xA5 1 (silenceAll s))) := by
    change execAckSilence s = _
    simp only [execAckSilence, hd, ht, ne_eq, not_true_eq_false, if_false]
  obtain ⟨owed, he⟩ := keep_silenceAll_at s
  refine answers_of_keep _ _ hrule (keep_acknowledged 0xA5 1 he) (fun _ => rfl) ⟨rfl, rfl, rfl, rfl, ?_, rfl⟩
  show s.gesso.silenced ||| (s.gesso.trip &&& s.gesso.trip &&& ~~~justTripped s) = _
  rw [BitVec.and_self]

/-- What RESET writes of the core's own record, the alarms still held and Gesso's trips given. -/
def safetyReset (held : BitVec 86) (trip : BitVec 19) (f : Safety) : Safety := { f with
  alarms := held, sil := f.sil &&& held, unknown := false, gessoOnly := f.gessoOnly &&& trip
  blocked := decide (held ≠ 0) || decide (trip ≠ 0) }

theorem inner_gessoResetTrips (mask : BitVec 19) (s : State) : ∃ g : Gesso,
    inner (gessoResetTrips mask s) = inner { s with gesso := g } ∧
      g.trip = s.gesso.trip &&& ~~~(mask &&& resettable s &&& ~~~justHit s) :=
  ⟨_, inner_refreshOut _, rfl⟩

/-- The path released after what is held: the alarms and UNKNOWN stay. -/
theorem keep_releasePath_setHeld {v s : State} {w : Part → Bool} (b rly : Bool) (h : keep w v = keep w s)
    (hw : w .safety = false) (hp : w .pads = true) : ∃ f : Safety, keep w (releasePath rly (setHeld b v)) =
      keep w { s with safety := f } ∧ f.alarms = s.safety.alarms ∧ f.unknown = s.safety.unknown := by
  obtain ⟨held, at_, was, hh⟩ := setHeld_of_keep (b := b) hw h
  obtain ⟨n, hn⟩ := releasePath_owes rly hh hw hp
  exact ⟨_, hn, rfl, rfl⟩

theorem keep_resetAll_at (s : State) : ∃ f : Safety, ∃ g : Gesso, keep (parts [.mirror, .pads]) (resetAll s) =
      keep (parts [.mirror, .pads]) { s with safety := f, gesso := g } ∧
    f.alarms = stillHeld s ∧ f.unknown = false ∧ g.trip = s.gesso.trip &&& ~~~(resettable s &&& ~~~justHit s) := by
  obtain ⟨g, h, htrip⟩ := inner_gessoResetTrips (BitVec.allOnes 19) s
  rw [BitVec.allOnes_and] at htrip
  have hk := keep_safety_congr (w := parts [.mirror, .pads]) (safetyReset (stillHeld s) g.trip) (fun _ => rfl)
    (keep_of_inner h) rfl
  have ht : (gessoResetTrips (BitVec.allOnes 19) s).gesso.trip = g.trip := (kept_of_inner (·.gesso.trip) (fun _ => rfl) h :)
  unfold resetAll
  generalize gessoResetTrips (BitVec.allOnes 19) s = u at h ht hk ⊢
  dsimp only
  rw [ht]
  obtain ⟨f, hf, halarms, hunknown⟩ := keep_releasePath_setHeld _ true hk rfl rfl
  exact ⟨f, g, hf, halarms, hunknown, htrip⟩

theorem ackReset_resets {s : State} (hd : ackDue s 0xC3 = some s.safety.token.toNat) (ht : s.sys.tier = 2)
    (ha : allSilenced s = true) : Answers .ackReset s fun t =>
      t.safety.ackRes = 1 ∧ t.safety.ackPending = none ∧ t.safety.alarms = stillHeld s ∧ t.safety.unknown = false ∧
      t.gesso.trip = s.gesso.trip &&& ~~~(resettable s &&& ~~~justHit s) := by
  have hrule : exec .ackReset s = finish s (mirrorForwardAck 0xC3 (ackDone 0xC3 1 (resetAll s))) := by
    change execAckReset s = _
    simp [execAckReset, hd, ht, ha]
  obtain ⟨f, g, he, halarms, hunknown, htrip⟩ := keep_resetAll_at s
  exact answers_of_keep _ _ hrule (keep_acknowledged 0xC3 1 he) (fun _ => rfl) ⟨rfl, rfl, halarms, hunknown, htrip⟩

theorem chirpSettle_eq (s : State) : ∃ c, chirpSettle s = { s with safety := { s.safety with lastChirp := c } } := by
  unfold chirpSettle
  split
  · exact ⟨_, rfl⟩
  · exact ⟨none, rfl⟩

theorem hubBcast_causes (code : Nat) (s : State) : (hubBcast code s).safety.causes = s.safety.causes := by
  unfold hubBcast; split <;> rfl

theorem troubleAck_causes (s : State) : (troubleAck s).safety.causes =
    (s.safety.causes.filter fun c => !c.event).map (fun c => { c with acked := true }) := by
  unfold troubleAck
  extract_lets ended kept f s1
  have h : (if kept.isEmpty && !ended.isEmpty then hubBcast 0 s1 else s1).safety.causes = kept := by
    split
    · exact hubBcast_causes 0 s1
    · rfl
  obtain ⟨c, he⟩ := chirpSettle_eq (if kept.isEmpty && !ended.isEmpty then hubBcast 0 s1 else s1)
  rw [he]
  exact h

theorem bare_troubleAck (s : State) : bare (troubleAck s) = bare { s with safety := { s.safety with core := false } } := by
  unfold troubleAck
  extract_lets ended kept f s1
  obtain ⟨c, he⟩ := chirpSettle_eq (if kept.isEmpty && !ended.isEmpty then hubBcast 0 s1 else s1)
  rw [he]
  refine Eq.trans (b := bare (if kept.isEmpty && !ended.isEmpty then hubBcast 0 s1 else s1)) rfl ?_
  rw [apply_ite bare, bare_hubBcast, ite_self]
  rfl

theorem mirrorForwardAck_safety (op : Nat) (s : State) : (mirrorForwardAck op s).safety = s.safety := by
  unfold mirrorForwardAck
  split
  · split <;> rfl
  · rfl

theorem logPush_safety (code : Nat) (v : Word) (s : State) : (logPush code v s).safety = s.safety := by
  unfold logPush logAt; split <;> rfl

theorem ackDone_safety (op res : Nat) (s : State) : (ackDone op res s).safety =
    { s.safety with ackRes := BitVec.ofNat 2 res, ackPending := none } := by
  unfold ackDone
  exact logPush_safety _ _ _

theorem mirrorForwardAck_tier (op : Nat) (s : State) :
    tierOf (mirrorForwardAck op s) = tierOf s ∧ (mirrorForwardAck op s).sys.tier = s.sys.tier := by
  unfold mirrorForwardAck
  split
  · split <;> exact ⟨rfl, rfl⟩
  · exact ⟨rfl, rfl⟩

theorem troubleAck_sys (s : State) : (troubleAck s).sys = s.sys := by
  unfold troubleAck
  extract_lets ended kept f s1
  obtain ⟨c, he⟩ := chirpSettle_eq (if kept.isEmpty && !ended.isEmpty then hubBcast 0 s1 else s1)
  rw [he]
  refine (apply_ite State.sys _ _ _).trans ?_
  rw [sys_reports (sansReports_hubBcast 0 s1), ite_self]

theorem ackDone_sys (op res : Nat) (s : State) : (ackDone op res s).sys = s.sys := by
  unfold ackDone
  exact (sys_reports ((sansReports_evt _ _).trans (sansReports_logPush _ _ _))).trans rfl

/-- The tier's inputs hold nothing of the core's marks. -/
theorem settled_troubleAcked {s : State} (hs : Settled s) : Settled (mirrorForwardAck 0x96 (ackDone 0x96 1 (troubleAck s))) := by
  obtain ⟨ht, hsys⟩ := mirrorForwardAck_tier 0x96 (ackDone 0x96 1 (troubleAck s))
  have hb : bare (ackDone 0x96 1 (troubleAck s)) = bare { s with safety := { s.safety with
      core := false, ackRes := 1, ackPending := none } } :=
    (bare_ackDone _ _ _).trans (kept_of_bare (fun x => bare { x with safety := { x.safety with
      ackRes := 1, ackPending := none } }) (fun _ => rfl) (bare_troubleAck s))
  unfold Settled
  rw [ht, hsys, tierOf_kept hb, ackDone_sys, troubleAck_sys]
  exact hs

theorem ackTroubleAck_acknowledges {s : State} (hs : Settled s) (hd : ackDue s 0x96 = some s.safety.token.toNat) :
    Answers .ackTroubleAck s fun t =>
      t.safety.ackRes = 1 ∧ t.safety.ackPending = none ∧ t.safety.core = false ∧
      t.safety.causes = (s.safety.causes.filter fun c => !c.event).map (fun c => { c with acked := true }) ∧
      t.safety.alarms = s.safety.alarms := by
  have hrule : exec .ackTroubleAck s = finish s (mirrorForwardAck 0x96 (ackDone 0x96 1 (troubleAck s))) := by
    change execAckTroubleAck s = _
    simp only [execAckTroubleAck, hd, ne_eq, not_true_eq_false, if_false]
  have hf : (mirrorForwardAck 0x96 (ackDone 0x96 1 (troubleAck s))).safety =
      { (troubleAck s).safety with ackRes := 1, ackPending := none } := by
    rw [mirrorForwardAck_safety, ackDone_safety]; rfl
  have hb := bare_troubleAck s
  refine answers_of_settled hrule (settled_troubleAcked hs) ?_
  rw [hf]
  exact ⟨rfl, rfl, (kept_of_bare (·.safety.core) (fun _ => rfl) hb :), troubleAck_causes s,
    (kept_of_bare (·.safety.alarms) (fun _ => rfl) hb :)⟩

/-- Settles O20: each operation past its token. -/
theorem acknowledged : Obligations.Acknowledged := fun _ =>
  ⟨ackSilence_silences, ackReset_resets, ackTroubleAck_acknowledges⟩

end Sys2Proof.Machine
end

section
/-!
PROOFS. Ticks, frames and hyperframes, the oscillators and the calendar (04_time_base_and_teeth.md).
-/

namespace Sys2Proof.Machine

/-! ### Ticks, frames and hyperframes -/

theorem nextTick_easel {s : State} (ho : s.power.st ≠ .off) (hx : s.time.source = .x40) :
    (nextTick s).time.easel = (s.time.easel / 5000 + 1) * 5000 := by
  unfold nextTick moveTo
  rw [if_pos hx, if_neg ho, if_pos hx]
  show max ((s.time.easel / 5000 + 1) * 5000) s.time.easel = _
  omega

theorem minorTick_advances {s : State} (ho : s.power.st ≠ .off) (hx : s.time.source = .x40) :
    Answers .minorTick s fun t => t.time.easel = (s.time.easel / 5000 + 1) * 5000 := by
  refine answers_of_bare rfl fun t hb _ => ?_
  rw [if_neg ho] at hb
  have hk : keep (allBut [.time]) t = keep (allBut [.time]) (nextTick s) := by
    refine (keep_of_inner (inner_of_bare hb)).trans ?_
    simp
  exact (kept_of_keep (·.time.easel) (fun _ => rfl) hk).trans (nextTick_easel ho hx)

theorem feedbackJudged_inner (s : State) : ∃ run bad, inner (feedbackJudged s) = inner { s with gesso := { s.gesso with
    fbRun := run, fbMismatch := bad } } := by
  unfold feedbackJudged
  extract_lets run bad f s1
  refine ⟨min run 2, bad, ?_⟩
  split
  · rfl
  · rw [apply_ite inner, inner_gessoChirp, ite_self, inner_setCause]

/-- Gesso's snapshot at a frame of a powered core: a new challenge, and what Gesso holds at that instant (R95, R1206). -/
theorem gessoSnapshot_captures {s : State} (hl : s.sys.applied.getLsbD 3 = true) : ∃ g : Gesso,
    inner (gessoSnapshot s) = inner { s with gesso := g } ∧ g.chalCount = s.gesso.chalCount + 1 ∧
    g.snap.published = true ∧ g.snap.answered = false ∧ g.snap.trip = s.gesso.trip ∧ g.trip = s.gesso.trip := by
  unfold gessoSnapshot
  dsimp only
  obtain ⟨run, bad, h⟩ := feedbackJudged_inner _
  exact ⟨_, h, by simp [hl], hl, rfl, rfl, (apply_ite Gesso.trip _ _ _).trans (ite_self _)⟩

theorem majorFrameBoundary_slow {s : State} (units : Nat) (noise : List (Nat × List Word)) (fbErr : BitVec 20)
    (hf : s.time.frameDone ≠ some (tickNo s)) (hn : tickNo s % 128 = 0) (hl : s.sys.applied.getLsbD 3 = true)
    (hx : s.time.source ≠ .x40) : Answers (.majorFrameBoundary units noise fbErr) s fun t =>
        t.time.frameDone = some (tickNo s) ∧ t.gesso.chalCount = s.gesso.chalCount + 1 ∧ t.gesso.snap.published = true ∧
        t.gesso.snap.answered = false ∧ t.gesso.snap.trip = s.gesso.trip ∧ t.gesso.trip = s.gesso.trip := by
  have hw : tickWork s = false := decide_eq_false hx
  have hrule : exec (.majorFrameBoundary units noise fbErr) s = finish s (gessoSnapshot { s with
      time := { s.time with frameDone := some (tickNo s) }, pads := { s.pads with fbErr := fbErr } }) := by
    change execMajorFrameBoundary units noise fbErr s = _
    simp [execMajorFrameBoundary, hf, hn, hx, boundaryWork, hw]
  obtain ⟨g, hg, h1, h2, h3, h4, h5⟩ := gessoSnapshot_captures (s := { s with
      time := { s.time with frameDone := some (tickNo s) }, pads := { s.pads with fbErr := fbErr } }) hl
  exact answers_of_inner _ hrule hg (fun _ => rfl) ⟨rfl, h1, h2, h3, h4, h5⟩

/-- At a frame of the pair's time the frame's own work of domain G is done too. -/
theorem majorFrameBoundary_fast {s : State} (units : Nat) (noise : List (Nat × List Word)) (fbErr : BitVec 20)
    (hf : s.time.frameDone ≠ some (tickNo s)) (hp : s.mirror.pair = false) (ha : atFrame s = true)
    (hl : s.sys.applied.getLsbD 3 = true) (hx : s.time.source = .x40) (hr : s.power.inReset = false) :
    Answers (.majorFrameBoundary units noise fbErr) s fun t =>
        t.time.frameDone = some (tickNo s) ∧ t.gesso.chalCount = s.gesso.chalCount + 1 ∧ t.gesso.snap.published = true ∧
        t.evt.snapTs = ts32 s ∧ t.gesso.trip = s.gesso.trip ∧ t.time.easel = s.time.easel := by
  have hw : boundaryWork s = true := by simp [boundaryWork, tickWork, hx, hr]
  have htick : atTick s = true ∧ tickNo s % 128 = 0 := by
    simp only [atFrame, tickWork, hx, decide_true, Bool.true_and, pairTime, hp, Bool.false_eq_true, if_false,
      decide_eq_true_eq] at ha
    simp only [atTick, tickWork, hx, decide_true, Bool.true_and, decide_eq_true_eq, tickNo]
    simp only [frameLen, tickLen] at ha ⊢
    omega
  let s0 : State := { s with
    time := { s.time with frameDone := some (tickNo s) }, pads := { s.pads with fbErr := fbErr } }
  obtain ⟨g, hg, hchal, hpub, _, _, htrip⟩ := gessoSnapshot_captures (s := s0) hl
  have hrule : ∃ v, exec (.majorFrameBoundary units noise fbErr) s = finish s (setIrq 12 (opPartial (opPause (opAbortEnd
        (opWork units noise (judgeInjections (snapCounters v))))))) ∧
      keep (allBut [.time, .gesso, .evt]) v = keep (allBut [.time, .gesso, .evt]) (gessoSnapshot s0) := by
    refine ⟨frameDigest (glazeLate (eolSweep (frameHold (settleCauses (frameSignature (refreshPath (evt 377
      (gessoSnapshot s0)))))))), ?_, by simp⟩
    change execMajorFrameBoundary units noise fbErr s = _
    simp only [execMajorFrameBoundary, if_neg hf, htick.1, htick.2, decide_true, Bool.true_or, Bool.and_true, if_true, ha, hw]
    rfl
  obtain ⟨v, hrule, hv⟩ := hrule
  have hvg := hv.trans (keep_of_inner hg)
  have hnow : now v = now s := (kept_of_keep now (fun _ => rfl) hvg :)
  refine answers_of_keep (allBut [.time, .gesso, .evt]) (snapCounters v) hrule (by simp) (fun _ => rfl) ⟨?_, ?_, ?_, ?_, ?_, ?_⟩
  · exact (kept_of_keep (·.time.frameDone) (fun _ => rfl) hvg :)
  · exact (kept_of_keep (·.gesso.chalCount) (fun _ => rfl) hvg :).trans hchal
  · exact (kept_of_keep (·.gesso.snap.published) (fun _ => rfl) hvg :).trans hpub
  · show ts32 v = ts32 s
    rw [ts32, ts32, hnow]
  · exact (kept_of_keep (·.gesso.trip) (fun _ => rfl) hvg :).trans htrip
  · exact (kept_of_keep (·.time.easel) (fun _ => rfl) hvg :)

/-- A state without the routes and what reports and the outputs that follow write. -/
def sansRoutes (s : State) : State := inner { s with bb := { s.bb with routes := [], withdrawn := [] } }

theorem sansRoutes_evalRoutes (s : State) : sansRoutes (evalRoutes s) = sansRoutes s := by
  unfold evalRoutes
  refine foldl_kept sansRoutes (fun u id => ?_) _ _
  dsimp only
  split <;> rfl

theorem inner_mirrorNote (old s : State) : inner (mirrorNote old s) = inner s := by
  unfold mirrorNote
  split
  · rfl
  · exact inner_setIrq 9 s

theorem hyperframeBoundary_takes {s : State} (ha : atHyper s = true) (hx : s.time.source = .x40)
    (hr : s.power.inReset = false) (hd : s.time.hyperDone ≠ some (tickNo s)) : Answers .hyperframeBoundary s fun t =>
        t.time.hyperDone = some (tickNo s) ∧ t.canvas.ovrHyper = [] ∧ t.clients.qPeak = s.clients.qMax ∧
        t.canvas.resPeak = s.canvas.resMax ∧ t.bb.sMaxPrev = s.bb.sMax := by
  have hw : boundaryWork s = true := by simp [boundaryWork, tickWork, hx, hr]
  have hrule : exec .hyperframeBoundary s = execHyperframeBoundary s := rfl
  unfold execHyperframeBoundary at hrule
  rw [if_pos (by simp [ha, hw, hd])] at hrule
  refine answers_of_bare hrule fun t hb _ => ?_
  have h := (kept_of_inner sansRoutes (fun _ => rfl) ((inner_of_bare hb).trans (inner_mirrorNote _ _))).trans
    (sansRoutes_evalRoutes _)
  exact ⟨(congrArg (·.time.hyperDone) h :), (congrArg (·.canvas.ovrHyper) h :), (congrArg (·.clients.qPeak) h :),
    (congrArg (·.canvas.resPeak) h :), (congrArg (·.bb.sMaxPrev) h :)⟩

/-- Settles O23: each boundary's own work; a slow source leaves domain G its snapshot (R95, R1206, logs 67 and 96). -/
theorem timeBoundaries : Obligations.TimeBoundaries := fun _ =>
  ⟨minorTick_advances, majorFrameBoundary_slow, fun units noise fbErr hf hp ha hl hx hr _ _ =>
    majorFrameBoundary_fast units noise fbErr hf hp ha hl hx hr, hyperframeBoundary_takes⟩

/-! ### The oscillators (R204 to R206, logs 10 and 128) -/

theorem x40Stop_stops {s : State} (sub : Nat) (hx : s.time.source = .x40) : Answers (.x40Stop sub) s fun t =>
      t.time.easel = s.time.easel + (if s.power.st = .off then 0 else sub) ∧ t.time.x40Ok = false ∧ t.time.easelRtc = true ∧
      t.time.source = (if s.time.x32Since.isSome then .x32 else .rc) := by
  refine answers_at_keep (parts [.pads, .drive, .fans]) rfl (fun _ => rfl) fun x hk => ?_
  rw [if_pos hx] at hk
  simp at hk
  subst hk
  exact ⟨rfl, rfl, rfl, rfl⟩

theorem x40Restart_restarts {s : State} (cycles : Nat) (hx : s.time.source ≠ .x40) : Answers (.x40Restart cycles) s fun t =>
      t.time.source = .x40 ∧ t.time.x40Ok = true ∧ t.time.x40Fail = false ∧
      t.time.easel = (if s.power.st = .off then s.time else slowCycles cycles s.time).easel := by
  refine answers_at_inner rfl (fun _ => rfl) fun x hk => ?_
  rw [if_neg hx] at hk
  dsimp only at hk
  rw [inner_tierChange, inner_dropCause] at hk
  subst hk
  exact ⟨rfl, rfl, rfl, rfl⟩

theorem x32Stop_stops {s : State} (hx : s.time.x32Since.isSome = true) : Answers .x32Stop s fun t =>
      t.time.calValid = false ∧ t.time.x32Ok = false ∧ t.time.x32Run = false ∧ t.time.x32Since = none ∧
      t.gesso.clkTrouble = true ∧ t.time.calSec = s.time.calSec ∧ t.gesso.trip = s.gesso.trip := by
  refine answers_at_inner rfl (fun _ => rfl) fun x hk => ?_
  rw [if_pos hx] at hk
  dsimp only at hk
  rw [inner_gessoChirp, inner_tierChange, inner_raiseCause] at hk
  subst hk
  exact ⟨rfl, rfl, rfl, rfl, rfl, rfl, rfl⟩

theorem x32RunResume_resumes {s : State} (hx : s.time.x32Since = none) : Answers .x32RunResume s fun t =>
      t.time.x32Since = some (now s) ∧ t.time.calSec = s.time.calSec := by
  have hstop : ¬ s.time.x32Since.isSome = true := by simp [hx]
  obtain ⟨start, hrule⟩ : ∃ start, exec .x32RunResume s = finish s { s with time := { s.time with
    x32Since := some (now s), secStart := start } } := ⟨_, congrArg (finish s) (if_neg hstop)⟩
  exact answers_of_inner _ hrule rfl (fun _ => rfl) ⟨rfl, rfl⟩

theorem ite_ne_left {α : Type} [DecidableEq α] {a b c : α} (h : b ≠ a) : (if c = a then b else c) ≠ a := by
  split
  · exact h
  · assumption

theorem x32OkReturn_returns {s : State} (since : Nat) (hx : s.time.x32Since = some since) (hp : since + sec ≤ now s)
    (ho : s.time.x32Ok = false) : Answers .x32OkReturn s fun t =>
      t.time.x32Ok = true ∧ t.time.x32Run = true ∧ t.gesso.clkTrouble = false ∧ t.time.source ≠ .rc := by
  have hrule : exec .x32OkReturn s = execX32OkReturn s := rfl
  unfold execX32OkReturn at hrule
  rw [hx] at hrule
  dsimp only at hrule
  rw [if_pos (by simp [passed, hp, ho])] at hrule
  refine answers_at_inner hrule (fun _ => rfl) fun x hk => ?_
  rw [inner_tierChange, inner_dropCause] at hk
  subst hk
  exact ⟨rfl, rfl, rfl, ite_ne_left (by decide)⟩

/-- The oscillator's discipline without the instant and what a slow source counts. -/
def discipline (t : Time) : Int × Nat × Bool × Bool := (t.trim, t.goodRun, t.xtalDev, t.discardCount)

theorem discipline_slowCycle (t : Time) : discipline (slowCycle t) = discipline t := by
  cases h : t.source <;> simp [slowCycle, h, rcCycle, x32Cycle, discipline]

theorem discipline_slowUpTo (e : Nat) : ∀ (n : Nat) (t : Time), discipline (slowUpTo e n t) = discipline t
  | 0, _ => rfl
  | n + 1, t => by
    rw [slowUpTo]
    split
    · exact (discipline_slowUpTo e n _).trans (discipline_slowCycle t)
    · rfl

theorem moveTo_discipline (s : State) (e : Nat) : discipline (moveTo s e).time = discipline s.time := by
  unfold moveTo
  split
  · rfl
  · split
    · rfl
    · exact discipline_slowUpTo _ _ _

/-- A count within the trim's range is followed by a sixteenth (R206). -/
theorem disciplineCount_trims {s : State} (n w : Nat) (hw : s.time.winOpen = some w) (hd : (w + n) / tickLen ≤ tickNo s)
    (hon : (par s (parAddr 1 6)).getLsbD 0 = true) (hhold : (par s (parAddr 1 6)).getLsbD 1 = false)
    (hdis : s.time.discardCount = false) (hdev : s.time.xtalDev = false) (hlo : 39992000 ≤ n) (hhi : n ≤ 40008000) :
    Answers (.disciplineCount n) s fun t =>
        t.time.trim = clampI (-trimMax) trimMax (s.time.trim + asr ((40000000 - (n : Int)) * 640 - s.time.trim) 4) ∧
        t.time.goodRun = s.time.goodRun + 1 ∧ t.time.xtalDev = false ∧ t.time.winOpen = some (w + n) := by
  have hbad : (decide (trimMax < ((40000000 : Int) - n) * 640) || decide (((40000000 : Int) - n) * 640 < -trimMax)) = false := by
    rw [Bool.or_eq_false_iff, decide_eq_false_iff_not, decide_eq_false_iff_not]
    unfold trimMax
    omega
  have hm := moveTo_discipline s (w + n)
  simp only [discipline, Prod.mk.injEq] at hm
  obtain ⟨htrim, hgood, hxdev, hdisc⟩ := hm
  have hrule : exec (.disciplineCount n) s = execDisciplineCount n s := rfl
  unfold execDisciplineCount at hrule
  rw [hw] at hrule
  dsimp only at hrule
  rw [if_neg (Nat.not_lt.2 hd)] at hrule
  generalize moveTo s (w + n) = u at hrule htrim hgood hxdev hdisc
  simp only [hdisc, hdis, hon, hbad, hxdev, hdev, hhold, htrim, hgood, Bool.not_true, Bool.false_and, Bool.or_self,
    Bool.false_eq_true, if_false] at hrule
  generalize clampI (-trimMax) trimMax (s.time.trim + asr ((40000000 - (n : Int)) * 640 - s.time.trim) 4) = v at hrule ⊢
  obtain ⟨T, hrule, hT⟩ : ∃ T : Time, exec (.disciplineCount n) s = finish s (setCause (832 + 4) 0 false { u with time := T }) ∧
      T.trim = v ∧ T.goodRun = s.time.goodRun + 1 ∧ T.xtalDev = false ∧ T.winOpen = some (w + n) :=
    ⟨_, hrule, rfl, rfl, rfl, rfl⟩
  exact answers_of_inner _ hrule (inner_setCause _ _ _ _) (fun _ => rfl) hT

theorem calendarSecond_counts {s : State} (hx : s.time.x32Since.isSome = true) (hc : s.time.calSet = none) :
    Answers (.calendarSecond s.time.secLen) s fun t =>
      t.time.calSec = s.time.calSec + 1 ∧ t.time.secStart = now s ∧
      ∃ n : Int, n = Int.tdiv (s.time.calCorr + s.time.trim) 781250 ∧ t.time.secLen = (32768 + n).toNat ∧
        t.time.calCorr = s.time.calCorr + s.time.trim - n * 781250 := by
  have hrule : exec (.calendarSecond s.time.secLen) s = execCalendarSecond s.time.secLen s := rfl
  unfold execCalendarSecond at hrule
  rw [if_neg (by simp [Option.isNone_iff_eq_none, Option.ne_none_iff_isSome, hx])] at hrule
  dsimp only at hrule
  rw [hc, ite_self] at hrule
  dsimp only at hrule
  obtain ⟨T, hrule, hT⟩ : ∃ T : Time, exec (.calendarSecond s.time.secLen) s =
      finish s (calendarMoved s.time.calSec.toNat (s.time.calSec.toNat + 1) { s with time := T }) ∧
      T.calSec = s.time.calSec + 1 ∧ T.secStart = now s ∧
      ∃ n : Int, n = Int.tdiv (s.time.calCorr + s.time.trim) 781250 ∧ T.secLen = (32768 + n).toNat ∧
        T.calCorr = s.time.calCorr + s.time.trim - n * 781250 :=
    ⟨_, hrule, rfl, rfl, _, rfl, rfl, rfl⟩
  exact answers_of_keep (parts [.clients, .store, .proof]) { s with time := T } hrule (by simp) (fun _ => rfl) hT

/-- A write with its keys, in range, of a parameter that applies at once. -/
theorem paramWrite_imm {a : Nat} {v : Word} {ok : Bool} {s : State} {r : PRow} (hd : isDefined a = true)
    (hr : rowOf a = some r) (hs : (isStandby s && a / 2048 != 15) = false) (ha : a ≠ 0x680A)
    (hk : ∀ k ∈ writeKeys s r a (v &&& rowMask r), keyOk s k = true) (hin : inRange r (v &&& rowMask r) = true)
    (hst : r.staged = false) :
    paramWrite a v ok s = immWrite a (v &&& rowMask r) (evt 283 (pctlOut 0 s)) := by
  have hany : ((writeKeys s r a (v &&& rowMask r)).any fun k => !keyOk s k) = false := by
    simpa using hk
  simp [paramWrite, hd, hr, hs, ha, hany, hin, hst]

/-- TIME.CAL_SET's row. -/
def calSetRow : PRow :=
  { first := 2052, last := 2052, staged := false, reset := 0, fields := [{ lo := 0, w := 32, acc := .wk 1, min := 0, max := 4294967295 }] }

theorem calSetRow_mask (v : Word) : v &&& rowMask calSetRow = v := by
  have h : rowMask calSetRow = BitVec.allOnes 32 := by decide
  rw [h, BitVec.and_allOnes]

theorem keysNeeded_calSet (old v : Word) : ∀ k ∈ keysNeeded calSetRow old v, k = 1 := by
  intro k hk
  simp only [keysNeeded, calSetRow, List.filterMap_cons, List.filterMap_nil] at hk
  split at hk <;> simp_all

theorem writeKeys_calSet {s : State} {v : Word} : ∀ k ∈ writeKeys s calSetRow 0x0804 v, k = 1 := by
  intro k hk
  rw [writeKeys, List.mem_append] at hk
  rcases hk with hk | hk
  · exact keysNeeded_calSet _ _ k hk
  · split at hk
    · exact keysNeeded_calSet _ _ k hk
    · exact absurd hk List.not_mem_nil

theorem inRange_calSet (v : Word) : inRange calSetRow v = true := by
  have hv : fld v 0 32 ≤ 4294967295 := Nat.le_of_lt_succ (Nat.mod_lt _ (by decide))
  simp [inRange, inShape, calSetRow, parAddr, hv]

theorem calSet_waits {s : State} (v : Word) (ho : BusOpen s) (hm : s.legacy.mode = false) (hs : isStandby s = false)
    (hk : keyOk s 1 = true) : Answers (.calSet v) s fun t =>
      t.time.calSet = some v ∧ t.time.calSec = s.time.calSec ∧ t.host.pctlRes = 0 := by
  have hbus : onBus (parWr 0x0804 v true) s = paramWrite 0x0804 v true (evt 280 s) := by
    rw [onBus_of_open ho (by simp [awaitsCopy, parWr])]
    simp [busDo, parWr, show (evt 280 s).legacy.mode = false from hm]
  have hk1 : keyOk (evt 280 s) 1 = true := hk
  have hpar : paramWrite 0x0804 v true (evt 280 s) = immWrite 0x0804 v (evt 283 (pctlOut 0 (evt 280 s))) := by
    have h := paramWrite_imm (a := 0x0804) (v := v) (ok := true) (s := evt 280 s) (r := calSetRow) (by decide) (by rfl)
      (by rw [show isStandby (evt 280 s) = false from hs]; rfl) (by decide) ?_ ?_ rfl
    · rw [h, calSetRow_mask]
    · intro k hk'
      rw [writeKeys_calSet k hk']
      exact hk1
    · rw [calSetRow_mask]
      exact inRange_calSet v
  rw [show immWrite 0x0804 v (evt 283 (pctlOut 0 (evt 280 s))) = calSetWrite v (evt 283 (pctlOut 0 (evt 280 s))) from
    if_pos rfl] at hpar
  exact answers_of_inner _ (congrArg (finish s) (hbus.trans hpar)) rfl (fun _ => rfl) ⟨rfl, rfl, rfl⟩

/-- A read of EASEL_LO, of which only what the host fetches counts. -/
theorem answers_of_easelRead {c : Instr} {s : State} {top : Word} {low high : Half} (h : Answers c s fun t =>
      bare t = bare { s with
        time := { s.time with easelHi := top }, host := { s.host with dOut := low, hiLatch := high } }) :
    Answers c s fun t => t.time.easel = s.time.easel ∧ t.host.dOut = low ∧ t.host.hiLatch = high := by
  obtain ⟨t, ht, hb⟩ := h
  exact ⟨t, ht, (kept_of_bare (·.time.easel) (fun _ => rfl) hb :), (kept_of_bare (·.host.dOut) (fun _ => rfl) hb :),
    (kept_of_bare (·.host.hiLatch) (fun _ => rfl) hb :)⟩

theorem easelLoRead_latches {s : State} (ho : BusOpen s) (hm : s.legacy.mode = false) : Answers .easelLoRead s fun t =>
      t.time.easel = s.time.easel ∧ t.host.dOut = (easelWord (now s)).extractLsb' 0 16 ∧
      t.host.hiLatch = (easelWord (now s)).extractLsb' 16 16 :=
  answers_of_easelRead (easelReadLatchesHigh s ho hm)

/-- Settles O24: the model clears CLK_TROUBLE when the crystal is stable again (log 128) and runs X32 from there (log 10). -/
theorem clocks : Obligations.Clocks := fun _ =>
  ⟨x40Stop_stops, x40Restart_restarts, x32Stop_stops, x32RunResume_resumes, x32OkReturn_returns,
    disciplineCount_trims, calendarSecond_counts, calSet_waits, easelLoRead_latches⟩

end Sys2Proof.Machine
end

section
/-!
PROOFS. The tracks' teeth: comparator edges, candidates, synthetic teeth and what is anchored to a tooth (04_time_base_and_teeth.md).
-/

namespace Sys2Proof.Machine

/-! ### The instant within a tick -/

/-- A time base of which only the count of time differs. -/
def Moved (s : State) (T : Time) : Prop :=
  T.tracks = s.time.tracks ∧ T.source = s.time.source ∧ T.x40Ok = s.time.x40Ok ∧ T.x32Run = s.time.x32Run

theorem moved_slowCycle (t : Time) : (slowCycle t).tracks = t.tracks ∧ (slowCycle t).source = t.source ∧
    (slowCycle t).x40Ok = t.x40Ok ∧ (slowCycle t).x32Run = t.x32Run := by
  cases h : t.source <;> simp [slowCycle, h, rcCycle, x32Cycle]

theorem moved_slowUpTo (e : Nat) : ∀ (n : Nat) (t : Time), (slowUpTo e n t).tracks = t.tracks ∧
    (slowUpTo e n t).source = t.source ∧ (slowUpTo e n t).x40Ok = t.x40Ok ∧ (slowUpTo e n t).x32Run = t.x32Run
  | 0, _ => ⟨rfl, rfl, rfl, rfl⟩
  | n + 1, t => by
    obtain ⟨h1, h2, h3, h4⟩ := moved_slowCycle t
    obtain ⟨i1, i2, i3, i4⟩ := moved_slowUpTo e n (slowCycle t)
    rw [slowUpTo]
    split
    · exact ⟨i1.trans h1, i2.trans h2, i3.trans h3, i4.trans h4⟩
    · exact ⟨rfl, rfl, rfl, rfl⟩

/-- To move to an instant writes the count of time only. -/
theorem moveTo_moved (s : State) (e : Nat) : ∃ T, moveTo s e = { s with time := T } ∧ Moved s T := by
  unfold moveTo
  split
  · exact ⟨s.time, rfl, rfl, rfl, rfl, rfl⟩
  · split
    · exact ⟨_, rfl, rfl, rfl, rfl, rfl⟩
    · exact ⟨_, rfl, moved_slowUpTo _ _ _⟩

theorem moveIn_moved (s : State) (at_ : Nat) : ∃ T, moveIn s at_ = { s with time := T } ∧ Moved s T := moveTo_moved s _

theorem track_moved {s : State} {T : Time} (h : Moved s T) (k : Nat) : track { s with time := T } k = track s k := by
  unfold track
  rw [show ({ s with time := T } : State).time.tracks = s.time.tracks from h.1]

theorem phaseOn_moved {s : State} {T : Time} (h : Moved s T) (k : Nat) : phaseOn { s with time := T } k = phaseOn s k :=
  congrArg (fun d : Track => decide (d.st = .locked) || decide (d.st = .holdover)) (track_moved h k)

/-- The tier's inputs do not count time. -/
theorem settled_moved {s : State} {T : Time} (h : Moved s T) (hs : Settled s) : Settled { s with time := T } := by
  have hph := phaseOn_moved h
  obtain ⟨_, _, hx40, hx32⟩ := h
  have ht : tierOf { s with time := T } = tierOf s := by
    unfold tierOf tier0Inputs
    simp only [hph]
    rw [show ({ s with time := T } : State).time.x40Ok = s.time.x40Ok from hx40,
      show ({ s with time := T } : State).time.x32Run = s.time.x32Run from hx32]
    rfl
  exact hs.trans ht.symm

/-! ### Edges and candidates -/

theorem decideEdge_of_none {s : State} {k : Nat} (h : (track s k).edge = none) : decideEdge k s = s := by
  unfold decideEdge
  dsimp only
  rw [h]

theorem comparatorEdge_waits {s s0 : State} {k : Fin 3} {at_ : Nat} (h0 : s0 = moveIn s at_) {level : Bool}
    (hen : trkEn s k.val = true) (hl : outputsLive s = true) (hlev : (track s k.val).level ≠ some level)
    (he : (track s k.val).edge = none) : Answers (.comparatorEdge k level at_) s fun t =>
        t.time.tracks = tblSet (fun _ => Track.blank) s.time.tracks k.val
          { track s k.val with edge := some (now s0, level), edgeSlow := decide (s.time.source ≠ .x40) } ∧
        t.time.easel = now s0 := by
  obtain ⟨T, hT, hm⟩ := moveIn_moved s at_
  have hrule : exec (.comparatorEdge k level at_) s = execComparatorEdge k level at_ s := rfl
  unfold execComparatorEdge at hrule
  rw [hT] at h0 hrule
  subst h0
  have htrack := track_moved hm k.val
  dsimp only at hrule
  rw [if_pos (by rw [show trkEn { s with time := T } k.val = true from hen, show outputsLive { s with time := T } = true from hl]; rfl),
    decideEdge_of_none (by rw [htrack, he]), htrack, he] at hrule
  dsimp only at hrule
  rw [if_neg hlev] at hrule
  obtain ⟨htr, hsrc, _, _⟩ := hm
  rw [hsrc] at hrule
  exact answers_of_inner _ hrule rfl (fun _ => rfl) ⟨by rw [← htr]; rfl, rfl⟩

section
variable {s s0 : State} {k : Fin 3} {at_ edge : Nat} {level : Bool}

/-- A candidate that has stood 200 us is decided by the track's state. -/
theorem toothCandidate_decides (h0 : s0 = moveIn s at_) (he : (track s k.val).edge = some (edge, level))
    (hp : edge + 8000 ≤ now s0) : exec (.toothCandidate k at_) s = finish s (match (track s k.val).st with
      | .acq | .lost => candUnlocked k.val (stamp s0 k.val edge) level { track s k.val with level := some level, edge := none } s0
      | _ => candLocked k.val (stamp s0 k.val edge) (level != trkInv s k.val)
          { track s k.val with level := some level, edge := none } s0) := by
  obtain ⟨T, hT, hm⟩ := moveIn_moved s at_
  have htrack := track_moved hm k.val
  rw [hT] at h0
  subst h0
  have hrule : exec (.toothCandidate k at_) s = finish s (decideEdge k.val (moveIn s at_)) := rfl
  have hheld : edgeHeld { s with time := T } k.val = true := by
    unfold edgeHeld
    rw [htrack, he]
    exact decide_eq_true hp
  rw [hrule, hT, decideEdge]
  dsimp only
  rw [htrack, he]
  dsimp only
  rw [if_pos hheld]
  rfl

theorem tracks_at (h0 : s0 = moveIn s at_) : s0.time.tracks = s.time.tracks := by
  obtain ⟨T, hT, htr, _⟩ := moveIn_moved s at_
  rw [h0, hT]
  exact htr

theorem toothCandidate_rejects (h0 : s0 = moveIn s at_) (he : (track s k.val).edge = some (edge, level))
    (hp : edge + 8000 ≤ now s0) (hst : (track s k.val).st = .locked)
    (hw : inWindow (if level != trkInv s k.val then (track s k.val).rising else (track s k.val).falling)
        (16 * (stamp s0 k.val edge : Int)) = false) : Answers (.toothCandidate k at_) s fun t =>
        t.time.tracks = tblSet (fun _ => Track.blank) s.time.tracks k.val
          { track s k.val with level := some level, edge := none, cntRej := (track s k.val).cntRej + 1 } := by
  have hrule := toothCandidate_decides h0 he hp
  rw [hst] at hrule
  dsimp only at hrule
  unfold candLocked at hrule
  dsimp only at hrule
  rw [if_neg (by rw [hw]; exact Bool.false_ne_true)] at hrule
  refine answers_of_inner _ hrule (inner_evt _ _) (fun _ => rfl) ?_
  rw [← tracks_at h0]
  rfl

theorem updatePhase_tracks (t : Nat) (s : State) : (updatePhase t s).time.tracks = s.time.tracks := by
  unfold updatePhase
  dsimp only
  split
  · rfl
  · split <;> rfl

theorem frameStart_time (t : Nat) (s : State) : (frameStart t s).time = s.time := by
  unfold frameStart
  split <;> rfl

/-- The tooth that a candidate or a synthesis completes is written to its track; the phase and the line's frame follow. -/
theorem toothDone_tracks (t : Nat) (rising : Bool) (t16 : Int) (d : Track) (s : State) : ∃ d' : Track,
    (toothDone t rising t16 d s).time.tracks = tblSet (fun _ => Track.blank) s.time.tracks t d' ∧
    d'.st = d.st ∧ d'.level = d.level ∧ d'.edge = d.edge ∧ d'.synRun = d.synRun ∧ d'.cntRej = d.cntRej ∧
    d'.cntSyn = d.cntSyn ∧ d'.rising = d.rising ∧ d'.falling = d.falling ∧
    d'.cyc = (if rising then d.cyc + 1 else d.cyc) := by
  unfold toothDone
  cases rising with
  | false => exact ⟨_, rfl, rfl, rfl, rfl, rfl, rfl, rfl, rfl, rfl, rfl⟩
  | true =>
    have h (u : State) : (frameStart t (updatePhase t u)).time.tracks = u.time.tracks :=
      (congrArg (·.tracks) (frameStart_time t _)).trans (updatePhase_tracks t u)
    exact ⟨_, h _, rfl, rfl, rfl, rfl, rfl, rfl, rfl, rfl, rfl⟩

theorem toothCandidate_accepts {c : Chain} (h0 : s0 = moveIn s at_) (he : (track s k.val).edge = some (edge, level))
    (hp : edge + 8000 ≤ now s0) (hst : (track s k.val).st = .locked)
    (hc : c = (if level != trkInv s k.val then (track s k.val).rising else (track s k.val).falling))
    (hw : inWindow c (16 * (stamp s0 k.val edge : Int)) = true) : Answers (.toothCandidate k at_) s fun t =>
        ∃ d : Track, t.time.tracks = tblSet (fun _ => Track.blank) s.time.tracks k.val d ∧ d.st = .locked ∧
          d.level = some level ∧ d.edge = none ∧ d.synRun = 0 ∧ d.cntRej = (track s k.val).cntRej ∧
          (if level != trkInv s k.val then d.rising else d.falling) = chainNext c (16 * (stamp s0 k.val edge : Int) - c.p) ∧
          (if level != trkInv s k.val then d.falling = (track s k.val).falling ∧ d.cyc = (track s k.val).cyc + 1
           else d.rising = (track s k.val).rising ∧ d.cyc = (track s k.val).cyc) := by
  have hrule := toothCandidate_decides h0 he hp
  rw [hst] at hrule
  dsimp only at hrule
  unfold candLocked at hrule
  dsimp only at hrule
  rw [← hc, if_pos hw] at hrule
  rw [hst] at hrule
  simp only [reduceCtorEq, decide_false, Bool.false_and, Bool.false_eq_true, if_false] at hrule
  refine answers_of_bare hrule fun t hb _ => ?_
  rw [bare_evt] at hb
  obtain ⟨d, hd, hst', hlev, hedge, hsyn, hrej, _, hris, hfal, hcyc⟩ := toothDone_tracks k.val (level != trkInv s k.val)
    (16 * (stamp s0 k.val edge : Int)) _ s0
  refine ⟨d, ((kept_of_bare (·.time.tracks) (fun _ => rfl) hb).trans hd).trans (by rw [tracks_at h0]), hst', hlev, hedge,
    hsyn, hrej, ?_⟩
  generalize (level != trkInv s k.val) = rising at hris hfal hcyc ⊢
  cases rising with
  | false => exact ⟨hfal, hris, hcyc⟩
  | true => exact ⟨hris, hfal, hcyc⟩

/-- A value that is not the unlisted one reads back after its write, in canonical form or not. -/
theorem tblGet_tblSet_listed {α : Type} [DecidableEq α] {d : Nat → α} {k : Nat} {v : α} (hv : v ≠ d k) :
    ∀ t : Tbl α, tblGet d (tblSet d t k v) k = v
  | [] => by simp [tblSet, tblGet, hv]
  | (j, w) :: r => by
    have ih := tblGet_tblSet_listed hv r
    by_cases h1 : k < j
    · simp [tblSet, tblGet, h1, hv]
    · by_cases h2 : k = j
      · subst h2
        simp [tblSet, tblGet, hv]
      · simp only [tblSet, h1, h2, if_false, tblGet, Ne.symm h2, ih]

theorem lockTrack_locks (t : Nat) (c0 c1 : Nat × Bool) (i1 : Nat) (s : State) :
    (track (lockTrack t c0 c1 i1 s) t).st = .locked := by
  have htime (d : Track) (c : Nat) : (track (tierChange s (dropCause (768 + 20 + t) 0 (dropCause c 0 (setTrack t d s)))) t) =
      tblGet (fun _ => Track.blank) (tblSet (fun _ => Track.blank) s.time.tracks t d) t :=
    congrArg (tblGet (fun _ => Track.blank) · t)
      (kept_of_inner (·.time.tracks) (fun _ => rfl) (by simp : inner _ = inner (setTrack t d s)))
  unfold lockTrack
  rw [htime, tblGet_tblSet_listed]
  intro hblank
  exact absurd (congrArg Track.st hblank) (by decide : TrackState.locked ≠ Track.blank.st)

theorem toothCandidate_locks {c1 c2 : Nat × Bool} (h0 : s0 = moveIn s at_) (he : (track s k.val).edge = some (edge, level))
    (hp : edge + 8000 ≤ now s0) (hst : (track s k.val).st = .acq) (hc : (track s k.val).cands = [c1, c2])
    (hl : locks (stamp s0 k.val edge, level) c1 c2 = true) :
    Answers (.toothCandidate k at_) s fun t => (track t k.val).st = .locked := by
  have hrule := toothCandidate_decides h0 he hp
  rw [hst] at hrule
  dsimp only at hrule
  unfold candUnlocked at hrule
  dsimp only at hrule
  rw [hc] at hrule
  dsimp only [List.take] at hrule
  rw [if_pos hl] at hrule
  refine answers_of_bare hrule fun t hb _ => ?_
  have ht : track t k.val = track _ k.val := congrArg (tblGet (fun _ => Track.blank) · k.val)
    (kept_of_bare (·.time.tracks) (fun _ => rfl) hb)
  rw [ht, lockTrack_locks]

/-- A falling tooth that does not come is synthesised (R232). -/
theorem toothSynthesis_synthesises (h0 : s0 = moveIn s at_) (hst : (track s k.val).st = .locked)
    (he : (track s k.val).edge = none) (hp : fld (par s (parAddr 1 0x024)) 0 5 = 20) (hr : (track s k.val).synRun = 0)
    (hd : 3 * (track s k.val).falling.per < 100 * (16 * (now s0 : Int) - (track s k.val).falling.p)) :
      Answers (.toothSynthesis k false at_) s fun t =>
        ∃ d : Track, t.time.tracks = tblSet (fun _ => Track.blank) s.time.tracks k.val d ∧ d.st = .locked ∧
          d.synRun = 1 ∧ d.cntSyn = (track s k.val).cntSyn + 1 ∧ d.falling = chainNext (track s k.val).falling 0 ∧
          d.rising = (track s k.val).rising := by
  obtain ⟨T, hT, hm⟩ := moveIn_moved s at_
  have htrack := track_moved hm k.val
  have htracks := tracks_at h0
  rw [hT] at h0
  subst h0
  have hrule : exec (.toothSynthesis k false at_) s = execToothSynthesis k false at_ s := rfl
  unfold execToothSynthesis at hrule
  rw [hT] at hrule
  dsimp only at hrule
  rw [decideEdge_of_none (by rw [htrack, he]), htrack, hst, hr,
    show edgeWaits { s with time := T } k.val false = false by unfold edgeWaits; dsimp only; rw [htrack, he],
    show fld (par { s with time := T } (parAddr 1 0x024)) 0 5 = 20 from hp] at hrule
  rw [if_pos (by simpa using hd)] at hrule
  have hstays : (if 20 ≤ min 31 (0 + 1) then TrackState.lost else if 2 ≤ min 31 (0 + 1) then .holdover else .locked) =
      TrackState.locked := by decide
  rw [hstays, if_neg (by decide), if_neg (by decide)] at hrule
  obtain ⟨d0, hrule, hst0, hsyn0, hcnt0, hfal0, hris0⟩ : ∃ d0 : Track, exec (.toothSynthesis k false at_) s =
      finish s (evt (41 + k.val) (markSyn k.val false
        (toothDone k.val false (track s k.val).falling.p d0 { s with time := T }))) ∧
      d0.st = .locked ∧ d0.synRun = 1 ∧ d0.cntSyn = (track s k.val).cntSyn + 1 ∧
      d0.falling = chainNext (track s k.val).falling 0 ∧ d0.rising = (track s k.val).rising :=
    ⟨_, hrule, rfl, rfl, rfl, rfl, rfl⟩
  obtain ⟨d, hdt, hst', _, _, hsyn, _, hcnt, hris, hfal, _⟩ := toothDone_tracks k.val false
    (track s k.val).falling.p d0 { s with time := T }
  refine answers_of_bare hrule fun t hb _ => ⟨d, ?_, hst'.trans hst0, hsyn.trans hsyn0, hcnt.trans hcnt0,
    hfal.trans hfal0, hris.trans hris0⟩
  rw [bare_evt, markSyn, bare_setZc] at hb
  exact ((kept_of_bare (·.time.tracks) (fun _ => rfl) hb).trans hdt).trans (by rw [← htracks])

/-- At the third tooth of a slot the line's state is heard, a bit under way too (log 130). -/
theorem hears_third {s : State} {k : Nat} {c : ToothClass} (hz : zcReceives s = true) : hears k 3 c s =
    setZc k { zcTrack s k with
      heard := (zcTrack s k).heard || decide (c ≠ .none)
      receiving := (zcTrack s k).receiving || decide (c = .both) } s := by
  simp [hears, hz]

theorem toothAnchoredEvent_hears {k : Fin 3} {p16 : Int} {e : Nat} {lv : List (Int × Int)} {c : ToothClass}
    (hs : Settled s) (hp : toothP s k.val 3 = some p16) (he : e = toothInstant none false p16) (hn : now s ≤ e)
    (ht : e / tickLen = tickNo s) (hz : zcReceives s = true) (hc : c = classify (coreTh s k.val) (combinedTooth s lv)) :
      Answers (.toothAnchoredEvent k 3 lv 0 0) s fun t =>
        t.zc.tracks = tblSet (fun _ => ZcTrack.blank) s.zc.tracks k.val { zcTrack s k.val with
          heard := (zcTrack s k.val).heard || decide (c ≠ .none)
          receiving := (zcTrack s k.val).receiving || decide (c = .both) } ∧
        bare t = bare (moveTo s e) := by
  obtain ⟨T, hT, hm⟩ := moveTo_moved s e
  have hsend : toothSend s k.val 3 = none := by
    unfold toothSend
    dsimp only
    rw [if_neg (by decide)]
    split
    · rfl
    · rfl
  have hrule : exec (.toothAnchoredEvent k 3 lv 0 0) s = execToothAnchoredEvent k 3 lv 0 0 s := rfl
  unfold execToothAnchoredEvent at hrule
  rw [show toothP s k.val (3 : Fin 64).val = some p16 from hp] at hrule
  dsimp only at hrule
  rw [show toothSend s k.val (3 : Fin 64).val = none from hsend,
    show toothInstant none ((3 : Fin 64).val == 7 || (3 : Fin 64).val == 11) p16 = e from he.symm, if_pos ⟨hn, ht⟩, hT] at hrule
  have hc' : classify (coreTh { s with time := T } k.val) (combinedTooth { s with time := T } lv) = c := hc.symm
  have hears : hubTooth k.val (3 : Fin 64).val c p16 0 0 { s with time := T } = _ := hears_third hz
  rw [hc', hears] at hrule
  exact answers_of_settled hrule 
    (settled_reports (s := { s with time := T }) (sansReports_setZc _ _ _) (settled_moved hm hs)) ⟨rfl, by rw [bare_setZc, hT]⟩

end

/-- Settles O26: what each observation of a track writes (R505, R506, R533; what a tooth of the hub hears is log 130's). -/
theorem toothTracker : Obligations.ToothTracker := fun _ _ _ _ h0 =>
  ⟨fun _ => comparatorEdge_waits h0, fun _ _ => toothCandidate_rejects h0, fun _ _ _ => toothCandidate_accepts h0,
    fun _ _ _ _ => toothCandidate_locks h0, toothSynthesis_synthesises h0, fun _ _ _ _ => toothAnchoredEvent_hears⟩

end Sys2Proof.Machine
end

section
/-!
PROOFS. The strokes: when none runs, what each signal and record stroke writes, and that none runs twice in a tick
(05_canvas_contract.md).
-/

namespace Sys2Proof.Machine

/-! ### A stroke that does not run (R264, R286) -/

theorem answers_of_notDue {c : Instr} {s : State} {op i : Nat} {f : Stroke → State → State}
    (e : exec c s = finish s (runStroke op i f s)) (hk : strokeAt s op i = none) : Answers c s fun t => bare t = bare s :=
  answers_of_bare e fun _ hb _ => hb.trans (by rw [runStroke, hk])

/-- Settles O27: every stroke command's effect is that of the stroke that runs, and none does. -/
theorem strokeNotDue : Obligations.StrokeNotDue := by
  intro s i done mv high period edges level c hc hk
  fin_cases hc <;> exact answers_of_notDue rfl hk

/-! ### A stroke that has run -/

theorem strokeAt_entry {s : State} {op i : Nat} {k : Stroke} (hk : strokeAt s op i = some k) : (entries s)[i]? = some k.e := by
  unfold strokeAt at hk
  split at hk
  · next e he =>
    split at hk
    · obtain rfl := Option.some.inj hk
      exact he
    · cases hk
  · cases hk

/-- An entry that has run waits for the next tick (log 118). -/
theorem strokeAt_laneRan {s u : State} {op i : Nat} {k : Stroke} (hk : strokeAt s op i = some k) (he : entries u = entries s) :
    strokeAt (laneRan k.e.lane i u) op i = none := by
  have hent : (entries (laneRan k.e.lane i u))[i]? = some k.e := (congrArg (·[i]?) he).trans (strokeAt_entry hk)
  have hran : laneOrder (laneRan k.e.lane i u) k.e.lane i = false := by
    have hread : tblGet (fun _ => 0) (laneRan k.e.lane i u).canvas.ran k.e.lane = i + 1 :=
      tblGet_tblSet_listed (Nat.succ_ne_zero i) _
    have htick : (laneRan k.e.lane i u).canvas.ranAt = canvasTick (laneRan k.e.lane i u) := rfl
    rw [laneOrder, hread, htick]
    simp
  unfold strokeAt
  rw [hent]
  simp [hran]

/-- A stroke that runs has the effect of a state that differs from it in reports only. -/
theorem answers_stroke {c : Instr} {s u : State} {op i : Nat} {k : Stroke} {f : Stroke → State → State}
    (e : exec c s = finish s (runStroke op i f s)) (hk : strokeAt s op i = some k) (h : bare (f k s) = bare u) :
    Answers c s fun t => bare t = bare u := by
  obtain ⟨t, ht, hb⟩ := answers_runStroke e hk
  exact ⟨t, ht, hb.trans h⟩

theorem answers_ranOnce {c : Instr} {s : State} {op i : Nat} {k : Stroke} {f : Stroke → State → State}
    (e : exec c s = finish s (runStroke op i f s)) (hk : strokeAt s op i = some k) (hs : Settled s)
    (he : entries (f k s) = entries s) (ht : tierOf (f k s) = tierOf s) (hy : (f k s).sys.tier = s.sys.tier) :
    Answers c s fun t => strokeAt t op i = none := by
  refine answers_of_settled (u := laneRan k.e.lane i (f k s)) (by rw [e, runStroke, hk]) ?_ (strokeAt_laneRan hk he)
  exact (hy.trans hs).trans ht.symm

theorem writeSig_entries (k : Stroke) (g : Nat) (v : Word) (s : State) : entries (writeSig k g v s) = entries s ∧
    tierOf (writeSig k g v s) = tierOf s ∧ (writeSig k g v s).sys = s.sys := by
  unfold writeSig
  split <;> exact ⟨rfl, rfl, rfl⟩

theorem stroke_ranOnce {s : State} {i : Nat} {k : Stroke} (hs : Settled s) :
    ∀ c ∈ [(Instr.copy i, 0x01), (.relay i, 0x0F), (.hostpub i, 0x10)], strokeAt s c.2 i = some k →
      Answers c.1 s fun t => strokeAt t c.2 i = none := by
  intro c hc hk
  simp only [List.mem_cons, List.not_mem_nil, or_false] at hc
  obtain rfl | rfl | rfl := hc
  · obtain ⟨he, ht, hy⟩ := writeSig_entries k k.e.out (readSig s k k.e.inn) s
    exact answers_ranOnce rfl hk hs he ht (congrArg Sys.tier hy)
  · exact answers_ranOnce rfl hk hs rfl rfl rfl
  · exact answers_ranOnce rfl hk hs rfl rfl rfl

/-! ### Signal strokes (log 30) -/

section
variable {s : State} {i : Nat} {k : Stroke}

/-- A clamped value is the value within the limits. -/
theorem clampI_spec {lo hi x : Int} (h : lo ≤ hi) : lo ≤ clampI lo hi x ∧ clampI lo hi x ≤ hi ∧
    (lo ≤ x → x ≤ hi → clampI lo hi x = x) := by
  unfold clampI
  split
  · omega
  · split <;> omega

theorem limit_limits (hk : strokeAt s 0x03 i = some k) (hle : argI s k 2 ≤ argI s k 3) : Answers (.limit i) s fun t =>
      ∃ v : Word, bare t = bare (writeSig k (blkOut s k) v s) ∧ argI s k 2 ≤ sgn v ∧ sgn v ≤ argI s k 3 ∧
        (argI s k 2 ≤ readI s k (blkIn s k) → readI s k (blkIn s k) ≤ argI s k 3 → v = readSig s k (blkIn s k)) := by
  obtain ⟨t, ht, hb⟩ := answers_runStroke (c := .limit i) rfl hk
  obtain ⟨h1, h2, h3⟩ := clampI_spec (x := readI s k (blkIn s k)) hle
  have hlo : -2 ^ 31 ≤ clampI (argI s k 2) (argI s k 3) (readI s k (blkIn s k)) := le_trans (BitVec.le_toInt _) h1
  have hhi : clampI (argI s k 2) (argI s k 3) (readI s k (blkIn s k)) < 2 ^ 31 := lt_of_le_of_lt h2 BitVec.toInt_lt
  have hs : sgn (BitVec.ofInt 32 (clampI (argI s k 2) (argI s k 3) (readI s k (blkIn s k)))) =
      clampI (argI s k 2) (argI s k 3) (readI s k (blkIn s k)) := BitVec.toInt_ofInt_eq_self (by decide) hlo hhi
  refine ⟨t, ht, _, hb, by rw [hs]; exact h1, by rw [hs]; exact h2, fun hl hh => ?_⟩
  rw [h3 hl hh]
  exact BitVec.ofInt_toInt

theorem compare_sets (hk : strokeAt s 0x04 i = some k) (h : argI s k 2 ≤ readI s k (blkIn s k)) :
    Answers (.compare i) s fun t => bare t = bare (writeSig k (blkOut s k) 1 s) :=
  answers_stroke rfl hk (congrArg bare (if_pos h))

theorem compare_clears (hk : strokeAt s 0x04 i = some k) (h : readI s k (blkIn s k) < argI s k 2)
    (hh : readI s k (blkIn s k) < argI s k 2 - argI s k 3) :
    Answers (.compare i) s fun t => bare t = bare (writeSig k (blkOut s k) 0 s) :=
  answers_stroke rfl hk (congrArg bare ((if_neg (not_le.2 h)).trans (if_pos hh)))

theorem median_writes (hk : strokeAt s 0x08 i = some k) : Answers (.median i) s fun t =>
      (medianIn s k = [] → bare t = bare (writeSig k (fld (argWord s k.e 1) 0 11 + 1) 0 s)) ∧
      (∀ m, medianOf (medianIn s k) = some m → bare t = bare (writeSig k (fld (argWord s k.e 1) 0 11) (BitVec.ofInt 32 m)
        (writeSig k (fld (argWord s k.e 1) 0 11 + 1) (BitVec.ofNat 32 (medianIn s k).length) s))) := by
  obtain ⟨t, ht, hb⟩ := answers_runStroke (c := .median i) rfl hk
  dsimp only at hb
  refine ⟨t, ht, fun he => ?_, fun m hm => ?_⟩
  · rw [he] at hb
    exact hb
  · rw [hm] at hb
    exact hb

theorem sched_picks {p : Nat × Word} (hk : strokeAt s 0x0A i = some k)
    (hp : schedPick (weekMinute s.time.calSec.toNat) ((List.range ((fld (argWord s k.e 0) 0 8 - 2) / 2)).map fun j =>
          ((argWord s k.e (2 + 2 * j)).toNat, argWord s k.e (3 + 2 * j))) = some p) :
    Answers (.sched i) s fun t => bare t = bare (writeSig k (fld (argWord s k.e 1) 0 11) p.2 s) := by
  obtain ⟨t, ht, hb⟩ := answers_runStroke (c := .sched i) rfl hk
  dsimp only at hb
  rw [hp] at hb
  exact ⟨t, ht, hb⟩

/-- Settles O28: the packing of a stroke's operands, LOGIC's inputs and SCHED's pick are the model's (log 30), and that an
entry runs once in a tick is log 118's. -/
theorem signalStrokes : Obligations.SignalStrokes := fun _ _ _ =>
  ⟨fun h => answers_stroke rfl h rfl, fun h => answers_stroke rfl h rfl, limit_limits, compare_sets, compare_clears,
    fun h => answers_stroke rfl h rfl,
    fun h => let ⟨t, ht, hb⟩ := answers_runStroke rfl h; ⟨t, ht, _, rfl, hb⟩,
    fun h => let ⟨t, ht, hb⟩ := answers_runStroke rfl h; ⟨t, ht, _, _, rfl, rfl, hb⟩,
    median_writes, fun h => answers_stroke rfl h rfl, stroke_ranOnce, fun _ => sched_picks⟩

end

end Sys2Proof.Machine
end

section
/-!
PROOFS. The strokes to and from records, relays, the log, digests, converters, outputs, the line and the store
(05_canvas_contract.md: Stroke op-codes).
-/

namespace Sys2Proof.Machine

/-! ### Record strokes -/

section
variable {s : State} {i : Nat} {k : Stroke}

theorem clientIn_one (hk : strokeAt s 0x0B i = some k) (h : k.e.inn = 1) : Answers (.clientIn i) s fun t =>
    bare t = bare (writeSig k k.e.out (recordWord s k.e.target 3) s) := by
  obtain ⟨t, ht, hb⟩ := answers_runStroke (c := .clientIn i) rfl hk
  rw [h] at hb
  exact ⟨t, ht, hb⟩

/-- The word of a log entry keeps the code above the tick within the frame. -/
theorem logWord_code (tick code : Nat) (h : code < 2048) :
    fld (BitVec.ofNat 32 (tick % 8192 + code % 2048 * 8192)) 13 11 = code := by
  have hlt : tick % 8192 + code % 2048 * 8192 < 2 ^ 32 := by omega
  rw [fld, BitVec.toNat_ofNat, Nat.mod_eq_of_lt hlt, Nat.shiftRight_eq_div_pow]
  omega

theorem log_pushes (hk : strokeAt s 0x11 i = some k) (hs : Settled s) (hlen : s.store.logQ.length < 512) :
    Answers (.log i) s fun t => bare t = bare s ∧ ∃ e : LogEntry, t.store.logQ = s.store.logQ ++ [e] ∧
      e.value = readSig s k k.e.inn ∧ fld e.word2 13 11 = 0x400 + k.e.out % 1024 := by
  have hrun : runStroke 0x11 i (fun k s => logPush (0x400 + k.e.out % 1024) (readSig s k k.e.inn) s) s =
      laneRan k.e.lane i (logPush (0x400 + k.e.out % 1024) (readSig s k k.e.inn) s) := by rw [runStroke, hk]
  rw [logPush, logAt, if_pos hlen] at hrun
  have hrule : exec (.log i) s = finish s _ := congrArg (finish s) hrun
  refine answers_of_settled hrule (settled_reports rfl hs) ⟨rfl, _, rfl, rfl, ?_⟩
  exact logWord_code _ _ (by omega)

theorem digest_sends {r : Nat × Word × List Word × Bool} (hk : strokeAt s 0x12 i = some k) (hp : s.mirror.pair = true)
    (hr : s.mirror.role = .primary) (hf : (s.mirror.results.find? fun r => r.1 + 1 == canvasTime s / frameLen) = some r) :
    Answers (.digest i) s fun t =>
      t.mirror.built = some { frame := r.1, digest := r.2.1, state := r.2.2.1, err := r.2.2.2 } ∧
      t.mirror.txSeq = s.mirror.txSeq + 1 := by
  obtain ⟨t, ht, hb⟩ := answers_runStroke (c := .digest i) rfl hk
  dsimp only at hb
  rw [hf] at hb
  dsimp only at hb
  rw [if_pos (by simp [hp, hr])] at hb
  have hm := kept_of_bare (·.mirror) (fun _ => rfl) hb
  exact ⟨t, ht, (congrArg Mirror.built hm :), (congrArg Mirror.txSeq hm :)⟩

theorem convStart_wants (hk : strokeAt s 0x28 i = some k) (hch : chInService s k.e.target = true)
    (hc : (modulator s (k.e.target % 16)).conv = none) : Answers (.convStart i) s fun t =>
      bare t = bare (setMod (k.e.target % 16) { modulator s (k.e.target % 16) with
        want := (modulator s (k.e.target % 16)).want ++ [(k.e.target, false, tickNo s)] } s) :=
  answers_stroke rfl hk (by
    dsimp only
    rw [wantConv, hc]
    simp [hch])

theorem openwire_wants (hk : strokeAt s 0x2B i = some k) (hch : chInService s k.e.target = true)
    (ho : owCurrent s k.e.target true = true) : Answers (.openwire i) s fun t =>
      bare t = bare (setMod (k.e.target % 16) { modulator s (k.e.target % 16) with
        want := (modulator s (k.e.target % 16)).want ++ [(k.e.target, true, tickNo s)] } s) :=
  answers_stroke rfl hk (by
    dsimp only
    rw [wantConv]
    simp [hch, ho])

theorem convRead_delivers {r : ConvRes} (hk : strokeAt s 0x29 i = some k) (hm : s.glaze.oosMod.getLsbD (k.e.target % 16) = false)
    (hr : visibleResult s k.e.target = some r) : Answers (.convRead i) s fun t =>
      bare t = bare (writeSig k (k.e.out + 1) (readTag r (decide ((convCh s k.e.target).read ≠ some r.no)))
        (writeSig k k.e.out (BitVec.ofInt 32 r.code) (setCh k.e.target { convCh s k.e.target with read := some r.no } s))) :=
  answers_stroke rfl hk (by
    dsimp only
    rw [hm, hr]
    rfl)

theorem convArb_waits (hk : strokeAt s 0x2A i = some k) (ha : isArbiter s = true) (hch : chInService s k.e.target = true)
    (hl : s.conv.arbWait.length < 16) : Answers (.convArb i) s fun t =>
      bare t = bare { s with conv := { s.conv with
        arbWait := s.conv.arbWait ++ [(k.e.target, none)], arbAt := s.conv.arbAt ++ [tickNo s] } } :=
  answers_stroke rfl hk (by
    dsimp only
    rw [arbRequest_of_room (tickNo s) none ha hch hl])

/-- Settles O29: which word of a record CLIENT_IN reads first is log 31's. -/
theorem recordStrokes : Obligations.RecordStrokes := fun _ _ _ =>
  ⟨clientIn_one, fun h => answers_stroke rfl h rfl, fun h => answers_stroke rfl h rfl, fun h => answers_stroke rfl h rfl,
    log_pushes, fun _ => digest_sends, convStart_wants, fun _ => convRead_delivers, convArb_waits, openwire_wants⟩

end

end Sys2Proof.Machine
end

section
/-!
PROOFS. The strokes of profiles, drives and fans (13_loop_engine.md, 14_motor_drive.md, 15_fans_relays_sounders.md).
-/

namespace Sys2Proof.Machine

/-! ### A written signal waits for the end of the tick beside what is left as it was -/

section
variable {k : Stroke} {g : Nat} {v : Word} {a b : State}

theorem bare_writeSig_congr (h : bare a = bare b) : bare (writeSig k g v a) = bare (writeSig k g v b) := by
  have hf : a.canvas.fresh = b.canvas.fresh := kept_of_bare (·.canvas.fresh) (fun _ => rfl) h
  have hw (x : State) : bare (writeSig k g v x) = if g = 0 ∨ 0x7F0 ≤ g then bare x else
      { bare x with canvas := { (bare x).canvas with
          fresh := { sig := g, lane := k.e.lane, value := v, dl := none } :: x.canvas.fresh } } := by
    unfold writeSig
    split <;> rfl
  rw [hw, hw, h, hf]

theorem writeSig_fresh_congr (h : a.canvas.fresh = b.canvas.fresh) :
    (writeSig k g v a).canvas.fresh = (writeSig k g v b).canvas.fresh := by
  unfold writeSig
  split <;> simp [h]

theorem writeSig_signals : (writeSig k g v a).canvas.signals = a.canvas.signals ∧ (writeSig k g v a).params = a.params ∧
    (writeSig k g v a).conv = a.conv := by
  unfold writeSig
  split <;> exact ⟨rfl, rfl, rfl⟩

end

section
variable {s : State} {i : Nat} {k : Stroke}

theorem prof_writes (hk : strokeAt s 0x22 i = some k) : Answers (.prof i) s fun t =>
    ∃ d : Gen, d = profStep (gen s k.e.target) (readI s k k.e.inn) (profV s k.e.target) (profA s k.e.target)
        (profJ s k.e.target) (profS s k.e.target) ∧
      bare t = bare (writeSig k k.e.out (profOut d) (setGen k.e.target d s)) := by
  obtain ⟨t, ht, hb⟩ := answers_runStroke (c := .prof i) rfl hk
  exact ⟨t, ht, _, rfl, hb.trans (bare_writeSig_congr (by simp))⟩

theorem pwm_demands (hk : strokeAt s 0x30 i = some k) (ho : s.glaze.oosDrv.getLsbD k.e.target = false) :
    Answers (.pwm i) s fun t => bare t = bare (setDrv k.e.target { drv s k.e.target with
      demand := some (clampI 0 (2 ^ 31) (readI s k k.e.inn), tickNo s) } s) :=
  answers_stroke rfl hk (by dsimp only; rw [ho]; rfl)

theorem sixstep_drives (hk : strokeAt s 0x31 i = some k) (ho : s.glaze.oosDrv.getLsbD k.e.target = false)
    (h6 : sixStates (drv s k.e.target) = true) : Answers (.sixstep i) s fun t =>
      bare t = bare (setDrv k.e.target ((drv s k.e.target).withBridge (.six (drv s k.e.target).sector) (now s)) s) :=
  answers_stroke rfl hk (by dsimp only; rw [ho, h6]; rfl)

theorem dtc_references (hk : strokeAt s 0x32 i = some k) (ho : s.glaze.oosDrv.getLsbD k.e.target = false) :
    Answers (.dtc i) s fun t =>
      bare t = bare (writeSig k k.e.out (toQ31 (f32Div (drv s k.e.target).torque (tqMax s k.e.target)))
        (setDrv k.e.target { drv s k.e.target with
          trefNext := some (f32Mul (f32Rat (readI s k k.e.inn) (2 ^ 31)) (tqMax s k.e.target), tickNo s) } s)) :=
  answers_stroke rfl hk (by dsimp only; rw [ho]; rfl)

theorem shunt_samples {at_ : Nat} {u v w : Int} (hk : strokeAt s 0x33 i = some k)
    (ho : s.glaze.oosDrv.getLsbD k.e.target = false)
    (hs : ((drv s k.e.target).sets.find? fun e => decide (e.1 + 120 ≤ tickNo s * tickLen)) = some (at_, u, v, w)) :
    Answers (.shunt i) s fun t =>
      bare t = bare (writeSig k (k.e.out + 2) (BitVec.ofInt 32 (w * 2 ^ 20)) (writeSig k (k.e.out + 1)
        (BitVec.ofInt 32 (v * 2 ^ 20)) (writeSig k k.e.out (BitVec.ofInt 32 (u * 2 ^ 20)) s))) :=
  answers_stroke rfl hk (by dsimp only; rw [ho, hs]; rfl)

/-- One signal written beside what leaves the signals, the parameters and the converters. -/
def WritesOut (k : Stroke) (s u : State) : Prop :=
  ∃ (v : Word) (x : State), u = writeSig k k.e.out v x ∧ x.canvas = s.canvas ∧ x.params = s.params ∧ x.conv = s.conv

theorem fresh_of_writesOut {t u : State} (hb : bare t = bare u) (h : WritesOut k s u) : ∃ v : Word,
    t.canvas.fresh = (writeSig k k.e.out v s).canvas.fresh ∧ t.canvas.signals = s.canvas.signals ∧
      t.params = s.params ∧ t.conv = s.conv := by
  obtain ⟨v, x, rfl, hc, hp, hv⟩ := h
  obtain ⟨ws, wp, wv⟩ := writeSig_signals (k := k) (g := k.e.out) (v := v) (a := x)
  refine ⟨v, ?_, ?_, ?_, ?_⟩
  · exact (kept_of_bare (·.canvas.fresh) (fun _ => rfl) hb).trans (writeSig_fresh_congr (congrArg Canvas.fresh hc))
  · exact (kept_of_bare (·.canvas.signals) (fun _ => rfl) hb).trans (ws.trans (congrArg Canvas.signals hc))
  · exact (kept_of_bare (·.params) (fun _ => rfl) hb).trans (wp.trans hp)
  · exact (kept_of_bare (·.conv) (fun _ => rfl) hb).trans (wv.trans hv)

/-- Whatever the class of its command, CMDIN writes one signal and its channel. -/
theorem cmdin_writes {mv high period : Nat} {edges level : Bool} (hk : strokeAt s 0x34 i = some k)
    (ho : s.glaze.oosDrv.getLsbD k.e.target = false) : Answers (.cmdin i mv high period edges level) s fun t =>
      ∃ v : Word, t.canvas.fresh = (writeSig k k.e.out v s).canvas.fresh ∧ t.canvas.signals = s.canvas.signals ∧
        t.params = s.params ∧ t.conv = s.conv := by
  obtain ⟨t, ht, hb⟩ := answers_runStroke (c := .cmdin i mv high period edges level) rfl hk
  refine ⟨t, ht, fresh_of_writesOut hb ?_⟩
  dsimp only
  rw [if_neg (by simp [ho])]
  generalize cmdX _ _ _ _ _ _ = x
  refine iteInduction (fun _ => ⟨_, _, rfl, rfl, rfl, rfl⟩) fun _ => ?_
  cases x with
  | some x => exact ⟨_, _, rfl, rfl, rfl, rfl⟩
  | none => exact ⟨_, _, rfl, rfl, rfl, rfl⟩

/-- Three signals written after work that leaves the Canvas. -/
theorem threeSigs_fresh {t u : State} {x y z : Word}
    (hb : bare t = bare (writeSig k (k.e.out + 2) z (writeSig k (k.e.out + 1) y (writeSig k k.e.out x u))))
    (hf : u.canvas.fresh = s.canvas.fresh) : t.canvas.fresh =
      (writeSig k (k.e.out + 2) z (writeSig k (k.e.out + 1) y (writeSig k k.e.out x s))).canvas.fresh :=
  (kept_of_bare (·.canvas.fresh) (fun _ => rfl) hb).trans
    (writeSig_fresh_congr (writeSig_fresh_congr (writeSig_fresh_congr hf)))

/-- A channel that does not run puts 0 out for its command. -/
theorem drvSup_idle (hk : strokeAt s 0x0E i = some k) (ho : s.glaze.oosDrv.getLsbD k.e.target = false)
    (hl : drvLive s k.e.target = true) (hr : (drv s k.e.target).st ≠ .run) : Answers (.drvSup i) s fun t =>
      ∃ b c : Word, t.canvas.fresh = (writeSig k (k.e.out + 2) c (writeSig k (k.e.out + 1) b
        (writeSig k k.e.out 0 s))).canvas.fresh := by
  obtain ⟨t, ht, hb⟩ := answers_runStroke (c := .drvSup i) rfl hk
  dsimp only at hb
  rw [if_neg (by simp [ho, hl])] at hb
  have hrun : decide ((drv s k.e.target).st = .run) = false := decide_eq_false hr
  rw [hrun] at hb
  refine ⟨t, ht, _, _, threeSigs_fresh hb ?_⟩
  exact kept_of_keep (w := parts [.drive]) (·.canvas.fresh) (fun _ => rfl) (by simp)

/-- The speed put out for a fan is that at the start of the tick (log 121). -/
theorem fanSup_speed (hk : strokeAt s 0x0D i = some k) (hl : fanLive s k.e.target = true) (hoff : (fan s k.e.target).st = .off) :
    Answers (.fanSup i) s fun t =>
      ∃ b c : Word, t.canvas.fresh = (writeSig k (k.e.out + 2) c (writeSig k (k.e.out + 1) b
        (writeSig k k.e.out (BitVec.ofNat 32 (fanRpmAt s k.e.target (tickStart s))) s))).canvas.fresh := by
  obtain ⟨t, ht, hb⟩ := answers_runStroke (c := .fanSup i) rfl hk
  dsimp only at hb
  rw [if_neg (by simp [hl]), if_pos hoff] at hb
  refine ⟨t, ht, _, _, threeSigs_fresh hb ?_⟩
  exact kept_of_keep (w := parts [.fans]) (·.canvas.fresh) (fun _ => rfl) (by simp)

/-- Settles O33: TACH and FAN_SUP put out the speed at the start of their tick (log 121). -/
theorem outputStrokes : Obligations.OutputStrokes := fun _ _ _ =>
  ⟨prof_writes, pwm_demands, sixstep_drives, dtc_references, fun _ _ _ _ => shunt_samples,
    fun _ _ _ _ _ => cmdin_writes, drvSup_idle, fun h => answers_stroke rfl h rfl, fun h => answers_stroke rfl h rfl,
    fanSup_speed⟩

end

end Sys2Proof.Machine
end

section
/-!
PROOFS. The strokes of the line and store lanes (05_canvas_contract.md: Stroke op-codes): what they leave of the clients' runs
and of the queue of commands.
-/

namespace Sys2Proof.Machine

/-! ### What writes of a client's record leave beside the records -/

section
variable {α : Type} (F : Clients → α) (hF : ∀ c ws, F { c with words := ws } = F c)
include hF

theorem setC_clients (id w : Nat) (mask v : Word) (s : State) : F (setC id w mask v s).clients = F s.clients := by
  unfold setC putC
  dsimp only
  split <;> exact hF _ _

theorem setClientFlag_clients (id b : Nat) (v : Bool) (s : State) : F (setClientFlag id b v s).clients = F s.clients := by
  unfold setClientFlag
  split
  · rfl
  · have hr (u : State) (n : Nat) (h : F u.clients = F s.clients) :
        F (logClient id (clientCause id n v u)).clients = F s.clients := by
      have hk : bare (logClient id (clientCause id n v u)) = bare u := by simp [logClient, clientCause]
      exact (congrArg F (kept_of_bare (·.clients) (fun _ => rfl) hk)).trans h
    exact hr _ _ (setC_clients F hF ..)

theorem setClientTrouble_clients (id code : Nat) (s : State) : F (setClientTrouble id code s).clients = F s.clients := by
  unfold setClientTrouble
  split
  · rfl
  · have hk : bare (logClient id (clientCause id 5 (code != 0) (setCF id 8 0 4 code s))) = bare (setCF id 8 0 4 code s) := by
      simp [logClient, clientCause]
    exact (congrArg F (kept_of_bare (·.clients) (fun _ => rfl) hk)).trans (setC_clients F hF ..)

theorem recordWrite_clients (id : Nat) (s : State) (w : Nat × Word × Word) : F (recordWrite id s w).clients = F s.clients := by
  have hi {c : Prop} [Decidable c] {a b : State} (h : F a.clients = F b.clients) :
      F (if c then a else b).clients = F b.clients := by
    split
    · exact h
    · rfl
  unfold recordWrite
  rw [setC_clients F hF]
  exact ((hi (setClientFlag_clients F hF ..)).trans (hi (setClientFlag_clients F hF ..))).trans
    (hi (setClientTrouble_clients F hF ..))

theorem eolCheck_clients (id : Nat) (s : State) : F (eolCheck id s).clients = F s.clients := by
  unfold eolCheck
  dsimp only
  split
  · rfl
  · rw [setClientFlag_clients F hF, setClientFlag_clients F hF]

theorem setW28_clients (id ans n dlv : Nat) (seq : Byte) (s : State) : F (setW28 id ans n dlv seq s).clients = F s.clients :=
  (setC_clients F hF ..).trans (setC_clients F hF ..)

end

/-- What the loss of admission leaves of the clients: the queue of commands. -/
theorem loseAdmission_queue (id : Nat) (s : State) : (loseAdmission id s).clients.queue = s.clients.queue := by
  have hC (u : State) (a lo n v : Nat) : (setCF id a lo n v u).clients.queue = u.clients.queue :=
    setC_clients (·.queue) (fun _ _ => rfl) ..
  unfold loseAdmission
  split
  · have hs (tag : Byte) (a r : Nat) (u : State) : (svcDone tag a r u).clients.queue = u.clients.queue :=
      kept_of_bare (s := svcReport tag a r u) (·.clients.queue) (fun _ => rfl) (by simp [svcDone])
    have h3 := ((hC _ 6 16 2 0).trans (hC _ 0 15 1 0)).trans (hC s 0 12 1 0)
    exact iteInduction (motive := fun u : State => u.clients.queue = s.clients.queue) (fun _ => (hs ..).trans h3) fun _ => h3
  · rfl

/-- A sent command leaves the queue's other commands and the keys of all. -/
theorem cmdSent_queue (q : QCmd) (s : State) : (cmdSent q s).clients.queue =
    s.clients.queue.map fun e => if e = q then { e with sends := e.sends + 1 } else e := by
  have hk (cls ans : Nat) (u : State) : (classAnswer cls ans u).clients.queue = u.clients.queue := by
    unfold classAnswer
    split <;> rfl
  unfold cmdSent
  extract_lets c s1 s2
  have h2 : s2.clients.queue = s1.clients.queue := setW28_clients (·.queue) (fun _ _ => rfl) ..
  split
  · exact (hk ..).trans h2
  · exact h2

theorem cmdsFor_key {s : State} {id : Nat} {zc : Bool} {q : QCmd} (h : q ∈ cmdsFor s id zc) : q.id = id ∧ q.zc = zc := by
  have hl : q ∈ s.clients.queue.filter fun q => q.id == id && q.zc == zc := by
    unfold cmdsFor at h
    dsimp only at h
    rcases List.mem_append.1 h with h | h
    · rcases List.mem_append.1 h with h | h
      · exact (List.mem_filter.1 h).1
      · split at h
        · cases h
        · exact (List.mem_filter.1 h).1
    · exact (List.mem_filter.1 h).1
  simpa using (List.mem_filter.1 hl).2

/-! ### The line lanes -/

section
variable {s : State} {i : Nat} {k : Stroke}

theorem bbRx_takes {ws : List (Nat × Word × Word)} (hk : strokeAt s 0x3A i = some k) (hr : (cRun s k.e.target).report = some ws) :
    Answers (.bbRx i) s fun t => t.clients.run = tblSet (fun _ => ClientRun.blank) s.clients.run k.e.target
      { cRun s k.e.target with report := none } := by
  obtain ⟨t, ht, hb⟩ := answers_runStroke (c := .bbRx i) rfl hk
  dsimp only at hb
  rw [hr] at hb
  refine ⟨t, ht, (kept_of_bare (·.clients.run) (fun _ => rfl) hb).trans ?_⟩
  dsimp only
  exact (eolCheck_clients (·.run) (fun _ _ => rfl) ..).trans
    (foldl_kept (·.clients.run) (fun u w => recordWrite_clients (·.run) (fun _ _ => rfl) _ u w) _ _)

theorem bbTx_gathers (hk : strokeAt s 0x3B i = some k) (hq : downQueued s k.e.target = true) : Answers (.bbTx i) s fun t =>
    bare t = bare { s with bb := { s.bb with
      gather := s.bb.gather ++ [{ id := k.e.target, down := true, carried := false }] } } :=
  answers_stroke rfl hk (congrArg bare (if_pos hq))

/-- A command of a track leaves the queue as it is sent once (log 33). -/
theorem zcTx_leaves {q : QCmd} {rest : List QCmd} {trk : Nat} (hk : strokeAt s 0x3C i = some k)
    (hq : cmdsFor s k.e.target true = q :: rest) (ht : cFld s k.e.target 0 16 2 = trk + 1) : Answers (.zcTx i) s fun t =>
      (∀ e ∈ t.clients.queue, ¬(e.id = q.id ∧ e.seq = q.seq ∧ e.zc = true)) ∧
      ∀ e ∈ s.clients.queue, ¬(e.id = q.id ∧ e.seq = q.seq ∧ e.zc = true) → e ∈ t.clients.queue := by
  obtain ⟨t, htx, hb⟩ := answers_runStroke (c := .zcTx i) rfl hk
  dsimp only at hb
  rw [hq, ht] at hb
  have hzc : q.zc = true := (cmdsFor_key (hq ▸ List.mem_cons_self : q ∈ cmdsFor s k.e.target true)).2
  have hqueue : t.clients.queue = (s.clients.queue.map fun e => if e = q then { e with sends := e.sends + 1 } else e).filter
      fun e => !(e.id == q.id && e.seq == q.seq && e.zc) := by
    refine (kept_of_bare (·.clients.queue) (fun _ => rfl) hb).trans ?_
    dsimp only
    split
    · rw [loseAdmission_queue]
      dsimp only
      rw [cmdSent_queue]
      rfl
    · dsimp only
      rw [cmdSent_queue]
      rfl
  refine ⟨t, htx, fun e he => ?_, fun e he hne => ?_⟩
  · rw [hqueue] at he
    simpa [imp_iff_not_or, or_assoc] using (List.mem_filter.1 he).2
  · rw [hqueue]
    have heq : e ≠ q := fun h => hne ⟨by rw [h], by rw [h], by rw [h, hzc]⟩
    exact List.mem_filter.2 ⟨List.mem_map.2 ⟨e, he, if_neg heq⟩, by simpa [imp_iff_not_or, or_assoc] using hne⟩

/-- The record bits that a frame of diagnostics does not write stay. -/
theorem fld_masked (x v : Word) : fld ((x &&& ~~~0x70) ||| (v &&& 0x70)) 16 16 = fld x 16 16 := by
  have h (w : Word) : fld w 16 16 = (w.extractLsb' 16 16).toNat := by simp [fld, BitVec.extractLsb'_toNat]
  have hx : ((x &&& ~~~0x70) ||| (v &&& 0x70)).extractLsb' 16 16 = x.extractLsb' 16 16 := by
    rw [BitVec.extractLsb'_or, BitVec.extractLsb'_and, BitVec.extractLsb'_and,
      show (~~~0x70 : Word).extractLsb' 16 16 = BitVec.allOnes 16 from by decide,
      show (0x70 : Word).extractLsb' 16 16 = 0#16 from by decide, BitVec.and_allOnes, BitVec.and_zero, BitVec.or_zero]
  rw [h, h, hx]

/-- A write of the diagnostics of a record leaves its end of life and its days. -/
theorem setC_diagnostics {u : State} {id : Nat} {v : Word} (hwf : tblWf cBlank u.clients.words = true) :
    cFld (setC id 8 0x70 v u) id 9 0 16 = cFld u id 9 0 16 ∧ cFld (setC id 8 0x70 v u) id 8 16 16 = cFld u id 8 16 16 := by
  have hw : (setC id 8 0x70 v u).clients.words =
      tblSet cBlank u.clients.words (32 * id + 8) ((cWord u id 8 &&& ~~~0x70) ||| (v &&& 0x70)) := by
    unfold setC
    dsimp only
    split <;> rfl
  constructor
  · rw [cFld, cWord, hw, tblGet_tblSet_other _ (by omega)]
    rfl
  · rw [cFld, cWord, hw, tblGet_tblSet_same hwf]
    exact fld_masked _ _

theorem bare_setC_setZc (id w t : Nat) (m v : Word) (z : ZcTrack) (s : State) :
    bare (setC id w m v (setZc t z s)) = bare (setC id w m v s) := by
  unfold setC
  dsimp only
  rw [apply_ite bare, apply_ite bare]
  rfl

theorem zcRx_diagnostics {id st : Nat} (hk : strokeAt s 0x3D i = some k) (ho : s.glaze.oosPh.getLsbD k.e.target = false)
    (hrx : (zcTrack s k.e.target).rx = [(2, id, st)]) (hwf : tblWf cBlank s.clients.words = true)
    (hlife : cFld s id 9 0 16 = 0) (hdays : cFld s id 8 16 16 = 0) : Answers (.zcRx i) s fun t =>
      bare t = bare (setC id 8 0x70 (BitVec.ofNat 32 (st * 16)) s) := by
  refine answers_stroke rfl hk ?_
  dsimp only
  rw [ho, hrx]
  have hrw (u : State) : recordWrite id u (8, 0x70, BitVec.ofNat 32 (st * 16)) = setC id 8 0x70 (BitVec.ofNat 32 (st * 16)) u := by
    simp [recordWrite]
  have heol (u : State) (h : u.clients.words = s.clients.words) :
      eolCheck id (setC id 8 0x70 (BitVec.ofNat 32 (st * 16)) u) = setC id 8 0x70 (BitVec.ofNat 32 (st * 16)) u := by
    obtain ⟨hl, hd⟩ := setC_diagnostics (id := id) (v := BitVec.ofNat 32 (st * 16)) (h ▸ hwf)
    have hw (n : Nat) : cWord u id n = cWord s id n := congrArg (tblGet cBlank · (32 * id + n)) h
    unfold eolCheck
    exact if_pos ⟨hl.trans ((congrArg (fld · 0 16) (hw 9)).trans hlife), hd.trans ((congrArg (fld · 16 16) (hw 8)).trans hdays)⟩
  have hz : zcContent 2 st = [(8, 0x70, BitVec.ofNat 32 (st * 16))] := rfl
  simp only [Bool.false_eq_true, if_false, List.foldl_cons, List.foldl_nil, hz, hrw]
  exact (congrArg bare (heol (setZc ..) rfl)).trans (bare_setC_setZc ..)

/-! ### The store lane -/

/-- Inside a sector an entry is programmed and the position moves on. -/
theorem logWrite_inside {hyper word2 value : Word} {u : State} {m : Memory} {p : Nat} {seq : Word} (hm : u.mem = m)
    (hpos : u.store.logPos = p) (hseq : u.store.logSeq = seq) (hp : p % 256 ≠ 0) :
    bare (logWrite hyper word2 value u) = bare { u with
      mem := memWriteWords m (sectorBase 117 + 16 * p) [seq, hyper, word2, value]
      store := { u.store with logPos := (p + 1) % 2816, logSeq := seq + 1 } } := by
  subst hm hpos hseq
  unfold logWrite progWords
  dsimp only
  rw [if_neg (by simp [hp])]
  generalize memWriteWords _ _ _ = m
  rw [bare_evt]
  rfl

theorem stLogq_writes {e : LogEntry} {rest : List LogEntry} (hk : strokeAt s 0x3F i = some k) (ha : arrayFree s = true)
    (hl : logFree s = true) (hd : s.store.lostDue = false) (hq : s.store.logQ = e :: rest) (hp : s.store.logPos % 256 ≠ 0) :
    Answers (.stLogq i) s fun t => t.store.logPos = (s.store.logPos + 1) % 2816 ∧ t.store.logSeq = s.store.logSeq + 1 ∧
      t.mem = (progWords (sectorBase 117 + 16 * s.store.logPos) [s.store.logSeq, e.hyper, e.word2, e.value] s).mem := by
  obtain ⟨t, ht, hb⟩ := answers_runStroke (c := .stLogq i) rfl hk
  have hw : writeOneLog s = logWrite e.hyper e.word2 e.value { s with store := { s.store with logQ := rest } } := by
    rw [writeOneLog, hd, hq]
    rfl
  rw [ha, hl, hw] at hb
  replace hb : bare t = _ := hb.trans (logWrite_inside rfl rfl rfl hp)
  exact ⟨t, ht, (kept_of_bare (·.store.logPos) (fun _ => rfl) hb :), (kept_of_bare (·.store.logSeq) (fun _ => rfl) hb :),
    (kept_of_bare (·.mem) (fun _ => rfl) hb :)⟩

/-- Settles O34: a ZC_TX command leaves its queue when its frame is queued for the track (log 33). -/
theorem lineAndStoreStrokes : Obligations.LineAndStoreStrokes := fun _ _ _ =>
  ⟨fun h => answers_stroke rfl h rfl, fun h => answers_stroke rfl h rfl, fun _ => bbRx_takes, bbTx_gathers,
    fun _ _ _ => zcTx_leaves, fun _ _ => zcRx_diagnostics, fun h => answers_stroke rfl h rfl, fun _ _ => stLogq_writes⟩

end

end Sys2Proof.Machine
end

section
/-!
PROOFS. The run states of the Canvas and its control (01_building_and_tiers.md: From comfort to emergency; 05_canvas_contract.md:
Run states, Verification, Canvas swap, Overrun and lane faults).
-/

namespace Sys2Proof.Machine

/-! ### What dispositions, initial signals and the ring leave -/

theorem disposeOne_run (w : DWord) (s : State) : (disposeOne w s).canvas.run = s.canvas.run := by
  have hv (c i : Nat) (v : Word) : (valueOut c i v s).canvas.run = s.canvas.run := by
    unfold valueOut
    split
    · rfl
    · rfl
    · rfl
    · split
      · exact kept_of_keep (w := parts [.clients, .store]) (·.canvas.run) (fun _ => rfl) (by simp)
      · rfl
    · rfl
  unfold disposeOne
  dsimp only
  split
  · rfl
  · rfl
  · split <;> rfl
  · exact hv ..

theorem dispose_run (s : State) : (dispose s).canvas.run = s.canvas.run := by
  refine foldl_kept (·.canvas.run) (fun u w => ?_) _ s
  split
  · exact disposeOne_run w u
  · rfl

/-- Initial signals are written among the signals. -/
theorem initSignals_canvas {α : Type} (F : Canvas → α) (hF : ∀ c a b, F { c with signals := a, fresh := b } = F c) (m : Image)
    (s : State) : F (initSignals m s).canvas = F s.canvas := by
  refine foldl_kept (fun u => F u.canvas) (fun u w => ?_) _ s
  unfold setSignal
  split
  · rfl
  · exact hF _ _ _

theorem ringFill_paused : ∀ (l : List (Nat × List Word)) (s : State), (ringFill s l).host.op.paused = s.host.op.paused
  | [], _ => rfl
  | (t, ws) :: r, s => by
    unfold ringFill
    split
    · exact ringFill_paused r _
    · rfl

/-! ### Changes of the run state -/

section
variable {s : State}

/-- The emergency set takes the Canvas, its outputs and the clients' commands, and neither a trip nor an alarm. -/
theorem emergencySetChange_changes (hf : atFrame s = true) (hc : canvasRuns s = true) (hr : s.canvas.run = .comfort)
    (hh : heldBefore s = true) : Answers .emergencySetChange s fun t =>
      t.canvas.run = .emergency ∧ t.gesso.trip = s.gesso.trip ∧ t.safety.alarms = s.safety.alarms := by
  have hrule : exec .emergencySetChange s = finish s (toEmergency s) := congrArg (finish s) (if_pos (by simp [hf, hc, hr, hh]))
  have hkeep : keep (parts [.pads, .canvas, .host, .clients, .loop, .drive, .fans, .store]) (toEmergency s) =
      keep (parts [.pads, .canvas, .host, .clients, .loop, .drive, .fans, .store]) s := by simp
  refine answers_of_bare hrule fun t hb _ => ⟨?_, ?_, ?_⟩
  · refine (kept_of_bare (·.canvas.run) (fun _ => rfl) hb).trans ?_
    have hd (u : State) : (refuseC3 (noteSwitches s (settleOuts u))).canvas.run = u.canvas.run :=
      kept_of_keep (w := parts [.drive, .fans, .clients, .store]) (·.canvas.run) (fun _ => rfl) (by simp)
    unfold toEmergency
    extract_lets swap c s1 s2
    have h2 : s2.canvas.run = .emergency := by
      refine (hd _).trans ((dispose_run _).trans ?_)
      exact kept_of_keep (w := parts [.loop]) (·.canvas.run) (fun _ => rfl) (keep_dropDelays _ (by simp))
    exact iteInduction (motive := fun u : State => u.canvas.run = .emergency) (fun _ => h2) fun _ => h2
  · exact (kept_of_bare (·.gesso.trip) (fun _ => rfl) hb).trans (kept_of_keep (·.gesso.trip) (fun _ => rfl) hkeep)
  · exact (kept_of_bare (·.safety.alarms) (fun _ => rfl) hb).trans (kept_of_keep (·.safety.alarms) (fun _ => rfl) hkeep)

theorem ringDrain_paused (u : State) : (ringDrain u).host.op.paused = u.host.op.paused := by
  unfold ringDrain
  split
  · rfl
  · exact ringFill_paused ..

/-- The comfort set goes on with nothing held and no operation paused. -/
theorem toComfort_spec (s : State) :
    (toComfort s).canvas.run = .comfort ∧ (toComfort s).canvas.held = [] ∧ (toComfort s).host.op.paused = false := by
  have hc : (toComfort s).canvas.run = .comfort ∧ (toComfort s).canvas.held = [] := by
    have hk : keep (parts [.pads, .host, .loop, .drive, .fans]) (toComfort s) = keep (parts [.pads, .host, .loop, .drive, .fans])
        { s with
          canvas := { s.canvas with run := .comfort, held := [] }
          host := { s.host with op := { s.host.op with paused := false } } } := by simp [toComfort]
    exact ⟨(kept_of_keep (·.canvas.run) (fun _ => rfl) hk :), (kept_of_keep (·.canvas.held) (fun _ => rfl) hk :)⟩
  obtain ⟨hrun, hheld⟩ := hc
  refine ⟨hrun, hheld, ?_⟩
  have ho (u : State) : (noteSwitches s (settleOuts u)).host.op.paused = u.host.op.paused :=
    kept_of_keep (w := parts [.drive, .fans]) (·.host.op.paused) (fun _ => rfl) (by simp)
  unfold toComfort
  extract_lets was c h p s1 is
  refine (ho _).trans ((ringDrain_paused _).trans ?_)
  exact kept_of_keep (w := parts [.pads, .loop]) (s := s1) (·.host.op.paused) (fun _ => rfl) (by simp [s1])

theorem comfort_of_toComfort {c : Instr} (hrule : exec c s = finish s (toComfort s)) : Answers c s fun t =>
    t.canvas.run = .comfort ∧ t.canvas.held = [] ∧ t.host.op.paused = false := by
  obtain ⟨hrun, hheld, hop⟩ := toComfort_spec s
  exact answers_of_bare hrule fun t hb _ => ⟨(kept_of_bare (·.canvas.run) (fun _ => rfl) hb).trans hrun,
    (kept_of_bare (·.canvas.held) (fun _ => rfl) hb).trans hheld,
    (kept_of_bare (·.host.op.paused) (fun _ => rfl) hb).trans hop⟩

theorem comfortSetReturn_returns (hf : atFrame s = true) (hc : canvasRuns s = true) (hr : s.canvas.run = .emergency)
    (hh : heldBefore s = false) : Answers .comfortSetReturn s fun t =>
      t.canvas.run = .comfort ∧ t.canvas.held = [] ∧ t.host.op.paused = false :=
  comfort_of_toComfort (congrArg (finish s) (if_pos (by simp [hf, hc, hr, hh])))

/-- The run-in ends in comfort with Tier 2 and no alarm held. -/
theorem canvasRunInEnd_comfort (hf : atFrame s = true) (hc : canvasRuns s = true) (hr : s.canvas.run = .runIn)
    (ht : s.sys.tier = 2) (hh : heldBefore s = false) : Answers .canvasRunInEnd s fun t =>
      t.canvas.run = .comfort ∧ t.canvas.held = [] := by
  have hdue : runDue s = .comfort := by simp [runDue, hr, ht, hh]
  have henter : enterRun (runDue s) s = toComfort s := by rw [hdue]; rfl
  have hrule : exec .canvasRunInEnd s = finish s (enterRun (runDue s) s) :=
    congrArg (finish s) (if_pos (by simp [hf, hc, hr, ht]))
  obtain ⟨t, h, hrun, hheld, -⟩ := comfort_of_toComfort (hrule.trans (congrArg (finish s) henter))
  exact ⟨t, h, hrun, hheld⟩

end

/-- Settles O35. -/
theorem runStates_hold : Obligations.RunStates := fun _ hf hc =>
  ⟨emergencySetChange_changes hf hc, fun hr hh _ => comfortSetReturn_returns hf hc hr hh, canvasRunInEnd_comfort hf hc⟩

/-! ### Start, verification and swap -/

section
variable {s : State}

theorem readImage_of_mem {a b : State} (h : a.mem = b.mem) (k : Bool) : readImage a k = readImage b k := by
  have hw (i : Nat) : imgWord a k i = imgWord b k i := by rw [imgWord, imgWord, h]
  have hp (o n : Nat) : imgPairs a k o n = imgPairs b k o n := by rw [imgPairs, imgPairs, h]
  simp only [readImage, hw, hp, h]

theorem startImage_spec (k fb : Bool) (u : State) : (startImage k fb u).canvas.run = .runIn ∧
    (startImage k fb u).power.canvasStarted = some (now u) ∧ (startImage k fb u).canvas.fallback = fb ∧
    (startImage k fb u).canvas.image = some (readImage u k) ∧ (startImage k fb u).canvas.noImage = false := by
  have hi {α : Type} (F : State → α) (hF : ∀ x, F (keep (parts [.loop]) x) = F x) (l : List Entry) (x : State) :
      F (l.foldl (fun st e => instReturn e st) x) = F x :=
    kept_of_keep F hF (keep_foldl (fun st e => by simp) l x)
  have hp (m : Image) (x : State) : (initSignals m x).power.canvasStarted = x.power.canvasStarted :=
    kept_of_keep (w := parts [.canvas]) (·.power.canvasStarted) (fun _ => rfl) (by simp)
  unfold startImage
  dsimp only
  refine ⟨?_, ?_, ?_, ?_, ?_⟩
  · exact (hi (·.canvas.run) (fun _ => rfl) ..).trans (initSignals_canvas (·.run) (fun _ _ _ => rfl) ..)
  · exact (hi (·.power.canvasStarted) (fun _ => rfl) ..).trans (hp ..)
  · exact (hi (·.canvas.fallback) (fun _ => rfl) ..).trans (initSignals_canvas (·.fallback) (fun _ _ _ => rfl) ..)
  · exact (hi (·.canvas.image) (fun _ => rfl) ..).trans (initSignals_canvas (·.image) (fun _ _ _ => rfl) ..)
  · exact (hi (·.canvas.noImage) (fun _ => rfl) ..).trans (initSignals_canvas (·.noImage) (fun _ _ _ => rfl) ..)

/-- The image in use starts the Canvas at a frame 400 ms after the origin. -/
theorem canvasStart_starts (hv : s.power.vmain = true) (hi : s.power.inReset = false) (hf : atFrame s = true)
    (hr : s.canvas.run = .stopped) (hs : s.power.canvasStarted = none) (hst : s.store.ready = true)
    (hd : (domAvail s).getLsbD 2 = true) (ho : s.power.origin + 400 * ms ≤ now s) (him : verifyImage s s.canvas.slot true = none) :
    Answers .canvasStart s fun t => t.canvas.run = .runIn ∧ t.power.canvasStarted = some (now s) ∧ t.canvas.fallback = false ∧
      t.canvas.image = some (readImage s s.canvas.slot) := by
  have hstart : startCanvas s = startImage s.canvas.slot false (noteVerify s.canvas.slot none s) := by
    rw [startCanvas, him]
  obtain ⟨hrun, hat, hfb, himg, hno⟩ := startImage_spec s.canvas.slot false (noteVerify s.canvas.slot none s)
  have hrule : exec .canvasStart s = finish s (startImage s.canvas.slot false (noteVerify s.canvas.slot none s)) := by
    change execCanvasStart s = _
    rw [execCanvasStart, if_pos (by simp [hv, hi, hf, hr, hs, hst, hd, passed, ho])]
    dsimp only
    rw [hstart, hno]
    rfl
  refine answers_of_bare hrule fun t hb _ => ⟨?_, ?_, ?_, ?_⟩
  · exact (kept_of_bare (·.canvas.run) (fun _ => rfl) hb).trans hrun
  · exact (kept_of_bare (·.power.canvasStarted) (fun _ => rfl) hb).trans (hat.trans rfl)
  · exact (kept_of_bare (·.canvas.fallback) (fun _ => rfl) hb).trans hfb
  · exact (kept_of_bare (·.canvas.image) (fun _ => rfl) hb).trans (himg.trans (congrArg some (readImage_of_mem rfl _)))

theorem verificationDone_stages (hb : s.canvas.verBusy = true) (hr : reserveFree s 1 1 = true) (hp : s.host.op.paused = false) :
    Answers .verificationDone s fun t => t.canvas.verBusy = false ∧ t.canvas.stagedGen = imgWord s s.canvas.verSlot 3 ∧
      t.canvas.stagedOk = ((verifyImage s s.canvas.verSlot false).isNone && decide (s.canvas.verSlot ≠ s.canvas.slot)) ∧
      t.canvas.run = s.canvas.run ∧ t.canvas.image = s.canvas.image := by
  have hrule : exec .verificationDone s = finish s (verifyEnds s) := congrArg (finish s) (if_pos (by simp [hb, hr, hp]))
  generalize hq : verifyImage s s.canvas.verSlot false = r
  rw [verifyEnds, hq, staged] at hrule
  refine answers_of_bare hrule fun t hb _ => ?_
  have h := hb.trans (bare_setIrq _ _)
  exact ⟨(kept_of_bare (·.canvas.verBusy) (fun _ => rfl) h :), (kept_of_bare (·.canvas.stagedGen) (fun _ => rfl) h :),
    (kept_of_bare (·.canvas.stagedOk) (fun _ => rfl) h :), (kept_of_bare (·.canvas.run) (fun _ => rfl) h :),
    (kept_of_bare (·.canvas.image) (fun _ => rfl) h :)⟩

theorem settleRun_of_due (h : runDue s = s.canvas.run) : settleRun s = s := if_neg (by simp [h])

/-- A swap beside what its image writes of signals, instances and outputs. -/
theorem swapImage_canvas {α : Type} (F : Canvas → α) (hF : ∀ c a b, F { c with signals := a, fresh := b } = F c)
    (hb : ∀ x, F (keep (parts [.pads, .loop, .drive, .fans]) x).canvas = F x.canvas) : F (swapImage s).canvas = F { s.canvas with
      image := some (readImage s (!s.canvas.slot)), slot := !s.canvas.slot, swapArm := false, stagedOk := false
      swapHeld := false, fallback := false, swapCnt := s.canvas.swapCnt + 1 } := by
  unfold swapImage
  extract_lets m was c s1 s2
  have h2 : keep (parts [.pads, .loop, .drive, .fans]) (setIrq 5 (logPush 0x020 m.generation s2)) =
      keep (parts [.pads, .loop, .drive, .fans]) s1 := by simp [s2]
  exact (kept_of_keep (fun x => F x.canvas) hb h2).trans (initSignals_canvas F hF m _)

theorem canvasSwap_swaps (hd : runDue s = s.canvas.run) (hr : s.canvas.run = .comfort) (hs : swapDue s = true)
    (hh : s.canvas.swapHeld = false) : Answers .canvasSwap s fun t =>
      t.canvas.slot = !s.canvas.slot ∧ t.canvas.image = some (readImage s (!s.canvas.slot)) ∧
      t.canvas.run = .comfort ∧ t.canvas.swapArm = false ∧ t.canvas.swapCnt = s.canvas.swapCnt + 1 := by
  have hrule : exec .canvasSwap s = finish s (swapImage s) := by
    change execCanvasSwap s = _
    rw [execCanvasSwap, settleRun_of_due hd]
    dsimp only
    rw [if_pos hs, swapNow, hr, hh]
    rfl
  refine answers_of_bare hrule fun t hb _ => ⟨?_, ?_, ?_, ?_, ?_⟩
  · exact (kept_of_bare (·.canvas.slot) (fun _ => rfl) hb).trans (swapImage_canvas (·.slot) (fun _ _ _ => rfl) fun _ => rfl)
  · exact (kept_of_bare (·.canvas.image) (fun _ => rfl) hb).trans (swapImage_canvas (·.image) (fun _ _ _ => rfl) fun _ => rfl)
  · exact (kept_of_bare (·.canvas.run) (fun _ => rfl) hb).trans
      ((swapImage_canvas (·.run) (fun _ _ _ => rfl) fun _ => rfl).trans hr)
  · exact (kept_of_bare (·.canvas.swapArm) (fun _ => rfl) hb).trans (swapImage_canvas (·.swapArm) (fun _ _ _ => rfl) fun _ => rfl)
  · exact (kept_of_bare (·.canvas.swapCnt) (fun _ => rfl) hb).trans (swapImage_canvas (·.swapCnt) (fun _ _ _ => rfl) fun _ => rfl)

/-- Settles O37: a swap due in the emergency set waits (R31). -/
theorem swapHeldInEmergency : Obligations.SwapHeldInEmergency := by
  intro s hd hr hs
  have hrule : exec .canvasSwap s = finish s { s with canvas := { s.canvas with swapHeld := true } } := by
    change execCanvasSwap s = _
    rw [execCanvasSwap, settleRun_of_due hd]
    dsimp only
    rw [if_pos hs, swapNow, if_pos hr]
  exact answers_of_bare hrule fun t hb _ => hb

/-! ### Lane faults -/

/-- The strokes of a faulted lane are abandoned: the Canvas runs on, its other faults as they were. -/
theorem abandonTick_lanes (lane : Nat) (s : State) : (abandonTick lane s).canvas.run = s.canvas.run ∧
    (abandonTick lane s).canvas.laneFlt = s.canvas.laneFlt := by
  have hc (u : State) (i : Nat) : (countOverrun i lane false u).canvas.run = u.canvas.run ∧
      (countOverrun i lane false u).canvas.laneFlt = u.canvas.laneFlt := by
    have h := bare_countOverrun i lane false u
    exact ⟨(canvas_of_bare (f := Canvas.run) (fun _ => rfl) h :), (canvas_of_bare (f := Canvas.laneFlt) (fun _ => rfl) h :)⟩
  have hrun (l : List Nat) (u : State) :=
    foldl_kept (·.canvas.run) (g := fun st i => countOverrun i lane false st) (fun u i => (hc u i).1) l u
  have hflt (l : List Nat) (u : State) :=
    foldl_kept (·.canvas.laneFlt) (g := fun st i => countOverrun i lane false st) (fun u i => (hc u i).2) l u
  unfold abandonTick
  dsimp only
  split
  · exact ⟨hrun .., hflt ..⟩
  · exact ⟨rfl, rfl⟩

/-- What stops with a lane leaves the lane faults, and with a lane that is no core lane the Canvas. -/
theorem laneStops_lanes (lane : Nat) (s : State) : (laneStops lane s).canvas.laneFlt = s.canvas.laneFlt ∧
    (2 ≤ lane → (laneStops lane s).canvas.run = s.canvas.run) := by
  have hk {u : State} (h : keep (parts [.pads, .safety, .bb, .conv, .drive, .fans, .proof]) u =
      keep (parts [.pads, .safety, .bb, .conv, .drive, .fans, .proof]) s) : u.canvas.laneFlt = s.canvas.laneFlt ∧
        (2 ≤ lane → u.canvas.run = s.canvas.run) :=
    ⟨kept_of_keep (·.canvas.laneFlt) (fun _ => rfl) h, fun _ => kept_of_keep (·.canvas.run) (fun _ => rfl) h⟩
  unfold laneStops
  split
  · exact ⟨canvasStop_laneFlt s, fun h => absurd h (by omega)⟩
  · exact ⟨canvasStop_laneFlt s, fun h => absurd h (by omega)⟩
  · exact hk (by simp)
  · exact hk (by simp)
  · exact hk (by simp)
  · exact hk (by simp)
  · exact hk rfl

theorem laneFault_marks {lane : Fin 8} (hd : (s.sys.applied &&& ~~~s.sys.gated).getLsbD (laneDom lane.val) = true)
    (hf : s.canvas.laneFlt.getLsbD lane.val = false) : Answers (.laneFault lane) s fun t =>
      t.canvas.laneFlt = setBit s.canvas.laneFlt lane.val true ∧ (2 ≤ lane.val → t.canvas.run = s.canvas.run) := by
  refine answers_of_bare (exec_laneFault hd hf) fun t hb _ => ?_
  obtain ⟨hstop, hrun⟩ := laneStops_lanes lane.val (laneFaulted lane.val s)
  obtain ⟨arun, aflt⟩ := abandonTick_lanes lane.val s
  have hr (c code : Nat) (v : Word) (u : State) : (latchWake c (logPush code v u)).canvas.run = u.canvas.run :=
    canvas_of_bare (f := Canvas.run) (fun _ => rfl) ((bare_latchWake c _).trans (bare_logPush code v u))
  constructor
  · rw [canvas_of_judged (f := Canvas.laneFlt) (fun _ => rfl) hb, hstop, laneFaulted_laneFlt, aflt]
  · intro h
    rw [canvas_of_judged (f := Canvas.run) (fun _ => rfl) hb, hrun h]
    exact (hr ..).trans arun

theorem strokeOverrun_counts {i : Nat} {e : Entry} {k : Stroke} (he : (entries s)[i]? = some e) (h20 : e.op ≠ 0x20)
    (h21 : e.op ≠ 0x21) (hs : entrySkipped s e = false) (hk : strokeAt s e.op i = some k) : Answers (.strokeOverrun i) s fun t =>
      t.canvas.ovrCnt = tblSet (fun _ => (0 : Word)) s.canvas.ovrCnt k.e.lane
        (tblGet (fun _ => (0 : Word)) s.canvas.ovrCnt k.e.lane + 1) ∧
      t.canvas.signals = s.canvas.signals ∧ t.canvas.fresh = s.canvas.fresh := by
  obtain ⟨t, ht, hcnt, -, hsig, hfresh, -⟩ := overrunAbandoned s i e k he h20 h21 hs hk
  exact ⟨t, ht, hcnt, hsig, hfresh⟩

/-- Settles O36. -/
theorem canvasControl : Obligations.CanvasControl := fun _ =>
  ⟨canvasStart_starts, verificationDone_stages, canvasSwap_swaps, fun _ _ _ => strokeOverrun_counts, fun _ => laneFault_marks⟩

end

end Sys2Proof.Machine
end

section
/-!
PROOFS. The supplies (06_power_reset_and_first_second.md; 16_retained_store.md: Flush on power-fail warning): a flush copies the
rows as they wait, and a waiting host page of more words than a page holds runs over the end of its dump area.
-/

namespace Sys2Proof.Machine

/-! ### A row that is longer than its place -/

theorem memWriteWords_append : ∀ (xs ys : List Word) (m : Memory) (a : Nat),
    memWriteWords m a (xs ++ ys) = memWriteWords (memWriteWords m a xs) (a + 4 * xs.length) ys
  | [], _, _, _ => rfl
  | x :: xs, ys, m, a => by
    rw [List.cons_append, memWriteWords, memWriteWords, memWriteWords_append xs, List.length_cons]
    congr 1
    omega

/-- The first byte of a word reads back after it and the words behind it are written. -/
theorem memRead_memWriteWords_at {xs ys : List Word} {w : Word} (hw : w.extractLsb' 0 8 ≠ 0xFF) (m : Memory) (a : Nat) :
    memRead (memWriteWords m a (xs ++ w :: ys)) (a + 4 * xs.length) = w.extractLsb' 0 8 := by
  rw [memWriteWords_append, memWriteWords, memRead_memWriteWords_other _ _ _ (by omega), memWriteWord,
    memRead_memWrite_other _ _ (by omega), memRead_memWrite_other _ _ (by omega), memRead_memWrite_other _ _ (by omega)]
  exact tblGet_tblSet_listed hw _

theorem dirtyRows_last (s : State) : (dirtyRows s).getLsbD 31 = rowDirty s 31 := by
  rw [dirtyRows, List.range_succ, List.foldl_append, List.foldl_cons, List.foldl_nil, getLsbD_setBit _ _ _ (by decide), if_pos rfl]

/-- The word behind the 256 of the last row is written to the sector behind the dump area. -/
theorem storeFlush_overruns {s : State} {xs ys : List Word} {w : Word} (ha : s.sys.applied.getLsbD 9 = true)
    (hf : s.sys.failed.getLsbD 9 = false) (hk : s.store.kept = true) (hd : rowDirty s 31 = true)
    (hr : rowWords s 31 = xs ++ w :: ys) (hl : xs.length = 256) (hw : w.extractLsb' 0 8 ≠ 0xFF) :
    memRead (storeFlush s).mem (sectorBase (dumpBase (nextArea s) + 8)) = w.extractLsb' 0 8 := by
  have hat : sectorBase (dumpBase (nextArea s) + 8) =
      sectorBase (dumpBase (nextArea s) + 31 / 4) + 1024 * (31 % 4) + 4 * xs.length := by
    rw [hl, sectorBase, sectorBase]
    omega
  rw [hat, storeFlush, if_pos (by rw [ha, hf, hk]; rfl)]
  dsimp only
  rw [List.range_succ, List.foldl_append, List.foldl_cons, List.foldl_nil, if_pos ((dirtyRows_last s).trans hd), hr]
  exact memRead_memWriteWords_at hw _ _

/-! ### The counterexample -/

/-- Forty-eight host pages that hold no word wait, and behind them one of 257 words of zeros. -/
def overlongPages : List HostPage :=
  List.replicate 48 { ord := 0, page := 0, data := [] } ++
    [{ ord := 0, page := 0, data := List.replicate 256 0 ++ [(0 : Word)] }]

/-- A block in RUN with the store's domain powered, its array blank and these pages in the shadow. -/
def overlongPage : State := { State.reset with
  sys := { resetSys with applied := 0x200 }
  power := { resetPower with vmain := true }
  store := { resetStore with kept := true, pages := overlongPages } }

theorem rowWords_overlong {s : State} (h : s.store.pages = overlongPages) : ∃ ys,
    rowWords s 31 = List.replicate 256 0 ++ (0 : Word) :: ys := by
  unfold rowWords
  rw [if_neg (by decide), if_neg (by decide), if_neg (by decide), h, List.range_succ_eq_map, List.flatMap_cons]
  exact ⟨_, List.append_assoc (List.replicate 256 0) [(0 : Word)] _⟩

theorem nextArea_congr {s t : State} (hm : s.mem = t.mem) (ha : s.store.jAct = t.store.jAct) : nextArea s = nextArea t := by
  unfold nextArea dumpRecords
  rw [hm, ha]

/-- The state whose rows the flush copies: it is the first of a power fail that writes the store, where no Proof runs. -/
theorem powerFail_flushes {s : State} (hp : s.proof.running = false) : ∃ x, (powerFail s).mem = (storeFlush x).mem ∧
    keep (parts [.canvas, .host, .glaze, .power]) x = keep (parts [.canvas, .host, .glaze, .power]) s := by
  unfold powerFail
  extract_lets p s1 s2
  have ha : proofAbort s2 = s2 := by
    have hrun : s2.proof.running = false :=
      (kept_of_keep (w := parts []) (s := s1) (·.proof.running) (fun _ => rfl) (by simp [s2])).trans hp
    rw [proofAbort, hrun]
    rfl
  refine ⟨_, rfl, ?_⟩
  rw [ha]
  simp [s2, s1]

/-- What the flush of this block copies from. -/
theorem powerFail_overlong : ∃ x, (powerFail overlongPage).mem = (storeFlush x).mem ∧ x.store.pages = overlongPages ∧
    x.store.kept = true ∧ x.sys.applied = 0x200 ∧ x.sys.failed = 0 ∧ nextArea x = nextArea overlongPage := by
  obtain ⟨x, hmem, hk⟩ := powerFail_flushes (s := overlongPage) rfl
  have hm : x.mem = overlongPage.mem := kept_of_keep State.mem (fun _ => rfl) hk
  have hj : x.store.jAct = overlongPage.store.jAct := kept_of_keep (·.store.jAct) (fun _ => rfl) hk
  exact ⟨x, hmem, (kept_of_keep (·.store.pages) (fun _ => rfl) hk :), (kept_of_keep (·.store.kept) (fun _ => rfl) hk :),
    (kept_of_keep (·.sys.applied) (fun _ => rfl) hk :), (kept_of_keep (·.sys.failed) (fun _ => rfl) hk :),
    nextArea_congr hm hj⟩

/-- After the warning the sector behind the dump area reads zero. -/
theorem powerFailWarning_overlong : ∃ u, exec .powerFailWarning overlongPage = finish overlongPage u ∧
    memRead u.mem (sectorBase (dumpBase (nextArea overlongPage) + 8)) = 0 := by
  obtain ⟨x, hmem, hpages, hkept, happ, hfail, harea⟩ := powerFail_overlong
  obtain ⟨ys, hrow⟩ := rowWords_overlong hpages
  have hdirty : rowDirty x 31 = true := by
    rw [rowDirty, hpages]
    rfl
  refine ⟨powerFail overlongPage, congrArg (finish overlongPage) (if_pos (by decide)), ?_⟩
  rw [hmem, ← harea]
  exact storeFlush_overruns (by rw [happ]; rfl) (by rw [hfail]; rfl) hkept hdirty hrow List.length_replicate (by decide)

/-- Refutes O40: of the forty-ninth page the power-fail warning copies a word into the sector behind the dump area, which the
statement has kept. -/
theorem not_supplies : ¬ Obligations.Supplies := by
  intro h
  obtain ⟨-, -, hwarn, -⟩ := h overlongPage
  obtain ⟨t, ht, -, -, -, -, -, hkept⟩ := hwarn rfl rfl rfl (by decide)
  obtain ⟨u, hu, hzero⟩ := powerFailWarning_overlong
  obtain ⟨t', ht', hb, -⟩ := finish_spec overlongPage u
  obtain rfl : t = t' := Host.Outcome.next.inj (ht.symm.trans (hu.trans ht'))
  have hout : Outside (journalSpan :: (List.range 8).map fun i => sectorSpan (dumpBase (nextArea overlongPage) + i))
      (sectorBase (dumpBase (nextArea overlongPage) + 8)) := by
    intro p hp
    have hbase : 101 ≤ dumpBase (nextArea overlongPage) := by
      unfold dumpBase
      split <;> decide
    rcases List.mem_cons.1 hp with rfl | hp
    · right
      simp only [journalSpan, sectorBase]
      omega
    · obtain ⟨i, hi, rfl⟩ := List.mem_map.1 hp
      have := List.mem_range.1 hi
      right
      simp only [sectorSpan, sectorBase]
      omega
  have hblank : memRead overlongPage.mem (sectorBase (dumpBase (nextArea overlongPage) + 8)) = 0xFF := rfl
  have hread := hkept _ hout
  rw [(kept_of_bare State.mem (fun _ => rfl) hb : t.mem = u.mem), hzero, hblank] at hread
  exact absurd hread (by decide)

end Sys2Proof.Machine
end

section
/-!
PROOFS. Power states, wake causes, nRST and the steps of the restart (06_power_reset_and_first_second.md).
-/

namespace Sys2Proof.Machine

/-! ### Moving forward in a tick -/

theorem easel_le_slowCycle (t : Time) : t.easel ≤ (slowCycle t).easel := by
  unfold slowCycle
  split
  · exact (Nat.le_add_right _ _).trans (Nat.le_add_right _ _)
  · simp only [x32Cycle]
    split <;> split <;> omega

theorem easel_le_slowUpTo (e : Nat) : ∀ (n : Nat) (t : Time), t.easel ≤ (slowUpTo e n t).easel
  | 0, _ => Nat.le_refl _
  | n + 1, t => by
    rw [slowUpTo]
    split
    · exact (easel_le_slowCycle t).trans (easel_le_slowUpTo e n _)
    · exact Nat.le_refl _

/-- An instant of the running tick is not before now. -/
theorem now_le_moveIn (s : State) (at_ : Nat) : now s ≤ now (moveIn s at_) := by
  unfold moveIn moveTo
  split
  · exact Nat.le_refl _
  · split
    · exact Nat.le_max_right _ _
    · exact easel_le_slowUpTo _ _ _

section
variable {s : State}

/-! ### Power states -/

theorem powerStateChoice_doze {rtc : Option Nat} {at_ : Nat} (hst : s.power.st = .run) (hv : s.power.vmain = true)
    (hr : s.power.inReset = false) (hm : s.power.movingUntil ≤ now s) (hc : s.power.ceil = 1)
    (hz : 5060 ≤ horizonOf .doze rtc (moveIn s at_)) : Answers (.powerStateChoice rtc at_) s fun t =>
      t.power.st = .doze ∧ t.power.horizonState = 1 ∧ t.power.ceil = 1 ∧ t.sys.applied = s.sys.applied := by
  have hle := hm.trans (now_le_moveIn s at_)
  obtain ⟨T, hT, -⟩ := moveIn_moved s at_
  have hrule : exec (.powerStateChoice rtc at_) s = execPowerStateChoice rtc at_ s := rfl
  unfold execPowerStateChoice at hrule
  generalize moveIn s at_ = u at hrule hz hle hT
  have hu : u.power = s.power ∧ u.sys = s.sys := by rw [hT]; exact ⟨rfl, rfl⟩
  obtain ⟨hup, hus⟩ := hu
  have hcost : stateCost .doze = 5060 := rfl
  dsimp only at hrule
  rw [if_pos (by simp [hup, hst, hv, hr, hle])] at hrule
  rw [if_neg (by simp [hup, hc]), if_neg (by simp [hup, hc]), if_pos (by simp [hup, hc, hcost, hz])] at hrule
  refine answers_of_inner _ hrule rfl (fun _ => rfl) ⟨rfl, rfl, ?_, ?_⟩
  · exact (congrArg Power.ceil hup :).trans hc
  · exact (congrArg Sys.applied hus :)

/-- The exit that the entry scheduled starts when its time is there. -/
theorem scheduledExit_exits {at_ : Nat} (h : exitDue (moveIn s at_) = true) : Answers (.scheduledExit at_) s fun t =>
    bare t = bare (exitFrom s.power.exitAt (moveIn s at_)) := by
  obtain ⟨T, hT, -⟩ := moveIn_moved s at_
  have hp : (moveIn s at_).power.exitAt = s.power.exitAt := by rw [hT]
  have hrule : exec (.scheduledExit at_) s = finish s (exitFrom s.power.exitAt (moveIn s at_)) :=
    congrArg (finish s) ((if_pos h).trans (by rw [hp]))
  exact answers_of_bare hrule fun t hb _ => hb

theorem unscheduledExit_exits {at_ : Nat} (h : below s = true) : Answers (.unscheduledExit at_) s fun t =>
    t.power.st = .run ∧ t.sys.gated = 0 := by
  obtain ⟨T, hT, -⟩ := moveIn_moved s at_
  have hb : below (moveIn s at_) = true := by rw [hT]; exact h
  have hrule : exec (.unscheduledExit at_) s = finish s (exitState (moveIn s at_)) := congrArg (finish s) (if_pos hb)
  exact answers_of_inner _ hrule rfl (fun _ => rfl) ⟨rfl, rfl⟩

theorem sleepReqWrite_waits {ceil : BitVec 3} (h : BusOpen s) (hm : s.legacy.mode = false) (hc : ceil.toNat < 3) :
    Answers (.sleepReqWrite ceil) s fun t =>
      bare t = bare { s with power := { s.power with ceilPending := some (ceil, tickNo s) } } := by
  have hne : ¬ ceil = 3#3 := by
    rintro rfl
    exact absurd hc (by decide)
  refine answers_of_bare (exec_sleepReqWrite h hm ceil) fun t hb _ => hb.trans ?_
  have hreq : sleepReq ceil (evt 280 s) =
      { evt 280 s with power := { s.power with ceilPending := some (ceil, tickNo (evt 280 s)) } } := by
    rw [sleepReq, if_neg (by omega), if_neg (by simp [hne]), if_neg (by simp [hne])]
    rfl
  rw [hreq]
  rfl

/-! ### Wake causes -/

theorem wakeCauseLatch_latches {c : Fin 7} (hs : Settled s) (hw : wakeLatches s = true) : Answers (.wakeCauseLatch c) s fun t =>
    t.power.wake = setBit s.power.wake c.val true ∧ bare t = bare s := by
  have hrule : exec (.wakeCauseLatch c) s = finish s (latchWake c.val s) := rfl
  refine answers_of_settled hrule (settled_reports (by simp) hs) ⟨?_, by simp⟩
  rw [latchWake, if_pos hw]

theorem wakeSequenceEnd_wakes (hs : s.power.wakeSeq = true) (hst : s.power.st = .sleep) (hr : s.power.busrdy = false) :
    Answers .wakeSequenceEnd s fun t =>
      t.power.st = .run ∧ t.power.ceil = 2 ∧ t.power.sleepRes = 5 ∧ t.sys.gated = 0 := by
  have hrule : exec .wakeSequenceEnd s = finish s (endWake s) := by
    change execWakeSequenceEnd s = _
    rw [execWakeSequenceEnd, if_pos (by simp [hs, hst]), hr]
    rfl
  unfold endWake at hrule
  rw [if_pos (Or.inr (Or.inr hst))] at hrule
  exact answers_of_inner { exitState s with power := { (exitState s).power with
    wakeSeq := false, ceil := 2, sleepRes := 5, ceilPending := none, movingUntil := 0 } } hrule (by simp) (fun _ => rfl)
    ⟨rfl, rfl, rfl, rfl⟩

/-- A read of WAKE_CAUSE shows the causes of the ticks before and takes them; those of its own tick stay. -/
theorem wakeCauseRead_takes (h : BusOpen s) (hm : s.legacy.mode = false) (hs : Settled s) : Answers .wakeCauseRead s fun t =>
    t.host.dOut = wakeCauseWord s ∧ t.power.wake = s.power.wake &&& wakeFresh s ∧
      t.power.wakeTimed = s.power.wakeTimed &&& wakeFresh s ∧ (wakeFresh s = 0 → t.power.wakeFirst = 7) := by
  have hbus : onBus { write := false, off := 0x23, v := 0, ok := true } s = regRead 0x23 (evt 280 s) := by
    rw [onBus_of_open h (by simp [awaitsCopy])]
    simp [busDo, show (evt 280 s).legacy.mode = false from hm]
  have hread : regRead 0x23 (evt 280 s) =
      { wakeTaken (evt 280 s) with host := { s.host with dOut := wakeCauseWord s } } := rfl
  have hrule : exec .wakeCauseRead s = finish s _ := congrArg (finish s) (hbus.trans hread)
  refine answers_of_settled hrule ?_ ⟨rfl, rfl, rfl, fun h0 => if_neg ?_⟩
  · exact hs
  · rw [show wakeFresh (evt 280 s) = 0 from h0]
    simp

/-! ### nRST and the restart -/

theorem keep_coreHalts_congr {w : Part → Bool} {a b : State} (h : keep w a = keep w b) (hw : w .safety = false) :
    keep w (coreHalts a) = keep w (coreHalts b) :=
  keep_safety_congr (fun f => { f with run := false, answeredOnce := false, restartAt := none, ackPending := none })
    (fun _ => rfl) h hw

/-- What nRST writes as it stops the work beside the core. -/
abbrev stoppedParts : Part → Bool :=
  parts [.mem, .pads, .canvas, .host, .glaze, .bb, .conv, .drive, .fans, .store, .proof, .legacy]

/-- The work that stops with nRST halts the core and leaves the rest of its record. -/
theorem keep_stopWork_core (s : State) : keep stoppedParts (stopWork s) = keep stoppedParts (coreHalts s) := by
  unfold stopWork
  dsimp only
  rw [keep_zcSilent, keep_bbSilent _ (by simp), keep_convDomainOff _ (by simp), keep_canvasStop _ (by simp),
    keep_stopPath _ (by simp)]
  exact keep_coreHalts_congr (by simp) rfl

/-- nRST puts the block in reset with its bus not ready, the ceiling at NAP and the core halted; alarms stay latched. -/
theorem enterReset_spec (u : State) : (enterReset u).power.inReset = true ∧ (enterReset u).power.nrstLow = u.power.nrstLow ∧
    (enterReset u).power.busrdy = false ∧ (enterReset u).power.ceil = 2 ∧ (enterReset u).power.sleepRes = 0 ∧
    (enterReset u).safety.alarms = u.safety.alarms ∧ (enterReset u).safety.run = false := by
  have hp : keep (allBut [.power]) (legacyPfw (glazeAbort 4 (stopWork u))) = keep (allBut [.power]) u := by simp
  have hs : keep stoppedParts (legacyPfw (glazeAbort 4 (stopWork u))) = keep stoppedParts (coreHalts u) := by
    rw [keep_legacyPfw _ (by simp), keep_glazeAbort _ _ (by simp), keep_stopWork_core]
  unfold enterReset
  generalize legacyPfw (glazeAbort 4 (stopWork u)) = v at hp hs ⊢
  exact ⟨rfl, (kept_of_keep (·.power.nrstLow) (fun _ => rfl) hp :), rfl, rfl, rfl,
    (kept_of_keep (·.safety.alarms) (fun _ => rfl) hs :), (kept_of_keep (·.safety.run) (fun _ => rfl) hs :)⟩

theorem nrstAssert_resets {ns : Nat} (hn : 2000 ≤ ns) (hv : s.power.vmain = true) (hw : s.power.restartWaits = false)
    (hm : s.power.masked = false) (hl : s.power.nrstLow = none) : Answers (.nrstAssert ns) s fun t =>
      t.power.inReset = true ∧ t.power.nrstLow = some (now s) ∧ t.power.busrdy = false ∧ t.power.ceil = 2 ∧
      t.power.sleepRes = 0 ∧ t.safety.alarms = s.safety.alarms ∧ t.safety.run = false := by
  have hrule : exec (.nrstAssert ns) s = finish s (tierChange s (enterReset { s with power := { s.power with
      nrstLow := some (now s), nrstCnt := s.power.nrstCnt + 1 } })) := by
    change execNrstAssert ns s = _
    have h2 : ¬ ns < 2000 := by omega
    have h1 : ¬ ns < 1000 := by omega
    simp only [execNrstAssert, h1, h2, if_false]
    rw [if_neg (by decide), if_neg (by simp [hm]), if_neg (by simp [hl]), if_neg (by simp [hv, hw])]
  obtain ⟨h1, h2, h3, h4, h5, h6, h7⟩ := enterReset_spec { s with power := { s.power with
    nrstLow := some (now s), nrstCnt := s.power.nrstCnt + 1 } }
  refine answers_of_bare hrule fun t hb _ => ?_
  have hb := hb.trans (tierChange_spec _ _).1
  exact ⟨(kept_of_bare (·.power.inReset) (fun _ => rfl) hb).trans h1, (kept_of_bare (·.power.nrstLow) (fun _ => rfl) hb).trans h2,
    (kept_of_bare (·.power.busrdy) (fun _ => rfl) hb).trans h3, (kept_of_bare (·.power.ceil) (fun _ => rfl) hb).trans h4,
    (kept_of_bare (·.power.sleepRes) (fun _ => rfl) hb).trans h5, (kept_of_bare (·.safety.alarms) (fun _ => rfl) hb).trans h6,
    (kept_of_bare (·.safety.run) (fun _ => rfl) hb).trans h7⟩

theorem keep_leaveReset_restart (kind : Nat) (u : State) : keep (parts [.gesso]) (leaveReset kind u) =
    keep (parts [.gesso]) (if kind = 3 then nrstStands (restartVigil u) else { u with
      power := { u.power with
        inReset := false, starting := true, beaconDue := true, busrdy := false, canvasStarted := none, origin := now u
        restartKind := BitVec.ofNat 2 kind }
      legacy := legacyRelease u }) := by
  unfold leaveReset
  split
  · rfl
  · simp [releaseReset]

theorem nrstRelease_restarts (hm : s.power.masked = false) (hv : s.power.vmain = true) (hw : s.power.restartWaits = false)
    (hl : s.power.nrstLow.isSome = true) : Answers .nrstRelease s fun t =>
      t.power.inReset = false ∧ t.power.nrstLow = none ∧ t.power.rstNrst = true ∧ t.power.origin = now s ∧
      t.power.restartKind = 1 := by
  have hrule : exec .nrstRelease s = finish s (leaveReset 1 { s with power := { s.power with
      nrstLow := none, rstNrst := true, rstPor := false } }) := by
    change execNrstRelease s = _
    rw [execNrstRelease, if_neg (by simp [hm]), if_neg (by simp [hv, hw]), if_pos hl]
  exact answers_of_keep _ _ hrule (keep_leaveReset_restart 1 _) (fun _ => rfl) ⟨rfl, rfl, rfl, rfl, rfl⟩

/-- An nRST held low for 7.6 s is masked. -/
theorem nrstMask_masks {since : Nat} (hl : s.power.nrstLow = some since) (hp : since + 7600 * ms ≤ now s)
    (hv : s.power.vmain = true) (hw : s.power.restartWaits = false) : Answers .nrstMask s fun t =>
      t.power.masked = true ∧ t.power.rstStuck = true ∧ t.power.inReset = false ∧ t.power.origin = now s ∧
      t.power.restartKind = 2 := by
  have hpass : passed s since (7600 * ms) = true := decide_eq_true hp
  have hrule : exec .nrstMask s = execNrstMask s := rfl
  rw [execNrstMask, hl] at hrule
  dsimp only at hrule
  rw [if_pos (by simp [hpass, hv, hw])] at hrule
  exact answers_of_keep (parts [.gesso]) _ hrule ((keep_chirpMask ..).trans ((keep_raiseCause ..).trans
    ((keep_logPush ..).trans (keep_leaveReset_restart 2 _)))) (fun _ => rfl) ⟨rfl, rfl, rfl, rfl, rfl⟩

theorem nrstUnmask_ends {since : Nat} (hh : s.power.nrstHigh = some since) (hm : s.power.masked = true)
    (hp : since + 100 * ms ≤ now s) : Answers .nrstUnmask s fun t =>
      bare t = bare { s with power := { s.power with masked := false, nrstHigh := none } } := by
  have hpass : passed s since (100 * ms) = true := decide_eq_true hp
  have hrule : exec .nrstUnmask s = execNrstUnmask s := rfl
  rw [execNrstUnmask, hh] at hrule
  dsimp only at hrule
  rw [if_pos (by simp [hpass, hm])] at hrule
  exact answers_of_bare hrule fun t hb _ => hb.trans (iteInduction (motive := fun u => bare u = _) (fun _ => rfl) fun _ => by simp)

theorem busrdy_opens (hv : s.power.vmain = true) (hr : s.power.inReset = false) (hb : s.power.busrdy = false)
    (hd : (domAvail s).getLsbD 10 = true)
    (hc : s.power.canvasStarted.isSome = true ∨ s.canvas.noImage = true ∧ s.power.origin + 400 * ms ≤ now s)
    (hw : s.power.wakeSeq = false) (hh : s.host.heldAcc = none) : Answers .busrdy s fun t =>
      t.power.busrdy = true ∧ t.host.keyValid = [] ∧ t.host.paddr = 0 ∧ t.host.ready = false ∧ t.host.window = [] ∧
      t.host.head = 0 ∧ t.host.tail = 0 ∧ t.glaze.set = [] ∧ t.glaze.sealed_ = false ∧ t.glaze.svc = [] := by
  have hstart : (s.power.canvasStarted.isSome || (s.canvas.noImage && passed s s.power.origin (400 * ms))) = true := by
    rcases hc with h | ⟨h1, h2⟩
    · rw [h]; rfl
    · rw [h1, show passed s s.power.origin (400 * ms) = true from decide_eq_true h2, Bool.and_self, Bool.or_true]
  have hrule : exec .busrdy s = execBusrdy s := rfl
  rw [execBusrdy, if_pos (by rw [hv, hr, hb, hd, hstart]; rfl)] at hrule
  dsimp only at hrule
  rw [if_neg (by simp [hw]), releaseHeld_of_none (by simp [hh])] at hrule
  refine answers_of_bare hrule fun t ht _ => ?_
  have hk := ht.trans (bare_setIrq _ _)
  exact ⟨(kept_of_bare (·.power.busrdy) (fun _ => rfl) hk :), (kept_of_bare (·.host.keyValid) (fun _ => rfl) hk :),
    (kept_of_bare (·.host.paddr) (fun _ => rfl) hk :), (kept_of_bare (·.host.ready) (fun _ => rfl) hk :),
    (kept_of_bare (·.host.window) (fun _ => rfl) hk :), (kept_of_bare (·.host.head) (fun _ => rfl) hk :),
    (kept_of_bare (·.host.tail) (fun _ => rfl) hk :), (kept_of_bare (·.glaze.set) (fun _ => rfl) hk :),
    (kept_of_bare (·.glaze.sealed_) (fun _ => rfl) hk :), (kept_of_bare (·.glaze.svc) (fun _ => rfl) hk :)⟩

theorem tier2FirstBeacon_sends {back : List Int} {started : Nat} (hc : s.power.canvasStarted = some started)
    (hd : s.power.beaconDue = true) (ha : atBeacon s = true) (hp : started + 80 * ms ≤ now s) :
    Answers (.tier2FirstBeacon back) s fun t =>
      t.power.starting = false ∧ t.power.beaconDue = false ∧ t.power.canvasStarted = some started := by
  have hpass : passed s started (80 * ms) = true := decide_eq_true hp
  have hrule : exec (.tier2FirstBeacon back) s = execTier2FirstBeacon back s := rfl
  rw [execTier2FirstBeacon, hc] at hrule
  dsimp only at hrule
  rw [if_pos (by simp [hd, ha, hpass])] at hrule
  exact answers_of_keep (parts [.bb, .clients, .store, .mirror]) { s with power := { s.power with starting := false, beaconDue := false } }
    hrule (by simp) (fun _ => rfl) ⟨rfl, rfl, hc⟩

/-- Settles O42: BUSRDY without an image comes 400 ms after the origin (log 135). -/
theorem powerStates : Obligations.PowerStates := fun _ =>
  ⟨fun _ _ => powerStateChoice_doze, fun _ => scheduledExit_exits, fun _ => unscheduledExit_exits,
    fun _ => sleepReqWrite_waits, fun _ => wakeCauseLatch_latches, wakeSequenceEnd_wakes, wakeCauseRead_takes,
    fun _ => nrstAssert_resets, nrstRelease_restarts, fun _ => nrstMask_masks, fun _ => nrstUnmask_ends,
    fun hv hr hb hd hc hw hh _ => busrdy_opens hv hr hb hd hc hw hh, fun _ _ => tier2FirstBeacon_sends⟩

end

end Sys2Proof.Machine
end

section
/-!
PROOFS. Accesses of the host to the direct registers (07_host_bus.md): what a read answers and takes, what a write changes.
-/

namespace Sys2Proof.Machine

section
variable {s : State} (ho : BusOpen s) (hm : s.legacy.mode = false)
include ho hm

/-- An open bus carries out a write of a direct register at once. -/
theorem exec_of_regWrite {c : Instr} {off : Nat} {v : Half} {ok : Bool}
    (e : exec c s = finish s (onBus { write := true, off := off, v := v, ok := ok } s)) :
    exec c s = finish s (regWrite off v ok (evt 280 s)) := by
  have hdo : busDo { write := true, off := off, v := v, ok := ok } (evt 280 s) = regWrite off v ok (evt 280 s) := by
    simp [busDo, show (evt 280 s).legacy.mode = false from hm]
  rw [e, onBus_of_open ho (by simp [awaitsCopy]), hdo]

/-- And a read, but for one of CLIENT_DATA_LO while the window is not ready. -/
theorem exec_of_regRead {c : Instr} {off : Nat} {v : Half} {ok : Bool}
    (e : exec c s = finish s (onBus { write := false, off := off, v := v, ok := ok } s)) (hr : off = 0x1D → s.host.ready = true) :
    exec c s = finish s (regRead off (evt 280 s)) := by
  have hdo : busDo { write := false, off := off, v := v, ok := ok } (evt 280 s) = regRead off (evt 280 s) := by
    simp [busDo, show (evt 280 s).legacy.mode = false from hm]
  have hc : awaitsCopy { write := false, off := off, v := v, ok := ok } s = false := by
    by_cases h : off = 0x1D
    · simp [awaitsCopy, hr h]
    · simp [awaitsCopy, h]
  rw [e, onBus_of_open ho hc, hdo]

/-! ### Writes -/

theorem registerWrite_writes (off : Fin 48) (v : Half) : Answers (.registerWrite off v) s fun t =>
    bare t = bare (regWrite off.val v true (evt 280 s)) :=
  answers_of_bare (exec_of_regWrite ho hm rfl) fun _ hb _ => hb

theorem registerWrite_readOnly (off : Fin 48) (v : Half)
    (h : off.val ∈ [0x00, 0x01, 0x03, 0x06, 0x07, 0x08, 0x0C, 0x11, 0x1A, 0x20, 0x23, 0x25, 0x2D]) :
    Answers (.registerWrite off v) s fun t => bare t = bare s := by
  refine answers_of_bare (exec_of_regWrite ho hm rfl) fun _ hb _ => hb.trans ?_
  generalize off.val = n at h
  fin_cases h <;> rfl

omit ho hm in
/-- Bits of IRQ_STAT written 1 clear, but those that set in this tick. -/
theorem irqClear_bits (v : Half) (u : State) : ∀ b < 16, (irqClear v u).host.irqStat.getLsbD b = (u.host.irqStat.getLsbD b &&
    !(v.getLsbD b && decide (tblGet (fun _ => 0) u.host.irqTick b ≠ tickNo u + 1))) := by
  intro b hb
  unfold irqClear
  dsimp only
  rw [BitVec.getLsbD_and, BitVec.getLsbD_not, BitVec.getLsbD_and, BitVec.getLsbD_not, getLsbD_foldl_setBit _ hb, decide_not,
    ← beq_eq_decide]
  simp [hb]

theorem registerWrite_irqClear (v : Half) (hs : Settled s) : Answers (.registerWrite 4 v) s fun t => ∀ b < 16,
    t.host.irqStat.getLsbD b = (s.host.irqStat.getLsbD b &&
      !(v.getLsbD b && decide (tblGet (fun _ => 0) s.host.irqTick b ≠ tickNo s + 1))) := by
  have hw : regWrite 4 v true (evt 280 s) = irqClear v (evt 280 s) := rfl
  have hrule := (exec_of_regWrite ho hm (c := .registerWrite 4 v) rfl).trans (congrArg (finish s) hw)
  have hset : Settled (irqClear v (evt 280 s)) := by
    obtain ⟨x, hx⟩ : ∃ x, irqClear v (evt 280 s) = { evt 280 s with host := { s.host with irqStat := x } } := ⟨_, rfl⟩
    rw [hx]
    exact settled_reports (s := s) rfl hs
  exact answers_of_settled hrule hset (irqClear_bits v (evt 280 s))

/-! ### Reads -/

omit ho hm in
/-- What a read of a parameter takes beside its halves is no part of the host's registers. -/
theorem parTaken_host (a : Nat) (u : State) : (parTaken a u).host = (fetched (readParam u a) u).host := by
  unfold parTaken readSide
  split
  · rfl
  · split
    · rfl
    · split
      · rfl
      · split <;> rfl

omit ho hm in
/-- The advance of PADDR leaves the rest. -/
theorem paddrNext_spec (u : State) : ∃ p, paddrNext u = { u with host := { u.host with paddr := p } } := by
  unfold paddrNext
  split
  · exact ⟨_, rfl⟩
  · exact ⟨_, rfl⟩

omit ho hm in
theorem pctlOut_host (n : Nat) (u : State) : (pctlOut n u).host = { u.host with
    pctlRes := BitVec.ofNat 3 n, errCnt := if n = 0 then u.host.errCnt else satInc u.host.errCnt } := by
  unfold pctlOut
  dsimp only
  split <;> rfl

omit ho hm in
/-- No read takes hold of the bus. -/
theorem readEffect_nWaitLow (off : Nat) (u : State) : (readEffect off u).host.nWaitLow = u.host.nWaitLow := by
  unfold readEffect
  split
  any_goals rfl
  · exact (congrArg HostBus.nWaitLow (parTaken_host ..) :)
  · obtain ⟨p, hp⟩ := paddrNext_spec (pctlOut (if isDefined u.host.paddr.toNat then 0 else 1)
      { u with host := { u.host with dOut := u.host.hiLatch } })
    exact (congrArg (fun x : State => x.host.nWaitLow) hp).trans (congrArg HostBus.nWaitLow (pctlOut_host ..) :)
  · unfold windowNext
    split <;> rfl
  · split <;> rfl

theorem rclRegisterRead_returns (off : Fin 48) (hr : off.val = 0x1D → s.host.ready = true) :
    Answers (.rclRegisterRead off) s fun t =>
      t.host.dOut = regValue (evt 280 s) off.val ∧ t.host.nWaitLow = s.host.nWaitLow :=
  answers_of_bare (exec_of_regRead ho hm rfl hr) fun _ hb _ =>
    ⟨(kept_of_bare (·.host.dOut) (fun _ => rfl) hb :),
      (kept_of_bare (·.host.nWaitLow) (fun _ => rfl) hb).trans (readEffect_nWaitLow ..)⟩

theorem tickNowRead_latches : Answers .tickNowRead s fun t =>
    t.host.dOut = tickNow s ∧ t.host.frameNow = (put 16 0 (majorOf (now s)) ||| put 16 6 (runCode s.canvas.run)) ∧
      t.host.hyperLo = BitVec.ofNat 16 (hyperOf (now s)) ∧ t.host.hyperHi = BitVec.ofNat 16 (hyperOf (now s) / 65536) :=
  answers_of_bare (exec_of_regRead ho hm rfl (by simp)) fun _ hb _ =>
    ⟨kept_of_bare (·.host.dOut) (fun _ => rfl) hb, kept_of_bare (·.host.frameNow) (fun _ => rfl) hb,
      kept_of_bare (·.host.hyperLo) (fun _ => rfl) hb, kept_of_bare (·.host.hyperHi) (fun _ => rfl) hb⟩

theorem evtDataLoRead_latches : Answers .evtDataLoRead s fun t =>
    t.host.dOut = (evtWord (evt 280 s)).extractLsb' 0 16 ∧ t.host.evtHi = (evtWord (evt 280 s)).extractLsb' 16 16 :=
  answers_of_bare (exec_of_regRead ho hm rfl (by simp)) fun _ hb _ =>
    ⟨kept_of_bare (·.host.dOut) (fun _ => rfl) hb, kept_of_bare (·.host.evtHi) (fun _ => rfl) hb⟩

theorem opres0Read_latches : Answers .opres0Read s fun t =>
    t.host.dOut = s.host.op.res.getD 0 0 ∧ t.host.op.resLatch = s.host.op.res ∧ t.host.op.part = false :=
  answers_of_bare (exec_of_regRead ho hm rfl (by simp)) fun _ hb _ =>
    ⟨kept_of_bare (·.host.dOut) (fun _ => rfl) hb, kept_of_bare (·.host.op.resLatch) (fun _ => rfl) hb,
      kept_of_bare (·.host.op.part) (fun _ => rfl) hb⟩

theorem statRead_clears : Answers .statRead s fun t =>
    t.host.dOut = statWord s ∧ t.host.busErr = false ∧ t.host.waitTmo = false :=
  answers_of_bare (exec_of_regRead ho hm rfl (by simp)) fun _ hb _ =>
    ⟨kept_of_bare (·.host.dOut) (fun _ => rfl) hb, kept_of_bare (·.host.busErr) (fun _ => rfl) hb,
      kept_of_bare (·.host.waitTmo) (fun _ => rfl) hb⟩

/-! ### Parameter access -/

theorem pdataLoRead_fetches : Answers .pdataLoRead s fun t =>
    t.host.dOut = (readParam (evt 280 s) s.host.paddr.toNat).extractLsb' 0 16 ∧
      t.host.hiLatch = (readParam (evt 280 s) s.host.paddr.toNat).extractLsb' 16 16 ∧ t.host.paddr = s.host.paddr := by
  have hhost := parTaken_host s.host.paddr.toNat (evt 280 s)
  refine answers_of_bare (exec_of_regRead ho hm rfl (by simp)) fun _ hb _ =>
    ⟨kept_of_bare (·.host.dOut) (fun _ => rfl) hb, ?_, ?_⟩
  · exact (kept_of_bare (·.host.hiLatch) (fun _ => rfl) hb).trans (congrArg HostBus.hiLatch hhost :)
  · exact (kept_of_bare (·.host.paddr) (fun _ => rfl) hb).trans (congrArg HostBus.paddr hhost :)

omit ho hm in
theorem pdataHiRead_spec (u : State) (ha : u.host.ainc = true) :
    (pdataHiRead u).host.pctlRes = (if isDefined u.host.paddr.toNat then 0 else 1) ∧
      (pdataHiRead u).host.paddr = (u.host.paddr &&& 0xF800) ||| ((u.host.paddr + 1) &&& 0x07FF) := by
  unfold pdataHiRead paddrNext
  extract_lets h s1
  have hp (n : Nat) := pctlOut_host n s1
  have hres : BitVec.ofNat 3 (if isDefined u.host.paddr.toNat then 0 else 1) =
      if isDefined u.host.paddr.toNat then 0 else 1 := by split <;> rfl
  rw [if_pos (by rw [hp]; exact ha)]
  exact ⟨(congrArg HostBus.pctlRes (hp _) :).trans hres,
    (congrArg (fun h : HostBus => (h.paddr &&& 0xF800) ||| ((h.paddr + 1) &&& 0x07FF)) (hp _) :)⟩

theorem pdataHiRead_advances (ha : s.host.ainc = true) : Answers .pdataHiRead s fun t =>
    t.host.dOut = s.host.hiLatch ∧ t.host.pctlRes = (if isDefined s.host.paddr.toNat then 0 else 1) ∧
      t.host.paddr = (s.host.paddr &&& 0xF800) ||| ((s.host.paddr + 1) &&& 0x07FF) := by
  obtain ⟨hres, hpaddr⟩ := pdataHiRead_spec (evt 280 s) ha
  exact answers_of_bare (exec_of_regRead ho hm rfl (by simp)) fun _ hb _ =>
    ⟨kept_of_bare (·.host.dOut) (fun _ => rfl) hb, (kept_of_bare (·.host.pctlRes) (fun _ => rfl) hb).trans hres,
      (kept_of_bare (·.host.paddr) (fun _ => rfl) hb).trans hpaddr⟩

theorem pdataHiWrite_alone (v : Half) (ok : Bool) (hl : s.host.lowHeld = none) : Answers (.pdataHiWrite v ok) s fun t =>
    t.host.pctlRes = 5 ∧ t.params = s.params ∧ t.glaze = s.glaze ∧ t.host.imm = s.host.imm := by
  have hw : regWrite 0x17 v ok (evt 280 s) = paddrNext (pctlOut 5 (evt 280 s)) := by
    change paddrNext (match s.host.lowHeld with | none => _ | some lo => _) = _
    rw [hl]
  obtain ⟨p, hp⟩ := paddrNext_spec (pctlOut 5 (evt 280 s))
  have hk := (exec_of_regWrite ho hm (c := .pdataHiWrite v ok) rfl).trans (congrArg (finish s) (hw.trans hp))
  exact answers_of_inner _ hk rfl (fun _ => rfl) ⟨rfl, rfl, rfl, rfl⟩

/-! ### A staged write (R382, R445) -/

omit ho hm in
/-- A bank of which no register counts events or shows a half that is held. -/
theorem readParam_lowTaken {a : Nat} (h : a / 2048 ∈ [4, 12, 15, 16, 18, 19, 20]) (u : State) (e : Evt) :
    readParam { u with evt := e, host := { u.host with lowHeld := none } } a = readParam u a := by
  unfold readParam
  generalize a / 2048 = b at h
  fin_cases h <;> rfl

omit ho hm in
/-- Fields under a key that apply with a group are in those banks. -/
theorem staged_keyed_banks : ∀ r ∈ pRows, r.staged = true → (∀ old v, keysNeeded r old v = []) ∨
    (r.first / 2048 = r.last / 2048 ∧ r.first / 2048 ∈ [4, 12, 15, 16, 18, 19, 20]) := by
  have hrows : (pRows.all fun r => !r.staged || (r.fields.all fun f => match f.acc with | .wk _ => false | _ => true) ||
      decide (r.first / 2048 = r.last / 2048 ∧ r.first / 2048 ∈ [4, 12, 15, 16, 18, 19, 20])) = true := by decide
  intro r hr hs
  have h := List.all_eq_true.1 hrows r hr
  rw [hs, Bool.not_true, Bool.false_or, Bool.or_eq_true, decide_eq_true_eq] at h
  rcases h with h | h
  · refine .inl fun old v => List.filterMap_eq_nil_iff.2 fun f hf => ?_
    have hacc := List.all_eq_true.1 h f hf
    split
    · next k hk => rw [hk] at hacc; exact absurd hacc Bool.false_ne_true
    · rfl
  · exact .inr h

omit ho hm in
theorem writeKeys_lowTaken {r : PRow} {a : Nat} (hr : rowOf a = some r) (hs : r.staged = true) (u : State) (e : Evt) (v : Word) :
    writeKeys { u with evt := e, host := { u.host with lowHeld := none } } r a v = writeKeys u r a v := by
  have hmem : r ∈ pRows := List.mem_of_find?_eq_some hr
  have hin : (decide (r.first ≤ a) && decide (a ≤ r.last)) = true :=
    List.find?_some (p := fun r : PRow => decide (r.first ≤ a) && decide (a ≤ r.last)) hr
  rw [Bool.and_eq_true, decide_eq_true_eq, decide_eq_true_eq] at hin
  rcases staged_keyed_banks r hmem hs with h | ⟨heq, hbank⟩
  · unfold writeKeys
    rw [h, h]
    rfl
  · have hb : a / 2048 = r.first / 2048 := by omega
    unfold writeKeys
    rw [readParam_lowTaken (hb ▸ hbank)]
    rfl

omit ho hm in
/-- A write with its keys, in range, of a parameter that applies with its group. -/
theorem paramWrite_staged {a : Nat} {v : Word} {ok : Bool} {u : State} {r : PRow} (hd : isDefined a = true)
    (hr : rowOf a = some r) (hs : (isStandby u && a / 2048 != 15) = false) (ha : a ≠ 0x680A)
    (hk : ∀ k ∈ writeKeys u r a (v &&& rowMask r), keyOk u k = true) (hin : inRange r (v &&& rowMask r) = true)
    (hst : r.staged = true) : paramWrite a v ok u = stageWrite a (v &&& rowMask r) u := by
  have hany : ((writeKeys u r a (v &&& rowMask r)).any fun k => !keyOk u k) = false := by simpa using hk
  simp [paramWrite, hd, hr, hs, ha, hany, hin, hst]

omit ho hm in
/-- While the set is open and not full it takes the write in place of an earlier one of its parameter. -/
theorem stageWrite_free {a : Nat} {v : Word} {u : State} (hs : u.glaze.sealed_ = false) (hl : u.glaze.set.length < 64) :
    stageWrite a v u = { evt 283 (pctlOut 0 u) with glaze := { u.glaze with
      set := (u.glaze.set.filter fun w => w.addr != a) ++ [{ addr := a, value := v, group := u.glaze.grp.toNat }] } } := by
  have hlen : ((stagedBut u a).filter fun w => w.group == u.glaze.grp.toNat).length < 64 :=
    (((List.filter_sublist).trans List.filter_sublist).length_le).trans_lt hl
  unfold stageWrite
  dsimp only
  rw [if_neg (by simp only [hs, Bool.false_or, Bool.or_eq_true, decide_eq_true_eq]; omega)]
  rfl

theorem pdataHiWrite_stages {v lo : Half} {ok : Bool} {r : PRow} (hl : s.host.lowHeld = some lo)
    (hd : isDefined s.host.paddr.toNat = true) (hr : rowOf s.host.paddr.toNat = some r) (hst : r.staged = true)
    (hsb : isStandby s = false) (ha : s.host.paddr ≠ 0x680A)
    (hk : ∀ k ∈ writeKeys s r s.host.paddr.toNat ((v ++ lo) &&& rowMask r), keyOk s k = true)
    (hin : inRange r ((v ++ lo) &&& rowMask r) = true) (hse : s.glaze.sealed_ = false) (hlen : s.glaze.set.length < 64) :
    Answers (.pdataHiWrite v ok) s fun t => t.host.pctlRes = 0 ∧ t.params = s.params ∧
      t.glaze.set = (s.glaze.set.filter fun w => w.addr != s.host.paddr.toNat) ++
        [{ addr := s.host.paddr.toNat, value := (v ++ lo) &&& rowMask r, group := s.glaze.grp.toNat }] := by
  have hne : s.host.paddr.toNat ≠ 0x680A := fun h => ha (BitVec.eq_of_toNat_eq h)
  obtain ⟨e, he⟩ : ∃ e, evt 280 s = { s with evt := e } := ⟨_, rfl⟩
  have hw : regWrite 0x17 v ok (evt 280 s) = paddrNext (paramWrite s.host.paddr.toNat (v ++ lo) ok
      { s with evt := e, host := { s.host with lowHeld := none } }) := by
    rw [he]
    change paddrNext (match s.host.lowHeld with | none => _ | some lo => _) = _
    rw [hl]
  rw [← writeKeys_lowTaken hr hst s e] at hk
  have hpar := paramWrite_staged (ok := ok) (u := { s with evt := e, host := { s.host with lowHeld := none } }) hd hr
    (Bool.and_eq_false_imp.2 fun h => absurd (hsb.symm.trans h) Bool.false_ne_true) hne hk hin hst
  have hstage := stageWrite_free (a := s.host.paddr.toNat) (v := (v ++ lo) &&& rowMask r)
    (u := { s with evt := e, host := { s.host with lowHeld := none } }) hse hlen
  have hwrite := hw.trans (congrArg paddrNext (hpar.trans hstage))
  obtain ⟨p, hp⟩ := paddrNext_spec _
  have hrule := (exec_of_regWrite ho hm (c := .pdataHiWrite v ok) rfl).trans (congrArg (finish s) (hwrite.trans hp))
  exact answers_of_inner _ hrule rfl (fun _ => rfl) ⟨rfl, rfl, rfl⟩

/-! ### Direct registers with an effect of their own -/

theorem keyInWrite_starts {v : Half} (h : fld v 8 8 = 0x4B) : Answers (.keyInWrite v) s fun t =>
    bare t = bare { s with host := { s.host with keyIn := some (fld v 0 8, []) } } := by
  have hw : keyInWrite v (evt 280 s) = { evt 280 s with host := { s.host with keyIn := some (fld v 0 8, []) } } := if_pos h
  exact answers_of_bare ((exec_of_regWrite ho hm (c := .keyInWrite v) rfl).trans (congrArg (finish s) hw)) fun _ hb _ => hb

theorem hostHbWrite_beats {v : Half} (h : v ≠ s.host.hb) : Answers (.hostHbWrite v) s fun t =>
    bare t = bare { s with host := { s.host with
      hb := v, beatAt := now s, beatNew := true, beatFirst := if s.host.beatNew then s.host.beatFirst else now s } } := by
  have hw : hostBeat v (evt 280 s) = evt 292 { evt 280 s with host := { s.host with
      hb := v, beatAt := now s, beatNew := true, beatFirst := if s.host.beatNew then s.host.beatFirst else now s } } := if_neg h
  exact answers_of_bare ((exec_of_regWrite ho hm (c := .hostHbWrite v) rfl).trans (congrArg (finish s) hw)) fun _ hb _ => hb

theorem glazeDiscard_acts (hs : isStandby s = false) : Answers .glazeDiscard s fun t => bare t = bare (glazeDiscard s) := by
  have hd (u : State) (h : isStandby u = false) : glazeCtl 2 u = glazeDiscard u := by
    unfold glazeCtl
    rw [h]
    rfl
  refine answers_of_bare ((exec_of_regWrite ho hm (c := .glazeDiscard) rfl).trans (congrArg (finish s) (hd _ hs)))
    fun _ hb _ => hb.trans ?_
  unfold glazeDiscard
  rw [apply_ite bare, apply_ite bare]
  rfl

theorem glazeDiscard_clears (hs : isStandby s = false) (hn : s.glaze.sealed_ = false) : Answers .glazeDiscard s fun t =>
    bare t = bare { s with glaze := { s.glaze with set := [] } } := by
  have hd : glazeDiscard s = { s with glaze := { s.glaze with set := [] } } := if_neg (by simp [hn])
  exact hd ▸ glazeDiscard_acts ho hm hs

theorem glazeDiscard_withdraws (hs : isStandby s = false) (hn : s.glaze.sealed_ = true) : Answers .glazeDiscard s fun t =>
    bare t = bare { s with glaze := { s.glaze with withdrawn := true } } := by
  have hd : glazeDiscard s = { s with glaze := { s.glaze with withdrawn := true } } := if_pos hn
  exact hd ▸ glazeDiscard_acts ho hm hs

/-! ### The client window -/

theorem clientSnap_asks : Answers .clientSnap s fun t =>
    bare t = bare { s with host := { s.host with ready := false, snapAt := some (tickNo s) } } := by
  have hc : clientCtl (1 ||| put 16 2 s.host.cAinc.toNat) (evt 280 s) = clientSnap (evt 280 s) := by
    have hbits : ∀ b : Bool, (1 ||| put 16 2 b.toNat).getLsbD 0 = true ∧ (1 ||| put 16 2 b.toNat).getLsbD 2 = b ∧
        (1 ||| put 16 2 b.toNat).getLsbD 3 = false := by decide
    obtain ⟨h0, h2, h3⟩ := hbits s.host.cAinc
    unfold clientCtl
    dsimp only
    rw [h0, h2, h3]
    rfl
  exact answers_of_bare ((exec_of_regWrite ho hm (c := .clientSnap) rfl).trans (congrArg (finish s) hc)) fun _ hb _ => hb

/-- A change of the ID drops a copy that is under way (log 116). -/
theorem clientSelWrite_changes {v : Half} (h : fld v 0 11 ≠ fld s.host.clientSel 0 11) : Answers (.clientSelWrite v) s fun t =>
    bare t = bare { s with host := { s.host with clientSel := v, ready := false, snapAt := none } } := by
  have hw : clientSelWrite v (evt 280 s) = { evt 280 s with host := { s.host with clientSel := v, ready := false, snapAt := none } } :=
    if_neg h
  exact answers_of_bare ((exec_of_regWrite ho hm (c := .clientSelWrite v) rfl).trans (congrArg (finish s) hw)) fun _ hb _ => hb

theorem clientDataLoRead_latches (hr : s.host.ready = true) : Answers .clientDataLoRead s fun t =>
    t.host.dOut = (windowWord s).extractLsb' 0 16 ∧ t.host.clientHi = (windowWord s).extractLsb' 16 16 :=
  answers_of_bare (exec_of_regRead ho hm rfl fun _ => hr) fun _ hb _ =>
    ⟨kept_of_bare (·.host.dOut) (fun _ => rfl) hb, kept_of_bare (·.host.clientHi) (fun _ => rfl) hb⟩

omit ho hm in
theorem windowNext_host (u : State) : (windowNext u).host =
    { u.host with clientSel := if u.host.cAinc then u.host.clientSel + 0x0800 else u.host.clientSel } := by
  unfold windowNext
  split <;> rfl

theorem clientDataHiRead_advances : Answers .clientDataHiRead s fun t => t.host.dOut = s.host.clientHi ∧
    t.host.clientSel = (if s.host.cAinc then s.host.clientSel + 0x0800 else s.host.clientSel) := by
  have hw := windowNext_host (evt 280 s)
  exact answers_of_bare (exec_of_regRead ho hm rfl (by simp)) fun _ hb _ =>
    ⟨kept_of_bare (·.host.dOut) (fun _ => rfl) hb,
      (kept_of_bare (·.host.clientSel) (fun _ => rfl) hb).trans (congrArg HostBus.clientSel hw :)⟩

theorem clientDataHiWrite_takes {v lo : Half} (hl : s.host.clientLow = some lo) (h24 : 24 ≤ fld s.host.clientSel 11 5)
    (h27 : fld s.host.clientSel 11 5 ≤ 27) : Answers (.clientDataHiWrite v) s fun t =>
      t.host.window = tblSet (fun _ => (0 : Word)) s.host.window (fld s.host.clientSel 11 5)
        ((v ++ lo) &&& (if fld s.host.clientSel 11 5 = 24 then 0xFFFF01FF else 0xFFFFFFFF)) ∧ t.host.clientLow = none := by
  have hw : (clientHiWrite v (evt 280 s)).host.window = tblSet (fun _ => (0 : Word)) s.host.window (fld s.host.clientSel 11 5)
      ((v ++ lo) &&& (if fld s.host.clientSel 11 5 = 24 then 0xFFFF01FF else 0xFFFFFFFF)) ∧
      (clientHiWrite v (evt 280 s)).host.clientLow = none := by
    unfold clientHiWrite
    dsimp only
    rw [windowNext_host, show (evt 280 s).host.clientLow = some lo from hl]
    dsimp only
    rw [if_pos ⟨h24, h27⟩]
    exact ⟨rfl, rfl⟩
  obtain ⟨hwin, hlow⟩ := hw
  exact answers_of_bare (exec_of_regWrite ho hm (c := .clientDataHiWrite v) rfl) fun _ hb _ =>
    ⟨(kept_of_bare (·.host.window) (fun _ => rfl) hb).trans hwin, (kept_of_bare (·.host.clientLow) (fun _ => rfl) hb).trans hlow⟩

/-! ### Bus errors -/

omit ho hm in
/-- No register stands at an offset from 0x30. -/
theorem unmapped_reg (off : Fin 16) (v : Half) (u : State) : regWrite (0x30 + off.val) v true u = busError u ∧
    regRead (0x30 + off.val) u = { busError u with host := { (busError u).host with dOut := 0 } } := by
  fin_cases off <;> exact ⟨rfl, rfl⟩

theorem unmappedOffsetAccess_counts (write : Bool) (off : Fin 16) (v : Half) : Answers (.unmappedOffsetAccess write off v) s fun t =>
    t.host.busErr = true ∧ t.host.busErrCnt = s.host.busErrCnt + 1 ∧ (write = false → t.host.dOut = 0) := by
  obtain ⟨hw, hr⟩ := unmapped_reg off v (evt 280 s)
  cases write with
  | true =>
    have hrule := (exec_of_regWrite ho hm (c := .unmappedOffsetAccess true off v) rfl).trans (congrArg (finish s) hw)
    exact answers_of_inner _ hrule rfl (fun _ => rfl) ⟨rfl, rfl, fun h => absurd h (by decide)⟩
  | false =>
    have hrule := (exec_of_regRead ho hm (c := .unmappedOffsetAccess false off v) rfl (by omega)).trans (congrArg (finish s) hr)
    exact answers_of_inner _ hrule rfl (fun _ => rfl) ⟨rfl, rfl, fun _ => rfl⟩

omit hm in
theorem busAccessDiscard_counts : Answers .busAccessDiscard s fun t =>
    bare t = bare { s with host := { s.host with dOut := 0, busErr := true, busErrCnt := s.host.busErrCnt + 1 } } := by
  obtain ⟨hmain, hrdy, hwait, -⟩ := ho
  have hrule : exec .busAccessDiscard s = finish s (busError (evt 280 { s with host := { s.host with dOut := 0 } })) :=
    congrArg (finish s) (if_pos (by simp [hmain, hrdy, hwait]))
  exact answers_of_bare hrule fun _ hb _ => hb

theorem paddrWrite_sets (v : Half) : Answers (.paddrWrite v) s fun t =>
    bare t = bare { s with host := { s.host with paddr := v, lowHeld := none } } :=
  answers_of_bare (exec_of_regWrite ho hm rfl) fun _ hb _ => hb

theorem pdataLoWrite_holds (v : Half) : Answers (.pdataLoWrite v) s fun t =>
    bare t = bare { s with host := { s.host with lowHeld := some v } } :=
  answers_of_bare (exec_of_regWrite ho hm rfl) fun _ hb _ => hb

end

/-- Settles O46: a write of CLIENT_SEL with another ID drops the copy under way (log 116). -/
theorem hostAccesses : Obligations.HostAccesses := fun _ ho hm =>
  ⟨registerWrite_writes ho hm, registerWrite_readOnly ho hm, registerWrite_irqClear ho hm, rclRegisterRead_returns ho hm,
    tickNowRead_latches ho hm, evtDataLoRead_latches ho hm, opres0Read_latches ho hm, statRead_clears ho hm,
    paddrWrite_sets ho hm, pdataLoRead_fetches ho hm, pdataLoWrite_holds ho hm, pdataHiRead_advances ho hm,
    fun v ok hl => pdataHiWrite_alone ho hm v ok hl, fun _ _ _ _ => pdataHiWrite_stages ho hm, fun _ => keyInWrite_starts ho hm,
    fun _ => hostHbWrite_beats ho hm, glazeDiscard_clears ho hm, glazeDiscard_withdraws ho hm, clientSnap_asks ho hm,
    fun _ => clientSelWrite_changes ho hm, clientDataLoRead_latches ho hm, clientDataHiRead_advances ho hm,
    fun _ _ => clientDataHiWrite_takes ho hm, unmappedOffsetAccess_counts ho hm, busAccessDiscard_counts ho⟩

end Sys2Proof.Machine
end

section
/-!
PROOFS. What the host interface does at a tick or a frame (07_host_bus.md): held accesses, immediate writes, keys, the client
window and silence.
-/

namespace Sys2Proof.Machine

/-! ### A write of a parameter that applies at once -/

theorem mem_keysNeeded {r : PRow} {old v : Word} {k : Nat} (h : k ∈ keysNeeded r old v) : ∃ f ∈ r.fields, f.acc = .wk k := by
  obtain ⟨f, hf, he⟩ := List.mem_filterMap.1 h
  refine ⟨f, hf, ?_⟩
  split at he
  · next k' hacc =>
    split at he
    · cases he
    · rw [hacc, Option.some.inj he]
  · cases he

/-- A key that a write asks for is one of the row's. -/
theorem mem_writeKeys {s : State} {r : PRow} {a : Nat} {v : Word} {k : Nat} (h : k ∈ writeKeys s r a v) :
    ∃ f ∈ r.fields, f.acc = .wk k := by
  rcases List.mem_append.1 h with h | h
  · exact mem_keysNeeded h
  · split at h
    · exact mem_keysNeeded h
    · exact absurd h List.not_mem_nil

section
variable {s : State}

/-- An open bus carries out a write of a parameter at once. -/
theorem exec_of_parWrite (ho : BusOpen s) (hm : s.legacy.mode = false) {c : Instr} {a : Nat} {v : Word} {ok : Bool}
    (e : exec c s = finish s (onBus (parWr a v ok) s)) : exec c s = finish s (paramWrite a v ok (evt 280 s)) := by
  have hdo : busDo (parWr a v ok) (evt 280 s) = paramWrite a v ok (evt 280 s) := by
    simp [busDo, parWr, show (evt 280 s).legacy.mode = false from hm]
  rw [e, onBus_of_open ho (by simp [awaitsCopy, parWr]), hdo]

/-- A write of all of a parameter's fields, with its keys. -/
theorem exec_of_immWrite (ho : BusOpen s) (hm : s.legacy.mode = false) {c : Instr} {a : Nat} {v : Word} {ok : Bool} {r : PRow}
    (e : exec c s = finish s (onBus (parWr a v ok) s)) (hd : isDefined a = true) (hr : rowOf a = some r)
    (hs : isStandby s = false) (ha : a ≠ 0x680A) (hk : ∀ f ∈ r.fields, ∀ k, f.acc = .wk k → keyOk s k = true)
    (hv : v &&& rowMask r = v) (hin : inRange r v = true) (hst : r.staged = false) :
    exec c s = finish s (immWrite a v (evt 283 (pctlOut 0 (evt 280 s)))) := by
  have hpar := paramWrite_imm (ok := ok) (s := evt 280 s) hd hr
    (Bool.and_eq_false_imp.2 fun h => absurd (hs.symm.trans h) Bool.false_ne_true) ha
    (fun k hk' => let ⟨f, hf, hacc⟩ := mem_writeKeys hk'; hk f hf k hacc) (by rw [hv]; exact hin) hst
  rw [hv] at hpar
  exact (exec_of_parWrite ho hm e).trans (congrArg (finish s) hpar)

/-- Most parameters that apply at once wait for the next tick. -/
theorem immWrite_waits {a n : Nat} {v : Word} {u : State} (hn : tickNo u = n)
    (h : a ≠ 0x0804 ∧ ¬(0x680C ≤ a ∧ a ≤ 0x681B) ∧ a ≠ 0xA007 ∧ a ≠ 0x88C0 ∧ a ≠ 0x88C1) :
    immWrite a v u = { u with host := { u.host with imm := u.host.imm ++ [(n, a, v)] } } := by
  obtain ⟨h1, h2, h3, h4, h5⟩ := h
  rw [immWrite, if_neg h1, if_neg h2, if_neg h3, if_neg h4, if_neg h5, hn]

theorem bare_evt_host (n : Nat) (u : State) (h : HostBus) : bare { evt n u with host := h } = bare { u with host := h } := rfl

/-- A write without a fault, beside its event and its access. -/
theorem bare_accepted (l : List (Nat × Nat × Word)) (u : State) :
    bare { evt 283 (pctlOut 0 (evt 280 u)) with host := { (evt 283 (pctlOut 0 (evt 280 u))).host with imm := l } } =
      bare { u with host := { u.host with pctlRes := 0, imm := l } } := by
  have hp : pctlOut 0 (evt 280 u) = { evt 280 u with host := { (evt 280 u).host with pctlRes := 0 } } := rfl
  rw [hp, bare_evt_host]
  exact bare_evt_host 280 u _

/-- Such a write answers 0 and waits. -/
theorem answers_of_immWait {c : Instr} {a : Nat} {v : Word} (e : exec c s = finish s (immWrite a v (evt 283 (pctlOut 0 (evt 280 s)))))
    (h : a ≠ 0x0804 ∧ ¬(0x680C ≤ a ∧ a ≤ 0x681B) ∧ a ≠ 0xA007 ∧ a ≠ 0x88C0 ∧ a ≠ 0x88C1) :
    Answers c s fun t => bare t = bare { s with host := { s.host with pctlRes := 0, imm := s.host.imm ++ [(tickNo s, a, v)] } } := by
  have hn : tickNo (evt 283 (pctlOut 0 (evt 280 s))) = tickNo s := congrArg (· / tickLen) (rfl : now _ = now s)
  rw [immWrite_waits hn h] at e
  exact answers_of_bare e fun _ hb _ => hb.trans (bare_accepted _ s)

/-! ### SYS.SVC_REQ and RESULT.TAIL (R389, R415, R460) -/

/-- SYS.SVC_REQ's row. -/
def svcReqRow : PRow :=
  { first := 48, last := 48, staged := false, reset := 0
    fields := [{ lo := 0, w := 3, acc := .wk 0, min := 0, max := 7 }, { lo := 3, w := 1, acc := .wk 0, min := 0, max := 1 },
      { lo := 4, w := 11, acc := .wk 0, min := 0, max := 2047 }, { lo := 16, w := 8, acc := .wk 0, min := 0, max := 255 }] }

/-- RESULT.TAIL's row. -/
def resultTailRow : PRow :=
  { first := 47105, last := 47105, staged := false, reset := 0, fields := [{ lo := 0, w := 10, acc := .rw, min := 0, max := 1023 }] }

theorem fld_le (v : Word) (lo w : Nat) : fld v lo w ≤ 2 ^ w - 1 := Nat.le_sub_one_of_lt (Nat.mod_lt _ (by positivity))

theorem inRange_svcReq (v : Word) : inRange svcReqRow v = true := by
  have h1 := fld_le v 0 3
  have h2 := fld_le v 3 1
  have h3 := fld_le v 4 11
  have h4 := fld_le v 16 8
  norm_num at h1 h2 h3 h4
  simp [inRange, inShape, svcReqRow, parAddr, h1, h2, h3, h4]

theorem inRange_resultTail (v : Word) : inRange resultTailRow v = true := by
  have h1 := fld_le v 0 10
  norm_num at h1
  simp [inRange, inShape, resultTailRow, parAddr, h1]

/-- The word of a service request: its kind, return, index and tag. -/
def svcReqWord (kind : BitVec 3) (ret : Bool) (index : BitVec 11) (tag : Byte) : Word :=
  kind.setWidth 32 ||| put 32 3 ret.toNat ||| put 32 4 index.toNat ||| put 32 16 tag.toNat

theorem and_mask_eq {m v : Word} (h : ∀ i < 32, m.getLsbD i = false → v.getLsbD i = false) : v &&& m = v := by
  refine BitVec.eq_of_getLsbD_eq fun i hi => ?_
  rw [BitVec.getLsbD_and]
  cases hm : m.getLsbD i with
  | true => exact Bool.and_true _
  | false => rw [h i hi hm]; rfl

/-- Every field of the word is within the row's. -/
theorem svcReqWord_mask (kind : BitVec 3) (ret : Bool) (index : BitVec 11) (tag : Byte) :
    svcReqWord kind ret index tag &&& rowMask svcReqRow = svcReqWord kind ret index tag := by
  rw [show rowMask svcReqRow = 0x00FF7FFF from by decide]
  refine and_mask_eq fun i hi hm => ?_
  have hout : i = 15 ∨ 24 ≤ i := by
    by_contra hc
    have hset : ∀ j < 32, ¬(j = 15 ∨ 24 ≤ j) → (0x00FF7FFF : Word).getLsbD j = true := by decide
    rw [hset i hi hc] at hm
    cases hm
  have hret : ret.toNat < 2 ^ (i - 3) := (Bool.toNat_lt ret).trans_le (Nat.le_self_pow (by omega) 2)
  simp only [svcReqWord, put, BitVec.getLsbD_or, BitVec.getLsbD_shiftLeft, BitVec.getLsbD_setWidth, BitVec.getLsbD_ofNat,
    BitVec.testBit_toNat]
  rw [BitVec.getLsbD_of_ge kind i (by omega), BitVec.getLsbD_of_ge index (i - 4) (by omega), Nat.testBit_lt_two_pow hret]
  rcases hout with rfl | h
  · simp
  · rw [BitVec.getLsbD_of_ge tag (i - 16) (by omega)]
    simp

theorem resultTailWord_mask (v : BitVec 10) : v.setWidth 32 &&& rowMask resultTailRow = v.setWidth 32 := by
  rw [show rowMask resultTailRow = 0x3FF from by decide]
  refine and_mask_eq fun i hi hm => ?_
  have hout : 10 ≤ i := by
    by_contra hc
    have hset : ∀ j < 10, (0x3FF : Word).getLsbD j = true := by decide
    rw [hset i (by omega)] at hm
    cases hm
  rw [BitVec.getLsbD_setWidth, BitVec.getLsbD_of_ge v i hout, Bool.and_false]

theorem svcReqWrite_waits (kind : BitVec 3) (ret : Bool) (index : BitVec 11) (tag : Byte) (ho : BusOpen s)
    (hm : s.legacy.mode = false) (hs : isStandby s = false) (hk : keyOk s 0 = true) :
    Answers (.svcReqWrite kind ret index tag) s fun t => t.host.pctlRes = 0 ∧ t.glaze = s.glaze ∧
      t.host.imm = s.host.imm ++ [(tickNo s, 0x0030,
        kind.setWidth 32 ||| put 32 3 ret.toNat ||| put 32 4 index.toNat ||| put 32 16 tag.toNat)] := by
  have hrule := exec_of_immWrite (c := .svcReqWrite kind ret index tag) (v := svcReqWord kind ret index tag) ho hm rfl
    (by decide) (r := svcReqRow) rfl hs (by decide) (by simpa [svcReqRow] using hk) (svcReqWord_mask ..) (inRange_svcReq _) rfl
  obtain ⟨t, ht, hb⟩ := answers_of_immWait hrule (by decide)
  exact ⟨t, ht, (kept_of_bare (·.host.pctlRes) (fun _ => rfl) hb :), (kept_of_bare (·.glaze) (fun _ => rfl) hb :),
    (kept_of_bare (·.host.imm) (fun _ => rfl) hb :)⟩

theorem resultTailWrite_waits (v : BitVec 10) (ho : BusOpen s) (hm : s.legacy.mode = false) (hs : isStandby s = false) :
    Answers (.resultTailWrite v) s fun t => t.host.pctlRes = 0 ∧ t.host.tail = s.host.tail ∧
      t.host.imm = s.host.imm ++ [(tickNo s, 0xB801, v.setWidth 32)] := by
  have hrule := exec_of_immWrite (c := .resultTailWrite v) (v := v.setWidth 32) ho hm rfl
    (by decide) (r := resultTailRow) (by decide) hs (by decide) (by simp [resultTailRow]) (resultTailWord_mask v) (inRange_resultTail _) rfl
  obtain ⟨t, ht, hb⟩ := answers_of_immWait hrule (by decide)
  exact ⟨t, ht, (kept_of_bare (·.host.pctlRes) (fun _ => rfl) hb :), (kept_of_bare (·.host.tail) (fun _ => rfl) hb :),
    (kept_of_bare (·.host.imm) (fun _ => rfl) hb :)⟩

/-! ### Immediate writes take effect -/

/-- The one immediate write that waits takes effect. -/
theorem exec_immediateParamApply_one {at_ a : Nat} {v : Word} (hi : s.host.imm = [(at_, a, v)]) (ht : tickPast s at_ = true)
    (ha : a ≠ parAddr 13 0x1E) :
    exec .immediateParamApply s = finish s (immApply a v { s with host := { s.host with imm := [] } }) := by
  have hdue : immDue s (at_, a, v) = true := by simp [immDue, ht, ha]
  change execImmediateParamApply s = _
  simp only [execImmediateParamApply, hi, List.filter_cons, List.filter_nil, hdue, Bool.not_true, Bool.false_eq_true, if_true,
    if_false, List.foldl_cons, List.foldl_nil]

theorem immediateParamApply_swapCtl {at_ : Nat} {v : Word} (hi : s.host.imm = [(at_, 0x1000, v)]) (ht : tickPast s at_ = true) :
    Answers .immediateParamApply s fun t =>
      t.host.imm = [] ∧ t.canvas.swapArm = v.getLsbD 0 ∧ t.canvas.allowOld = v.getLsbD 1 ∧ t.params = s.params :=
  answers_of_inner { s with
    host := { s.host with imm := [] }
    canvas := { s.canvas with
      swapArm := v.getLsbD 0, allowOld := v.getLsbD 1, swapHeld := s.canvas.swapHeld && v.getLsbD 0 } }
    (exec_immediateParamApply_one hi ht (by decide)) rfl (fun _ => rfl) ⟨rfl, rfl, rfl, rfl⟩

/-- A service request joins the queue of fewer than eight. -/
theorem svcWrite_queues {v : Word} {n : Nat} {u : State} (hn : tickNo u = n) (hl : u.glaze.svc.length < 8) : svcWrite v u =
    mirrorForward (svcReport u.glaze.svcTag 1 0 { setPar 0x030 v u with glaze := { u.glaze with svc := u.glaze.svc ++
      [{ kind := fld v 0 3, ret := v.getLsbD 3, index := fld v 4 11, tag := v.extractLsb' 16 8, tick := n }] } }) := by
  subst hn
  exact if_neg (Nat.not_le.2 hl)

theorem immediateParamApply_service {at_ : Nat} {v : Word} (hi : s.host.imm = [(at_, 0x0030, v)]) (ht : tickPast s at_ = true)
    (hl : s.glaze.svc.length < 8) : Answers .immediateParamApply s fun t =>
      t.host.imm = [] ∧ t.glaze.svcTag = s.glaze.svcTag ∧ t.glaze.svcAns = 1 ∧ t.glaze.svcReason = 0 ∧
      t.glaze.svc = s.glaze.svc ++ [{ kind := fld v 0 3, ret := v.getLsbD 3, index := fld v 4 11
                                      tag := v.extractLsb' 16 8, tick := tickNo s }] := by
  have hn : tickNo { s with host := { s.host with imm := [] } } = tickNo s := rfl
  have happ : immApply 0x0030 v { s with host := { s.host with imm := [] } } = _ := (if_pos rfl).trans (svcWrite_queues hn hl)
  have hrule := (exec_immediateParamApply_one hi ht (by decide)).trans (congrArg (finish s) happ)
  generalize tickNo s = n at hrule ⊢
  exact answers_of_keep (parts [.mirror]) _ hrule (keep_mirrorForward _ rfl) (fun _ => rfl) ⟨rfl, rfl, rfl, rfl, rfl⟩

/-- RESULT.TAIL moves; with nothing waiting for the ring it stalls no more. -/
theorem immediateParamApply_tail {at_ : Nat} {v : Word} (hi : s.host.imm = [(at_, 0xB801, v)]) (ht : tickPast s at_ = true)
    (ho : s.host.op.out = []) (hp : s.host.op.paused = false) : Answers .immediateParamApply s fun t =>
      t.host.imm = [] ∧ t.host.tail = v.setWidth 10 ∧ t.host.stall = false := by
  have happ : immApply 0xB801 v { s with host := { s.host with imm := [] } } =
      tailWrite (v.setWidth 10) { s with host := { s.host with imm := [] } } := rfl
  have htail : tailWrite (v.setWidth 10) { s with host := { s.host with imm := [] } } = { s with host := { s.host with
      imm := [], tail := v.setWidth 10, stall := false, op := { s.host.op with out := [] } } } := by
    unfold tailWrite ringDrain
    rw [if_neg (by simp [hp])]
    dsimp only
    rw [ho]
    rfl
  have hrule := (exec_immediateParamApply_one hi ht (by decide)).trans (congrArg (finish s) (happ.trans htail))
  exact answers_of_inner _ hrule rfl (fun _ => rfl) ⟨rfl, rfl, rfl⟩

/-! ### Keys -/

theorem exec_keyCheck {id : Nat} {k : DWord} {at_ : Nat} {rest : List (Nat × DWord × Nat)} (hd : s.host.keyDone = (id, k, at_) :: rest)
    (ht : tickPast s at_ = true) (hl : (keyLock s id).until_ ≤ now s) : exec .keyCheck s = finish s
      (if tblGet (fun _ => (0 : DWord)) s.store.keys id = k then keyAccept id { s with host := { s.host with keyDone := rest } }
       else keyWrong id { s with host := { s.host with keyDone := rest } }) := by
  change execKeyCheck s = _
  rw [execKeyCheck, hd]
  dsimp only
  rw [if_pos ht, keyTry]
  exact congrArg (finish s) (if_neg (Nat.not_lt.2 hl))

theorem keyCheck_accepts {id : Nat} {k : DWord} {at_ : Nat} {rest : List (Nat × DWord × Nat)}
    (hd : s.host.keyDone = (id, k, at_) :: rest) (ht : tickPast s at_ = true) (hl : (keyLock s id).until_ ≤ now s)
    (hk : tblGet (fun _ => (0 : DWord)) s.store.keys id = k) : Answers .keyCheck s fun t =>
      t.host.keyRes = 1 ∧ t.host.keyDone = rest ∧ t.host.keyLast = some id ∧
      t.host.keyValid = tblSet (fun _ => none) s.host.keyValid id (some (now s)) :=
  answers_of_inner _ ((exec_keyCheck hd ht hl).trans (congrArg (finish s) (if_pos hk))) rfl (fun _ => rfl) ⟨rfl, rfl, rfl, rfl⟩

theorem bare_setKeyLock_congr {id : Nat} {l : KeyLock} {a b : State} (h : bare a = bare b) :
    bare (setKeyLock id l a) = bare (setKeyLock id l b) := by
  have hl (x : State) : bare (setKeyLock id l x) = setKeyLock id l (bare x) := rfl
  rw [hl, hl, h]

/-- A wrong key ends the key's validity; beside that it counts towards a lock. -/
theorem keyWrong_spec (id : Nat) (u : State) : ∃ l, bare (keyWrong id u) =
    bare (setKeyLock id l (keyResult id 2 (setKeyValid id none u))) := by
  have hr : bare (evt 285 (setIrq 11 (keyResult id 2 (setKeyValid id none u)))) = bare (keyResult id 2 (setKeyValid id none u)) := by
    simp
  unfold keyWrong
  dsimp only
  split
  · exact ⟨_, bare_setKeyLock_congr hr⟩
  · exact ⟨_, (bare_logPush _ _ _).trans (bare_setKeyLock_congr hr)⟩

theorem keyCheck_refuses {id : Nat} {k : DWord} {at_ : Nat} {rest : List (Nat × DWord × Nat)}
    (hd : s.host.keyDone = (id, k, at_) :: rest) (ht : tickPast s at_ = true) (hl : (keyLock s id).until_ ≤ now s)
    (hk : tblGet (fun _ => (0 : DWord)) s.store.keys id ≠ k) : Answers .keyCheck s fun t =>
      t.host.keyRes = 2 ∧ t.host.keyDone = rest ∧ t.host.keyLast = s.host.keyLast ∧
      t.host.keyValid = tblSet (fun _ => none) s.host.keyValid id none := by
  have hrule := (exec_keyCheck hd ht hl).trans (congrArg (finish s) (if_neg hk))
  obtain ⟨l, hw⟩ := keyWrong_spec id { s with host := { s.host with keyDone := rest } }
  exact answers_of_inner _ hrule (inner_of_bare hw) (fun _ => rfl) ⟨rfl, rfl, rfl, rfl⟩

theorem keyExpiry_expires {k : Fin 16} {at_ : Nat} (hv : tblGet (fun _ => none) s.host.keyValid (keyOfStat k.val) = some at_)
    (ht : at_ + 60 * sec ≤ now s) : Answers (.keyExpiry k) s fun t =>
      t.host.keyRes = 5 ∧ t.host.keyValid = tblSet (fun _ => none) s.host.keyValid (keyOfStat k.val) none ∧
      t.host.locks = s.host.locks := by
  have hpass : passed s at_ (60 * sec) = true := decide_eq_true ht
  have hrule : exec (.keyExpiry k) s = execKeyExpiry k s := rfl
  unfold execKeyExpiry at hrule
  dsimp only at hrule
  rw [hv] at hrule
  dsimp only at hrule
  rw [if_pos hpass] at hrule
  exact answers_of_inner _ hrule rfl (fun _ => rfl) ⟨rfl, rfl, rfl⟩

theorem keyLockExpiry_unlocks {k : Fin 16} (hu : (keyLock s (keyOfStat k.val)).until_ ≠ 0)
    (ht : (keyLock s (keyOfStat k.val)).until_ ≤ now s) : Answers (.keyLockExpiry k) s fun t =>
      bare t = bare (setKeyLock (keyOfStat k.val) { keyLock s (keyOfStat k.val) with until_ := 0 } s) :=
  answers_of_bare (congrArg (finish s) (if_pos ⟨hu, ht⟩)) fun _ hb _ => hb

/-! ### The client window -/

theorem clientSnapComplete_shows {at_ : Nat} (ha : s.host.snapAt = some at_) (ht : tickPast s at_ = true)
    (hh : s.host.heldAcc = none) : Answers .clientSnapComplete s fun t =>
      t.host.snapAt = none ∧ t.host.ready = true ∧ t.clients = s.clients := by
  have hrule : exec .clientSnapComplete s = execClientSnapComplete s := rfl
  rw [execClientSnapComplete, ha] at hrule
  dsimp only at hrule
  rw [if_pos ht, releaseHeld_of_none (by simp [hh])] at hrule
  refine answers_of_bare hrule fun _ hb _ => ?_
  have hk := hb.trans (bare_setIrq _ _)
  exact ⟨(kept_of_bare (·.host.snapAt) (fun _ => rfl) hk :), (kept_of_bare (·.host.ready) (fun _ => rfl) hk :),
    (kept_of_bare (·.clients) (fun _ => rfl) hk :)⟩

/-! ### Silence -/

theorem nwaitTimeout_releases {a : BusAcc} (ha : s.host.heldAcc = some a)
    (ht : 11 * s.host.heldBound < 10 * (now s - s.host.heldAt)) : Answers .nwaitTimeout s fun t =>
      t.host.heldAcc = none ∧ t.host.nWaitLow = false ∧ t.host.waitTmo = true ∧ t.host.waitCnt = s.host.waitCnt + 1 ∧
      t.host.dOut = (if a.write then s.host.dOut else 0) ∧ t.params = s.params := by
  have hrule : exec .nwaitTimeout s = execNwaitTimeout s := rfl
  rw [execNwaitTimeout, ha] at hrule
  rw [if_pos (by simp [ht])] at hrule
  refine answers_of_bare hrule fun _ hb _ => ?_
  have hk := hb.trans (bare_logPush _ _ _)
  exact ⟨(kept_of_bare (·.host.heldAcc) (fun _ => rfl) hk :), (kept_of_bare (·.host.nWaitLow) (fun _ => rfl) hk :),
    (kept_of_bare (·.host.waitTmo) (fun _ => rfl) hk :), (kept_of_bare (·.host.waitCnt) (fun _ => rfl) hk :),
    (kept_of_bare (·.host.dOut) (fun _ => rfl) hk :), (kept_of_bare (·.params) (fun _ => rfl) hk :)⟩

theorem hostSilenceEnd_ends (hf : atFrame s = true) (hs : s.host.silent = true) (hn : s.host.beatNew = true)
    (hb : s.host.beatFirst < now s) : Answers .hostSilenceEnd s fun t =>
      bare t = bare { s with host := { s.host with silent := false, beatNew := false } } :=
  answers_of_bare (congrArg (finish s) (if_pos (by simp [hf, hs, hn, hb]))) fun _ ht _ =>
    ht.trans ((bare_reports (sansReports_chirpSettle _)).trans (by simp))

/-! ### Silence declared -/

theorem countIrq_host (x y : State) : (countIrq x y).host = y.host := by
  unfold countIrq
  split <;> rfl

theorem setLstat_host (b : Nat) (u : State) : (setLstat b u).host = u.host := by
  unfold setLstat
  split
  · exact countIrq_host ..
  · rfl

theorem logPush_host (code : Nat) (v : Word) (u : State) : (logPush code v u).host = u.host := by
  unfold logPush logAt
  split <;> rfl

theorem countIrq_safety (x y : State) : (countIrq x y).safety = y.safety := by
  unfold countIrq
  split <;> rfl

theorem setIrq_safety (b : Nat) (u : State) : (setIrq b u).safety = u.safety := by
  have hl : (if b < 2 then setLstat b u else u).safety = u.safety := by
    split
    · unfold setLstat
      split
      · exact countIrq_safety ..
      · rfl
    · rfl
  exact (countIrq_safety ..).trans hl

theorem setIrq_irqStat (b : Nat) (u : State) : (setIrq b u).host.irqStat = setBit u.host.irqStat b true := by
  unfold setIrq
  dsimp only
  rw [countIrq_host]
  split
  · exact congrArg (fun h : HostBus => setBit h.irqStat b true) (setLstat_host b u)
  · rfl

/-- A cause that is raised interrupts as an alarm of the trouble's own, if it interrupts. -/
theorem raiseCause_irqStat (code src : Nat) (e : Bool) (u : State) : (raiseCause code src e u).host.irqStat = u.host.irqStat ∨
    (raiseCause code src e u).host.irqStat = setBit u.host.irqStat 1 true := by
  have hw (c : Nat) (x : State) : (latchWake c x).host = x.host := by
    unfold latchWake
    split <;> rfl
  have hh (x : State) : (hubBcast code x).host = x.host := by
    unfold hubBcast
    split <;> rfl
  unfold raiseCause
  split
  · exact Or.inl rfl
  · dsimp only
    split
    · right
      have he (x : State) : (evt 348 (latchWake 4 (setIrq 1 (hubBcast code x)))).host.irqStat = setBit x.host.irqStat 1 true := by
        change (latchWake 4 _).host.irqStat = _
        rw [hw, setIrq_irqStat, hh]
      split
      · exact he _
      · rw [logPush_host]
        exact he _
    · exact Or.inl rfl

theorem raiseCause_present (code src : Nat) (e : Bool) (u : State) :
    codePresent (raiseCause code src e u).safety.causes code = true := by
  have hl (c : Nat) (v : Word) (x : State) : (logPush c v x).safety = x.safety := by
    unfold logPush logAt
    split <;> rfl
  have hw (c : Nat) (x : State) : (latchWake c x).safety = x.safety := by
    unfold latchWake
    split <;> rfl
  unfold raiseCause
  split
  · next h =>
    obtain ⟨c, hc, hcode⟩ := List.any_eq_true.1 h
    obtain ⟨hcode, -⟩ := Bool.and_eq_true_iff.1 hcode
    refine List.any_eq_true.2 ⟨_, List.mem_map.2 ⟨c, hc, rfl⟩, ?_⟩
    split <;> exact hcode
  · dsimp only
    have hnew : codePresent (u.safety.causes ++ [{ code := code, src := src, acked := false, event := e }]) code = true := by
      simp [codePresent]
    split
    · have he (x : State) : (evt 348 (latchWake 4 (setIrq 1 (hubBcast code x)))).safety.causes = x.safety.causes := by
        change (latchWake 4 _).safety.causes = _
        rw [hw, setIrq_safety, hubBcast_causes]
      split
      · rw [he]
        exact hnew
      · rw [hl, he]
        exact hnew
    · exact hnew

theorem hostSilenceDeclared_declares (hs : Settled s) (hf : atFrame s = true) (hr : s.power.busrdy = true) (he : s.host.hbEn = true)
    (hq : s.host.silent = false) (ht : s.host.beatAt + hostTmo s ≤ now s) : Answers .hostSilenceDeclared s fun t =>
      t.host.silent = true ∧ t.host.silentCnt = s.host.silentCnt + 1 ∧ t.host.irqStat.getLsbD 13 = true ∧
      codePresent t.safety.causes 960 = true := by
  have hrule : exec .hostSilenceDeclared s = execHostSilenceDeclared s := rfl
  unfold execHostSilenceDeclared at hrule
  rw [if_pos (by simp [hf, hr, he, hq, passed, ht])] at hrule
  dsimp only at hrule
  generalize hs1 : { s with host := { s.host with silent := true, silentCnt := s.host.silentCnt + 1, beatNew := false } } = s1 at hrule
  have hset : Settled s1 := by subst hs1; exact hs
  have hrep : sansReports (evt 293 (raiseCause 960 0 false (logPush 0x080 1 (setLstat 4 (setIrq 13 s1))))) = sansReports s1 := by
    simp
  have hirq : (logPush 0x080 1 (setLstat 4 (setIrq 13 s1))).host.irqStat = setBit s1.host.irqStat 13 true := by
    rw [logPush_host, setLstat_host, setIrq_irqStat]
  refine answers_of_settled hrule (settled_reports hrep hset)
    ⟨(kept_of_sansReports (·.host.silent) (fun _ => rfl) hrep :).trans (by subst hs1; rfl),
      (kept_of_sansReports (·.host.silentCnt) (fun _ => rfl) hrep :).trans (by subst hs1; rfl), ?_,
      raiseCause_present 960 0 false _⟩
  change (raiseCause 960 0 false (logPush 0x080 1 (setLstat 4 (setIrq 13 s1)))).host.irqStat.getLsbD 13 = true
  rcases raiseCause_irqStat 960 0 false (logPush 0x080 1 (setLstat 4 (setIrq 13 s1))) with h | h
  · rw [h, hirq, getLsbD_setBit _ _ _ (by decide)]
    rfl
  · rw [h, hirq, getLsbD_setBit _ _ _ (by decide), getLsbD_setBit _ _ _ (by decide)]
    rfl

/-! ### Commands of the window -/

/-- A command that is taken joins the queue and is answered queued or deferred. -/
theorem cmdQueue_spec {id code cls : Nat} {zc : Bool} {args : List Word} {u x : State} {ans n : Nat} (hc : code ≠ 8)
    (h : cmdQueue id code cls zc args u = (x, ans, n)) : ans < 2 ∧ x.host.cmdGoAt = u.host.cmdGoAt ∧
      ∃ q, x.clients.queue = u.clients.queue ++ [q] ∧ q.id = id ∧ q.code = code ∧ q.zc = zc ∧
        q.args = args := by
  have hgo : x.host.cmdGoAt = u.host.cmdGoAt := by
    have hk := keep_cmdQueue (w := parts [.clients, .store]) id code cls zc args u ⟨rfl, rfl⟩
    rw [h] at hk
    exact kept_of_keep (·.host.cmdGoAt) (fun _ => rfl) hk
  have hqueue (ans n : Nat) (seq : Byte) (y : State) : (if ans = 1 then
      cntAdmit 3 (classAnswer cls 1 (evt 294 (setIrq 10 (setW28 id ans n 1 seq y)))) else
      evt 294 (setIrq 10 (setW28 id ans n 1 seq y))).clients.queue = y.clients.queue := by
    have h2 : (evt 294 (setIrq 10 (setW28 id ans n 1 seq y))).clients.queue = y.clients.queue :=
      (kept_of_bare (·.clients.queue) (fun _ => rfl) (bare_setIrq 10 _) :).trans (setW28_clients (·.queue) (fun _ _ => rfl) ..)
    exact iteInduction (motive := fun z : State => z.clients.queue = y.clients.queue) (fun _ => h2) fun _ => h2
  unfold cmdQueue at h
  dsimp only at h
  rw [if_neg hc] at h
  split at h
  all_goals
    cases h
    exact ⟨by norm_num, hgo, _, hqueue .., rfl, rfl, rfl, rfl⟩

theorem clientCmdGo_queues {at_ code : Nat} (hg : s.host.cmdGoAt = some at_) (ht : tickPast s at_ = true)
    (hcode : code = fld (tblGet (fun _ => (0 : Word)) s.host.window 24) 0 8) (hc : code ≠ 8) (hl : s.clients.queue.length < 512)
    (hr : cmdReason (fld s.host.clientSel 0 11) code ((tblGet (fun _ => (0 : Word)) s.host.window 24).getLsbD 8) s = 0) :
    Answers .clientCmdGo s fun t => t.host.cmdGoAt = none ∧ t.host.cAns ≠ 2 ∧
      ∃ q : QCmd, t.clients.queue = s.clients.queue ++ [q] ∧ q.id = fld s.host.clientSel 0 11 ∧ q.code = code ∧
        q.zc = (tblGet (fun _ => (0 : Word)) s.host.window 24).getLsbD 8 := by
  have hrule : exec .clientCmdGo s = execClientCmdGo s := rfl
  unfold execClientCmdGo at hrule
  rw [hg] at hrule
  dsimp only at hrule
  rw [if_pos ht, ← hcode] at hrule
  have hsub (args : List Word) : submitCmd (fld s.host.clientSel 0 11) code
      ((tblGet (fun _ => (0 : Word)) s.host.window 24).getLsbD 8) args { s with host := { s.host with cmdGoAt := none } } =
      cmdQueue (fld s.host.clientSel 0 11) code ((cmdClass code).getD 0)
        ((tblGet (fun _ => (0 : Word)) s.host.window 24).getLsbD 8) args { s with host := { s.host with cmdGoAt := none } } := by
    have hr' : cmdReason (fld s.host.clientSel 0 11) code ((tblGet (fun _ => (0 : Word)) s.host.window 24).getLsbD 8)
        { s with host := { s.host with cmdGoAt := none } } = 0 := hr
    unfold submitCmd
    dsimp only
    rw [hr']
    exact if_pos hl
  rw [hsub] at hrule
  generalize hq : cmdQueue _ _ _ _ _ _ = p at hrule
  obtain ⟨x, ans, n⟩ := p
  obtain ⟨hans, hgo, q, hqueue, hid, hcd, hzc, -⟩ := cmdQueue_spec hc hq
  refine answers_of_inner _ hrule rfl (fun _ => rfl) ⟨hgo, ?_, q, hqueue, hid, hcd, hzc⟩
  have hlt : ans = 0 ∨ ans = 1 := by omega
  rcases hlt with rfl | rfl
  · exact (by decide : BitVec.ofNat 2 0 ≠ 2)
  · exact (by decide : BitVec.ofNat 2 1 ≠ 2)

end

/-- Settles O47, with a lemma for each event of the interface. -/
theorem hostEvents : Obligations.HostEvents := fun _ =>
  ⟨fun _ => nwaitTimeout_releases, fun _ _ => immediateParamApply_swapCtl, svcReqWrite_waits,
    fun _ _ => immediateParamApply_service, resultTailWrite_waits, fun _ _ => immediateParamApply_tail,
    fun _ _ _ _ => keyCheck_accepts, fun _ _ _ _ => keyCheck_refuses, fun _ _ => keyExpiry_expires,
    fun _ => keyLockExpiry_unlocks, fun _ => clientSnapComplete_shows, fun _ _ => clientCmdGo_queues,
    hostSilenceDeclared_declares, hostSilenceEnd_ends⟩

end Sys2Proof.Machine
end

section
/-!
PROOFS. Long operations: start, refusal, abort, first work and completion (07_host_bus.md, 16_retained_store.md).
-/

namespace Sys2Proof.Machine

section
variable {s : State}

/-! ### A write of OPCMD -/

/-- Arguments of an operation, as OPARG0-OPARG3 hold them. -/
def opArgs (s : State) : List Half := (List.range 4).map fun i => tblGet (fun _ => (0 : Half)) s.host.opArg i

/-- An open bus carries out a write of OPCMD at once. -/
theorem exec_of_opWrite {c : Instr} {n : Nat} (ho : BusOpen s) (hm : s.legacy.mode = false)
    (e : exec c s = finish s (onBus (opAccess n) s)) (hn : n < 256) : exec c s = finish s (opStart n (evt 280 s)) := by
  have hf : fld (BitVec.ofNat 16 n) 0 8 = n := by
    simp only [fld, BitVec.toNat_ofNat]
    omega
  have hw : regWrite 0x0B (BitVec.ofNat 16 n) true (evt 280 s) = opStart n (evt 280 s) := congrArg (opStart · (evt 280 s)) hf
  exact (exec_of_regWrite ho hm e).trans (congrArg (finish s) hw)

/-- A write that is refused changes CMD_RES only. -/
theorem opStart_refused {n r : Nat} {u : State} (hn : n ≠ 0xFF) (hr : opRefusal n (opArgs u) u = r) (h1 : r ≠ 1) :
    opStart n u = cmdRes r u := by
  subst hr
  unfold opStart
  rw [if_neg hn]
  exact if_pos h1

theorem opStart_accepted {n : Nat} {u : State} (hn : n ≠ 0xFF) (hr : opRefusal n (opArgs u) u = 1) :
    opStart n u = opAccept n (if n = 10 then opArgs u ++ [BitVec.ofNat 16 (u.host.keyLast.getD 0)] else opArgs u) false u := by
  unfold opStart
  rw [if_neg hn]
  exact if_neg (not_not_intro hr)

/-- What the acceptance of an operation writes and leaves. -/
theorem opAccept_spec (n : Nat) (a : List Half) (b : Bool) (u : State) :
    (opAccept n a b u).host.op.st = .running ∧ (opAccept n a b u).host.op.code = n ∧
      (opAccept n a b u).host.op.acceptedAt = tickNo u ∧ (opAccept n a b u).host.op.worked = false ∧
      (opAccept n a b u).host.op.cmdRes = 1 ∧ (opAccept n a b u).mem = u.mem ∧ (opAccept n a b u).params = u.params := by
  unfold opAccept
  generalize tickNo u = k
  dsimp only
  split <;> exact ⟨rfl, rfl, rfl, rfl, rfl, rfl, rfl⟩

theorem opWrite_starts {c : Instr} {n : Nat} (ho : BusOpen s) (hm : s.legacy.mode = false)
    (e : exec c s = finish s (onBus (opAccess n) s)) (hn : n < 0xFF) (hr : opRefusal n (opArgs s) s = 1) : Answers c s fun t =>
      t.host.op.st = .running ∧ t.host.op.code = n ∧ t.host.op.acceptedAt = tickNo s ∧ t.host.op.worked = false ∧
      t.host.op.cmdRes = 1 ∧ t.mem = s.mem ∧ t.params = s.params := by
  have hrule := exec_of_opWrite ho hm e (by omega)
  rw [opStart_accepted (u := evt 280 s) (by omega) hr] at hrule
  have hk : tickNo (evt 280 s) = tickNo s := rfl
  have hspec := opAccept_spec n (if n = 10 then opArgs (evt 280 s) ++ [BitVec.ofNat 16 ((evt 280 s).host.keyLast.getD 0)]
    else opArgs (evt 280 s)) false (evt 280 s)
  rw [hk] at hspec
  generalize opAccept n _ false (evt 280 s) = u at hrule hspec
  exact answers_of_inner u hrule rfl (fun _ => rfl) hspec

theorem opWrite_refused {c : Instr} {n r : Nat} (ho : BusOpen s) (hm : s.legacy.mode = false)
    (e : exec c s = finish s (onBus (opAccess n) s)) (hn : n < 0xFF) (h1 : r ≠ 1) (hr : opRefusal n (opArgs s) s = r) :
    Answers c s fun t => bare t = bare (cmdRes r s) := by
  have hrule := exec_of_opWrite ho hm e (by omega)
  rw [opStart_refused (u := evt 280 s) (by omega) hr h1] at hrule
  exact answers_of_bare hrule fun _ hb _ => hb

/-- A write of OPCMD by its row: the operation starts, or CMD_RES alone says why not. -/
theorem opWrite_answers {c : Instr} {n : Nat} (e : exec c s = finish s (onBus (opAccess n) s)) (hn : n < 0xFF)
    (ho : BusOpen s) (hm : s.legacy.mode = false) :
    (opRefusal n (opArgs s) s = 1 → Answers c s fun t =>
      t.host.op.st = .running ∧ t.host.op.code = n ∧ t.host.op.acceptedAt = tickNo s ∧ t.host.op.worked = false ∧
      t.host.op.cmdRes = 1 ∧ t.mem = s.mem ∧ t.params = s.params) ∧
    ∀ r, r ≠ 1 → opRefusal n (opArgs s) s = r → Answers c s fun t => bare t = bare (cmdRes r s) :=
  ⟨opWrite_starts ho hm e hn, fun _ => opWrite_refused ho hm e hn⟩

/-- The ten operations, each with its op code. -/
theorem opWrites_answer (ho : BusOpen s) (hm : s.legacy.mode = false) :
    ∀ c ∈ [(Instr.storeWrite, 1), (.storeErase, 2), (.storeRead, 3), (.canvasChunk, 4), (.canvasVerify, 5), (.lineSurvey, 6),
      (.proofRun, 7), (.logExport, 8), (.clientQuery, 9), (.keySet, 10)],
      (opRefusal c.2 (opArgs s) s = 1 → Answers c.1 s fun t =>
        t.host.op.st = .running ∧ t.host.op.code = c.2 ∧ t.host.op.acceptedAt = tickNo s ∧ t.host.op.worked = false ∧
        t.host.op.cmdRes = 1 ∧ t.mem = s.mem ∧ t.params = s.params) ∧
      ∀ r, r ≠ 1 → opRefusal c.2 (opArgs s) s = r → Answers c.1 s fun t => bare t = bare (cmdRes r s) := by
  simp only [List.forall_mem_cons]
  exact ⟨opWrite_answers rfl (by decide) ho hm, opWrite_answers rfl (by decide) ho hm, opWrite_answers rfl (by decide) ho hm,
    opWrite_answers rfl (by decide) ho hm, opWrite_answers rfl (by decide) ho hm, opWrite_answers rfl (by decide) ho hm,
    opWrite_answers rfl (by decide) ho hm, opWrite_answers rfl (by decide) ho hm, opWrite_answers rfl (by decide) ho hm,
    opWrite_answers rfl (by decide) ho hm, fun _ h => absurd h List.not_mem_nil⟩

/-- ABORT asks the running operation to end (R413). -/
theorem abort_asks (ho : BusOpen s) (hm : s.legacy.mode = false) (hs : isStandby s = false) (hr : s.host.op.st = .running) :
    Answers .abort s fun t => t.host.op.abortReq = true ∧ t.host.op.cmdRes = 1 ∧ t.host.op.st = .running := by
  have hrule := exec_of_opWrite (c := .abort) ho hm rfl (by decide)
  have hab : opStart 0xFF (evt 280 s) = { cmdRes 1 (evt 280 s) with host := { (cmdRes 1 (evt 280 s)).host with
      op := { (cmdRes 1 (evt 280 s)).host.op with
        abortReq := true, abortAt := if (evt 280 s).host.op.abortReq then (evt 280 s).host.op.abortAt else now (evt 280 s) } } } :=
    (if_pos rfl).trans ((if_neg (by rw [show isStandby (evt 280 s) = false from hs]; exact Bool.false_ne_true)).trans
      (if_pos hr))
  rw [hab] at hrule
  exact answers_of_inner _ hrule rfl (fun _ => rfl) ⟨rfl, rfl, hr⟩

/-! ### First work (R409, R986) -/

/-- The state in which an operation has begun. -/
def opWorked (s : State) : State := { s with host := { s.host with op := { s.host.op with worked := true } } }

theorem exec_opFirstWork (hr : s.host.op.st = .running) (hw : s.host.op.worked = false) (hp : s.host.op.paused = false)
    (hab : s.host.op.abortReq = false) (hf : atFrame s = true) (ht : tickPast s s.host.op.acceptedAt = true)
    (hsec : (opSectors s).all (fun k => !isTorn s k) = true) : exec .opFirstWork s = finish s (opBegin (opWorked s)) :=
  congrArg (finish s) (if_pos ⟨hr, hw, hp, hab, hf, ht, hsec⟩)

theorem inner_askReserve (lane user : Nat) (ack : Option (Nat × Nat)) (u : State) :
    inner (askReserve lane user ack u) = inner u := rfl

theorem inner_opAsks (u : State) : inner (opAsks u) = inner u :=
  (inner_askReserve ..).trans ((inner_askReserve ..).trans (inner_askReserve ..))

section
variable (hr : s.host.op.st = .running) (hw : s.host.op.worked = false) (hp : s.host.op.paused = false)
  (hab : s.host.op.abortReq = false) (hf : atFrame s = true) (ht : tickPast s s.host.op.acceptedAt = true)
  (hl : s.host.op.legacy = false)
include hr hw hp hab hf ht hl

theorem opFirstWork_verifies (hc : s.host.op.code = 5) : Answers .opFirstWork s fun t =>
    t.host.op.worked = true ∧ t.canvas.verBusy = true ∧ t.canvas.verSlot = !s.canvas.slot := by
  have hrule := exec_opFirstWork hr hw hp hab hf ht (by simp [opSectors, hc])
  have hb : opBegin (opWorked s) = askVerify (opAsks (opWorked s)) := by
    unfold opBegin
    dsimp only
    rw [if_neg (by rw [show (opWorked s).host.op.legacy = false from hl]; exact Bool.false_ne_true),
      show (opWorked s).host.op.code = 5 from hc]
    rfl
  rw [hb] at hrule
  exact answers_of_inner _ hrule rfl (fun _ => rfl) ⟨rfl, rfl, rfl⟩

theorem opFirstWork_erases (hc : s.host.op.code = 2) (hsec : (opSectors s).all (fun k => !isTorn s k) = true) :
    Answers .opFirstWork s fun t => t.host.op.worked = true ∧ t.store.erasing = some (opA s 0 % 128) := by
  have hrule := exec_opFirstWork hr hw hp hab hf ht hsec
  have hb : opBegin (opWorked s) = { jIntent (opA s 0 % 128) 1 (opAsks (opWorked s)) with
      store := { (jIntent (opA s 0 % 128) 1 (opAsks (opWorked s))).store with erasing := some (opA s 0 % 128) } } := by
    unfold opBegin
    dsimp only
    rw [if_neg (by rw [show (opWorked s).host.op.legacy = false from hl]; exact Bool.false_ne_true),
      show (opWorked s).host.op.code = 2 from hc]
    rfl
  rw [hb] at hrule
  have hk := keep_jIntent (w := parts [.mem, .store]) (opA s 0 % 128) 1 (opAsks (opWorked s)) ⟨rfl, rfl⟩
  exact answers_of_inner _ hrule rfl (fun _ => rfl) ⟨(kept_of_keep (·.host.op.worked) (fun _ => rfl) hk :), rfl⟩

theorem opFirstWork_surveys (hc : s.host.op.code = 6) : Answers .opFirstWork s fun t =>
    t.host.op.worked = true ∧ t.host.op.progress = s.host.op.progress ∧ t.mem = s.mem := by
  have hrule := exec_opFirstWork hr hw hp hab hf ht (by simp [opSectors, hc])
  have hb : opBegin (opWorked s) = opAsks (opWorked s) := by
    unfold opBegin
    dsimp only
    rw [if_neg (by rw [show (opWorked s).host.op.legacy = false from hl]; exact Bool.false_ne_true),
      show (opWorked s).host.op.code = 6 from hc]
    rfl
  rw [hb] at hrule
  exact answers_of_inner (opWorked s) hrule (inner_opAsks _) (fun _ => rfl) ⟨rfl, rfl, rfl⟩

end

/-! ### Completion (R412, R968) -/

/-- What the end of an operation leaves and writes. -/
theorem bare_opEnd (st : OpState) (err : Nat) (u : State) : bare (opEnd st err u) = bare { u with
    host := { u.host with
      stall := false
      op := { u.host.op with st := st, err := BitVec.ofNat 8 err, paused := false, abortReq := false, out := [] } }
    canvas := { u.canvas with verBusy := if u.host.op.code = 5 then false else u.canvas.verBusy } } := by
  have hl (b : Bool) (x : State) : bare (if b = true then setLstat 2 x else x) = bare x := by
    split
    · exact bare_setLstat 2 x
    · rfl
  have hf (c : Prop) [Decidable c] (x : State) : bare (setIrq 2 (if c then evt 290 x else x)) = bare x :=
    (bare_setIrq 2 _).trans (by split <;> rfl)
  exact ((hl ..).trans (hf ..)).trans rfl

/-- What ends an operation that the reserves have served, by its op code. -/
theorem opFinish_served {bad : Bool} (hsv : opServed s = true) : opFinish bad s = match s.host.op.code with
    | 1 | 4 => endPages bad s
    | 2 => if s.store.erasing.isSome then s else opEnd .done 0 s
    | 5 =>
      if s.canvas.verBusy then s
      else if s.canvas.verCode = 0 then opEnd .done 0 s
      else opEnd .failed 5 (opRes [s.canvas.verCode.setWidth 16, 0, 0, 0] s)
    | 6 => if s.host.op.progress = 0 ∨ s.host.op.out ≠ [] then s else opEnd .done 0 s
    | 7 => s
    | 10 => opEnd .done 0 (keySet s)
    | _ => if s.host.op.out ≠ [] ∨ (s.host.op.progress = 0 ∧ s.host.op.legacy = false) then s else opEnd .done 0 s := by
  unfold opFinish
  rw [hsv]
  rfl

/-- An operation that has worked is finished as its row says. -/
theorem exec_opComplete {bad : Bool} {u : State} (hr : s.host.op.st = .running) (hw : s.host.op.worked = true)
    (hp : s.host.op.paused = false) (h : opFinish bad s = u) : exec (.opComplete bad) s = finish s u :=
  congrArg (finish s) ((if_pos ⟨hr, hw, hp⟩).trans h)

section
variable {bad : Bool} (hr : s.host.op.st = .running) (hw : s.host.op.worked = true) (hp : s.host.op.paused = false)
  (hsv : opServed s = true)
include hr hw hp hsv

theorem opComplete_verified (hc : s.host.op.code = 5) (hv : s.canvas.verBusy = false) (h0 : s.canvas.verCode = 0) :
    Answers (.opComplete bad) s fun t => t.host.op.st = .done ∧ t.host.op.err = 0 := by
  have hfin : opFinish bad s = opEnd .done 0 s := by
    rw [opFinish_served hsv, hc]
    exact (if_neg (by simp [hv])).trans (if_pos h0)
  exact answers_of_inner _ (exec_opComplete hr hw hp hfin) (inner_of_bare (bare_opEnd ..)) (fun _ => rfl) ⟨rfl, rfl⟩

theorem opComplete_unverified (hc : s.host.op.code = 5) (hv : s.canvas.verBusy = false) (h0 : s.canvas.verCode ≠ 0) :
    Answers (.opComplete bad) s fun t =>
      t.host.op.st = .failed ∧ t.host.op.err = 5 ∧ t.host.op.res = [s.canvas.verCode.setWidth 16, 0, 0, 0] := by
  have hfin : opFinish bad s = opEnd .failed 5 (opRes [s.canvas.verCode.setWidth 16, 0, 0, 0] s) := by
    rw [opFinish_served hsv, hc]
    exact (if_neg (by simp [hv])).trans (if_neg h0)
  exact answers_of_inner _ (exec_opComplete hr hw hp hfin) (inner_of_bare (bare_opEnd ..)) (fun _ => rfl) ⟨rfl, rfl, rfl⟩

theorem opComplete_reads (hc : s.host.op.code = 3 ∨ s.host.op.code = 8 ∨ s.host.op.code = 9) (ho : s.host.op.out = [])
    (hpr : s.host.op.progress ≠ 0 ∨ s.host.op.legacy = true) :
    Answers (.opComplete bad) s fun t => t.host.op.st = .done ∧ t.host.op.err = 0 ∧ t.mem = s.mem := by
  have hfin : opFinish bad s = opEnd .done 0 s := by
    have hi : ¬(s.host.op.out ≠ [] ∨ (s.host.op.progress = 0 ∧ s.host.op.legacy = false)) := by
      rintro (h | ⟨h1, h2⟩)
      · exact h ho
      · rcases hpr with h | h
        · exact h h1
        · exact Bool.false_ne_true (h2.symm.trans h)
    rw [opFinish_served hsv]
    rcases hc with hc | hc | hc
    all_goals
      rw [hc]
      exact if_neg hi
  exact answers_of_inner _ (exec_opComplete hr hw hp hfin) (inner_of_bare (bare_opEnd ..)) (fun _ => rfl) ⟨rfl, rfl, rfl⟩

end

end

/-- Settles O48: a lemma for the writes of OPCMD, one for ABORT, and one for each first work and end. -/
theorem longOperations : Obligations.LongOperations := fun _ =>
  ⟨fun c hc ho hm => opWrites_answer ho hm c hc, abort_asks,
    fun hr hw hp hab hf ht hl => ⟨opFirstWork_verifies hr hw hp hab hf ht hl, opFirstWork_erases hr hw hp hab hf ht hl,
      opFirstWork_surveys hr hw hp hab hf ht hl⟩,
    fun _ hr hw hp hsv => ⟨opComplete_verified hr hw hp hsv, opComplete_unverified hr hw hp hsv, opComplete_reads hr hw hp hsv⟩⟩

end Sys2Proof.Machine
end

section
/-!
PROOFS. Sealing, the apply window, durability and the probing of a repeater (08_glaze_and_service_changes.md).
-/

namespace Sys2Proof.Machine

section
variable {s : State}

/-! ### Sealing, durability and probing -/

theorem glazeCommit_seals {at_ : Nat} (hc : s.glaze.commitAt = some at_) (ht : tickPast s at_ = true) (hs : s.glaze.sealed_ = false) :
    Answers .glazeCommit s fun t => t.glaze.sealed_ = true ∧ t.glaze.commitAt = none ∧ t.glaze.landed = 0 ∧ t.glaze.refused = 0 ∧
      t.glaze.set = s.glaze.set ∧ t.params = s.params := by
  have hrule : exec .glazeCommit s = execGlazeCommit s := rfl
  unfold execGlazeCommit at hrule
  rw [hc] at hrule
  dsimp only at hrule
  rw [if_pos ht, hs, if_neg Bool.false_ne_true] at hrule
  exact answers_of_keep (parts [.mirror]) _ hrule (keep_mirrorForward _ rfl) (fun _ => rfl) ⟨rfl, rfl, rfl, rfl, rfl, rfl⟩

theorem glazePersist_settles {g : Fin 8} {l : List Nat} (hf : (s.glaze.persistWait.find? fun p => p.1 == g.val) = some (g.val, l))
    (hl : ∀ a ∈ l, parDurable s 0 a = true) : Answers (.glazePersist g) s fun t =>
      t.glaze.persistWait = s.glaze.persistWait.filter (fun q => q.1 != g.val) ∧
      t.glaze.res = tblSet (fun _ => GroupRes.blank) s.glaze.res g.val { groupRes s g.val with persist := true } ∧
      t.params = s.params := by
  have hrule : exec (.glazePersist g) s = execGlazePersist g s := rfl
  rw [execGlazePersist, hf] at hrule
  dsimp only at hrule
  rw [if_pos (List.all_eq_true.2 hl)] at hrule
  exact answers_of_inner _ hrule rfl (fun _ => rfl) ⟨rfl, rfl, rfl⟩

/-- A period that passes neither ends the probing nor starts it anew (R476). -/
theorem repeaterProbePeriod_passes {q : Byte} (ha : s.glaze.probeActive = true) (hb : atBeacon s = true)
    (hn : s.glaze.probeBsn ≠ some (bsnNow s)) (hadm : admitted s s.glaze.probeClient.toNat = true)
    (hq : fld (par s 0x9826) 0 8 ≤ q.toNat) (hp : s.glaze.probePassed.toNat < 3) (hper : s.glaze.probePeriods.toNat < 15) :
    Answers (.repeaterProbePeriod (some q)) s fun t => bare t = bare { s with glaze := { s.glaze with
      probePassed := s.glaze.probePassed + 1, probePeriods := s.glaze.probePeriods + 1, probeBsn := some (bsnNow s) } } := by
  have h4 : s.glaze.probePassed + 1 ≠ 4 := by bv_omega
  have h16 : s.glaze.probePeriods + 1 ≠ 16 := by bv_omega
  have hrule : exec (.repeaterProbePeriod (some q)) s = execRepeaterProbePeriod (some q) s := rfl
  unfold execRepeaterProbePeriod at hrule
  rw [if_pos (by simp [ha, hb, hn]), if_neg (by simp [hadm])] at hrule
  dsimp only at hrule
  rw [decide_eq_true hq, if_pos rfl, if_neg h4, if_neg h16] at hrule
  exact answers_of_bare hrule fun _ ht _ => ht

/-! ### One group of one word -/

/-- The report of a group, beside its event, its interrupt and its log entry. -/
theorem bare_reportGroup (g : Nat) (st : GroupState) (reason : Nat) (u : State) :
    bare (reportGroup g st reason u) = bare { u with glaze := { u.glaze with
      set := u.glaze.set.filter fun w => w.group != g
      landed := if st = .landed then setBit u.glaze.landed g true else u.glaze.landed
      refused := if st = .landed then u.glaze.refused else setBit u.glaze.refused g true
      persistWait := u.glaze.persistWait.filter fun p => p.1 != g
      res := tblSet (fun _ => GroupRes.blank) u.glaze.res g
        { st := st, persist := false, reason := BitVec.ofNat 3 reason, words := BitVec.ofNat 7 (groupWords u g).length, ts := ts32 u } } } := by
  unfold reportGroup
  dsimp only
  rw [bare_evt, bare_setIrq, bare_logPush]

/-- The parts that a landing of parameters may write beside the parameters. -/
def landParts : Part → Bool := parts [.pads, .safety, .time, .bb, .conv, .loop, .store, .proof]

/-- One word lands: it takes its value, and what follows from it leaves the rest. -/
theorem keep_landWords_one (a : Nat) (v : Word) (u : State) : keep landParts (landWords [(a, v)] u) = keep landParts (setPar a v u) := by
  have hfollow (x : State) : keep landParts (if isPersistent a then parPush 0 a v (landedHook a (par u a) v x) else
      landedHook a (par u a) v x) = keep landParts x := by
    have hhook := keep_landedHook (w := landParts) a (par u a) v x ⟨rfl, rfl, rfl, rfl, rfl, rfl, rfl⟩
    split
    · exact (keep_parPush 0 a v _ rfl).trans hhook
    · exact hhook
  cases hj : judgesLast a <;> simp [landWords, hj, hfollow]

/-- One group is open when the set is one word. -/
theorem openGroups_one {a g : Nat} {v : Word} {u : State} (hg : g < 8) (h : u.glaze.set = [{ addr := a, value := v, group := g }]) :
    openGroups u = [g] := by
  have hone : openGroups u = (List.range 8).filter (· == g) := by
    refine List.filter_congr fun k _ => ?_
    rw [groupWords, h, Bool.beq_comm]
    by_cases hk : g = k <;> simp [hk]
  rw [hone, List.filter_beq, List.count_eq_one_of_mem List.nodup_range (List.mem_range.2 hg)]
  rfl

theorem groupWords_one {a g : Nat} {v : Word} {u : State} (h : u.glaze.set = [{ addr := a, value := v, group := g }]) :
    groupWords u g = [{ addr := a, value := v, group := g }] := by
  rw [groupWords, h]
  simp

theorem decideGroup_held {a g : Nat} {v : Word} (hset : s.glaze.set = [{ addr := a, value := v, group := g }])
    (hn : namesHeld s a v = true) : decideGroup g s = reportGroup g .refused 1 s := by
  unfold decideGroup
  rw [groupWords_one hset]
  exact if_pos (by simp [hn])

theorem decideGroup_inconsistent {a g : Nat} {v : Word} (hset : s.glaze.set = [{ addr := a, value := v, group := g }])
    (hn : namesHeld s a v = false) (hl : leavesConsistent [(a, v)] s = false) :
    decideGroup g s = reportGroup g .refused 2 s := by
  unfold decideGroup
  rw [groupWords_one hset]
  exact (if_neg (by simp [hn])).trans (if_pos (by simp [hl]))

/-! ### The apply window -/

section
variable (hd : windowDue s = true) (hrd : runDue s = s.canvas.run) (hsw : swapDue s = false)
include hd hrd hsw

/-- A window with no change of run state and no swap: the set's groups, then the window itself. -/
theorem exec_glazeApply {u : State} (hu : applyWindow s = u) (hsvc : u.glaze.svc = []) (hh : u.host.heldAcc = none) :
    exec .glazeApply s = finish s { u with glaze := { u.glaze with lastWin := some (frameNo s) } } := by
  have hframe : settleFrame s = s := by
    unfold settleFrame
    dsimp only
    rw [settleRun_of_due hrd, hsw]
    exact if_neg Bool.false_ne_true
  have hserv : decideServices u = u := by
    unfold decideServices
    rw [hsvc]
    rfl
  have hrel (x : State) (hx : x.host.heldAcc = none) : releaseWindow x = x := by
    unfold releaseWindow
    split
    · exact releaseHeld_of_none hx
    · rfl
  have hrule : exec .glazeApply s = execGlazeApply s := rfl
  unfold execGlazeApply at hrule
  rw [if_pos hd, hframe, hu, hserv] at hrule
  exact hrule.trans (congrArg (finish s) (hrel _ hh))

theorem glazeApply_idle (hsvc : s.glaze.svc = []) (hs : s.glaze.sealed_ = false) (hh : s.host.heldAcc = none) :
    Answers .glazeApply s fun t => bare t = bare { s with glaze := { s.glaze with lastWin := some (frameNo s) } } :=
  answers_of_bare (exec_glazeApply hd hrd hsw (if_neg (by simp [hs])) hsvc hh) fun _ ht _ => ht

section
variable {a g : Nat} {v : Word} (hsvc : s.glaze.svc = []) (hs : s.glaze.sealed_ = true)
  (hwin : s.glaze.sealedWin ≠ some (frameNo s)) (hwd : s.glaze.withdrawn = false) (hst : isStandby s = false) (hg : g < 8)
  (hset : s.glaze.set = [{ addr := a, value := v, group := g }]) (hh : s.host.heldAcc = none)
include hsvc hs hwin hwd hst hg hset hh

omit hsvc hh in
/-- The window decides the group, which leaves the set empty and unsealed. -/
theorem exec_glazeApply_group {x : State} (hx : decideGroup g s = x) (hxset : x.glaze.set = []) (hxsvc : x.glaze.svc = [])
    (hxh : x.host.heldAcc = none) : exec .glazeApply s = finish s
      { x with glaze := { x.glaze with sealed_ := false, withdrawn := false, lastWin := some (frameNo s) } } := by
  have hwinGroups : windowGroups 64 s (openGroups s) = [g] := by
    rw [openGroups_one hg hset]
    simp [windowGroups, groupWords_one hset]
  have hunseal : unsealIfDone x = { x with glaze := { x.glaze with sealed_ := false, withdrawn := false } } :=
    if_pos (by rw [hxset]; rfl)
  have happ : applyWindow s = { x with glaze := { x.glaze with sealed_ := false, withdrawn := false } } := by
    refine (if_pos (by simp [hs, hwin])).trans ((if_neg (by simp [hwd])).trans ((if_neg (by simp [hst])).trans ?_))
    rw [hwinGroups]
    exact (congrArg unsealIfDone hx).trans hunseal
  have hrule := exec_glazeApply hd hrd hsw happ
  exact hrule hxsvc hxh

theorem glazeApply_lands (hn : namesHeld s a v = false) (hl : leavesConsistent [(a, v)] s = true) :
    Answers .glazeApply s fun t => t.glaze.set = [] ∧ t.glaze.sealed_ = false ∧ t.glaze.landed = setBit s.glaze.landed g true ∧
      t.glaze.refused = s.glaze.refused ∧ t.params = (setPar a v s).params := by
  have hx : decideGroup g s = landGroup g s := by
    unfold decideGroup
    rw [groupWords_one hset]
    exact (if_neg (by simp [hn])).trans (if_neg (by simp [hl]))
  have hland := keep_landWords_one a v s
  have hrep := bare_reportGroup g .landed 0 (landWords [(a, v)] s)
  have hg0 : (landWords [(a, v)] s).glaze = s.glaze := (kept_of_keep (·.glaze) (fun _ => rfl) hland :)
  have hp : (landWords [(a, v)] s).params = (setPar a v s).params := (kept_of_keep (·.params) (fun _ => rfl) hland :)
  have hheld : (landWords [(a, v)] s).host.heldAcc = s.host.heldAcc := (kept_of_keep (·.host.heldAcc) (fun _ => rfl) hland :)
  have hgr : landGroup g s = { reportGroup g .landed 0 (landWords [(a, v)] s) with
      glaze := { (reportGroup g .landed 0 (landWords [(a, v)] s)).glaze with
        persistWait := (reportGroup g .landed 0 (landWords [(a, v)] s)).glaze.persistWait ++ [(g, [a].filter isPersistent)] } } := by
    unfold landGroup
    rw [groupWords_one hset]
    rfl
  have hxset : (reportGroup g .landed 0 (landWords [(a, v)] s)).glaze.set = [] :=
    (kept_of_bare (·.glaze.set) (fun _ => rfl) hrep :).trans (by rw [hg0, hset]; simp)
  have hxsvc : (reportGroup g .landed 0 (landWords [(a, v)] s)).glaze.svc = [] :=
    (kept_of_bare (·.glaze.svc) (fun _ => rfl) hrep :).trans (by rw [hg0, hsvc])
  have hxh : (reportGroup g .landed 0 (landWords [(a, v)] s)).host.heldAcc = none :=
    (kept_of_bare (·.host.heldAcc) (fun _ => rfl) hrep :).trans (hheld.trans hh)
  have hxl : (reportGroup g .landed 0 (landWords [(a, v)] s)).glaze.landed = setBit s.glaze.landed g true :=
    (kept_of_bare (·.glaze.landed) (fun _ => rfl) hrep :).trans (by rw [hg0]; rfl)
  have hxr : (reportGroup g .landed 0 (landWords [(a, v)] s)).glaze.refused = s.glaze.refused :=
    (kept_of_bare (·.glaze.refused) (fun _ => rfl) hrep :).trans (by rw [hg0]; rfl)
  have hxp : (reportGroup g .landed 0 (landWords [(a, v)] s)).params = (setPar a v s).params :=
    (kept_of_bare (·.params) (fun _ => rfl) hrep :).trans hp
  exact answers_of_inner _ (exec_glazeApply_group hd hrd hsw hs hwin hwd hst hg hset (hx.trans hgr) hxset hxsvc hxh) rfl
    (fun _ => rfl) ⟨hxset, rfl, hxl, hxr, hxp⟩

/-- A group that is refused leaves every parameter. -/
theorem glazeApply_refuses {r : Nat} (hx : decideGroup g s = reportGroup g .refused r s) : Answers .glazeApply s fun t =>
    t.glaze.set = [] ∧ t.glaze.sealed_ = false ∧ t.glaze.refused = setBit s.glaze.refused g true ∧
    t.glaze.landed = s.glaze.landed ∧ t.params = s.params := by
  have hrep := bare_reportGroup g .refused r s
  have hxset : (reportGroup g .refused r s).glaze.set = [] :=
    (kept_of_bare (·.glaze.set) (fun _ => rfl) hrep :).trans (by rw [hset]; simp)
  have hxsvc : (reportGroup g .refused r s).glaze.svc = [] := (kept_of_bare (·.glaze.svc) (fun _ => rfl) hrep :).trans hsvc
  have hxh : (reportGroup g .refused r s).host.heldAcc = none := (kept_of_bare (·.host.heldAcc) (fun _ => rfl) hrep :).trans hh
  have hxl : (reportGroup g .refused r s).glaze.landed = s.glaze.landed := (kept_of_bare (·.glaze.landed) (fun _ => rfl) hrep :)
  have hxr : (reportGroup g .refused r s).glaze.refused = setBit s.glaze.refused g true :=
    (kept_of_bare (·.glaze.refused) (fun _ => rfl) hrep :)
  have hxp : (reportGroup g .refused r s).params = s.params := (kept_of_bare (·.params) (fun _ => rfl) hrep :)
  exact answers_of_inner _ (exec_glazeApply_group hd hrd hsw hs hwin hwd hst hg hset hx hxset hxsvc hxh) rfl
    (fun _ => rfl) ⟨hxset, rfl, hxr, hxl, hxp⟩

end

end

end

/-- Settles O49: a lemma for the seal, one for the window without a set, one for each decision of a group, and one each for
durability and probing. -/
theorem glazeWindows : Obligations.GlazeWindows := fun _ =>
  ⟨fun _ => glazeCommit_seals, glazeApply_idle,
    fun _ _ _ hd hrd hsw hsvc hs hwin hwd hst hg hset hh =>
      ⟨fun hn hl _ => glazeApply_lands hd hrd hsw hsvc hs hwin hwd hst hg hset hh hn hl,
        fun hn => glazeApply_refuses hd hrd hsw hsvc hs hwin hwd hst hg hset hh (decideGroup_held hset hn),
        fun hn hl => glazeApply_refuses hd hrd hsw hsvc hs hwin hwd hst hg hset hh (decideGroup_inconsistent hset hn hl)⟩,
    fun _ _ => glazePersist_settles, fun _ => repeaterProbePeriod_passes⟩

end Sys2Proof.Machine
end

section
/-!
PROOFS. The zero-crossing channel: accepted frames, combining, noise floors, ageing, retries (09_zero_crossing_line.md).
-/

namespace Sys2Proof.Machine

/-! ### Accepted frames -/

section
variable {t slot n : Nat} {bits : BitVec 24} {comb : Combine} {syn : Bool} {u : State}

/-- What the record of an accepted EVENT frame writes and leaves. -/
theorem zcRecordFrame_event (t a st : Nat) (x : State) :
    (zcRecordFrame t 2 a st x).zc.taken = x.zc.taken ∧
      (zcRecordFrame t 2 a st x).clients.updates = x.clients.updates ++
        [{ tick := tickNo x, id := a, writes := zcSeen x, counts := false, track := some t }] ∧
      (zcRecordFrame t 2 a st x).safety.alarms = x.safety.alarms ∧ (zcRecordFrame t 2 a st x).gesso.trip = x.gesso.trip := by
  have hrec : zcRecordFrame t 2 a st x = classAnswer 1 0 (latchWake 1 (zcRecord t 2 a st x)) := by simp [zcRecordFrame]
  have hb : bare (latchWake 1 (zcRecord t 2 a st x)) = bare (zcRecord t 2 a st x) := bare_latchWake 1 _
  rw [hrec]
  exact ⟨(kept_of_bare (·.zc.taken) (fun _ => rfl) hb :), (kept_of_bare (·.clients.updates) (fun _ => rfl) hb :),
    (kept_of_bare (·.safety.alarms) (fun _ => rfl) hb :), (kept_of_bare (·.gesso.trip) (fun _ => rfl) hb :)⟩

/-- An EVENT frame that is the first of its address in the slot reaches the client's record. -/
theorem zcAccept_event (h2 : frameType bits = 2)
    (hf : recordCopy u.zc.taken (frameAddr bits) slot t (16 + frameState bits) comb = .first) :
    (zcAccept t slot bits n comb syn u).zc.taken = tblSet (fun _ => none) u.zc.taken (frameAddr bits)
        (some { slot := slot, fe := t, content := 16 + frameState bits, before := none }) ∧
      (zcAccept t slot bits n comb syn u).clients.updates = u.clients.updates ++
        [{ tick := tickNo u, id := frameAddr bits, writes := zcSeen u, counts := false, track := some t }] ∧
      (zcAccept t slot bits n comb syn u).safety.alarms = u.safety.alarms ∧
      (zcAccept t slot bits n comb syn u).gesso.trip = u.gesso.trip := by
  have hdel (x : State) (hx : recordCopy x.zc.taken (frameAddr bits) slot t (16 + frameState bits) comb = .first) :
      zcDeliver t slot bits comb x = zcRecordFrame t 2 (frameAddr bits) (frameState bits) { x with zc := { x.zc with
        taken := tblSet (fun _ => none) x.zc.taken (frameAddr bits)
          (some { slot := slot, fe := t, content := 16 + frameState bits, before := none }) } } := by
    unfold zcDeliver
    dsimp only
    rw [h2, if_neg (by decide), if_neg (by decide), hx]
  obtain ⟨x, hx, hb⟩ : ∃ x, zcAccept t slot bits n comb syn u = zcDeliver t slot bits comb x ∧ bare x = bare u := ⟨_, rfl, rfl⟩
  have htaken : x.zc.taken = u.zc.taken := kept_of_bare (·.zc.taken) (fun _ => rfl) hb
  have hupd : x.clients.updates = u.clients.updates := kept_of_bare (·.clients.updates) (fun _ => rfl) hb
  have htick : tickNo x = tickNo u := kept_of_bare tickNo (fun _ => rfl) hb
  have hseen : zcSeen x = zcSeen u := kept_of_bare zcSeen (fun _ => rfl) hb
  have halarms : x.safety.alarms = u.safety.alarms := kept_of_bare (·.safety.alarms) (fun _ => rfl) hb
  have htrip : x.gesso.trip = u.gesso.trip := kept_of_bare (·.gesso.trip) (fun _ => rfl) hb
  rw [hx, hdel x (htaken ▸ hf)]
  rw [← htaken, ← hupd, ← htick, ← hseen, ← halarms, ← htrip]
  exact zcRecordFrame_event ..

end

section
variable {s : State} {tr : Fin 3}

theorem zcFrameReceived_records {slot : Nat} {lv : List TeethLevels} {r : Reading}
    (hrd : r = readBody (coreTh s tr.val) slot (synUsed s tr.val) ((combinedTeeth s lv).drop 1)) (hz : zcReceives s = true)
    (hp : phaseOn s tr.val = true) (hm : startMark (coreTh s tr.val) (combinedTeeth s lv) = true) (hok : readingOk r = true)
    (h2 : frameType r.copy.bits = 2)
    (hf : recordCopy s.zc.taken (frameAddr r.copy.bits) slot tr.val (16 + frameState r.copy.bits) .x1 = .first) :
    Answers (.zcFrameReceived tr slot lv) s fun t =>
      t.zc.taken = tblSet (fun _ => none) s.zc.taken (frameAddr r.copy.bits)
        (some { slot := slot, fe := tr.val, content := 16 + frameState r.copy.bits, before := none }) ∧
      t.clients.updates = s.clients.updates ++ [{ tick := tickNo s, id := frameAddr r.copy.bits, writes := zcSeen s
                                                  counts := false, track := some tr.val }] ∧
      t.safety.alarms = s.safety.alarms ∧ t.gesso.trip = s.gesso.trip := by
  have hrule : exec (.zcFrameReceived tr slot lv) s = execZcFrameReceived tr slot lv s := rfl
  unfold execZcFrameReceived at hrule
  dsimp only at hrule
  rw [← hrd, if_neg (by simp [hz, hm]), if_neg (by simp [hp]), if_pos hok] at hrule
  generalize hu : proofAbandonFrame tr.val slot _ = u at hrule
  have hk : keep (parts [.proof]) u = keep (parts [.proof]) s := by
    subst hu
    simp
  have htaken : u.zc.taken = s.zc.taken := (kept_of_keep (·.zc.taken) (fun _ => rfl) hk :)
  obtain ⟨h1, h3, h4, h5⟩ := zcAccept_event (t := tr.val) (slot := slot) (n := r.singles) (syn := r.copy.syn) (u := u) h2
    (htaken ▸ hf)
  have hupd : u.clients.updates = s.clients.updates := (kept_of_keep (·.clients.updates) (fun _ => rfl) hk :)
  have htick : tickNo u = tickNo s := (kept_of_keep tickNo (fun _ => rfl) hk :)
  have hnow : now u = now s := (kept_of_keep now (fun _ => rfl) hk :)
  have hseen : zcSeen u = zcSeen s := by simp only [zcSeen, ts32, hnow]
  have halarms : u.safety.alarms = s.safety.alarms := (kept_of_keep (·.safety.alarms) (fun _ => rfl) hk :)
  have htrip : u.gesso.trip = s.gesso.trip := (kept_of_keep (·.gesso.trip) (fun _ => rfl) hk :)
  rw [htaken] at h1
  rw [hupd, htick, hseen] at h3
  exact answers_of_inner _ hrule rfl (fun _ => rfl) ⟨h1, h3, h4.trans halarms, h5.trans htrip⟩

theorem zcSlotCombine_records {slot n : Nat} {bits : BitVec 24} {syn : Bool} {comb : Combine} (hz : zcReceives s = true)
    (hc : ((zcTrack s tr.val).copies.head?.map fun c => c.slot) = some slot)
    (hcomb : combineSlot (zcTrack s tr.val).copies slot = some (bits, n, syn, comb)) (h2 : frameType bits = 2)
    (hf : recordCopy s.zc.taken (frameAddr bits) slot tr.val (16 + frameState bits) comb = .first) :
    Answers (.zcSlotCombine tr slot) s fun t =>
      t.zc.taken = tblSet (fun _ => none) s.zc.taken (frameAddr bits)
        (some { slot := slot, fe := tr.val, content := 16 + frameState bits, before := none }) ∧
      t.safety.alarms = s.safety.alarms ∧ t.gesso.trip = s.gesso.trip := by
  have hrule : exec (.zcSlotCombine tr slot) s = execZcSlotCombine tr slot s := rfl
  unfold execZcSlotCombine at hrule
  dsimp only at hrule
  rw [if_pos (by simp [hz, hc]), hcomb] at hrule
  dsimp only at hrule
  rw [h2, if_neg (by decide)] at hrule
  obtain ⟨h1, -, h4, h5⟩ := zcAccept_event (t := tr.val) (slot := slot) (n := n) (syn := syn)
    (u := setZc tr.val { zcTrack s tr.val with dropOwed := none } s) h2 hf
  exact answers_of_inner _ hrule rfl (fun _ => rfl) ⟨h1, h4, h5⟩

/-! ### Noise floors and ageing -/

theorem noiseFloorMeasure_keeps {core gesso : Nat} (hs : Settled s) (hp : phaseOn s tr.val = true) (ho : outputsLive s = true)
    (hr : s.safety.run = true) (hd : (domAvail s).getLsbD 8 = true)
    (hn : noisyNext ((core :: (zcTrack s tr.val).noise).take 8) (zcTrack s tr.val).noisy = (zcTrack s tr.val).noisy) :
    Answers (.noiseFloorMeasure tr core gesso) s fun t =>
      t = setZc tr.val { zcTrack s tr.val with noise := (core :: (zcTrack s tr.val).noise).take 8 }
        { s with gesso := { s.gesso with
            noise := tblSet (fun _ => []) s.gesso.noise tr.val ((gesso :: gessoNoise s tr.val).take 8) } } := by
  generalize hg : tblSet (fun _ => []) s.gesso.noise tr.val ((gesso :: gessoNoise s tr.val).take 8) = g
  have hs1 : Settled { s with gesso := { s.gesso with noise := g } } := hs
  have hcore : coreNoise tr.val core { s with gesso := { s.gesso with noise := g } } =
      setZc tr.val { zcTrack s tr.val with noise := (core :: (zcTrack s tr.val).noise).take 8 }
        { s with gesso := { s.gesso with noise := g } } := by
    unfold coreNoise
    dsimp only
    rw [show zcTrack { s with gesso := { s.gesso with noise := g } } tr.val = zcTrack s tr.val from rfl, hn]
    exact if_pos rfl
  have hrule : exec (.noiseFloorMeasure tr core gesso) s = execNoiseFloorMeasure tr core gesso s := rfl
  unfold execNoiseFloorMeasure at hrule
  dsimp only at hrule
  rw [if_neg (by rw [hp]; decide), if_pos ho, hg] at hrule
  rw [if_pos (Bool.and_eq_true_iff.2 ⟨hr, hd⟩), hcore] at hrule
  exact answers_of_settled hrule (settled_reports rfl hs1) rfl

theorem hubFrameAged_discards {f : HubFrame} (hs : Settled s) (hu : (zcTrack s tr.val).under = none) (h1 : (zcTrack s tr.val).q1 = [f])
    (h2 : (zcTrack s tr.val).q2 = []) (ha : f.queuedAt + fld (par s (parAddr 18 0)) 8 8 * sec < now s) :
    Answers (.hubFrameAged tr) s fun t =>
      t = setZc tr.val { zcTrack s tr.val with q1 := [], cntAged := (zcTrack s tr.val).cntAged + 1 } s := by
  have hrule : exec (.hubFrameAged tr) s = execHubFrameAged tr s := rfl
  unfold execHubFrameAged at hrule
  generalize zcTrack s tr.val = z at hrule hu h1 h2 ⊢
  dsimp only at hrule
  rw [hu, h1, h2] at hrule
  have hf : [f].filter (fun f => decide (now s ≤ f.queuedAt + fld (par s (parAddr 18 0)) 8 8 * sec) || false) = [] := by
    simp [ha]
  rw [hf, List.filter_nil] at hrule
  refine answers_of_settled hrule (settled_reports rfl hs) ?_
  cases z
  dsimp only at hu h2
  subst hu h2
  rfl

end

/-! ### What a change of tier leaves of the tracks: all but the hub's first queues -/

/-- The tracks of t are those of s but for the hub's first queues. -/
def SendsKept (s t : State) : Prop :=
  tblWf (fun _ => ZcTrack.blank) s.zc.tracks = true → tblWf (fun _ => ZcTrack.blank) t.zc.tracks = true ∧
    ∀ k, { zcTrack t k with q1 := [] } = { zcTrack s k with q1 := [] }

theorem SendsKept.trans {s t u : State} (h : SendsKept t u) (h' : SendsKept s t) : SendsKept s u := fun hw =>
  ⟨(h (h' hw).1).1, fun k => ((h (h' hw).1).2 k).trans ((h' hw).2 k)⟩

theorem sendsKept_of_zc {s t : State} (h : t.zc = s.zc) : SendsKept s t := fun hw =>
  ⟨h ▸ hw, fun k => by rw [zcTrack, h]; rfl⟩

theorem zcTrack_setZc_same {u : State} (hw : tblWf (fun _ => ZcTrack.blank) u.zc.tracks = true) (k : Nat) (z : ZcTrack) :
    zcTrack (setZc k z u) k = z := tblGet_tblSet_same hw k z

theorem setZc_wf {u : State} (hw : tblWf (fun _ => ZcTrack.blank) u.zc.tracks = true) (k : Nat) (z : ZcTrack) :
    tblWf (fun _ => ZcTrack.blank) (setZc k z u).zc.tracks = true := tblSet_wf hw k z

theorem sendsKept_queueP1 (k : Nat) (f : HubFrame) (s : State) : SendsKept s (queueP1 k f s) := fun hw => by
  refine ⟨setZc_wf hw k _, fun i => ?_⟩
  by_cases h : i = k
  · subst h
    rw [queueP1, zcTrack_setZc_same hw]
  · rw [show zcTrack (queueP1 k f s) i = zcTrack s i from tblGet_tblSet_other _ h _]

theorem sendsKept_hubBcast (code : Nat) (s : State) : SendsKept s (hubBcast code s) := by
  unfold hubBcast
  split
  · exact ((sendsKept_queueP1 _ _ _).trans (sendsKept_queueP1 _ _ _)).trans (sendsKept_queueP1 _ _ _)
  · exact sendsKept_of_zc rfl

theorem logPush_zc (code : Nat) (v : Word) (u : State) : (logPush code v u).zc = u.zc := by
  unfold logPush logAt
  split <;> rfl

theorem countIrq_zc (x y : State) : (countIrq x y).zc = y.zc := by
  unfold countIrq
  split <;> rfl

theorem setIrq_zc (b : Nat) (u : State) : (setIrq b u).zc = u.zc := by
  have hl : (if b < 2 then setLstat b u else u).zc = u.zc := by
    split
    · unfold setLstat
      split
      · exact countIrq_zc ..
      · rfl
    · rfl
  exact (countIrq_zc ..).trans hl

theorem latchWake_zc (c : Nat) (u : State) : (latchWake c u).zc = u.zc := by
  unfold latchWake
  split <;> rfl

theorem chirpSettle_zc (u : State) : (chirpSettle u).zc = u.zc := by
  unfold chirpSettle
  split <;> rfl

theorem sendsKept_raiseCause (code src : Nat) (e : Bool) (s : State) : SendsKept s (raiseCause code src e s) := by
  unfold raiseCause
  split
  · exact sendsKept_of_zc rfl
  · dsimp only
    have hone (x : State) (hx : x.zc = s.zc) : SendsKept s (evt 348 (latchWake 4 (setIrq 1 (hubBcast code x)))) :=
      (sendsKept_of_zc ((latchWake_zc 4 _).trans (setIrq_zc 1 _))).trans ((sendsKept_hubBcast code x).trans (sendsKept_of_zc hx))
    split
    · split
      · exact hone _ rfl
      · exact (sendsKept_of_zc (logPush_zc ..)).trans (hone _ rfl)
    · exact sendsKept_of_zc rfl

theorem sendsKept_foldl_hubBcast (l : List Nat) (s : State) : SendsKept s (l.foldl (fun st c => hubBcast c st) s) := by
  induction l generalizing s with
  | nil => exact sendsKept_of_zc rfl
  | cons c l ih => exact (ih _).trans (sendsKept_hubBcast c s)

theorem sendsKept_tierFell (lost : BitVec 12) (s : State) : SendsKept s (tierFell lost s) := by
  unfold tierFell
  dsimp only
  split
  · exact (sendsKept_hubBcast _ _).trans (sendsKept_of_zc rfl)
  · exact (sendsKept_raiseCause _ _ _ _).trans (sendsKept_of_zc rfl)

theorem sendsKept_tierRose (before after : Nat) (s : State) : SendsKept s (tierRose before after s) := by
  have hend : SendsKept s (endFalls after s) := by
    unfold endFalls
    split <;> exact sendsKept_of_zc rfl
  unfold tierRose
  dsimp only
  split
  · split
    · split
      · exact hend
      · exact (sendsKept_hubBcast _ _).trans hend
    · exact (sendsKept_foldl_hubBcast _ _).trans hend
  · split
    · exact (sendsKept_hubBcast _ _).trans hend
    · exact hend

theorem gessoChirp_zc (u : State) : (gessoChirp u).zc = u.zc := by
  have hn (x y : State) : (noteSwitches x y).zc = y.zc :=
    foldl_kept (·.zc) (fun z i => by split <;> rfl) _ _
  have hc (k : Nat) (x : State) : (chirp k false x).zc = x.zc := by
    unfold chirp
    dsimp only
    split
    · rfl
    · split
      · rfl
      · exact hn x _
  unfold gessoChirp
  split
  · refine foldl_kept (·.zc) (fun x k => ?_) _ _
    split
    · rfl
    · exact hc k x
  · rfl

theorem sendsKept_tierChange (old s : State) : SendsKept s (tierChange old s) := by
  have htaken (t : Nat) : (tierTaken old s t).zc = s.zc := by
    unfold tierTaken
    dsimp only
    split
    · exact logPush_zc ..
    · rfl
  have hset (c : Prop) [Decidable c] (x : State) : (if c then setTier0Fault true x else x).zc = x.zc := by split <;> rfl
  have hre : SendsKept s (retier old s) := by
    unfold retier
    dsimp only
    split
    · exact sendsKept_of_zc rfl
    · split
      · exact (sendsKept_of_zc ((chirpSettle_zc _).trans (hset ..))).trans ((sendsKept_tierFell _ _).trans (sendsKept_of_zc (htaken _)))
      · exact (sendsKept_of_zc (chirpSettle_zc _)).trans ((sendsKept_tierRose _ _ _).trans (sendsKept_of_zc (htaken _)))
  unfold tierChange
  dsimp only
  split
  · exact (sendsKept_of_zc (gessoChirp_zc _)).trans hre
  · exact hre

/-- What holds of every state whose tracks differ from the effect's in the hub's first queues only holds of the answer. -/
theorem answers_of_sends {c : Instr} {s u : State} {P : State → Prop} (e : exec c s = finish s u)
    (hw : tblWf (fun _ => ZcTrack.blank) u.zc.tracks = true)
    (p : ∀ t, (∀ k, { zcTrack t k with q1 := [] } = { zcTrack u k with q1 := [] }) → P t) : Answers c s P := by
  refine ⟨_, e.trans rfl, p _ ?_⟩
  split
  · exact fun _ => rfl
  · exact (sendsKept_tierChange s u hw).2

/-! ### Bursts -/

/-- The burst of a tooth that the hub sends. -/
def burstOf (u : State) (t h : Nat) (late : Bool) (p16 : Int) : Burst :=
  { h := h, late := late, start := (p16 / 16 + if late then lateAt else earlyAt).toNat, syn := burstSyn u t h }

/-- A burst that is not missing, or whose TX_FAULT stands, is noted, and the run of missing ones counted. -/
theorem sendBurst_notes {t h : Nat} {late : Bool} {p16 back : Int} {u : State}
    (hw : tblWf (fun _ => ZcTrack.blank) u.zc.tracks = true)
    (hm : burstMissing u back = false ∨ (zcTrack u t).txFault = true) :
    ∃ m, zcTrack (sendBurst t h late p16 back u) t =
        { zcTrack u t with bursts := (zcTrack u t).bursts ++ [burstOf u t h late p16], missRun := m } ∧
      tblWf (fun _ => ZcTrack.blank) (sendBurst t h late p16 back u).zc.tracks = true ∧
      (sendBurst t h late p16 back u).params = u.params ∧ (sendBurst t h late p16 back u).time = u.time ∧
      (sendBurst t h late p16 back u).mirror = u.mirror := by
  have hres (x : State) : ∃ l, burstReserve t x = { x with canvas := { x.canvas with work := l } } := by
    unfold burstReserve
    split
    · split
      · exact ⟨_, rfl⟩
      · exact ⟨_, rfl⟩
    · exact ⟨_, rfl⟩
  obtain ⟨l, hl⟩ := hres (setZc t { zcTrack u t with bursts := (zcTrack u t).bursts ++ [burstOf u t h late p16] } u)
  have hsend : sendBurst t h late p16 back u = burstBack t back { setZc t { zcTrack u t with
      bursts := (zcTrack u t).bursts ++ [burstOf u t h late p16] } u with canvas := { u.canvas with work := l } } :=
    congrArg (burstBack t back) hl
  have hz : zcTrack { setZc t { zcTrack u t with bursts := (zcTrack u t).bursts ++ [burstOf u t h late p16] } u with
      canvas := { u.canvas with work := l } } t = { zcTrack u t with bursts := (zcTrack u t).bursts ++ [burstOf u t h late p16] } :=
    zcTrack_setZc_same hw t _
  have hback : ∃ m, sendBurst t h late p16 back u = setZc t { zcTrack u t with
      bursts := (zcTrack u t).bursts ++ [burstOf u t h late p16], missRun := m } { setZc t { zcTrack u t with
      bursts := (zcTrack u t).bursts ++ [burstOf u t h late p16] } u with canvas := { u.canvas with work := l } } := by
    rw [hsend, burstBack, hz]
    dsimp only
    split
    · exact ⟨_, rfl⟩
    · next hmiss =>
      rw [if_neg]
      · exact ⟨_, rfl⟩
      · rintro ⟨-, hf⟩
        rcases hm with hm | hm
        · exact hmiss (congrArg Bool.not hm)
        · rw [hm] at hf
          cases hf
  obtain ⟨m, hb⟩ := hback
  rw [hb]
  exact ⟨m, zcTrack_setZc_same (setZc_wf hw t _) t _, setZc_wf (setZc_wf hw t _) t _, rfl, rfl, rfl⟩

/-- The early and the late burst of a mark (R495, R504). -/
def markBursts (p16 : Int) (syn : Bool) : List Burst :=
  [{ h := 0, late := false, start := (p16 / 16 - 16000).toNat, syn := syn },
    { h := 0, late := true, start := (p16 / 16 + 10182).toNat, syn := syn }]

/-- A mark whose bursts are not missing, or that goes out with TX_FAULT, is both its bursts. -/
theorem sendTooth_mark {t : Nat} {p16 backE backL : Int} {u : State} (hw : tblWf (fun _ => ZcTrack.blank) u.zc.tracks = true)
    (hm : (burstMissing u backE = false ∧ burstMissing u backL = false) ∨ (zcTrack u t).txFault = true)
    (hb : (zcTrack u t).bursts = []) : ∃ m,
      zcTrack (sendTooth t 0 .mark p16 backE backL u) t = { zcTrack u t with bursts := markBursts p16 (burstSyn u t 0), missRun := m } ∧
      tblWf (fun _ => ZcTrack.blank) (sendTooth t 0 .mark p16 backE backL u).zc.tracks = true := by
  obtain ⟨m, hz, hw1, hp, htime, hmir⟩ := sendBurst_notes (h := 0) (late := false) (p16 := p16) hw (hm.imp_left And.left)
  generalize hx : sendBurst t 0 false p16 backE u = x at hz hw1 hp htime hmir
  have htx : (zcTrack x t).txFault = (zcTrack u t).txFault := by rw [hz]
  have hmiss : burstMissing x backL = burstMissing u backL := by unfold burstMissing txLevel par; rw [hp]
  have hsyn : burstSyn x t 0 = burstSyn u t 0 := by
    unfold burstSyn track toothOf zcCycle zcCount
    rw [htime, hmir]
  obtain ⟨m', hz', hw', -⟩ := sendBurst_notes (t := t) (h := 0) (late := true) (p16 := p16) (back := backL) hw1
    (hm.imp (fun h => hmiss.trans h.2) fun h => htx.trans h)
  have hsend : sendTooth t 0 .mark p16 backE backL u = sendBurst t 0 true p16 backL x := by
    refine Eq.trans (b := if (true && !((zcTrack x t).txFault && !(zcTrack u t).txFault)) = true then
      sendBurst t 0 true p16 backL x else x) (by rw [← hx]; rfl) (if_pos ?_)
    rw [htx]
    cases (zcTrack u t).txFault <;> rfl
  rw [hsend]
  refine ⟨m', ?_, hw'⟩
  rw [hz', hz, hb]
  simp only [burstOf, hsyn]
  rfl

section
variable {s : State} {tr : Fin 3} {p16 backE backL : Int} {e : Nat} {syn : Bool}

theorem burstMissing_moveTo (u : State) (e : Nat) (back : Int) : burstMissing (moveTo u e) back = burstMissing u back := by
  unfold burstMissing txLevel par
  rw [moveTo_params]

theorem zcTrack_moveTo (u : State) (e k : Nat) : zcTrack (moveTo u e) k = zcTrack u k := by simp [zcTrack]

/-- Whether a slot mark goes out depends on the track of the channel by its TX_FAULT only. -/
theorem toothSend_start {u : State} {k : Nat} {z : ZcTrack} (h : (zcTrack (setZc k z u) k).txFault = (zcTrack u k).txFault) :
    toothSend (setZc k z u) k 0 = toothSend u k 0 := by
  have ho : zcOpen (setZc k z u) k = zcOpen u k := by
    unfold zcOpen zcSupp
    rw [h]
    rfl
  unfold toothSend
  rw [ho]
  rfl

section
variable (hw : tblWf (fun _ => ZcTrack.blank) s.zc.tracks = true) (hp : toothP s tr.val 0 = some p16)
  (he : e = toothInstant (some .mark) false p16) (hn : now s ≤ e) (ht : e / tickLen = tickNo s)
  (hsyn : syn = burstSyn (moveTo s e) tr.val 0)
include hw hp he hn ht hsyn

theorem toothAnchoredEvent_marks (lv : List (Int × Int)) (hE : burstMissing s backE = false) (hL : burstMissing s backL = false)
    (hts : toothSend s tr.val 0 = some .mark) (hts' : toothSend (moveTo s e) tr.val 0 = some .mark) :
    Answers (.toothAnchoredEvent tr 0 lv backE backL) s fun t => (zcTrack t tr.val).bursts = markBursts p16 syn := by
  have hrule : exec (.toothAnchoredEvent tr 0 lv backE backL) s = execToothAnchoredEvent tr 0 lv backE backL s := rfl
  unfold execToothAnchoredEvent at hrule
  rw [show ((0 : Fin 64).val) = 0 from rfl, hp] at hrule
  dsimp only at hrule
  have he' : toothInstant (some ToothSend.mark) (0 == 7 || 0 == 11) p16 = e := he.symm
  rw [hts, he', if_pos ⟨hn, ht⟩] at hrule
  generalize classify (coreTh (moveTo s e) tr.val) (combinedTooth (moveTo s e) lv) = c at hrule
  have hw0 : tblWf (fun _ => ZcTrack.blank) (moveTo s e).zc.tracks = true := by rw [moveTo_zc]; exact hw
  have hbE : burstMissing (moveTo s e) backE = false := (burstMissing_moveTo ..).trans hE
  have hbL : burstMissing (moveTo s e) backL = false := (burstMissing_moveTo ..).trans hL
  generalize moveTo s e = u at *
  have hz1 := zcTrack_setZc_same hw0 tr.val { zcTrack u tr.val with heard := false, bursts := [] }
  have hw1 := setZc_wf hw0 tr.val { zcTrack u tr.val with heard := false, bursts := [] }
  have hx : hubTooth tr.val 0 c p16 backE backL u =
      sendTooth tr.val 0 .mark p16 backE backL (setZc tr.val { zcTrack u tr.val with heard := false, bursts := [] } u) := by
    have hts1 : toothSend (setZc tr.val { zcTrack u tr.val with heard := false, bursts := [] } u) tr.val 0 = some .mark :=
      (toothSend_start (by rw [hz1])).trans hts'
    unfold hubTooth
    rw [if_pos rfl]
    dsimp only
    rw [hts1]
  rw [hx] at hrule
  obtain ⟨m, hz, hw2⟩ := sendTooth_mark (p16 := p16) hw1 (.inl ⟨hbE, hbL⟩) (by rw [hz1])
  refine answers_of_sends hrule hw2 fun t htr => ?_
  exact (congrArg ZcTrack.bursts (htr tr.val)).trans ((congrArg ZcTrack.bursts hz).trans (by rw [hsyn]; rfl))

theorem zcTxRetry_marks (hr : retryDue s tr.val = true) (h3 : (zcTrack s tr.val).retryRun < 3) :
    Answers (.zcTxRetry tr backE backL) s fun t =>
      (zcTrack t tr.val).retryRun =
        (if burstMissing s backE = false ∧ burstMissing s backL = false then (zcTrack s tr.val).retryRun + 1 else 0) ∧
      (zcTrack t tr.val).slotsSinceRetry = 0 ∧ (zcTrack t tr.val).txFault = true ∧
      (zcTrack t tr.val).bursts = markBursts p16 syn := by
  have hrule : exec (.zcTxRetry tr backE backL) s = execZcTxRetry tr backE backL s := rfl
  unfold execZcTxRetry at hrule
  rw [hp] at hrule
  dsimp only at hrule
  rw [← he, if_pos (by simp [hr, hn, ht])] at hrule
  have hf : (zcTrack s tr.val).txFault = true := by
    unfold retryDue at hr
    simp only [Bool.and_eq_true] at hr
    exact hr.1.1.1.1.1.1.1.1
  have hw0 : tblWf (fun _ => ZcTrack.blank) (moveTo s e).zc.tracks = true := by rw [moveTo_zc]; exact hw
  rw [← burstMissing_moveTo s e backE, ← burstMissing_moveTo s e backL]
  rw [← zcTrack_moveTo s e] at hf h3 ⊢
  generalize moveTo s e = u at *
  have hz1 := zcTrack_setZc_same hw0 tr.val { zcTrack u tr.val with bursts := [] }
  have hw1 := setZc_wf hw0 tr.val { zcTrack u tr.val with bursts := [] }
  obtain ⟨m, hz, hw2⟩ := sendTooth_mark (p16 := p16) (backE := backE) (backL := backL) hw1 (.inr (by rw [hz1]; exact hf)) (by rw [hz1])
  generalize hs1 : sendTooth tr.val 0 .mark p16 backE backL (setZc tr.val { zcTrack u tr.val with bursts := [] } u) = s1 at hz hw2
  have hrun : (if burstMissing u backE || burstMissing u backL then 0 else (zcTrack u tr.val).retryRun + 1) =
      if burstMissing u backE = false ∧ burstMissing u backL = false then (zcTrack u tr.val).retryRun + 1 else 0 := by
    cases burstMissing u backE <;> cases burstMissing u backL <;> rfl
  have hle : ¬4 ≤ if burstMissing u backE = false ∧ burstMissing u backL = false then (zcTrack u tr.val).retryRun + 1 else 0 := by
    split <;> omega
  generalize (if burstMissing u backE = false ∧ burstMissing u backL = false then (zcTrack u tr.val).retryRun + 1 else 0) = run
    at hrun hle ⊢
  have hx : retryMark tr.val p16 backE backL u = setZc tr.val { zcTrack s1 tr.val with retryRun := run, slotsSinceRetry := 0 } s1 := by
    unfold retryMark
    dsimp only
    rw [hs1, hrun]
    exact if_neg hle
  rw [hx] at hrule
  refine answers_of_sends hrule (setZc_wf hw2 ..) fun t htr => ?_
  have hk : { zcTrack t tr.val with q1 := [] } = { zcTrack s1 tr.val with retryRun := run, slotsSinceRetry := 0, q1 := [] } :=
    (htr tr.val).trans (by rw [zcTrack_setZc_same hw2])
  have hbursts : (zcTrack s1 tr.val).bursts = markBursts p16 syn := (congrArg ZcTrack.bursts hz).trans (by rw [hsyn]; rfl)
  have hfault : (zcTrack s1 tr.val).txFault = true := (congrArg ZcTrack.txFault hz).trans (by rw [hz1]; exact hf)
  exact ⟨congrArg ZcTrack.retryRun hk, congrArg ZcTrack.slotsSinceRetry hk, (congrArg ZcTrack.txFault hk).trans hfault,
    (congrArg ZcTrack.bursts hk).trans hbursts⟩

end

end

/-- Settles O50: a lemma for each of the frames, the noise floor, the ageing, the slot mark and its retry. -/
theorem zeroCrossingLine : Obligations.ZeroCrossingLine := fun _ _ =>
  ⟨fun _ _ _ => zcFrameReceived_records, fun _ _ _ _ _ => zcSlotCombine_records, fun _ _ => noiseFloorMeasure_keeps,
    fun _ => hubFrameAged_discards,
    fun hw _ _ _ _ _ hp he hn ht hsyn => ⟨toothAnchoredEvent_marks hw hp he hn ht hsyn, zcTxRetry_marks hw hp he hn ht hsyn⟩⟩

end Sys2Proof.Machine
end

section
/-!
PROOFS. The broadband channel: the image of a beacon, beacon boundaries, routes, masks, retries, received frames
(10_broadband_line.md).
-/

namespace Sys2Proof.Machine

/-! ### The image of a beacon (Table 10-5) -/

theorem valBytes_length (n v : Nat) : (valBytes n v).length = n := by simp [valBytes]

theorem beaconList_length (n places : Nat) (l : List Nat) : (beaconList n places l).length = places * n := by
  simp [beaconList, valBytes_length]

theorem beaconImage_length (b : Beacon) : (beaconImage b).length = 360 := by
  simp only [beaconImage, List.length_append, valBytes_length, beaconList_length, List.length_singleton]

theorem beaconImage_load (b : Beacon) : (beaconImage b)[14]? = some b.load := by
  simp [beaconImage, List.getElem?_append, valBytes_length, beaconList_length]

theorem beaconImage_maskId (b : Beacon) : (beaconImage b)[17]? = some b.maskId := by
  simp only [beaconImage, List.getElem?_append, List.length_append, valBytes_length, beaconList_length, List.length_singleton,
    Nat.reduceAdd, Nat.reduceMul, Nat.reduceLT, Nat.reduceSub, if_true, if_false, Nat.lt_irrefl, Nat.sub_self,
    List.getElem?_cons_zero]

theorem beaconImage_netId (b : Beacon) : (beaconImage b)[0]? = some (b.netId.setWidth 8) := by
  have himage : (beaconImage b)[0]? = (valBytes 2 b.netId.toNat)[0]? := by
    simp [beaconImage, List.getElem?_append, valBytes_length, beaconList_length]
  rw [himage]
  simp [valBytes]

section
variable {s : State}

/-! ### Masks (R549, R552) -/

theorem masksDue_one {k : Nat} {m : MaskSet} {rest : List (Nat × MaskSet)} (hp : s.bb.pend = (k, m) :: rest) (hk : k ≤ bsnNow s)
    (hr : ∀ p ∈ rest, bsnNow s < p.1) : masksDue s = applyMask m { s with bb := { s.bb with pend := rest } } := by
  have hdue : ((k, m) :: rest).filter (fun p => decide (p.1 ≤ bsnNow s)) = [(k, m)] := by
    rw [List.filter_cons_of_pos (by simpa using hk), List.filter_eq_nil_iff.2 fun p hpr => by simpa using hr p hpr]
  have hleft : ((k, m) :: rest).filter (fun p => decide (bsnNow s < p.1)) = rest := by
    rw [List.filter_cons_of_neg (by simpa using hk), List.filter_eq_self.2 fun p hpr => decide_eq_true (hr p hpr)]
  unfold masksDue
  dsimp only
  rw [hp, hdue, hleft]
  rfl

theorem maskChange_applies {k : Nat} {m : MaskSet} {rest : List (Nat × MaskSet)} (ha : atBeacon s = true)
    (hp : s.bb.pend = (k, m) :: rest) (hk : k ≤ bsnNow s) (hr : ∀ p ∈ rest, bsnNow s < p.1) : Answers .maskChange s fun t =>
      t.bb.pend = rest ∧ t.bb.pre = m.pre ∧ t.bb.notch = m.notch ∧ t.bb.gi = m.gi ∧ t.bb.bsn = s.bb.bsn ∧ t.params = s.params :=
  answers_of_inner _ (congrArg (finish s) ((if_pos ha).trans (masksDue_one hp hk hr))) rfl (fun _ => rfl)
    ⟨rfl, rfl, rfl, rfl, rfl, rfl⟩

/-- Without a mask that is due nothing changes. -/
theorem maskChange_waits (hp : ∀ p ∈ s.bb.pend, bsnNow s < p.1) : Answers .maskChange s fun t => bare t = bare s := by
  have hdue : s.bb.pend.filter (fun p => decide (p.1 ≤ bsnNow s)) = [] :=
    List.filter_eq_nil_iff.2 fun p hpr => by simpa using hp p hpr
  have hleft : s.bb.pend.filter (fun p => decide (bsnNow s < p.1)) = s.bb.pend :=
    List.filter_eq_self.2 fun p hpr => decide_eq_true (hp p hpr)
  have hm : masksDue s = s := by
    unfold masksDue
    dsimp only
    rw [hdue, hleft]
    rfl
  refine answers_of_bare (c := .maskChange) (u := s) (congrArg (finish s) ?_) fun _ hb _ => hb
  split
  · exact hm
  · rfl

/-! ### Front ends (R602, R603) -/

theorem bbTxRetry_counts {fe : Fin 3} {back : Int} (hf : (frontEnd s fe.val).txFault = true) (hb : s.bb.bsn.toNat % 64 = 0)
    (hr : bbRuns s = true) (hn : (frontEnd s fe.val).retryBsn ≠ some s.bb.bsn.toNat) (h3 : (frontEnd s fe.val).retryRun < 3) :
    Answers (.bbTxRetry fe back) s fun t => bare t = bare (setFe fe.val { frontEnd s fe.val with
      retryRun := if beaconMissing s fe.val back then 0 else (frontEnd s fe.val).retryRun + 1
      retryBsn := some s.bb.bsn.toNat } s) := by
  have hrule : exec (.bbTxRetry fe back) s = execBbTxRetry fe back s := rfl
  unfold execBbTxRetry at hrule
  dsimp only at hrule
  rw [if_pos (by simp [hf, hb, hr, hn]), if_neg (by split <;> omega)] at hrule
  exact answers_of_bare hrule fun _ ht _ => ht

theorem bbNoisy_begins {fe : Fin 3} {level : Byte} (hh : (frontEnd s fe.val).hist = []) : Answers (.bbNoisy fe level) s fun t =>
    bare t = bare (setFe fe.val { frontEnd s fe.val with hist := [level.toNat], noise := level } s) := by
  have hrule : exec (.bbNoisy fe level) s = execBbNoisy fe level s := rfl
  unfold execBbNoisy at hrule
  dsimp only at hrule
  have hl : (level.toNat :: (frontEnd s fe.val).hist).take 64 = [level.toNat] := by rw [hh]; rfl
  have hm : BitVec.ofNat 8 ([level.toNat].foldl (· + ·) 0 / [level.toNat].length) = level := by simp
  rw [hl, if_neg (show ¬[level.toNat].length = 64 by simp), if_pos rfl, hm] at hrule
  exact answers_of_bare hrule fun _ ht _ => ht

/-! ### Routes (R568, R586) -/

theorem setCF_run (id w lo n v : Nat) (u : State) : (setCF id w lo n v u).clients.run = u.clients.run :=
  setC_clients (·.run) (fun _ _ => rfl) ..

theorem setCF_bb (id w lo n v : Nat) (u : State) : (setCF id w lo n v u).bb = u.bb :=
  kept_of_keep (·.bb) (fun _ => rfl) (keep_setCF (w := parts [.clients, .store]) id w lo n v u ⟨rfl, rfl⟩)

/-- A withdrawn repeater is forgotten once no route in force goes through it. -/
def forgetWithdrawn (u : State) : State :=
  { u with bb := { u.bb with withdrawn := u.bb.withdrawn.filter fun i => (u.clients.run.flatMap fun e => e.2.route).contains i } }

/-- The repeaters in use. -/
def useRpt (use : List Nat) (u : State) : State := { u with bb := { u.bb with rpt := use.take 16 } }

/-- The repeaters follow the routes, and leave the clients' runs and the period. -/
theorem rptFollow_leaves (u : State) : (rptFollow u).clients.run = u.clients.run ∧ (rptFollow u).bb.bsn = u.bb.bsn := by
  have hf (v : Nat) (l : List Nat) (x : State) : (l.foldl (fun st i => setCF i 0 15 1 v st) x).clients.run = x.clients.run ∧
      (l.foldl (fun st i => setCF i 0 15 1 v st) x).bb = x.bb :=
    ⟨foldl_kept (·.clients.run) (fun x i => setCF_run i 0 15 1 v x) l x, foldl_kept (·.bb) (fun x i => setCF_bb i 0 15 1 v x) l x⟩
  obtain ⟨l, use, h⟩ : ∃ l use, rptFollow u = List.foldl (fun st i => setCF i 0 15 1 1 st)
      (useRpt use (List.foldl (fun st i => setCF i 0 15 1 0 st) (forgetWithdrawn u) l)) use := ⟨_, _, rfl⟩
  obtain ⟨hr, hb⟩ := hf 0 l (forgetWithdrawn u)
  rw [h, (hf 1 _ _).1, (hf 1 _ _).2]
  exact ⟨hr, congrArg (·.bsn) hb⟩

/-- A client's route becomes r, beside its record and a count. -/
theorem takeRoute_leaves (id : Nat) (r : List Nat) (u : State) :
    (takeRoute id r u).clients.run = (setRun id { cRun u id with route := r } u).clients.run ∧ (takeRoute id r u).bb.bsn = u.bb.bsn := by
  have hrun (x : State) (a b c : Nat) : (setCF id 7 0 11 a (setCF id 6 20 11 b (setCF id 6 16 2 c x))).clients.run = x.clients.run := by
    rw [setCF_run, setCF_run, setCF_run]
  have hbb (x : State) (a b c : Nat) : (setCF id 7 0 11 a (setCF id 6 20 11 b (setCF id 6 16 2 c x))).bb = x.bb := by
    rw [setCF_bb, setCF_bb, setCF_bb]
  unfold takeRoute
  dsimp only
  split
  · exact ⟨hrun .., congrArg (·.bsn) (hbb ..)⟩
  · exact ⟨hrun .., congrArg (·.bsn) (hbb ..)⟩

theorem cRun_one {u : State} {id : Nat} {d v : ClientRun} (h : u.clients.run = [(id, d)]) : cRun (setRun id v u) id = v := by
  simp only [cRun, setRun, h, tblSet, Nat.lt_irrefl, if_false, if_true]
  split
  · next hv => rw [hv]; rfl
  · simp [tblGet]

/-- The same after two writes. -/
theorem tblSet_one_same {α : Type} [DecidableEq α] {d : Nat → α} (k : Nat) (x v w : α) :
    tblGet d (tblSet d (tblSet d [(k, x)] k v) k w) k = w := by
  by_cases hv : v = d k <;> by_cases hw : w = d k <;> simp [tblSet, tblGet, hv, hw]

theorem routeUpdateEffect_takes {id b : Nat} {d : ClientRun} {r : List Nat} (ha : atBeacon s = true) (hr : s.clients.run = [(id, d)])
    (hd : d.nextRoutes = [(r, b)]) (hb : b ≤ bsnNow s) : Answers .routeUpdateEffect s fun t =>
      cRun t id = { d with route := r, nextRoutes := [] } ∧ t.bb.bsn = s.bb.bsn := by
  have hdue : [(r, b)].filter (fun x => decide (x.2 ≤ bsnNow s)) = [(r, b)] := by simp [hb]
  have hleft : [(r, b)].filter (fun x => decide (bsnNow s < x.2)) = [] := by simp [hb]
  have hrun : cRun s id = d := by simp [cRun, hr, tblGet]
  have happ : applyRoutes (bsnNow s) s = rptFollow (takeRoute id r (setRun id { d with nextRoutes := [] } s)) := by
    unfold applyRoutes
    rw [hr, List.foldl_cons, List.foldl_nil]
    dsimp only
    rw [hd, hdue, hleft, hrun]
    rfl
  have hrule : exec .routeUpdateEffect s = finish s (applyRoutes (bsnNow s) s) := congrArg (finish s) (if_pos ha)
  rw [happ] at hrule
  obtain ⟨hfr, hfb⟩ := rptFollow_leaves (takeRoute id r (setRun id { d with nextRoutes := [] } s))
  obtain ⟨htr, htb⟩ := takeRoute_leaves id r (setRun id { d with nextRoutes := [] } s)
  refine answers_of_inner _ hrule rfl (fun _ => rfl) ⟨?_, hfb.trans htb⟩
  have hset := cRun_one (v := { d with nextRoutes := [] }) hr
  rw [hset] at htr
  have hget : ∀ x : State, cRun x id = tblGet (fun _ => ClientRun.blank) x.clients.run id := fun _ => rfl
  rw [hget, hfr, htr, ← hget]
  have hwf := tblSet_one_same (d := fun _ => ClientRun.blank) id d { d with nextRoutes := [] } { d with nextRoutes := [], route := r }
  simp only [cRun, setRun, hr]
  exact hwf

/-- The routes through a repeater, in y, are replaced by the best without it. -/
def reroute (y : State) (rid : Nat) (x : State) : State :=
  (admittedIds x).foldl (fun st id => if routedVia y rid id then
    announce id (bestRoute st ((rptCandidates st).filter fun i => i != rid) id) st else st) x

/-- Route changes that wait behind the others. -/
def addRoutes (l : List (Nat × List Nat)) (u : State) : State := { u with bb := { u.bb with routes := u.bb.routes ++ l } }

/-- What a repeater's withdrawal leaves of the channel: the repeaters in use but for it, and the period. -/
theorem withdrawRepeater_leaves (rid : Nat) (u : State) :
    (withdrawRepeater rid u).bb.rpt = u.bb.rpt.filter (fun i => i != rid) ∧ (withdrawRepeater rid u).bb.bsn = u.bb.bsn := by
  have hlog (x : State) : (logLine 0 6 true x).bb = x.bb :=
    kept_of_keep (·.bb) (fun _ => rfl) (keep_logLine (w := parts []) 0 6 true x)
  have hann (y x : State) : (reroute y rid x).bb.rpt = x.bb.rpt ∧ (reroute y rid x).bb.bsn = x.bb.bsn :=
    ⟨foldl_kept (·.bb.rpt) (fun x i => by split <;> rfl) _ x, foldl_kept (·.bb.bsn) (fun x i => by split <;> rfl) _ x⟩
  have hstart (x : State) : (logLine 0 6 true (setCF rid 0 15 1 0 x)).bb = x.bb := (hlog _).trans (setCF_bb ..)
  have hbb := hstart { u with bb := { u.bb with
    rpt := u.bb.rpt.filter fun i => i != rid, withdrawn := rid :: u.bb.withdrawn.filter fun i => i != rid } }
  obtain ⟨s1, l, v, hs1, h⟩ : ∃ s1 l v, s1 = logLine 0 6 true (setCF rid 0 15 1 0 { u with bb := { u.bb with
      rpt := u.bb.rpt.filter fun i => i != rid, withdrawn := rid :: u.bb.withdrawn.filter fun i => i != rid } }) ∧
      withdrawRepeater rid u = addRoutes l (reroute s1 rid (setRun rid v { s1 with bb := { s1.bb with routes := [] } })) :=
    ⟨_, _, _, rfl, rfl⟩
  rw [← hs1] at hbb
  rw [h]
  exact ⟨(hann _ _).1.trans (congrArg (·.rpt) hbb), (hann _ _).2.trans (congrArg (·.bsn) hbb)⟩

theorem repeaterWithdrawn_withdraws {id : Fin 2048} (hi : id.val ∈ s.bb.rpt) (hm : 4 ≤ (cRun s id.val).relayMiss) :
    Answers (.repeaterWithdrawn id) s fun t => t.bb.rpt = s.bb.rpt.filter (fun i => i != id.val) ∧ t.bb.bsn = s.bb.bsn := by
  have hrule : exec (.repeaterWithdrawn id) s = finish s (withdrawRepeater id.val s) :=
    congrArg (finish s) (if_pos (by simp [hi, hm]))
  exact answers_of_inner _ hrule rfl (fun _ => rfl) (withdrawRepeater_leaves id.val s)

/-! ### Beacon boundaries (R594) -/

/-- Where the hub stands in its beacons. -/
def beaconRun (u : State) : Word × Bool × Bool := (u.bb.bsn, u.bb.coord, u.bb.built)

theorem beaconRun_of_keep {u v : State} (h : keep (parts [.clients, .store, .glaze]) u = keep (parts [.clients, .store, .glaze]) v) :
    beaconRun u = beaconRun v := kept_of_keep beaconRun (fun _ => rfl) h

theorem downSend_beaconRun (id : Nat) (u : State) : beaconRun (downSend id u) = beaconRun u := by
  have hfail : beaconRun (failUnacked id u) = beaconRun u := beaconRun_of_keep (keep_failUnacked _ _ ⟨rfl, rfl⟩)
  have hset (x : State) (r : ClientRun) (f : DownFrame) :
      beaconRun (setRun id r { x with bb := { x.bb with downs := x.bb.downs ++ [f] } }) = beaconRun x := rfl
  have hcmds (l : List QCmd) (x : State) : beaconRun (l.foldl (fun st q => cmdSent q st) x) = beaconRun x :=
    foldl_kept beaconRun (fun x q => beaconRun_of_keep (keep_cmdSent q x ⟨rfl, rfl⟩)) l x
  unfold downSend
  generalize failUnacked id u = x at *
  dsimp only
  split
  · exact hfail
  · exact (hcmds _ _).trans ((hset x _ _).trans hfail)

theorem beaconBack_beaconRun (back : List Int) (u : State) : beaconRun (beaconBack back u) = beaconRun u := by
  refine foldl_kept beaconRun (fun x i => ?_) _ _
  have hlog (y : State) : beaconRun (logLine i 3 true (raiseCause (768 + 8 + i) 0 false y)) = beaconRun y :=
    beaconRun_of_keep (by simp)
  dsimp only
  split
  · rfl
  · split
    · rfl
    · split
      · exact hlog _
      · rfl

/-- A beacon that is sent opens its period. -/
theorem sendBeacon_beaconRun (empty : Bool) (back : List Int) (u : State) :
    beaconRun (sendBeacon empty back u) = (BitVec.ofNat 32 (bsnNow u), true, false) := by
  have hevt (n : Nat) (x : State) : beaconRun (evt n x) = beaconRun x := rfl
  have hcnt (i n : Nat) (x : State) : beaconRun (cntBb i n x) = beaconRun x := rfl
  have hrun (id : Nat) (r : ClientRun) (x : State) : beaconRun (setRun id r x) = beaconRun x := rfl
  have hmask (c : Prop) [Decidable c] (x : State) : beaconRun (if c then x else evt 79 x) = beaconRun x := by split <;> rfl
  have hbeacon (b : Beacon) (x : State) : beaconRun { x with bb := { x.bb with beacon := b } } = beaconRun x := rfl
  have hlevel (n : Nat) (x : State) : beaconRun (loadLevel { x with clients := { x.clients with served := n } }) = beaconRun x :=
    beaconRun_of_keep (by simp)
  have hmoved (c : Prop) [Decidable c] (n : Nat) (x : State) :
      beaconRun (if c then x else logLine 0 5 true (evtN 73 n (cntBb 8 n x))) = beaconRun x := by
    split
    · rfl
    · exact beaconRun_of_keep (v := cntBb 8 n x) (by simp)
  refine (beaconBack_beaconRun back _).trans ?_
  refine (hevt 64 _).trans ((hcnt 0 1 _).trans ?_)
  refine (hmask _ _).trans ((hbeacon _ _).trans ((hlevel _ _).trans ((hmoved _ _ _).trans ?_)))
  refine (foldl_kept beaconRun (fun x e => downSend_beaconRun _ x) _ _).trans ?_
  refine (foldl_kept beaconRun (fun x a => ?_) _ _).trans ?_
  · split
    · exact beaconRun_of_keep (keep_admitClient _ x ⟨rfl, rfl⟩)
    · rfl
  refine (foldl_kept beaconRun (fun x c => hrun _ _ x) _ _).trans ?_
  refine (foldl_kept beaconRun (fun x r => hrun _ _ x) _ _).trans ?_
  refine (foldl_kept beaconRun (fun x m => ?_) _ _).trans ?_
  · exact (beaconRun_of_keep (keep_setCF _ _ _ _ _ _ ⟨rfl, rfl⟩)).trans (hrun ..)
  rfl

theorem bsnNow_congr {u v : State} (ht : u.time = v.time) (hm : u.mirror = v.mirror) : bsnNow u = bsnNow v := by
  unfold bsnNow hyperNo pairTime now
  rw [ht, hm]

theorem beaconBoundary_opens {back : List Int} {silentRpt : List Nat} (ha : atBeacon s = true) (hr : bbRuns s = true)
    (hn : s.bb.bsn.toNat < bsnNow s) : Answers (.beaconBoundary back silentRpt) s fun t =>
      t.bb.bsn = BitVec.ofNat 32 (bsnNow s) ∧ t.bb.coord = true ∧ t.bb.built = false ∧ t.gesso.trip = s.gesso.trip := by
  have hrule : exec (.beaconBoundary back silentRpt) s = execBeaconBoundary back silentRpt s := rfl
  unfold execBeaconBoundary at hrule
  dsimp only at hrule
  rw [if_pos (by simp [ha, hr, hn])] at hrule
  generalize hu : netIdStep (applyDown (periodEnd s.bb.bsn.toNat silentRpt (applyRoutes (bsnNow s) (masksDue s)))) = u at hrule
  have hk : keep (parts [.bb, .clients, .store, .glaze]) u = keep (parts [.bb, .clients, .store, .glaze]) s := by
    subst hu
    simp
  have hnow : bsnNow { u with clients := { u.clients with phaseLeft := u.clients.phaseLeft - 1 } } = bsnNow s :=
    bsnNow_congr (kept_of_keep (·.time) (fun _ => rfl) hk :) (kept_of_keep (·.mirror) (fun _ => rfl) hk :)
  have hb := sendBeacon_beaconRun false back { u with clients := { u.clients with phaseLeft := u.clients.phaseLeft - 1 } }
  rw [hnow] at hb
  obtain ⟨hbsn, hb'⟩ := Prod.mk.inj hb
  obtain ⟨hcoord, hbuilt⟩ := Prod.mk.inj hb'
  have htrip : (sendBeacon false back { u with clients := { u.clients with phaseLeft := u.clients.phaseLeft - 1 } }).gesso.trip =
      s.gesso.trip := by
    have hs := keep_sendBeacon (w := parts [.bb, .clients, .store, .mirror]) false back
      { u with clients := { u.clients with phaseLeft := u.clients.phaseLeft - 1 } } ⟨rfl, rfl, rfl, rfl⟩
    exact (kept_of_keep (·.gesso.trip) (fun _ => rfl) hs :).trans (kept_of_keep (·.gesso.trip) (fun _ => rfl) hk :)
  exact answers_of_inner _ hrule rfl (fun _ => rfl) ⟨hbsn, hcoord, hbuilt, htrip⟩

/-! ### Received frames (R569-R579, R610) -/

/-- A sound report in its own position, on time, without an alarm: the link of its transmitter and its own report are taken. -/
theorem exec_bbFrameReceived {p : Nat} {q : Position} {d : Int} {bytes : List Byte} {est : List (List Nat)} {lqDn : Byte}
    (hq : s.bb.beacon.slots[p]? = some q) (ht : q.tx < 2048) (hd : (domAvail s).getLsbD 7 = true) (hst : isStandby s = false)
    (hb : bbRuns s = true) (hfe : bbRxFes s ≠ []) (h0 : 0 ≤ d) (h4 : d ≤ 400) (hok : reportOk true bytes = true)
    (hk : rByte bytes 1 / 64 = 0) (hc : classOf (rByte bytes 6) = none) (hp : s.proof.running = false) :
    ∃ r, exec (.bbFrameReceived 1 p d true bytes est lqDn) s = finish s (setRun (rHalf bytes 0 % 2048) r
      (acceptReport (rHalf bytes 0 % 2048) 0 bytes lqDn (useReserve 5 0 1 (linkFrame q.tx est s)))) := by
  have hlow : ¬d < -1600 := by omega
  have hneg : ¬d < 0 := by omega
  have hlate : ¬400 < d := by omega
  have hearly : ¬d < -400 := by omega
  have hfe' : (bbRxFes s).isEmpty = false := List.isEmpty_eq_false_iff.2 hfe
  have hrule : exec (.bbFrameReceived 1 p d true bytes est lqDn) s = execBbFrameReceived 1 p d true bytes est lqDn s := rfl
  unfold execBbFrameReceived at hrule
  simp only [hq, ht, if_true, hd, hfe', hst, hb, hlow, hok, hneg, hlate, hearly, hk, hc, decide_false, Bool.and_false,
    Bool.or_false, Bool.not_true, Bool.false_eq_true, if_false, ite_self, senderOf] at hrule
  have hkeep : keep (parts [.bb, .clients, .store, .glaze])
      (acceptReport (rHalf bytes 0 % 2048) 0 bytes lqDn (useReserve 5 0 1 (linkFrame q.tx est s))) =
        keep (parts [.bb, .clients, .store, .glaze]) s := by simp
  have hproof : (acceptReport (rHalf bytes 0 % 2048) 0 bytes lqDn (useReserve 5 0 1 (linkFrame q.tx est s))).proof.running = false :=
    (kept_of_keep (·.proof.running) (fun _ => rfl) hkeep :).trans hp
  generalize acceptReport (rHalf bytes 0 % 2048) 0 bytes lqDn (useReserve 5 0 1 (linkFrame q.tx est s)) = x at hrule hproof ⊢
  have hhead (id : Nat) (ok : Bool) (code : Nat) (y : State) (hy : y.proof.running = false) : proofHeadAnswer id ok code y = y :=
    if_neg (by simp [hy])
  have h01 : ¬0 = 1 := Nat.zero_ne_one
  have h02 : ¬0 = 2 := by decide
  have h03 : ¬0 = 3 := by decide
  have h12 : ¬1 = 2 := by decide
  rw [if_neg h01, if_neg h02, if_neg h03, if_neg h12, hhead _ _ _ (setRun _ _ x) hproof, ite_self] at hrule
  exact ⟨_, hrule⟩

/-- The loss of admission leaves what waits for the next tick, and the channel's counts. -/
theorem loseAdmission_leaves (id : Nat) (u : State) :
    (loseAdmission id u).clients.updates = u.clients.updates ∧ (loseAdmission id u).bb.cnt = u.bb.cnt := by
  have hupd (x : State) (a lo n v : Nat) : (setCF id a lo n v x).clients.updates = x.clients.updates :=
    setC_clients (·.updates) (fun _ _ => rfl) ..
  have hs (tag : Byte) (a r : Nat) (x : State) :
      (svcDone tag a r x).clients.updates = x.clients.updates ∧ (svcDone tag a r x).bb.cnt = x.bb.cnt :=
    have hb : bare (svcDone tag a r x) = bare (svcReport tag a r x) := by simp [svcDone]
    ⟨(kept_of_bare (·.clients.updates) (fun _ => rfl) hb :), (kept_of_bare (·.bb.cnt) (fun _ => rfl) hb :)⟩
  have hyu := ((hupd _ 6 16 2 0).trans (hupd _ 0 15 1 0)).trans (hupd u 0 12 1 0)
  have hyb := congrArg (·.cnt) (((setCF_bb id 6 16 2 0 _).trans (setCF_bb id 0 15 1 0 _)).trans (setCF_bb id 0 12 1 0 u))
  unfold loseAdmission
  generalize setCF id 6 16 2 0 (setCF id 0 15 1 0 (setCF id 0 12 1 0 u)) = y at *
  split
  · dsimp only
    split
    · exact ⟨(hs ..).1.trans hyu, (hs ..).2.trans hyb⟩
    · exact ⟨hyu, hyb⟩
  · exact ⟨rfl, rfl⟩

/-- An acknowledged command leaves the queue, with its answer in the record. -/
def dropAcked (id : Nat) (seq : Byte) (q : QCmd) (ans n dlv : Nat) (x : State) : State :=
  let y := setW28 id ans n dlv seq { x with clients := { x.clients with queue := x.clients.queue.filter fun e => !decide (e = q) } }
  if q.code = 8 then loseAdmission id y else y

/-- The acknowledgement of a command leaves them too. -/
theorem cmdAcked_leaves (id : Nat) (seq : Byte) (u : State) :
    (cmdAcked id seq u).clients.updates = u.clients.updates ∧ (cmdAcked id seq u).bb.cnt = u.bb.cnt := by
  have hw (ans n dlv : Nat) (x : State) : (setW28 id ans n dlv seq x).clients.updates = x.clients.updates ∧
      (setW28 id ans n dlv seq x).bb.cnt = x.bb.cnt :=
    ⟨setW28_clients (·.updates) (fun _ _ => rfl) .., congrArg (·.cnt) (kept_of_keep (w := parts [.clients, .store]) (·.bb)
      (fun _ => rfl) (keep_setW28 id ans n dlv seq x ⟨rfl, rfl⟩))⟩
  have hdrop (x : State) (q : QCmd) (ans n dlv : Nat) : (dropAcked id seq q ans n dlv x).clients.updates = x.clients.updates ∧
      (dropAcked id seq q ans n dlv x).bb.cnt = x.bb.cnt := by
    obtain ⟨hu, hc⟩ := hw ans n dlv { x with clients := { x.clients with queue := x.clients.queue.filter fun e => !decide (e = q) } }
    unfold dropAcked
    split
    · exact ⟨(loseAdmission_leaves ..).1.trans hu, (loseAdmission_leaves ..).2.trans hc⟩
    · exact ⟨hu, hc⟩
  exact ⟨foldl_kept (·.clients.updates) (fun x q => (hdrop x q _ _ _).1) _ u,
    foldl_kept (·.bb.cnt) (fun x q => (hdrop x q _ _ _).2) _ u⟩

/-- An accepted report joins what the next tick brings to its client's record, and is counted. -/
theorem acceptReport_leaves (id kind : Nat) (b : List Byte) (lqDn : Byte) (u : State) :
    (acceptReport id kind b lqDn u).clients.updates = u.clients.updates ++
      [{ tick := tickNo u, id := id, counts := true, track := none
         writes := reportWrites u b kind ++ [(6, 0xFF00, BitVec.ofNat 32 (lqDn.toNat * 256)), (3, 0x8, 0)] }] ∧
      (acceptReport id kind b lqDn u).bb.cnt = (cntBb 1 1 u).bb.cnt ∧
      (acceptReport id kind b lqDn u).safety.alarms = u.safety.alarms := by
  obtain ⟨hu, hc⟩ := cmdAcked_leaves id (b.getD 8 0) (queueUpdate id
    (reportWrites u b kind ++ [(6, 0xFF00, BitVec.ofNat 32 (lqDn.toNat * 256)), (3, 0x8, 0)]) true none
    (evt 65 (cntBb 1 1 (setRun id { cRun u id with
      frameBsn := some u.bb.bsn.toNat
      mapDnNew := if kind = 2 then (cRun u id).mapDnNew else some (reportMap b), neigh := reportNeigh b, lqDn := lqDn
      report := some (reportWrites u b kind), silent := 0 } u))))
  have hs : keep (parts [.bb, .clients, .store, .glaze]) (acceptReport id kind b lqDn u) =
      keep (parts [.bb, .clients, .store, .glaze]) u := by simp
  exact ⟨hu, hc, (kept_of_keep (·.safety.alarms) (fun _ => rfl) hs :)⟩

theorem bbFrameReceived_accepts {p : Nat} {q : Position} {d : Int} {bytes : List Byte} {est : List (List Nat)} {lqDn : Byte}
    (hq : s.bb.beacon.slots[p]? = some q) (ht : q.tx < 2048) (hd : (domAvail s).getLsbD 7 = true) (hst : isStandby s = false)
    (hb : bbRuns s = true) (hfe : bbRxFes s ≠ []) (h0 : 0 ≤ d) (h4 : d ≤ 400) (hok : reportOk true bytes = true)
    (hk : rByte bytes 1 / 64 = 0) (hc : classOf (rByte bytes 6) = none) (hp : s.proof.running = false) :
    Answers (.bbFrameReceived 1 p d true bytes est lqDn) s fun t =>
      (∃ lq : Word, t.clients.updates = s.clients.updates ++
        [{ tick := tickNo s, id := q.tx, writes := [(6, 0xFF, lq)], counts := false, track := none },
         { tick := tickNo s, id := rHalf bytes 0 % 2048, counts := true, track := none
           writes := reportWrites s bytes 0 ++ [(6, 0xFF00, BitVec.ofNat 32 (lqDn.toNat * 256)), (3, 0x8, 0)] }]) ∧
      t.bb.cnt = tblSet (fun _ => 0) s.bb.cnt 1 (tblGet (fun _ => 0) s.bb.cnt 1 + 1) ∧ t.safety.alarms = s.safety.alarms := by
  obtain ⟨r, hrule⟩ := exec_bbFrameReceived (est := est) (lqDn := lqDn) hq ht hd hst hb hfe h0 h4 hok hk hc hp
  obtain ⟨hu, hcnt, hal⟩ := acceptReport_leaves (rHalf bytes 0 % 2048) 0 bytes lqDn (useReserve 5 0 1 (linkFrame q.tx est s))
  obtain ⟨lq, hlq⟩ : ∃ lq : Word, (useReserve 5 0 1 (linkFrame q.tx est s)).clients.updates = s.clients.updates ++
      [{ tick := tickNo s, id := q.tx, writes := [(6, 0xFF, lq)], counts := false, track := none }] := ⟨_, rfl⟩
  have htick : tickNo (useReserve 5 0 1 (linkFrame q.tx est s)) = tickNo s := rfl
  have hwrites : reportWrites (useReserve 5 0 1 (linkFrame q.tx est s)) bytes 0 = reportWrites s bytes 0 := rfl
  rw [hlq, htick, hwrites, List.append_assoc] at hu
  exact answers_of_inner _ hrule rfl (fun _ => rfl) ⟨⟨lq, hu⟩, hcnt, hal⟩

end

/-- Settles O51, with a lemma for each command of the channel. The own LQ of a client is an operand of the frame (log 21), and an
accepted frame's writes end its client's LINK_LOST (log 117): both are the model's choices. -/
theorem broadbandLine : Obligations.BroadbandLine := fun _ =>
  ⟨fun b => ⟨beaconImage_length b, beaconImage_load b, beaconImage_maskId b, beaconImage_netId b⟩,
    fun _ _ => beaconBoundary_opens, fun _ _ _ => maskChange_applies, maskChange_waits, fun _ _ _ _ => routeUpdateEffect_takes,
    fun _ => repeaterWithdrawn_withdraws, fun _ _ => bbTxRetry_counts, fun _ _ => bbNoisy_begins,
    fun _ _ _ _ _ _ hq ht hd _ => bbFrameReceived_accepts hq ht hd⟩

end Sys2Proof.Machine
end

section
/-!
PROOFS. Admission, records, commands and supervision of the clients (11_clients_and_capacity.md).
-/

namespace Sys2Proof.Machine

/-! ### Words of the records -/

section
variable {id w : Nat} {m v : Word} {u : State}

theorem setC_words (id w : Nat) (m v : Word) (u : State) : (setC id w m v u).clients.words =
    tblSet cBlank u.clients.words (32 * id + w) ((cWord u id w &&& ~~~m) ||| (v &&& m)) := by
  unfold setC
  dsimp only
  split <;> rfl

theorem cWord_setC_same (hw : tblWf cBlank u.clients.words = true) :
    cWord (setC id w m v u) id w = (cWord u id w &&& ~~~m) ||| (v &&& m) := by
  rw [cWord, setC_words, tblGet_tblSet_same hw]

theorem cWord_setC_other {i n : Nat} (h : 32 * i + n ≠ 32 * id + w) : cWord (setC id w m v u) i n = cWord u i n := by
  rw [cWord, setC_words, tblGet_tblSet_other _ h]
  rfl

theorem setC_wf (hw : tblWf cBlank u.clients.words = true) : tblWf cBlank (setC id w m v u).clients.words = true := by
  rw [setC_words]
  exact tblSet_wf hw ..

end

/-- A bit of a word written under a mask. -/
theorem getLsbD_masked (x m v : Word) {b : Nat} (hb : b < 32) :
    ((x &&& ~~~m) ||| (v &&& m)).getLsbD b = if m.getLsbD b then v.getLsbD b else x.getLsbD b := by
  rw [BitVec.getLsbD_or, BitVec.getLsbD_and, BitVec.getLsbD_and, BitVec.getLsbD_not, decide_eq_true hb]
  cases m.getLsbD b <;> simp

/-- The words of the records after a flag is set: written, unless the flag already is so. -/
theorem setClientFlag_words (id b : Nat) (f : Bool) (u : State) : (setClientFlag id b f u).clients.words =
    if (cWord u id 3).getLsbD b = f then u.clients.words else (setCF id 3 b 1 f.toNat u).clients.words := by
  unfold setClientFlag
  split
  · rfl
  · have hk (x : State) (n : Nat) : (logClient id (clientCause id n f x)).clients = x.clients := by
      have hb : bare (logClient id (clientCause id n f x)) = bare x := by simp [logClient, clientCause]
      exact (kept_of_bare (·.clients) (fun _ => rfl) hb :)
    exact congrArg (·.words) (hk ..)

theorem cWord_setClientFlag_other {id b i n : Nat} {f : Bool} {u : State} (h : 32 * i + n ≠ 32 * id + 3) :
    cWord (setClientFlag id b f u) i n = cWord u i n := by
  have hc : cWord (setCF id 3 b 1 f.toNat u) i n = cWord u i n := cWord_setC_other h
  rw [cWord, setClientFlag_words]
  split
  · rfl
  · exact hc

theorem setClientFlag_bb (id b : Nat) (f : Bool) (u : State) : (setClientFlag id b f u).bb = u.bb :=
  kept_of_keep (w := parts [.clients, .store]) (·.bb) (fun _ => rfl) (by simp)

section
variable {s : State}

/-! ### Admission -/

theorem admissionPhaseEnd_ends (ha : atBeacon s = true) (hp : s.clients.phaseLeft ≤ 1) (hn : s.bb.bsn.toNat < bsnNow s) :
    Answers .admissionPhaseEnd s fun t => bare t = bare { s with clients := { s.clients with phaseLeft := 0 } } :=
  answers_of_bare (congrArg (finish s) (if_pos (by simp [ha, hp, hn]))) fun _ ht _ => ht

/-- The loss of admission is counted; the client has no route and is no repeater in use. -/
theorem loseAdmission_drops {id : Nat} {u : State} (h : admitted u id = true) :
    (loseAdmission id u).clients.cnt = tblSet (fun _ => 0) u.clients.cnt 7 (tblGet (fun _ => 0) u.clients.cnt 7 + 1) ∧
      (loseAdmission id u).clients.run = tblSet (fun _ => ClientRun.blank) u.clients.run id
        { cRun u id with route := [], nextRoutes := [] } ∧
      (loseAdmission id u).bb.rpt = u.bb.rpt.filter fun i => i != id := by
  have hC {α : Type} (F : Clients → α) (hF : ∀ c ws, F { c with words := ws } = F c) :
      F (setCF id 6 16 2 0 (setCF id 0 15 1 0 (setCF id 0 12 1 0 u))).clients = F u.clients :=
    ((setC_clients F hF ..).trans (setC_clients F hF ..)).trans (setC_clients F hF ..)
  have hcnt := hC (·.cnt) fun _ _ => rfl
  have hrun := hC (·.run) fun _ _ => rfl
  have hbb := ((setCF_bb id 6 16 2 0 _).trans (setCF_bb id 0 15 1 0 _)).trans (setCF_bb id 0 12 1 0 u)
  have hs (tag : Byte) (a r : Nat) (x : State) : bare (svcDone tag a r x) = bare (svcReport tag a r x) := by simp [svcDone]
  unfold loseAdmission
  rw [if_pos h]
  generalize setCF id 6 16 2 0 (setCF id 0 15 1 0 (setCF id 0 12 1 0 u)) = y at *
  rw [← hcnt, ← hrun, ← hbb, show cRun u id = cRun y id from congrArg (tblGet (fun _ => ClientRun.blank) · id) hrun.symm]
  dsimp only
  split
  · exact ⟨(kept_of_bare (·.clients.cnt) (fun _ => rfl) (hs ..) :), (kept_of_bare (·.clients.run) (fun _ => rfl) (hs ..) :),
      (kept_of_bare (·.bb.rpt) (fun _ => rfl) (hs ..) :)⟩
  · exact ⟨rfl, rfl, rfl⟩

theorem clientDrop_drops {id : Fin 2048} (ha : admitted s id.val = true)
    (hq : fld (par s (parAddr 20 5)) 0 13 ≤ (cRun s id.val).silent) : Answers (.clientDrop id) s fun t =>
      t.clients.cnt = tblSet (fun _ => 0) s.clients.cnt 7 (tblGet (fun _ => 0) s.clients.cnt 7 + 1) ∧
      t.clients.run = tblSet (fun _ => ClientRun.blank) s.clients.run id.val { cRun s id.val with route := [], nextRoutes := [] } ∧
      t.bb.rpt = s.bb.rpt.filter fun i => i != id.val := by
  have hrule : exec (.clientDrop id) s = finish s (loseAdmission id.val (setClientFlag id.val 3 true s)) :=
    congrArg (finish s) (if_pos (by simp [ha, hq]))
  have hadm : admitted (setClientFlag id.val 3 true s) id.val = true := by
    rw [admitted, cWord_setClientFlag_other (by omega)]
    exact ha
  obtain ⟨h1, h2, h3⟩ := loseAdmission_drops hadm
  have hcnt : (setClientFlag id.val 3 true s).clients.cnt = s.clients.cnt := setClientFlag_clients (·.cnt) (fun _ _ => rfl) ..
  have hrun : (setClientFlag id.val 3 true s).clients.run = s.clients.run := setClientFlag_clients (·.run) (fun _ _ => rfl) ..
  have hr : cRun (setClientFlag id.val 3 true s) id.val = cRun s id.val := congrArg (tblGet (fun _ => ClientRun.blank) · id.val) hrun
  rw [hcnt] at h1
  rw [hrun, hr] at h2
  rw [setClientFlag_bb] at h3
  exact answers_of_inner _ hrule rfl (fun _ => rfl) ⟨h1, h2, h3⟩

/-- The words of the records after the loss of admission. -/
theorem loseAdmission_words (id : Nat) (u : State) : (loseAdmission id u).clients.words = if admitted u id = true then
    (setCF id 6 16 2 0 (setCF id 0 15 1 0 (setCF id 0 12 1 0 u))).clients.words else u.clients.words := by
  have hs (tag : Byte) (a r : Nat) (x : State) : bare (svcDone tag a r x) = bare (svcReport tag a r x) := by simp [svcDone]
  unfold loseAdmission
  split
  · generalize setCF id 6 16 2 0 (setCF id 0 15 1 0 (setCF id 0 12 1 0 u)) = y
    dsimp only
    split
    · exact (kept_of_bare (·.clients.words) (fun _ => rfl) (hs ..) :)
    · rfl
  · rfl

/-- A client that lost its admission is not admitted. -/
theorem loseAdmission_admitted {id : Nat} {u : State} (hw : tblWf cBlank u.clients.words = true) :
    (cWord (loseAdmission id u) id 0).getLsbD 12 = false ∧ tblWf cBlank (loseAdmission id u).clients.words = true := by
  have h1 : (cWord (setCF id 0 12 1 0 u) id 0).getLsbD 12 = false := by
    rw [setCF, cWord_setC_same hw]
    exact getLsbD_masked _ _ _ (by decide)
  have hw2 : tblWf cBlank (setCF id 0 12 1 0 u).clients.words = true := setC_wf hw
  have h2 : (cWord (setCF id 0 15 1 0 (setCF id 0 12 1 0 u)) id 0).getLsbD 12 = false := by
    rw [setCF, cWord_setC_same hw2]
    exact (getLsbD_masked _ _ _ (by decide)).trans h1
  have h3 : cWord (setCF id 6 16 2 0 (setCF id 0 15 1 0 (setCF id 0 12 1 0 u))) id 0 =
      cWord (setCF id 0 15 1 0 (setCF id 0 12 1 0 u)) id 0 := cWord_setC_other (by omega)
  rw [cWord, loseAdmission_words]
  split
  · exact ⟨(congrArg (·.getLsbD 12) h3).trans h2, setC_wf (setC_wf (setC_wf hw))⟩
  · next h => exact ⟨Bool.eq_false_of_not_eq_true h, hw⟩

theorem loseAdmission_forget (id : Nat) (u : State) : (loseAdmission id u).clients.forget = u.clients.forget := by
  have hC (x : State) (a lo n v : Nat) : (setCF id a lo n v x).clients.forget = x.clients.forget :=
    setC_clients (·.forget) (fun _ _ => rfl) ..
  have hy := ((hC _ 6 16 2 0).trans (hC _ 0 15 1 0)).trans (hC u 0 12 1 0)
  have hs (tag : Byte) (a r : Nat) (x : State) : bare (svcDone tag a r x) = bare (svcReport tag a r x) := by simp [svcDone]
  unfold loseAdmission
  generalize setCF id 6 16 2 0 (setCF id 0 15 1 0 (setCF id 0 12 1 0 u)) = y at *
  split
  · dsimp only
    split
    · exact (kept_of_bare (·.clients.forget) (fun _ => rfl) (hs ..) :).trans hy
    · exact hy
  · rfl

theorem fld_cleared (x : Word) : fld ((x &&& ~~~0xFFFF) ||| (0 &&& 0xFFFF)) 0 16 = 0 := by
  have h (w : Word) : fld w 0 16 = (w.extractLsb' 0 16).toNat := by simp [fld, BitVec.extractLsb'_toNat]
  rw [h]
  have hz : ((x &&& ~~~0xFFFF) ||| (0 &&& 0xFFFF)).extractLsb' 0 16 = 0 := by
    refine BitVec.eq_of_getLsbD_eq fun i hi => ?_
    have hm : ∀ j < 16, (0xFFFF : Word).getLsbD j = true := by decide
    rw [BitVec.getLsbD_extractLsb', Nat.zero_add, getLsbD_masked _ _ _ (by omega), hm i hi]
    simp
  rw [hz]
  rfl

/-- What the record of a client that is forgotten loses: its serial, its first service, its track and a flag. -/
def forgetRecord (id : Nat) (u : State) : State :=
  setClientFlag id 8 false (setCF id 0 16 2 0 (setC id 22 0xFFFFFFFF 0 (setC id 2 0xFFFF 0 (setC id 1 0xFFFFFFFF 0 u))))

theorem forgetRecord_clears {id : Nat} {u : State} (hw : tblWf cBlank u.clients.words = true)
    (ha : (cWord u id 0).getLsbD 12 = false) : cWord (forgetRecord id u) id 1 = 0 ∧ cFld (forgetRecord id u) id 2 0 16 = 0 ∧
      cWord (forgetRecord id u) id 22 = 0 ∧ admitted (forgetRecord id u) id = false := by
  have hw1 := setC_wf (id := id) (w := 1) (m := 0xFFFFFFFF) (v := 0) hw
  have hw2 := setC_wf (id := id) (w := 2) (m := 0xFFFF) (v := 0) hw1
  have hw3 := setC_wf (id := id) (w := 22) (m := 0xFFFFFFFF) (v := 0) hw2
  have hzero (x : Word) : (x &&& ~~~0xFFFFFFFF) ||| (0 &&& 0xFFFFFFFF) = 0 := by simp
  unfold forgetRecord admitted cFld setCF
  refine ⟨?_, ?_, ?_, ?_⟩
  · rw [cWord_setClientFlag_other (by omega), cWord_setC_other (by omega), cWord_setC_other (by omega), cWord_setC_other (by omega),
      cWord_setC_same hw, hzero]
  · rw [cWord_setClientFlag_other (by omega), cWord_setC_other (by omega), cWord_setC_other (by omega), cWord_setC_same hw1]
    exact fld_cleared _
  · rw [cWord_setClientFlag_other (by omega), cWord_setC_other (by omega), cWord_setC_same hw2, hzero]
  · rw [cWord_setClientFlag_other (by omega), cWord_setC_same hw3, getLsbD_masked _ _ _ (by decide), if_neg (by decide),
      cWord_setC_other (by omega), cWord_setC_other (by omega), cWord_setC_other (by omega)]
    exact ha

theorem admitForget_forgets {at_ id : Nat} (hf : s.clients.forget = some (at_, id)) (ht : tickPast s at_ = true)
    (hw : tblWf cBlank s.clients.words = true) : Answers .admitForget s fun t =>
      t.clients.forget = none ∧ cWord t id 1 = 0 ∧ cFld t id 2 0 16 = 0 ∧ cWord t id 22 = 0 ∧ admitted t id = false := by
  have hrule : exec .admitForget s = execAdmitForget s := rfl
  unfold execAdmitForget at hrule
  rw [hf] at hrule
  dsimp only at hrule
  rw [if_pos ht] at hrule
  have hC {α : Type} (F : Clients → α) (hF : ∀ c ws, F { c with words := ws } = F c) (u : State) :
      F (forgetRecord id u).clients = F u.clients := by
    unfold forgetRecord setCF
    rw [setClientFlag_clients F hF, setC_clients F hF, setC_clients F hF, setC_clients F hF, setC_clients F hF]
  obtain ⟨ha, hw1⟩ := loseAdmission_admitted (id := id) (u := { s with clients := { s.clients with forget := none } }) hw
  have hforget := loseAdmission_forget id { s with clients := { s.clients with forget := none } }
  generalize loseAdmission id { s with clients := { s.clients with forget := none } } = u at *
  exact answers_of_inner (forgetRecord id u) hrule rfl (fun _ => rfl)
    ⟨(hC (·.forget) (fun _ _ => rfl) u).trans hforget, forgetRecord_clears hw1 ha⟩

/-! ### Records -/

theorem clientRecordUpdate_writes {at_ id : Nat} {v : Word} {rest : List ClientUpd}
    (hu : s.clients.updates = { tick := at_, id := id, writes := [(4, 0xFFFFFFFF, v)], counts := false, track := none } :: rest)
    (ht : tickPast s at_ = true) (hl : cFld s id 9 0 16 = 0) (hd : cFld s id 8 16 16 = 0) :
    Answers .clientRecordUpdate s fun t =>
      bare t = bare (setC id 4 0xFFFFFFFF v { s with clients := { s.clients with updates := rest } }) := by
  have hrule : exec .clientRecordUpdate s = execClientRecordUpdate s := rfl
  unfold execClientRecordUpdate at hrule
  rw [hu] at hrule
  dsimp only at hrule
  have hwrite (u : State) : applyUpdate { tick := at_, id := id, writes := [(4, 0xFFFFFFFF, v)], counts := false, track := none } u =
      setC id 4 0xFFFFFFFF v u := by simp [applyUpdate, recordWrite]
  have heol (u : State) (h9 : cWord u id 9 = cWord s id 9) (h8 : cWord u id 8 = cWord s id 8) :
      eolCheck id (setC id 4 0xFFFFFFFF v u) = setC id 4 0xFFFFFFFF v u := by
    refine if_pos ⟨?_, ?_⟩
    · rw [cFld, cWord_setC_other (by omega), h9]
      exact hl
    · rw [cFld, cWord_setC_other (by omega), h8]
      exact hd
  rw [if_pos ht, hwrite, heol { s with clients := { s.clients with updates := rest } } rfl rfl] at hrule
  exact answers_of_bare hrule fun _ hb _ => hb

/-! ### Commands (R634) -/

/-- A refused command leaves the queue; the rest of it and what waits for the next tick stay. -/
theorem refuseQueued_queue (reason : Nat) (q : QCmd) (u : State) :
    (refuseQueued reason q u).clients.queue = u.clients.queue.filter (fun e => !decide (e = q)) ∧
      (refuseQueued reason q u).clients.updates = u.clients.updates := by
  have hi (x : State) (i : Nat) : (cntAdmit i (setIrq 10 x)).clients.queue = x.clients.queue ∧
      (cntAdmit i (setIrq 10 x)).clients.updates = x.clients.updates :=
    ⟨(kept_of_bare (·.clients.queue) (fun _ => rfl) (bare_setIrq 10 x) :),
      (kept_of_bare (·.clients.updates) (fun _ => rfl) (bare_setIrq 10 x) :)⟩
  exact ⟨(hi ..).1.trans (setW28_clients (·.queue) (fun _ _ => rfl) ..), (hi ..).2.trans (setW28_clients (·.updates) (fun _ _ => rfl) ..)⟩

/-- The commands that a test picks leave the queue. -/
theorem refuseAll_queue (reason : Nat) (p : QCmd → Bool) (u : State) :
    (refuseAll reason p u).clients.queue = u.clients.queue.filter (fun q => !p q) ∧
      (refuseAll reason p u).clients.updates = u.clients.updates := by
  have hfold (l : List QCmd) (x : State) : (l.foldl (fun st q => refuseQueued reason q st) x).clients.queue =
      x.clients.queue.filter fun e => !decide (e ∈ l) := by
    induction l generalizing x with
    | nil => simp
    | cons q l ih =>
      rw [List.foldl_cons, ih, (refuseQueued_queue ..).1, List.filter_filter]
      refine List.filter_congr fun e _ => ?_
      simp only [List.mem_cons, Bool.decide_or, Bool.not_or]
      exact Bool.and_comm ..
  refine ⟨(hfold _ u).trans (List.filter_congr fun e he => ?_), foldl_kept (·.clients.updates) (fun x q => (refuseQueued_queue _ q x).2) _ u⟩
  simp [List.mem_filter, he]

theorem commandAged_refuses (ha : atFrame s = true) : Answers .commandAged s fun t =>
    t.clients.queue = s.clients.queue.filter (fun q => !(q.sends == 0 &&
      ((q.cls == 2 && decide (q.frame + fld (par s (parAddr 20 2)) 0 16 < frameNo s)) ||
       (q.cls == 3 && decide (q.frame + fld (par s (parAddr 20 2)) 16 16 < frameNo s))))) ∧
    t.clients.updates = s.clients.updates :=
  answers_of_inner _ (congrArg (finish s) (if_pos ha)) rfl (fun _ => rfl) (refuseAll_queue 3 _ s)

/-- The same, with what waits for the next tick beside each command. -/
theorem commandAged_answers (ha : atFrame s = true) : Answers .commandAged s fun t =>
    t.clients.queue = s.clients.queue.filter fun q => !(q.sends == 0 &&
      ((q.cls == 2 && decide (q.frame + fld (par s (parAddr 20 2)) 0 16 < frameNo s)) ||
       (q.cls == 3 && decide (q.frame + fld (par s (parAddr 20 2)) 16 16 < frameNo s)))) ∧
    t.clients.updates = s.clients.updates := by
  obtain ⟨t, ht, hq, hu⟩ := commandAged_refuses ha
  exact ⟨t, ht, hq.trans (List.filter_congr fun q _ => by simp only [hu, and_true, Bool.decide_eq_true])⟩

/-! ### Supervision -/

theorem setClientFlag_superv {id : Nat} {u : State} (hw : tblWf cBlank u.clients.words = true) :
    (cWord (setClientFlag id 4 true u) id 3).getLsbD 4 = true := by
  rw [cWord, setClientFlag_words]
  split
  · next h => exact h
  · have hc : cWord (setCF id 3 4 1 1 u) id 3 = _ := cWord_setC_same hw
    exact (congrArg (·.getLsbD 4) hc).trans (getLsbD_masked _ _ _ (by decide))

theorem supervLost_flags {id : Fin 2048} {at_ : Nat} (hf : cFld s id.val 0 16 2 ≠ 0) (hz : (cRun s id.val).zcAt = some at_)
    (ht : at_ + fld (par s (parAddr 20 4)) 0 16 * sec ≤ now s) (hw : tblWf cBlank s.clients.words = true) :
    Answers (.supervLost id) s fun t => (cWord t id.val 3).getLsbD 4 = true ∧ t.clients.queue = s.clients.queue := by
  have hrule : exec (.supervLost id) s = execSupervLost id s := rfl
  unfold execSupervLost at hrule
  rw [hz] at hrule
  rw [if_pos ⟨hf, ht⟩] at hrule
  exact answers_of_inner _ hrule rfl (fun _ => rfl) ⟨setClientFlag_superv hw, setClientFlag_clients (·.queue) (fun _ _ => rfl) ..⟩

end

/-- Settles O52, with a lemma for each command. A command ages with the frame after its limit (log 117), which is the model's
choice. -/
theorem clientEvents : Obligations.ClientEvents := fun _ =>
  ⟨admissionPhaseEnd_ends, fun _ => clientDrop_drops, fun _ _ => admitForget_forgets, fun _ _ _ _ => clientRecordUpdate_writes,
    commandAged_answers, fun _ _ => supervLost_flags⟩

end Sys2Proof.Machine
end

section
/-!
PROOFS. Conversions, references, the arbiter, the result queue and the loop engine's registers (12_converters.md,
13_loop_engine.md).
-/

namespace Sys2Proof.Machine

section
variable {s : State}

/-! ### Tables of modulators and channels -/

theorem modulator_setMod {m : Nat} {d : Modulator} {u : State} (hw : tblWf (fun _ => Modulator.blank) u.conv.mods = true) :
    modulator (setMod m d u) m = d := tblGet_tblSet_same hw m d

theorem setMod_wf {m : Nat} {d : Modulator} {u : State} (hw : tblWf (fun _ => Modulator.blank) u.conv.mods = true) :
    tblWf (fun _ => Modulator.blank) (setMod m d u).conv.mods = true := tblSet_wf hw m d

/-- A second write of a row takes the place of a first that left the row listed. -/
theorem tblSet_tblSet_listed {α : Type} [DecidableEq α] {d : Nat → α} {k : Nat} {v w : α} (hv : v ≠ d k) :
    ∀ t : Tbl α, tblSet d (tblSet d t k v) k w = tblSet d t k w
  | [] => by simp [tblSet, hv]
  | (j, x) :: r => by
    have ih := tblSet_tblSet_listed hv (w := w) r
    by_cases h1 : k < j
    · simp [tblSet, hv, h1]
    · by_cases h2 : k = j
      · subst h2
        simp [tblSet, hv]
      · simp [tblSet, h1, h2, ih]

/-! ### Conversions -/

/-- A conversion begins on a modulator that runs none. -/
theorem beginConv_idle {m : Nat} {c : Conversion} {u : State} (hc : (modulator u m).conv = none) : ∃ d c', beginConv m c u = setMod m d u ∧
    d.conv = some c' ∧ c'.ch = c.ch ∧ c'.kind = c.kind ∧ c'.crit = c.crit ∧ c'.start = now u ∧ d.powered = true ∧ d.restart = none ∧
    d.want = (modulator u m).want := by
  have hab : abandon m u = u := by
    unfold abandon
    dsimp only
    rw [hc]
  have hwant (n : Nat) (d : Modulator) : (refPowered n d).want = d.want := by
    unfold refPowered
    split <;> rfl
  unfold beginConv
  rw [hab]
  exact ⟨_, _, rfl, rfl, rfl, rfl, rfl, rfl, rfl, rfl, hwant _ _⟩

theorem conversionBegin_begins {m : Fin 16} {ch k : Nat} (hw : tblWf (fun _ => Modulator.blank) s.conv.mods = true)
    (ha : atTick s = true) (hwant : (modulator s m.val).want = [(ch, false, k)]) (hk : k < tickNo s) (hch : chInService s ch = true)
    (hc : (modulator s m.val).conv = none) : Answers (.conversionBegin m) s fun t =>
      (modulator t m.val).want = [] ∧ (modulator t m.val).powered = true ∧
      ∃ c, (modulator t m.val).conv = some c ∧ c.ch = ch ∧ c.start = now s ∧
        c.kind = (if (chOrder s ch).getLsbD 8 then .cont else .single) := by
  have hpast : tickPast s k = true := by simp [tickPast, (Bool.and_eq_true_iff.1 ha).1, hk]
  have hrule : exec (.conversionBegin m) s = execConversionBegin m s := rfl
  unfold execConversionBegin at hrule
  dsimp only at hrule
  rw [hwant, hc] at hrule
  have hdue : [(ch, false, k)].filter (fun w => tickPast s w.2.2) = [(ch, false, k)] := by simp [hpast]
  have hleft : [(ch, false, k)].filter (fun w => !tickPast s w.2.2) = [] := by simp [hpast]
  rw [hdue, hleft] at hrule
  rw [if_pos ha] at hrule
  simp only [List.getLast?_singleton, List.length_singleton, Nat.sub_self] at hrule
  generalize hd : ({ modulator s m.val with conv := none, want := [], abort := _ } : Modulator) = d at hrule
  have hdw : d.want = [] := by rw [← hd]
  have hdc : d.conv = none := by rw [← hd]
  generalize hy : evtN (112 + m.val) 0 (setMod m.val d s) = y at hrule
  have hin : inner y = inner (setMod m.val d s) := by rw [← hy]; simp
  have hmod : modulator y m.val = d := (kept_of_inner (fun x => modulator x m.val) (fun _ => rfl) hin).trans (modulator_setMod hw)
  have hwf : tblWf (fun _ => Modulator.blank) y.conv.mods = true :=
    (kept_of_inner (fun x => tblWf (fun _ => Modulator.blank) x.conv.mods) (fun _ => rfl) hin).trans (setMod_wf hw)
  have hcy : chInService y ch = true := (kept_of_inner (fun x => chInService x ch) (fun _ => rfl) hin).trans hch
  have hoy : chOrder y ch = chOrder s ch := (kept_of_inner (fun x => chOrder x ch) (fun _ => rfl) hin).trans rfl
  have hny : now y = now s := (kept_of_inner now (fun _ => rfl) hin).trans rfl
  rw [if_pos hcy] at hrule
  simp only [Bool.false_and, Bool.false_eq_true, if_false] at hrule
  obtain ⟨d', c', he, hconv, hcch, hkind, -, hstart, hpow, -, hwant'⟩ := beginConv_idle (m := m.val)
    (c := chConversion y ch (if (chOrder y ch).getLsbD 8 then .cont else .single)) (u := y) (by rw [hmod]; exact hdc)
  rw [he] at hrule
  rw [hmod, hdw] at hwant'
  have hm : modulator (setMod m.val d' y) m.val = d' := modulator_setMod hwf
  exact answers_of_inner _ hrule rfl (fun _ => rfl)
    ⟨by rw [hm, hwant'], by rw [hm, hpow], c', by rw [hm, hconv], hcch, hstart.trans hny, by rw [hkind, ← hoy]; rfl⟩

theorem streamRestart_begins {m : Fin 16} {ch : Nat} (hw : tblWf (fun _ => Modulator.blank) s.conv.mods = true)
    (hr : (modulator s m.val).restart = some ch) (ha : atTick s = true) (hc : (modulator s m.val).conv = none)
    (hch : chInService s ch = true) (h8 : (chOrder s ch).getLsbD 8 = true) : Answers (.streamRestart m) s fun t =>
      (modulator t m.val).restart = none ∧
      ∃ c, (modulator t m.val).conv = some c ∧ c.ch = ch ∧ c.kind = .cont ∧ c.start = now s := by
  have hrule : exec (.streamRestart m) s = execStreamRestart m s := rfl
  unfold execStreamRestart at hrule
  dsimp only at hrule
  rw [hr, hc] at hrule
  dsimp only at hrule
  rw [if_pos (by simp [ha])] at hrule
  generalize hd : ({ modulator s m.val with conv := none, restart := none } : Modulator) = d at hrule
  have hdc : d.conv = none := by rw [← hd]
  rw [if_pos (show (chInService (setMod m.val d s) ch && (chOrder (setMod m.val d s) ch).getLsbD 8) = true from
    Bool.and_eq_true_iff.2 ⟨hch, h8⟩)] at hrule
  obtain ⟨d', c', he, hconv, hcch, hkind, -, hstart, -, hres, -⟩ := beginConv_idle (m := m.val)
    (c := chConversion (setMod m.val d s) ch .cont) (u := setMod m.val d s) (by rw [modulator_setMod hw]; exact hdc)
  rw [he] at hrule
  have hm : modulator (setMod m.val d' (setMod m.val d s)) m.val = d' := modulator_setMod (setMod_wf hw)
  exact answers_of_inner _ hrule rfl (fun _ => rfl) ⟨by rw [hm, hres], c', by rw [hm, hconv], hcch, hkind, hstart⟩

theorem arbiterResampleBegin_begins {ch : Nat} {j : Option Nat} {rest : List (Nat × Option Nat)}
    (hq : s.conv.arbWait = (ch, j) :: rest) (hat : ∀ k ∈ s.conv.arbAt.head?, k < tickNo s) (ha : atTick s = true)
    (harb : isArbiter s = true) (hc : (modulator s 15).conv = none) (hch : (modulator s (ch % 16)).conv = none) :
    Answers .arbiterResampleBegin s fun t => t.conv.arbWait = rest ∧ t.conv.arbCh = BitVec.ofNat 7 ch ∧
      ∃ d c, t.conv.mods = tblSet (fun _ => Modulator.blank) s.conv.mods 15 d ∧ d.conv = some c ∧ c.ch = ch ∧
        c.kind = .arbiter ∧ c.crit = j := by
  have hw : (s.conv.arbAt.head?.all fun t => decide (t < tickNo s)) = true := by
    simpa [Option.all_eq_true] using hat
  have hrule : exec .arbiterResampleBegin s = execArbiterResampleBegin s := rfl
  unfold execArbiterResampleBegin at hrule
  rw [hq] at hrule
  dsimp only at hrule
  rw [hw, hc, hch, if_pos (by simp [ha, harb])] at hrule
  generalize hu : ({ s with conv := { s.conv with arbWait := rest, arbAt := _, arbCh := _ } } : State) = u at hrule
  have hrest : u.conv.arbWait = rest := by rw [← hu]
  have harbCh : u.conv.arbCh = BitVec.ofNat 7 ch := by rw [← hu]
  have hmods : u.conv.mods = s.conv.mods := by rw [← hu]
  have hcu : (modulator u 15).conv = none := by rw [← hu]; exact hc
  obtain ⟨d, c, he, hconv, hcch, hkind, hcrit, -⟩ := beginConv_idle (c := _) hcu
  rw [he] at hrule
  exact answers_of_inner _ hrule rfl (fun _ => rfl)
    ⟨hrest, harbCh, d, c, congrArg (tblSet _ · 15 d) hmods, hconv, hcch, hkind, hcrit⟩

/-! ### Results -/

/-- What the channels and the modulators hold. -/
def chsMods (u : State) : Tbl ConvCh × Tbl Modulator := (u.conv.chs, u.conv.mods)

theorem judgeDf_conv (k : Nat) (u : State) : (judgeDf k u).conv = u.conv :=
  kept_of_keep (w := parts [.pads, .safety, .proof]) (·.conv) (fun _ => rfl) (by simp)

theorem critTrue_chsMods (j : Nat) (u : State) : chsMods (critTrue j u) = chsMods u := by
  unfold critTrue
  dsimp only
  split
  · rfl
  · split
    · rfl
    · simp only [chsMods, judgeDf_conv]
      rfl

theorem critResult_chsMods (code : Int) (valid : Bool) (j : Nat) (u : State) : chsMods (critResult code valid j u) = chsMods u := by
  have hjudge (k : Nat) (c : Criterion) : chsMods (judgeDf k (setCrit j c u)) = chsMods u := by
    simp only [chsMods, judgeDf_conv]
    rfl
  unfold critResult
  dsimp only
  split
  · exact hjudge _ _
  · split
    · exact hjudge _ _
    · exact hjudge _ _
    · split
      · exact hjudge _ _
      · generalize (if _ = 3 then _ - _ else _ - _ : Int) = change
        split
        · exact hjudge _ _
        · split
          · exact (critTrue_chsMods _ _).trans (hjudge _ _)
          · exact hjudge _ _

theorem coreResult_chsMods (ch : Nat) (code : Int) (flags : Byte) (u : State) :
    chsMods (coreResult ch code flags u) = chsMods u := by
  unfold coreResult
  dsimp only
  split
  · exact foldl_kept chsMods (fun x j => critResult_chsMods code _ j x) _ _
  · rfl

theorem setCh_same {ch : Nat} {d : ConvCh} {u : State} (hw : tblWf (fun _ => ConvCh.blank) u.conv.chs = true) :
    convCh (setCh ch d u) ch = d := tblGet_tblSet_same hw ch d

theorem evt_conv (src : Nat) (u : State) : (evt src u).conv = u.conv := rfl

theorem logPush_conv (code : Nat) (v : Word) (u : State) : (logPush code v u).conv = u.conv :=
  kept_of_inner (·.conv) (fun _ => rfl) (by simp)

/-- The watch on a swap leaves a channel's last result. -/
theorem swapCheck_last {ch : Nat} {cfg : Word} {under : Bool} {u : State} (hw : tblWf (fun _ => ConvCh.blank) u.conv.chs = true) :
    (convCh (swapCheck ch cfg under u) ch).last = (convCh u ch).last ∧ (swapCheck ch cfg under u).conv.mods = u.conv.mods := by
  unfold swapCheck
  dsimp only
  generalize (if under then _ else 0 : Nat) = run
  split
  · simp only [parPush, convCh, logPush_conv]
    exact ⟨(congrArg ConvCh.last (setCh_same hw) :), rfl⟩
  · exact ⟨(congrArg ConvCh.last (setCh_same hw) :), rfl⟩

theorem queueEntry_chsMods (code : Int) (ch : Nat) (arb : Bool) (flags : Byte) (vis : Nat) (u : State) :
    chsMods (queueEntry code ch arb flags vis u) = chsMods u := by
  unfold queueEntry
  dsimp only
  split
  · simp only [chsMods, logPush_conv]
  · rfl

/-- An entry of the result queue takes the next place and the next sequence number. -/
theorem queueEntry_moves (code : Int) (ch : Nat) (arb : Bool) (flags : Byte) (vis : Nat) (u : State) :
    (queueEntry code ch arb flags vis u).conv.head = u.conv.head + 1 ∧
    (queueEntry code ch arb flags vis u).conv.seq = u.conv.seq + 1 := by
  unfold queueEntry
  dsimp only
  split
  · simp only [logPush_conv, and_self]
  · exact ⟨rfl, rfl⟩

theorem modIdle_conv {m : Nat} {u : State} (hw : tblWf (fun _ => Modulator.blank) u.conv.mods = true) :
    (modulator (modIdle m u) m).conv = none := congrArg Modulator.conv (modulator_setMod hw)

theorem overrange_wf {m : Nat} {c : Conversion} {u : State} (hw : tblWf (fun _ => Modulator.blank) u.conv.mods = true) :
    tblWf (fun _ => Modulator.blank) (overrange m c u).conv.mods = true := setMod_wf hw

/-- What a result counts and queues beside its channel leaves the channels, and the table of modulators keeps its form. -/
theorem counted_chs {m : Nat} {c : Conversion} {code : Int} {flags : Byte} {vis : Nat} {ovr : Bool} {u : State}
    (hm : tblWf (fun _ => Modulator.blank) u.conv.mods = true) :
    let s2 := if ovr then overrange m c u else u
    let s3 := if c.que then queueEntry code c.ch false flags vis s2 else s2
    let s4 := evt (80 + m) (if ovr then evt (96 + m) s3 else s3)
    s4.conv.chs = u.conv.chs ∧ tblWf (fun _ => Modulator.blank) s4.conv.mods = true := by
  intro s2 s3 s4
  have h2 : s2.conv.chs = u.conv.chs ∧ tblWf (fun _ => Modulator.blank) s2.conv.mods = true := by
    cases ovr with
    | true => exact ⟨rfl, overrange_wf hm⟩
    | false => exact ⟨rfl, hm⟩
  have h3 : chsMods s3 = chsMods s2 := (apply_ite chsMods _ _ _).trans (by rw [queueEntry_chsMods, ite_self])
  have h4 : chsMods s4 = chsMods s3 :=
    kept_of_inner (s := s3) chsMods (fun _ => rfl) (by simp only [s4, inner_evt, inner_ite, ite_self])
  obtain ⟨hch, hmod⟩ := Prod.mk.inj (h4.trans h3)
  exact ⟨hch.trans h2.1, by rw [hmod]; exact h2.2⟩

/-- A delivered result is the channel's last; the table of modulators keeps its form. -/
theorem deliver_last {m : Nat} {c : Conversion} {v : Int} {ref : Nat} {ovl : Option Bool} {u : State}
    (hm : tblWf (fun _ => Modulator.blank) u.conv.mods = true) (hc : tblWf (fun _ => ConvCh.blank) u.conv.chs = true) :
    tblWf (fun _ => Modulator.blank) (deliver m c v ref ovl u).conv.mods = true ∧
    ∃ r, (convCh (deliver m c v ref ovl u) c.ch).last = some r ∧ r.code = (resultCode (if c.swapped then -v else v) ref ovl).1 := by
  generalize hcode : (resultCode (if c.swapped then -v else v) ref ovl).1 = code
  obtain ⟨d, under, flags, vis, ovr, he, hlast⟩ : ∃ (d : ConvCh) (under : Bool) (flags : Byte) (vis : Nat) (ovr : Bool),
      deliver m c v ref ovl u = coreResult c.ch code flags (swapCheck c.ch c.cfg under
        (let s2 := if ovr then overrange m c (setCh c.ch d u) else setCh c.ch d u
         let s3 := if c.que then queueEntry code c.ch false flags vis s2 else s2
         evt (80 + m) (if ovr then evt (96 + m) s3 else s3))) ∧ ∃ r, d.last = some r ∧ r.code = code := by
    subst hcode
    exact ⟨_, _, _, _, _, rfl, _, rfl, rfl⟩
  obtain ⟨hchs, hwf⟩ := counted_chs (m := m) (c := c) (code := code) (flags := flags) (vis := vis) (ovr := ovr)
    (u := setCh c.ch d u) hm
  dsimp only at he hchs hwf
  generalize evt (80 + m) _ = y at he hchs hwf
  have hy : tblWf (fun _ => ConvCh.blank) y.conv.chs = true := by rw [hchs]; exact tblSet_wf hc _ _
  obtain ⟨hl, hmods⟩ := swapCheck_last (ch := c.ch) (cfg := c.cfg) (under := under) hy
  obtain ⟨hcc, hcm⟩ := Prod.mk.inj (coreResult_chsMods c.ch code flags (swapCheck c.ch c.cfg under y))
  obtain ⟨r, hr, hrc⟩ := hlast
  have hd : convCh y c.ch = d := (congrArg (tblGet _ · c.ch) hchs).trans (setCh_same hc)
  rw [he]
  exact ⟨by rw [hcm, hmods]; exact hwf, r,
    (congrArg (fun q => (tblGet (fun _ => ConvCh.blank) q c.ch).last) hcc).trans (hl.trans (by rw [hd, hr])), hrc⟩

theorem convResultDelivery_single {m : Fin 16} {c : Conversion} {v : Int} {ref : Nat} {ovl : Option Bool}
    (hw : tblWf (fun _ => Modulator.blank) s.conv.mods = true) (hc : (modulator s m.val).conv = some c) (hk : c.kind = .single)
    (ht : lastSample c ≤ now s) (hchs : tblWf (fun _ => ConvCh.blank) s.conv.chs = true) :
    Answers (.convResultDelivery m v ref ovl) s fun t => (modulator t m.val).conv = none ∧
      ∃ r, (convCh t c.ch).last = some r ∧ r.code = (resultCode (if c.swapped then -v else v) ref ovl).1 := by
  have hrule : exec (.convResultDelivery m v ref ovl) s = execConvResultDelivery m v ref ovl s := rfl
  unfold execConvResultDelivery at hrule
  rw [hc] at hrule
  dsimp only at hrule
  rw [if_pos ⟨Or.inl hk, ht⟩, if_pos hk] at hrule
  obtain ⟨hwf, r, hr, hcode⟩ := deliver_last (m := m.val) (c := c) (v := v) (ref := ref) (ovl := ovl) hw hchs
  exact answers_of_inner _ hrule rfl (fun _ => rfl) ⟨modIdle_conv hwf, r, hr, hcode⟩

theorem openwireTestResult_tested {m : Fin 16} {c : Conversion} {v : Int} {ref : Nat} {ovl : Option Bool}
    (hw : tblWf (fun _ => Modulator.blank) s.conv.mods = true) (hc : (modulator s m.val).conv = some c) (hk : c.kind = .test)
    (ht : lastSample c ≤ now s) (hchs : tblWf (fun _ => ConvCh.blank) s.conv.chs = true) (hrec : inRecov s m.val c = false)
    (hlow : refLow s m.val c = false) :
    Answers (.openwireTestResult m v ref ovl) s fun t => (modulator t m.val).conv = none ∧ (convCh t c.ch).tested = true := by
  have hrule : exec (.openwireTestResult m v ref ovl) s = execOpenwireTestResult m v ref ovl s := rfl
  unfold execOpenwireTestResult at hrule
  rw [hc] at hrule
  dsimp only at hrule
  rw [if_pos ⟨hk, ht⟩, hrec, hlow] at hrule
  simp only [Bool.or_self, Bool.false_eq_true, if_false] at hrule
  generalize (resultCode (if c.swapped then -v else v) ref ovl).2 = ovr at hrule
  generalize (ovr && _ || _ : Bool) = opens at hrule
  generalize hs1 : (if ovr = true then evt (96 + m.val) (overrange m.val c s) else s) = s1 at hrule
  have h1 : s1.conv.chs = s.conv.chs ∧ tblWf (fun _ => Modulator.blank) s1.conv.mods = true := by
    subst hs1
    cases ovr with
    | true => exact ⟨rfl, overrange_wf hw⟩
    | false => exact ⟨rfl, hw⟩
  generalize hd : ({ convCh (modIdle m.val s1) c.ch with ow := opens, tested := true, owCnt := _ } : ConvCh) = d at hrule
  refine answers_of_inner (setCh c.ch d (modIdle m.val s1)) hrule (by simp only [inner_ite, inner_logPush, inner_setCause, ite_self])
    (fun _ => rfl) ⟨modIdle_conv h1.2, ?_⟩
  rw [setCh_same (u := modIdle m.val s1) (show tblWf _ s1.conv.chs = true by rw [h1.1]; exact hchs), ← hd]

/-- Where a sample of the arbiter goes: to its criterion, or to the proof run. -/
def judgedBy (crit : Option Nat) (ch : Nat) (code : Int) (flags : Byte) (impl : Bool) (u : State) : State :=
  match crit with | some j => coreArb j ch code flags u | none => proofArb ch impl u

theorem keep_judgedBy (crit : Option Nat) (ch : Nat) (code : Int) (flags : Byte) (impl : Bool) (u : State) :
    keep (parts [.pads, .safety, .proof]) (judgedBy crit ch code flags impl u) = keep (parts [.pads, .safety, .proof]) u := by
  cases crit with
  | some j => exact keep_coreArb j ch code flags u (by simp)
  | none => exact keep_proofArb ch impl u (by simp)

theorem arbiterResult_queued {c : Conversion} {v : Int} {ref : Nat} {ovl : Option Bool}
    (hw : tblWf (fun _ => Modulator.blank) s.conv.mods = true) (hc : (modulator s 15).conv = some c) (hk : c.kind = .arbiter)
    (ht : lastSample c ≤ now s) : Answers (.arbiterResult v ref ovl) s fun t =>
      (modulator t 15).conv = none ∧ t.conv.head = s.conv.head + 1 ∧ t.conv.seq = s.conv.seq + 1 := by
  have hrule : exec (.arbiterResult v ref ovl) s = execArbiterResult v ref ovl s := rfl
  unfold execArbiterResult at hrule
  rw [hc] at hrule
  dsimp only at hrule
  rw [if_pos ⟨hk, ht⟩] at hrule
  generalize (BitVec.ofNat 8 _ : Byte) = flags at hrule
  generalize (resultCode (if c.swapped then -v else v) ref ovl).2 = ovr at hrule
  generalize (resultCode (if c.swapped then -v else v) ref ovl).1 = code at hrule
  generalize hs1 : (if ovr = true then evt 111 (overrange 15 c s) else s) = s1 at hrule
  have h1 : s1.conv.head = s.conv.head ∧ s1.conv.seq = s.conv.seq ∧ tblWf (fun _ => Modulator.blank) s1.conv.mods = true := by
    subst hs1
    cases ovr with
    | true => exact ⟨rfl, rfl, overrange_wf hw⟩
    | false => exact ⟨rfl, rfl, hw⟩
  generalize hs2 : queueEntry code c.ch true flags (visibleAt c) (evt 95 (modIdle 15 s1)) = s2 at hrule
  have h2 : (modulator s2 15).conv = none ∧ s2.conv.head = s.conv.head + 1 ∧ s2.conv.seq = s.conv.seq + 1 := by
    subst hs2
    obtain ⟨hhead, hseq⟩ := queueEntry_moves code c.ch true flags (visibleAt c) (evt 95 (modIdle 15 s1))
    obtain ⟨-, hmods⟩ := Prod.mk.inj (queueEntry_chsMods code c.ch true flags (visibleAt c) (evt 95 (modIdle 15 s1)))
    rw [evt_conv] at hhead hseq hmods
    exact ⟨(congrArg (fun q => (tblGet (fun _ => Modulator.blank) q 15).conv) hmods).trans (modIdle_conv h1.2.2),
      hhead.trans (congrArg (· + 1) h1.1), hseq.trans (congrArg (· + 1) h1.2.1)⟩
  obtain ⟨impl, hrule⟩ : ∃ impl : Bool, exec (.arbiterResult v ref ovl) s = finish s (judgedBy c.crit c.ch code flags impl
    (if impl then { s2 with conv := { s2.conv with impl := s2.conv.impl + 1 } } else s2)) := ⟨_, hrule⟩
  refine answers_of_keep (parts [.pads, .safety, .proof]) _ hrule (keep_judgedBy _ _ _ _ _ _) (fun _ => rfl) ?_
  cases impl with
  | true => exact h2
  | false => exact h2

/-! ### References -/

theorem refSpans_spec (k : Nat) (was is : Bool) (d : Modulator) : ∃ f u, refSpans k was is d = { d with lowSince := f, lowUntil := u } ∧
    (is = false → f.isSome = true) := by
  refine ⟨_, _, rfl, fun h => ?_⟩
  rw [if_neg (by simp [h])]
  split <;> rfl

/-- A check of a reference writes its modulator's row once. -/
theorem referenceCheck_sets {m : Fin 16} {good fault : Bool} {g b : Nat} (ha : (domAvail s).getLsbD 6 = true)
    (hs : (modulator s m.val).refSince.isSome = true)
    (hg : g = if good then (modulator s m.val).goodRun + 1 else 0) (hb : b = if good then 0 else (modulator s m.val).badRun + 1)
    (hf : fault = if (modulator s m.val).refFault then decide (g < 16) else decide (3 ≤ b)) :
    ∃ f u, (fault = true → f.isSome = true) ∧ exec (.referenceCheck m good) s = finish s
      (let s2 := setMod m.val { modulator s m.val with
          lastGood := good, goodRun := g, badRun := b, refFault := fault, lowSince := f, lowUntil := u } s
       if fault = (modulator s m.val).refFault then s2
       else logPush 0x040 (BitVec.ofNat 32 (m.val + (if fault then 1 else 2) * 256)) (setCause (448 + m.val) 0 fault s2)) := by
  have hrule : exec (.referenceCheck m good) s = execReferenceCheck m good s := rfl
  unfold execReferenceCheck at hrule
  dsimp only at hrule
  rw [if_pos (by simp [ha, hs]), ← hg, ← hb, ← hf] at hrule
  generalize hd : ({ modulator s m.val with lastGood := good, goodRun := g, badRun := b, refFault := fault } : Modulator) = d at hrule
  have hsince : d.refSince.isSome = true := by rw [← hd]; exact hs
  have hne : d ≠ Modulator.blank := fun h => by rw [h] at hsince; cases hsince
  have hm : modulator (setMod m.val d s) m.val = d := tblGet_tblSet_listed hne _
  rw [hm] at hrule
  obtain ⟨f, u, hspan, hlow⟩ := refSpans_spec (now s) (refOk s m.val) (refOk (setMod m.val d s) m.val) d
  rw [hspan] at hrule
  have hset (e : Modulator) : setMod m.val e (setMod m.val d s) = setMod m.val e s :=
    congrArg (fun q => { s with conv := { s.conv with mods := q } }) (tblSet_tblSet_listed hne _)
  rw [hset] at hrule
  refine ⟨f, u, fun h => hlow ?_, ?_⟩
  · unfold refOk
    rw [hm, ← hd, h]
    simp
  · rw [hrule, ← hd]

theorem referenceCheck_good {m : Fin 16} (ha : (domAvail s).getLsbD 6 = true) (hs : (modulator s m.val).refSince.isSome = true)
    (hc : (modulator s m.val).conv = none) (hf : (modulator s m.val).refFault = false) : Answers (.referenceCheck m true) s fun t =>
      ∃ d, d.lastGood = true ∧ d.goodRun = (modulator s m.val).goodRun + 1 ∧ d.badRun = 0 ∧ d.refFault = false ∧ d.conv = none ∧
        bare t = bare (setMod m.val d s) := by
  obtain ⟨f, u, -, hrule⟩ := referenceCheck_sets (good := true) (fault := false) ha hs rfl rfl (by rw [hf]; rfl)
  dsimp only at hrule
  rw [if_pos hf.symm] at hrule
  refine answers_of_bare hrule fun _ hb _ => ⟨_, ?_, ?_, ?_, ?_, ?_, hb⟩
  exacts [rfl, rfl, rfl, rfl, hc]

theorem referenceCheck_bad {m : Fin 16} (ha : (domAvail s).getLsbD 6 = true) (hs : (modulator s m.val).refSince.isSome = true)
    (hf : (modulator s m.val).refFault = false) (h2 : 2 ≤ (modulator s m.val).badRun) : Answers (.referenceCheck m false) s fun t =>
      ∃ d, d.lastGood = false ∧ d.goodRun = 0 ∧ d.badRun = (modulator s m.val).badRun + 1 ∧ d.refFault = true ∧
        d.lowSince.isSome = true ∧ t.conv.mods = tblSet (fun _ => Modulator.blank) s.conv.mods m.val d := by
  obtain ⟨f, u, hlow, hrule⟩ := referenceCheck_sets (good := false) (fault := true) ha hs rfl rfl
    (by rw [hf]; simp only [Bool.false_eq_true, if_false]; exact (decide_eq_true (by omega)).symm)
  dsimp only at hrule
  rw [if_neg (by rw [hf]; exact Bool.noConfusion)] at hrule
  exact answers_of_inner _ hrule ((inner_logPush _ _ _).trans (inner_setCause _ _ _ _)) (fun _ => rfl)
    ⟨_, rfl, rfl, rfl, rfl, hlow rfl, rfl⟩

/-! ### The result queue and Pentimento's table -/

theorem exec_of_parRd (ho : BusOpen s) (hm : s.legacy.mode = false) {c : Instr} {a : Nat}
    (e : exec c s = finish s (onBus (parRd a) s)) :
    exec c s = finish s (readSide a (evt 282 (fetched (readParam (evt 280 s) a) (evt 280 s)))) :=
  e.trans (congrArg (finish s) (onBus_parRd_of_open ho a hm))

theorem readParam_qLo (u : State) : readParam u 0x2806 = (qEntry u).setWidth 32 := by
  have defined : isDefined 0x2806 = true := by decide
  unfold readParam
  rw [defined]
  rfl

theorem readParam_qHi (u : State) : readParam u 0x2807 = u.conv.hiLatch := by
  have defined : isDefined 0x2807 = true := by decide
  unfold readParam
  rw [defined]
  rfl

theorem readParam_tabData (u : State) : readParam u 0x40C1 = BitVec.ofInt 32 (tabGet u u.loop.tabAddr.toNat) := by
  have defined : isDefined 0x40C1 = true := by decide
  unfold readParam
  rw [defined]
  rfl

theorem convQLoRead_reads (ho : BusOpen s) (hm : s.legacy.mode = false) : Answers .convQLoRead s fun t =>
    t.host.dOut = (qEntry s).extractLsb' 0 16 ∧ t.host.hiLatch = (qEntry s).extractLsb' 16 16 ∧
    t.conv.hiLatch = (qEntry s).extractLsb' 32 32 ∧ t.conv.tail = s.conv.tail := by
  have hrule := exec_of_parRd (c := .convQLoRead) ho hm rfl
  rw [readParam_qLo] at hrule
  have hlow (x : DWord) : (x.setWidth 32).extractLsb' 0 16 = x.extractLsb' 0 16 := by ext; simp; omega
  have hhigh (x : DWord) : (x.setWidth 32).extractLsb' 16 16 = x.extractLsb' 16 16 := by ext; simp; omega
  exact answers_of_inner _ hrule rfl (fun _ => rfl) ⟨hlow _, hhigh _, rfl, rfl⟩

theorem convQHiRead_takes (ho : BusOpen s) (hm : s.legacy.mode = false) : Answers .convQHiRead s fun t =>
    t.host.dOut = s.conv.hiLatch.extractLsb' 0 16 ∧ t.host.hiLatch = s.conv.hiLatch.extractLsb' 16 16 ∧
    t.conv.tail = (if s.conv.head = s.conv.tail then s.conv.tail else s.conv.tail + 1) := by
  have hrule := exec_of_parRd (c := .convQHiRead) ho hm rfl
  rw [readParam_qHi] at hrule
  exact answers_of_inner _ hrule rfl (fun _ => rfl) ⟨rfl, rfl, rfl⟩

theorem pentTabDataRead_advances (ho : BusOpen s) (hm : s.legacy.mode = false) : Answers .pentTabDataRead s fun t =>
    t.host.dOut = (BitVec.ofInt 32 (tabGet s s.loop.tabAddr.toNat)).extractLsb' 0 16 ∧
    t.host.hiLatch = (BitVec.ofInt 32 (tabGet s s.loop.tabAddr.toNat)).extractLsb' 16 16 ∧
    t.loop.tabAddr = s.loop.tabAddr + 1 ∧ t.loop.table = s.loop.table := by
  have hrule := exec_of_parRd (c := .pentTabDataRead) ho hm rfl
  rw [readParam_tabData] at hrule
  exact answers_of_inner _ hrule rfl (fun _ => rfl) ⟨rfl, rfl, rfl, rfl⟩

/-- PENT.TAB_DATA's row. -/
def tabDataRow : PRow :=
  { first := 16577, last := 16577, staged := false, reset := 0
    fields := [{ lo := 0, w := 32, acc := .rw, min := 0, max := 4294967295 }] }

theorem inRange_tabData (v : Word) : inRange tabDataRow v = true := by
  have h := fld_le v 0 32
  norm_num at h
  simp [inRange, inShape, tabDataRow, parAddr, h]

theorem pentTabDataWrite_waits (v : Word) (ho : BusOpen s) (hm : s.legacy.mode = false) (hs : isStandby s = false) :
    Answers (.pentTabDataWrite v) s fun t =>
      t.loop = s.loop ∧ t.host.pctlRes = 0 ∧ t.host.imm = s.host.imm ++ [(tickNo s, 0x40C1, v)] := by
  have hmask : v &&& rowMask tabDataRow = v := by
    rw [show rowMask tabDataRow = BitVec.allOnes 32 from by decide, BitVec.and_allOnes]
  have hrule := exec_of_immWrite (c := .pentTabDataWrite v) (v := v) ho hm rfl (by decide) (r := tabDataRow) (by decide) hs
    (by decide) (by simp [tabDataRow]) hmask (inRange_tabData v) rfl
  obtain ⟨t, ht, hb⟩ := answers_of_immWait hrule (by decide)
  exact ⟨t, ht, (kept_of_bare (·.loop) (fun _ => rfl) hb :), (kept_of_bare (·.host.pctlRes) (fun _ => rfl) hb :),
    (kept_of_bare (·.host.imm) (fun _ => rfl) hb :)⟩

theorem immediateParamApply_tabData {at_ : Nat} {v : Word} (hi : s.host.imm = [(at_, 0x40C1, v)]) (ht : tickPast s at_ = true) :
    Answers .immediateParamApply s fun t => t.host.imm = [] ∧ t.loop.tabAddr = s.loop.tabAddr + 1 ∧
      t.loop.table = tblSet (fun _ => 0) s.loop.table s.loop.tabAddr.toNat (satI 24 (sgn v)) :=
  answers_of_inner (tabWrite v { s with host := { s.host with imm := [] } }) (exec_immediateParamApply_one hi ht (by decide)) rfl
    (fun _ => rfl) ⟨rfl, rfl, rfl⟩

theorem delay1Output_writes {n : Fin 512} {y : Int} {out k : Nat} (hp : (slot s n.val).pend = some (y, out, k)) (hk : k < tickNo s)
    (ha : atTick s = true) (hc : canvasRuns s = true) (hl : laneRuns s 2 = true) (hs : slotInService s n.val = true)
    (hd : slotDue s n.val = true) : Answers (.delay1Output n) s fun t =>
      bare t = bare (setSignal out (BitVec.ofInt 32 y) (setSlot n.val { slot s n.val with pend := none } s)) := by
  have hpast : tickPast s k = true := by simp [tickPast, (Bool.and_eq_true_iff.1 ha).1, hk]
  have hrule : exec (.delay1Output n) s = execDelay1Output n s := rfl
  rw [execDelay1Output, hp] at hrule
  dsimp only at hrule
  rw [if_pos (by simp [ha, hpast, hc, hl, hs, hd])] at hrule
  exact answers_of_bare hrule fun _ hb _ => hb

theorem pentWaitClear_clears {i : Fin 32} (h1 : (pent s i.val).started = true) (h2 : (pent s i.val).wait = true)
    (h3 : (pent s i.val).left = 0) : Answers (.pentWaitClear i) s fun t =>
      bare t = bare (setPent i.val { pent s i.val with wait := false } s) :=
  answers_of_bare (congrArg (finish s) (if_pos (by simp [h1, h2, h3]))) fun _ hb _ => hb

end

/-- Settles O53, rule by rule of chapters 12 and 13; that TAB_ADDR moves on together with the write's effect is the model's
choice (log 136). -/
theorem convertersAndLoop : Obligations.ConvertersAndLoop := fun _ =>
  ⟨fun hw _ => ⟨fun _ _ => conversionBegin_begins hw, fun _ _ _ _ => convResultDelivery_single hw,
      fun _ _ _ _ => openwireTestResult_tested hw, fun _ => streamRestart_begins hw, fun _ _ _ _ => arbiterResult_queued hw⟩,
    fun _ ha hs hc hf => ⟨referenceCheck_good ha hs hc hf, referenceCheck_bad ha hs hf⟩,
    fun _ _ _ => arbiterResampleBegin_begins, convQLoRead_reads, convQHiRead_takes, fun _ _ _ _ => delay1Output_writes,
    pentTabDataRead_advances, pentTabDataWrite_waits, fun _ _ => immediateParamApply_tabData, fun _ => pentWaitClear_clears⟩

end Sys2Proof.Machine
end

section
/-!
PROOFS. Samples, commutations, edges, faults and timed transitions of a drive channel (14_motor_drive.md).
-/

namespace Sys2Proof.Machine

/-! ### A drive channel's row -/

theorem drv_setDrv {m : Nat} {d : DrvChan} {u : State} (hw : tblWf (fun _ => DrvChan.blank) u.drive.chans = true) :
    drv (setDrv m d u) m = d := tblGet_tblSet_same hw m d

theorem setDrv_wf {m : Nat} {d : DrvChan} {u : State} (hw : tblWf (fun _ => DrvChan.blank) u.drive.chans = true) :
    tblWf (fun _ => DrvChan.blank) (setDrv m d u).drive.chans = true := tblSet_wf hw m d

/-- Channels agree where the drive's record does. -/
theorem drv_congr {u v : State} (h : u.drive = v.drive) (m : Nat) : drv u m = drv v m :=
  congrArg (fun q : Drive => tblGet (fun _ => DrvChan.blank) q.chans m) h

theorem drv_moveTo (u : State) (e m : Nat) : drv (moveTo u e) m = drv u m := drv_congr (moveTo_drive u e) m

theorem dPar_moveTo (u : State) (e a m : Nat) : dPar (moveTo u e) a m = dPar u a m := by
  unfold dPar par
  rw [moveTo_params]

/-- A new fault is one bit of the channel; the rest is reports. -/
theorem raiseFlt_drive (m bit : Nat) (u : State) : (raiseFlt m bit u).drive = (setDrv m { drv u m with
    flt := setBit (drv u m).flt bit true, failAt := if bit = 9 ∨ bit = 10 then some (now u) else (drv u m).failAt } u).drive := by
  unfold raiseFlt
  dsimp only
  refine (kept_of_inner (·.drive) (fun _ => rfl) ?_ :)
  simp only [inner_ite, inner_raiseCause, inner_logPush, inner_evt, ite_self]

theorem raiseFlt_drv {m bit : Nat} {u : State} (hw : tblWf (fun _ => DrvChan.blank) u.drive.chans = true) :
    ∃ f, drv (raiseFlt m bit u) m = { drv u m with flt := setBit (drv u m).flt bit true, failAt := f } :=
  ⟨_, (drv_congr (raiseFlt_drive m bit u) m).trans (drv_setDrv hw)⟩

theorem raiseFlt_wf {m bit : Nat} {u : State} (hw : tblWf (fun _ => DrvChan.blank) u.drive.chans = true) :
    tblWf (fun _ => DrvChan.blank) (raiseFlt m bit u).drive.chans = true := by
  rw [raiseFlt_drive]
  exact setDrv_wf hw

theorem goTo_of_undecided {m : Nat} {st : DrvState} {u : State} (h : (drv u m).next = none) :
    goTo m st u = setDrv m { drv u m with next := some (DrvNext.plain st) } u := by
  unfold goTo decideDrv
  dsimp only
  rw [h]

theorem decideDrv_of_undecided {m : Nat} {x : DrvNext} {u : State} (h : (drv u m).next = none) :
    decideDrv m x u = setDrv m { drv u m with next := some x } u := by
  unfold decideDrv
  dsimp only
  rw [h]

section
variable {s : State} {m : Fin 24}

/-! ### Samples -/

/-- With its bridge off a channel's samples are predicted, and nothing counts towards an overcurrent. -/
theorem pwmPeriodBoundary_predicts {k : Nat} {u v w : Int} (hk : k < (drv s m.val).perTick) (hl : drvLive s m.val = true)
    (hb : (drv s m.val).bridge = .off) (hst : (drv s m.val).st = .idle) (hoc : (drv s m.val).ocRun = [0, 0, 0]) :
    Answers (.pwmPeriodBoundary m k u v w) s fun t =>
      ∃ d a b c, t.drive.chans = tblSet (fun _ => DrvChan.blank) s.drive.chans m.val d ∧ d.pred = true ∧
        d.sets = ((t.time.easel, a, b, c) :: (drv s m.val).sets).take 12 ∧
        t.time.easel = (moveIn s (k * tickLen / (drv s m.val).perTick)).time.easel := by
  have hrule : exec (.pwmPeriodBoundary m k u v w) s = execPwmPeriodBoundary m k u v w s := rfl
  unfold execPwmPeriodBoundary at hrule
  dsimp only at hrule
  rw [if_pos ⟨hk, hl⟩] at hrule
  generalize [satI 12 u, satI 12 v, satI 12 w] = i at hrule
  have hdrv : drv (moveIn s (k * tickLen / (drv s m.val).perTick)) m.val = drv s m.val := drv_moveTo ..
  have hch : (moveIn s (k * tickLen / (drv s m.val).perTick)).drive = s.drive := moveIn_drive ..
  generalize moveIn s (k * tickLen / (drv s m.val).perTick) = y at hrule hdrv hch ⊢
  have hv (x : Nat) : sampleValid y m.val x = false := by
    unfold sampleValid
    dsimp only
    rw [hdrv, hb]
  have hov (i : List Int) : ocRuns y m.val [false, false, false] i = [0, 0, 0] := by
    simp [ocRuns, hdrv, hoc, List.range_succ]
  have hset (i o p : List Int) : ∃ c, sampleSet [false, false, false] i o p = (c, true) := ⟨_, rfl⟩
  obtain ⟨c, hc⟩ := hset i (setCodes y m.val 0) (setCodes y m.val 1)
  unfold boundarySet at hrule
  dsimp only at hrule
  rw [show (List.range 3).map (fun x => sampleValid y m.val x) = [false, false, false] by simp [hv, List.range_succ], hc, hov,
    hdrv, hst] at hrule
  dsimp only at hrule
  rw [if_neg (by decide)] at hrule
  exact answers_of_inner _ hrule rfl (fun _ => rfl) ⟨_, _, _, _, congrArg (fun q : Drive => tblSet _ q.chans m.val _) hch, rfl, rfl, rfl⟩

theorem bemfSample_first {k : Nat} {lv : BitVec 3} {u : State} (hk : k < (drv s m.val).perTick) (hl : drvLive s m.val = true)
    (hst : (drv s m.val).st = .ramp) (hr : (drv s m.val).raw = none)
    (hu : u = moveIn s ((2 * k + 1) * tickLen / (2 * (drv s m.val).perTick)))
    (hb : (drv s m.val).lastComm + (drv s m.val).t60 * fld (dPar s 0x048 m.val) 4 5 / 60 ≤ now u) :
    Answers (.bemfSample m k lv) s fun t => bare t = bare (setDrv m.val { drv s m.val with raw := some (now u, lv) } u) := by
  have hrule : exec (.bemfSample m k lv) s = execBemfSample m k lv s := rfl
  unfold execBemfSample at hrule
  dsimp only at hrule
  rw [if_pos ⟨hk, hl⟩, hst, ← hu] at hrule
  dsimp only at hrule
  have hdrv : drv u m.val = drv s m.val := hu ▸ drv_moveTo ..
  have hpar : dPar u 0x048 m.val = dPar s 0x048 m.val := hu ▸ dPar_moveTo ..
  unfold floatSample at hrule
  dsimp only at hrule
  rw [hdrv, hpar, if_neg (Nat.not_lt.2 hb), hr] at hrule
  exact answers_of_bare hrule fun _ hb _ => hb

/-! ### Commutations -/

theorem commutation_steps {at_ : Nat} (hc : (drv s m.val).comm = some at_) (hd : dueBy s at_ = true) (hl : drvLive s m.val = true)
    (hst : (drv s m.val).st = .run) : Answers (.commutation m) s fun t => t.time.easel = (moveTo s at_).time.easel ∧
      t.drive.chans = tblSet (fun _ => DrvChan.blank) s.drive.chans m.val
        { (drv s m.val).withBridge (if (drv s m.val).bridge = .off then .off
            else .six (nextSector (drv s m.val) (drv s m.val).sector)) (now (moveTo s at_)) with
          sector := nextSector (drv s m.val) (drv s m.val).sector, lastComm := at_, comm := none
          crossed := false, tried := false, raw := none, steps := (drv s m.val).steps + 1 } := by
  have hrule : exec (.commutation m) s = execCommutation m s := rfl
  unfold execCommutation at hrule
  dsimp only at hrule
  rw [hc] at hrule
  dsimp only at hrule
  rw [if_pos (by simp [hd, hl, hst]), hst, if_neg (by simp)] at hrule
  unfold commutate at hrule
  dsimp only at hrule
  rw [drv_moveTo] at hrule
  exact answers_of_inner _ hrule rfl (fun _ => rfl) ⟨rfl, congrArg (fun q : Drive => tblSet _ q.chans m.val _) (moveTo_drive s at_)⟩

theorem blindCommutation_steps (hw : tblWf (fun _ => DrvChan.blank) s.drive.chans = true) (hst : (drv s m.val).st = .run)
    (hwave : (drv s m.val).wave = 0) (hcr : (drv s m.val).crossed = false)
    (hd : dueBy s ((drv s m.val).lastComm + (drv s m.val).t60 * 3 / 2) = true) (hl : drvLive s m.val = true)
    (hmiss : (drv s m.val).misses + 1 < fld (dPar s 0x048 m.val) 9 4) : Answers (.blindCommutation m) s fun t =>
      (drv t m.val).misses = (drv s m.val).misses + 1 ∧
      (drv t m.val).sector = nextSector (drv s m.val) (drv s m.val).sector ∧
      (drv t m.val).lastComm = (drv s m.val).lastComm + (drv s m.val).t60 := by
  have hrule : exec (.blindCommutation m) s = execBlindCommutation m s := rfl
  unfold execBlindCommutation at hrule
  dsimp only at hrule
  rw [if_pos (by simp [hst, hwave, hcr, hd, hl])] at hrule
  generalize (drv s m.val).lastComm + (drv s m.val).t60 * 3 / 2 = e at hrule
  have hdrv := drv_moveTo s e m.val
  have hwy : tblWf (fun _ => DrvChan.blank) (moveTo s e).drive.chans = true := by rw [moveTo_drive]; exact hw
  generalize moveTo s e = y at hrule hdrv hwy
  obtain ⟨d, hcom, hsec, hlast⟩ : ∃ d, commutate m.val ((drv s m.val).lastComm + (drv s m.val).t60) y = setDrv m.val d y ∧
      d.sector = nextSector (drv s m.val) (drv s m.val).sector ∧ d.lastComm = (drv s m.val).lastComm + (drv s m.val).t60 :=
    ⟨_, rfl, by rw [hdrv], rfl⟩
  rw [hcom, drv_setDrv hwy] at hrule
  rw [if_neg (Nat.not_le.2 hmiss)] at hrule
  have hset {d' : DrvChan} : drv (setDrv m.val d' (setDrv m.val d y)) m.val = d' := drv_setDrv (setDrv_wf hwy)
  exact answers_of_inner _ hrule rfl (fun _ => rfl) ⟨by rw [hset], by rw [hset]; exact hsec, by rw [hset]; exact hlast⟩

/-! ### Edges, faults and timeouts -/

theorem hallSector_lt {c : BitVec 3} {k : Nat} (h : hallSector c = some k) : k < 6 := by
  unfold hallSector at h
  split at h <;> simp only [Option.some.injEq, reduceCtorEq] at h <;> omega

theorem hallEdge_forward {code : BitVec 3} {hold k k0 : Nat} (hw : tblWf (fun _ => DrvChan.blank) s.drive.chans = true)
    (hwave : (drv s m.val).wave = 1) (hl : drvLive s m.val = true) (hk : hallSector code = some k)
    (hk0 : hallSector (drv s m.val).hall = some k0) (hstep : k = (k0 + 1) % 6) : Answers (.hallEdge m code hold) s fun t =>
      (drv t m.val).sector = k ∧ (drv t m.val).hall = code ∧ (drv t m.val).lastComm = now s ∧
      (drv t m.val).revAct = false ∧ (drv t m.val).speed = (elecFreq (now s - (drv s m.val).fluxAt) : Int) := by
  have hone : (k + 6 - k0) % 6 = 1 := by
    have := hallSector_lt hk0
    omega
  have hrule : exec (.hallEdge m code hold) s = execHallEdge m code hold s := rfl
  unfold execHallEdge at hrule
  dsimp only at hrule
  rw [if_pos ⟨hwave, hl⟩, hk, hk0] at hrule
  dsimp only at hrule
  rw [hone, if_pos (Or.inl rfl)] at hrule
  obtain ⟨d, hd, hsec, hhall, hlast⟩ : ∃ d : DrvChan, exec (.hallEdge m code hold) s = finish s
      (measured m.val (now s - (drv s m.val).fluxAt) false (setDrv m.val d s)) ∧ d.sector = k ∧ d.hall = code ∧
      d.lastComm = now s := ⟨_, hrule, rfl, rfl, rfl⟩
  unfold measured at hd
  dsimp only at hd
  rw [drv_setDrv hw] at hd
  have hset {d' : DrvChan} : drv (setDrv m.val d' (setDrv m.val d s)) m.val = d' := drv_setDrv (setDrv_wf hw)
  exact answers_of_inner _ hd rfl (fun _ => rfl)
    ⟨by rw [hset, hsec], by rw [hset, hhall], by rw [hset, hlast], by rw [hset], by rw [hset]; rfl⟩

/-- Entry to HELD: no duty, and the bridge off. -/
theorem enterDrv_held {u : State} {n : Nat} (hw : tblWf (fun _ => DrvChan.blank) u.drive.chans = true) :
    (drv (enterDrv n (DrvNext.plain .held) u) n).st = .held ∧ (drv (enterDrv n (DrvNext.plain .held) u) n).bridge = .off ∧
    (drv (enterDrv n (DrvNext.plain .held) u) n).duty = limitDuty u n 0 ∧
    (drv (enterDrv n (DrvNext.plain .held) u) n).flt = (drv u n).flt := by
  obtain ⟨d, he, hst, hb, hd, hf⟩ : ∃ d : DrvChan, enterDrv n (DrvNext.plain .held) u = setDrv n d u ∧ d.st = .held ∧
      d.bridge = .off ∧ d.duty = limitDuty u n 0 ∧ d.flt = (drv u n).flt := ⟨_, rfl, rfl, rfl, rfl, rfl⟩
  rw [he, drv_setDrv hw]
  exact ⟨hst, hb, hd, hf⟩

theorem limitDuty_zero (u : State) (n : Nat) : limitDuty u n 0 = 0 := by
  have hcap : 0 ≤ dutyCap u n := by
    unfold dutyCap
    dsimp only
    split
    · exact Int.natCast_nonneg _
    · decide
  rw [limitDuty, clampI, if_neg (Int.lt_irrefl 0), if_neg (Int.not_lt.2 hcap)]

theorem ndfltAssert_holds (hw : tblWf (fun _ => DrvChan.blank) s.drive.chans = true) (hst : (drv s m.val).st ≠ .off)
    (hr : s.power.inReset = false) : Answers (.ndfltAssert m) s fun t =>
      (drv t m.val).st = .held ∧ (drv t m.val).bridge = .off ∧ (drv t m.val).duty = 0 ∧
      (drv t m.val).flt.getLsbD 0 = true := by
  have hrule : exec (.ndfltAssert m) s = execNdfltAssert m s := rfl
  unfold execNdfltAssert at hrule
  dsimp only at hrule
  rw [if_neg (by simp [hr]), if_neg hst] at hrule
  obtain ⟨f, hf⟩ := raiseFlt_drv (m := m.val) (bit := 0) hw
  obtain ⟨h1, h2, h3, h4⟩ := enterDrv_held (n := m.val) (raiseFlt_wf (m := m.val) (bit := 0) hw)
  refine answers_of_inner _ hrule rfl (fun _ => rfl) ⟨h1, h2, h3.trans (limitDuty_zero _ _), ?_⟩
  have hbit : (setBit (drv s m.val).flt 0 true).getLsbD 0 = true := (getLsbD_setBit _ 0 true (by decide)).trans (if_pos rfl)
  rw [faultHeld, h4, hf]
  exact hbit

theorem brakeTimeout_holds (hw : tblWf (fun _ => DrvChan.blank) s.drive.chans = true) (hst : (drv s m.val).st = .brake)
    (he : expired s ((drv s m.val).since + 4 * sec) = true) (hd : drvStep s m.val = true) (hn : (drv s m.val).next = none) :
    Answers (.brakeTimeout m) s fun t =>
      (drv t m.val).next = some (DrvNext.plain .held) ∧ (drv t m.val).flt.getLsbD 10 = true := by
  obtain ⟨f, hf⟩ := raiseFlt_drv (m := m.val) (bit := 10) hw
  have hrule : exec (.brakeTimeout m) s = execBrakeTimeout m s := rfl
  unfold execBrakeTimeout at hrule
  dsimp only at hrule
  rw [if_pos (by simp [hst, he, hd]), goTo_of_undecided (by rw [hf]; exact hn), hf] at hrule
  have hset {d' : DrvChan} : drv (setDrv m.val d' (raiseFlt m.val 10 s)) m.val = d' := drv_setDrv (raiseFlt_wf hw)
  refine answers_of_inner _ hrule rfl (fun _ => rfl) ⟨by rw [hset], ?_⟩
  have hbit : (setBit (drv s m.val).flt 10 true).getLsbD 10 = true := (getLsbD_setBit _ 10 true (by decide)).trans (if_pos rfl)
  rw [hset]
  exact hbit

theorem heldExit_idles {nDflt : Bool} (hw : tblWf (fun _ => DrvChan.blank) s.drive.chans = true) (hst : (drv s m.val).st = .held)
    (hp : nDflt = true) (hf : (drv s m.val).flt &&& heldFaults = 0) (hd : drvStep s m.val = true)
    (hn : (drv s m.val).next = none) : Answers (.heldExit m nDflt) s fun t =>
      (drv t m.val).next = some (DrvNext.plain .idle) ∧ (drv t m.val).st = .held := by
  have hrule : exec (.heldExit m nDflt) s = execHeldExit m nDflt s := rfl
  unfold execHeldExit at hrule
  dsimp only at hrule
  rw [if_pos (by simp [hst, hp, hf, hd]), goTo_of_undecided hn] at hrule
  exact answers_of_inner _ hrule rfl (fun _ => rfl) ⟨by rw [drv_setDrv hw], by rw [drv_setDrv hw]; exact hst⟩

theorem speedTimeout_clears (h : (drv s m.val).speedAt + 250 * ms ≤ now s) : Answers (.speedTimeout m) s fun t =>
    bare t = bare (setDrv m.val { drv s m.val with speed := 0 } s) :=
  answers_of_bare (congrArg (finish s) (if_pos (decide_eq_true h))) fun _ hb _ => hb

/-! ### Command inputs -/

theorem cmdinStaticTimeout_static {level : Bool} (hc : cmdClassOf s m.val = 1) (hr : canvasRuns s = true)
    (he : edgeFrom s m.val + 50 * ms ≤ now s) : Answers (.cmdinStaticTimeout m level) s fun t =>
      bare t = bare (setDrv m.val { drv s m.val with
        cmdin := { (drv s m.val).cmdin with static := true, level := level } } s) := by
  have hrule : exec (.cmdinStaticTimeout m level) s = execCmdinStaticTimeout m level s := rfl
  unfold execCmdinStaticTimeout at hrule
  rw [hc] at hrule
  dsimp only at hrule
  have hpass : passed s (edgeFrom s m.val) (50 * ms) = true := decide_eq_true he
  rw [if_pos (by simp [hr, hpass])] at hrule
  exact answers_of_bare hrule fun _ hb _ => hb

theorem cmdinAutoDetect_detects {period started : Nat} (hf : fld (cPar s 0 m.val) 2 3 = 3) (hr : canvasRuns s = true)
    (hd : (drv s m.val).cmdin.det = 3) (hs : s.power.canvasStarted = some started) (ht : started + 100 * ms ≤ now s) :
    Answers (.cmdinAutoDetect m period) s fun t => bare t = bare (setDrv m.val { drv s m.val with
      cmdin := { (drv s m.val).cmdin with det := shownClass s m.val period, cand := none } } s) := by
  have hrule : exec (.cmdinAutoDetect m period) s = execCmdinAutoDetect m period s := rfl
  unfold execCmdinAutoDetect at hrule
  dsimp only at hrule
  rw [if_pos ⟨hf, hr⟩, if_pos hd, hs] at hrule
  dsimp only at hrule
  have hpass : passed s started (100 * ms) = true := decide_eq_true ht
  rw [if_pos hpass] at hrule
  exact answers_of_bare hrule fun _ hb _ => hb

/-! ### Timed transitions -/

section
variable (hd : drvStep s m.val = true) (hn : (drv s m.val).next = none)
include hd hn

theorem catchEnd_atRest (hst : (drv s m.val).st = .catching) (he : expired s ((drv s m.val).since + 48 * ms) = true)
    (hm : motion (drv s m.val) = none) (hw : (drv s m.val).wave = 0) : Answers (.catchEnd m) s fun t =>
      bare t = bare (setDrv m.val { drv s m.val with
        next := some (DrvNext.plain (if (drv s m.val).kickStart then .kick else .align)) } s) := by
  have hrule : exec (.catchEnd m) s = execCatchEnd m s := rfl
  unfold execCatchEnd at hrule
  dsimp only at hrule
  rw [if_pos (by simp [hst, he, hd]), hm] at hrule
  dsimp only at hrule
  unfold atRest at hrule
  dsimp only at hrule
  rw [hw] at hrule
  simp only [goTo_of_undecided hn] at hrule
  exact answers_of_bare hrule fun _ hb _ => hb

theorem brakeExit_aligns (hst : (drv s m.val).st = .brake) (he : expired s ((drv s m.val).curCross +
    400000000 * 20 / (6 * max (ratedOf s m.val) 1)) = true) (hw : (drv s m.val).wave = 2) : Answers (.brakeExit m) s fun t =>
      bare t = bare (setDrv m.val { drv s m.val with next := some (DrvNext.plain .align) } s) := by
  have hrule : exec (.brakeExit m) s = execBrakeExit m s := rfl
  unfold execBrakeExit at hrule
  dsimp only at hrule
  rw [if_pos (by simp [hst, he, hd])] at hrule
  unfold atRest at hrule
  dsimp only at hrule
  rw [hw] at hrule
  simp only [goTo_of_undecided hn] at hrule
  exact answers_of_bare hrule fun _ hb _ => hb

theorem alignEnd_ramps (hst : (drv s m.val).st = .align)
    (he : expired s ((drv s m.val).since + fld (dPar s 0x060 m.val) 16 16 * ms) = true) (hw : (drv s m.val).wave ≠ 2) :
    Answers (.alignEnd m) s fun t => bare t = bare (setDrv m.val { drv s m.val with next := some (DrvNext.plain .ramp) } s) := by
  have hrule : exec (.alignEnd m) s = execAlignEnd m s := rfl
  unfold execAlignEnd at hrule
  dsimp only at hrule
  rw [if_pos (by simp [hst, he, hd]), if_neg hw, goTo_of_undecided hn] at hrule
  exact answers_of_bare hrule fun _ hb _ => hb

theorem rampHandover_runs (hst : (drv s m.val).st = .ramp)
    (he : expired s ((drv s m.val).since + fld (dPar s 0x078 m.val) 16 16 * ms) = true)
    (hv : fld (dPar s 0x090 m.val) 16 4 ≤ (drv s m.val).validAtTick) : Answers (.rampHandover m) s fun t =>
      ∃ x : DrvNext, bare t = bare (setDrv m.val { drv s m.val with next := some x } s) ∧ x.dst = .run ∧
        x.sector = (drv s m.val).sector ∧ x.t60 = (drv s m.val).t60 ∧ x.cross = (drv s m.val).lastCross := by
  have hrule : exec (.rampHandover m) s = execRampHandover m s := rfl
  unfold execRampHandover at hrule
  dsimp only at hrule
  rw [if_pos (by simp [hst, he, hd, hv]), decideDrv_of_undecided hn] at hrule
  refine answers_of_bare hrule fun _ hb _ => ⟨_, hb, ?_⟩
  exact ⟨rfl, rfl, rfl, rfl⟩

theorem rampTimeout_retries (hst : (drv s m.val).st = .ramp) (he : expired s ((drv s m.val).since +
      (fld (dPar s 0x078 m.val) 16 16 * ms + fld (dPar s 0x090 m.val) 20 12 * ms)) = true)
    (hr : (drv s m.val).retry + 1 ≤ fld (dPar s 0x0C0 m.val) 20 3) : Answers (.rampTimeout m) s fun t =>
      bare t = bare (setDrv m.val { (drv s m.val).withBridge .off (now s) with
        failed := (drv s m.val).failed + 1, retry := (drv s m.val).retry + 1, next := some (DrvNext.plain .pause) } s) := by
  have hrule : exec (.rampTimeout m) s = execRampTimeout m s := rfl
  unfold execRampTimeout at hrule
  dsimp only at hrule
  rw [if_pos (by simp [hst, he, hd, hn])] at hrule
  unfold retryDrv at hrule
  dsimp only at hrule
  rw [if_pos hr] at hrule
  exact answers_of_bare hrule fun _ hb _ => hb

theorem kickPulseEnd_listens (hst : (drv s m.val).st = .kick) (hl : (drv s m.val).listening = false)
    (he : expired s ((drv s m.val).lastComm + fld (dPar s 0x0C0 m.val) 0 8 * 4000) = true) :
    Answers (.kickPulseEnd m) s fun t => ∃ x : DrvNext, x.dst = .kick ∧ x.sector = (drv s m.val).pulse ∧ x.t60 = 1 ∧
      bare t = bare (setDrv m.val { drv s m.val with next := some x } s) := by
  have hrule : exec (.kickPulseEnd m) s = execKickPulseEnd m s := rfl
  unfold execKickPulseEnd at hrule
  dsimp only at hrule
  rw [if_pos (by simp [hst, hl, he, hd]), decideDrv_of_undecided hn] at hrule
  refine answers_of_bare hrule fun _ hb _ => ⟨_, ?_, ?_, ?_, hb⟩
  exacts [rfl, rfl, rfl]

theorem kickListenEnd_pulses (hst : (drv s m.val).st = .kick) (hl : (drv s m.val).listening = true)
    (hh : (drv s m.val).hitAtTick = none) (hf : (drv s m.val).failedAtTick = false)
    (he : expired s ((drv s m.val).lastComm + fld (dPar s 0x0C0 m.val) 8 8 * ms) = true)
    (hp : (drv s m.val).pulse + 1 < fld (dPar s 0x0C0 m.val) 16 4) : Answers (.kickListenEnd m) s fun t =>
      ∃ x : DrvNext, x.dst = .kick ∧ x.sector = (drv s m.val).pulse + 1 ∧
        bare t = bare (setDrv m.val { drv s m.val with next := some x } s) := by
  have hsame : kickDecide m.val s = s := by
    unfold kickDecide
    dsimp only
    rw [hh, hf]
    rfl
  have hrule : exec (.kickListenEnd m) s = execKickListenEnd m s := rfl
  unfold execKickListenEnd at hrule
  dsimp only at hrule
  rw [if_pos (by simp [hst, hl, he, hd, hn]), hsame, hn, if_neg (by simp), if_pos hp, decideDrv_of_undecided hn] at hrule
  refine answers_of_bare hrule fun _ hb _ => ⟨_, ?_, ?_, hb⟩
  exacts [rfl, rfl]

theorem pauseEnd_catches (hst : (drv s m.val).st = .pause)
    (he : expired s ((drv s m.val).since + fld (dPar s 0x0C0 m.val) 24 8 * 100 * ms) = true) : Answers (.pauseEnd m) s fun t =>
      bare t = bare (setDrv m.val { drv s m.val with next := some (DrvNext.plain .catching) } s) := by
  have hrule : exec (.pauseEnd m) s = execPauseEnd m s := rfl
  unfold execPauseEnd at hrule
  dsimp only at hrule
  rw [if_pos (by simp [hst, he, hd]), goTo_of_undecided hn] at hrule
  exact answers_of_bare hrule fun _ hb _ => hb

end

theorem retryReset_clears (hst : (drv s m.val).st = .run) (he : expired s ((drv s m.val).since + 10 * sec) = true)
    (hd : drvStep s m.val = true) :
    Answers (.retryReset m) s fun t => bare t = bare (setDrv m.val { drv s m.val with retry := 0 } s) :=
  answers_of_bare (congrArg (finish s) (if_pos (by simp [hst, he, hd]))) fun _ hb _ => hb

end

/-- Settles O54, rule by rule of chapter 14; the last commutation of a blind one is the model's reading of R804 (log 34). -/
theorem driveEvents : Obligations.DriveEvents := fun _ _ =>
  ⟨fun _ _ _ _ => pwmPeriodBoundary_predicts, fun _ _ _ => bemfSample_first, fun _ => commutation_steps,
    fun hw => ⟨blindCommutation_steps hw, fun _ _ _ _ => hallEdge_forward hw, ndfltAssert_holds hw, brakeTimeout_holds hw,
      fun _ => heldExit_idles hw⟩,
    speedTimeout_clears, fun _ => cmdinStaticTimeout_static, fun _ _ => cmdinAutoDetect_detects,
    fun hd hn => ⟨catchEnd_atRest hd hn, brakeExit_aligns hd hn, alignEnd_ramps hd hn, rampHandover_runs hd hn,
      rampTimeout_retries hd hn, kickPulseEnd_listens hd hn, kickListenEnd_pulses hd hn, pauseEnd_catches hd hn⟩,
    retryReset_clears⟩

end Sys2Proof.Machine
end

section
/-!
PROOFS. Tach edges, supervisor timeouts, patterns, chirps and load flags (15_fans_relays_sounders.md).
-/

namespace Sys2Proof.Machine

/-! ### Reports leave the loads -/

theorem logPush_fans (code : Nat) (v : Word) (u : State) : (logPush code v u).fans = u.fans := by
  unfold logPush logAt
  split <;> rfl

theorem setIrq_fans (b : Nat) (u : State) : (setIrq b u).fans = u.fans := by
  have hc (x y : State) : (countIrq x y).fans = y.fans := by
    unfold countIrq
    split <;> rfl
  have hl : (setLstat b u).fans = u.fans := by
    unfold setLstat
    split
    · exact hc ..
    · rfl
  unfold setIrq
  refine (hc ..).trans ?_
  dsimp only
  split
  · exact hl
  · rfl

theorem latchWake_fans (c : Nat) (u : State) : (latchWake c u).fans = u.fans := by
  unfold latchWake
  split <;> rfl

theorem hubBcast_fans (code : Nat) (u : State) : (hubBcast code u).fans = u.fans := by
  unfold hubBcast
  split <;> rfl

theorem raiseCause_fans (code src : Nat) (e : Bool) (u : State) : (raiseCause code src e u).fans = u.fans := by
  have hreport (x : State) : (evt 348 (latchWake 4 (setIrq 1 (hubBcast code x)))).fans = x.fans := by
    change (latchWake 4 (setIrq 1 (hubBcast code x))).fans = _
    rw [latchWake_fans, setIrq_fans, hubBcast_fans]
  unfold raiseCause
  dsimp only
  split
  · rfl
  · split
    · split
      · exact hreport _
      · exact (logPush_fans ..).trans (hreport _)
    · rfl

theorem chirpSettle_fans (u : State) : (chirpSettle u).fans = u.fans := by
  obtain ⟨c, hc⟩ := chirpSettle_eq u
  rw [hc]

theorem dropCause_fans (code src : Nat) (u : State) : (dropCause code src u).fans = u.fans := by
  unfold dropCause
  dsimp only
  split
  · rw [chirpSettle_fans, apply_ite State.fans, hubBcast_fans, ite_self, apply_ite State.fans, logPush_fans, ite_self]
  · rfl

section
variable {s : State}

/-! ### Fans -/

theorem fan_setFan {f : Nat} {d : Fan} {u : State} (hw : tblWf (fun _ => Fan.blank) u.fans.chans = true) :
    fan (setFan f d u) f = d := tblGet_tblSet_same hw f d

theorem decideFan_of_undecided {f : Nat} {st : FanState} {u : State} (h : (fan u f).next = none) :
    decideFan f st u = setFan f { fan u f with next := some st } u := by
  unfold decideFan
  dsimp only
  rw [h]

section
variable {f : Fin 48}

theorem tachEdge_times (hm : fanMotor s f.val = none) : Answers (.tachEdge f) s fun t =>
    bare t = bare (setFan f.val { fan s f.val with
      edges := (now s :: (fan s f.val).edges).take 4
      openEdges := if (fan s f.val).st = .openLoop then (now s :: (fan s f.val).openEdges).take 4
        else (fan s f.val).openEdges } s) :=
  answers_of_bare (congrArg (finish s) (if_neg (by simp [hm]))) fun _ hb _ => hb.trans (bare_evt _ _)

theorem tachLineTestPhase_lowers {mv : Nat} {lt : LineTest} (ht : (fan s f.val).test = some lt) (hst : (fan s f.val).st = .test)
    (hp : lt.phase = 0) (hat : lt.at_ + ms < (tickNo s + 1) * tickLen) : Answers (.tachLineTestPhase f mv) s fun t =>
      bare t = bare (moveTo (setFan f.val { fan s f.val with test := some { lt with
        phase := 1, at_ := lt.at_ + ms, low := decide (mv < 1000) } } s) (lt.at_ + ms)) := by
  have hcur : ((tachCurrent s f.val).isSome || isStandby s) = true := by
    unfold tachCurrent
    rw [ht]
    cases isStandby s <;> simp [hst, hp]
  have hrule : exec (.tachLineTestPhase f mv) s = execTachLineTestPhase f mv s := rfl
  unfold execTachLineTestPhase at hrule
  dsimp only at hrule
  rw [ht] at hrule
  dsimp only at hrule
  rw [hcur, if_pos (by simp [hst, hp, hat]), if_pos hp] at hrule
  exact answers_of_bare hrule fun _ hb _ => hb

theorem fanWaitEnd_starts (hst : (fan s f.val).st = .wait) (hn : (fan s f.val).next = none)
    (he : expired s ((fan s f.val).since + tRetry s f.val) = true) (hd : fanStep s f.val = true)
    (ha : (fan s f.val).attempts ≤ nRetry s f.val) : Answers (.fanWaitEnd f) s fun t =>
      bare t = bare (setFan f.val { fan s f.val with next := some .start } s) := by
  have hrule : exec (.fanWaitEnd f) s = execFanWaitEnd f s := rfl
  unfold execFanWaitEnd at hrule
  dsimp only at hrule
  rw [if_pos (by simp [hst, hn, he, hd]), if_pos ha, decideFan_of_undecided hn] at hrule
  exact answers_of_bare hrule fun _ hb _ => hb

theorem fanAttemptReset_clears (hst : (fan s f.val).st = .run) (he : expired s ((fan s f.val).since + 60 * sec) = true)
    (hd : fanStep s f.val = true) :
    Answers (.fanAttemptReset f) s fun t => bare t = bare (setFan f.val { fan s f.val with attempts := 0 } s) :=
  answers_of_bare (congrArg (finish s) (if_pos (by simp [hst, he, hd]))) fun _ hb _ => hb

theorem fanBlockedExit_idles (hst : (fan s f.val).st = .blocked) (h0 : (fan s f.val).etgt = 0) (hd : fanStep s f.val = true)
    (hn : (fan s f.val).next = none) : Answers (.fanBlockedExit f) s fun t =>
      bare t = bare (setFan f.val { fan s f.val with next := some .idle } s) :=
  answers_of_bare (congrArg (finish s) ((if_pos (by simp [hst, h0, hd])).trans (decideFan_of_undecided hn))) fun _ hb _ => hb

theorem fanStartTimeout_tests (hw : tblWf (fun _ => Fan.blank) s.fans.chans = true) (hn : (fan s f.val).next = none)
    (hm : fanMotor s f.val = none) (hd : fanStep s f.val = true) (hst : (fan s f.val).st = .start)
    (hno : ∀ e ∈ edgesBy s f.val (tickStart s), e < (fan s f.val).since)
    (he : expired s ((fan s f.val).since + tStart s f.val) = true) : Answers (.fanStartTimeout f) s fun t =>
      (fan t f.val).attempts = (fan s f.val).attempts + 1 ∧ (fan t f.val).failed = (fan s f.val).failed + 1 ∧
      (fan t f.val).next = some .test ∧ (fan t f.val).st = .start := by
  have hedge : ((edgesBy s f.val (tickStart s)).any fun t => decide ((fan s f.val).since ≤ t)) = false := by
    simpa using hno
  have hrule : exec (.fanStartTimeout f) s = execFanStartTimeout f s := rfl
  unfold execFanStartTimeout at hrule
  dsimp only at hrule
  rw [hedge, if_pos (by simp [hst, hn, hm, he, hd]), decideFan_of_undecided (by rw [fan_setFan hw]; exact hn), fan_setFan hw] at hrule
  have hset {d d' : Fan} : fan (setFan f.val d' (setFan f.val d s)) f.val = d' := fan_setFan (tblSet_wf hw _ _)
  exact answers_of_inner _ hrule rfl (fun _ => rfl) ⟨by rw [hset], by rw [hset], by rw [hset], by rw [hset]; exact hst⟩

theorem fanStallTimeout_tests (hw : tblWf (fun _ => Fan.blank) s.fans.chans = true) (hn : (fan s f.val).next = none)
    (hm : fanMotor s f.val = none) (hd : fanStep s f.val = true) (hst : (fan s f.val).st = .run)
    (hno : (fan s f.val).edges = []) (he : expired s ((fan s f.val).since + tStall s f.val) = true) (ho : 0 < fanOut s f.val) :
    Answers (.fanStallTimeout f) s fun t => (fan t f.val).next = some .test ∧ (fan t f.val).afterAttempt = false ∧
      (fan t f.val).attempts = (fan s f.val).attempts := by
  have hstall : stalled s f.val = true := by simp [stalled, edgesBy, hno, hst, hm, he, ho]
  have hrule : exec (.fanStallTimeout f) s = execFanStallTimeout f s := rfl
  unfold execFanStallTimeout at hrule
  dsimp only at hrule
  rw [hstall, if_pos (by simp [hn, hd]), decideFan_of_undecided (by rw [fan_setFan hw]; exact hn), fan_setFan hw] at hrule
  have hset {d d' : Fan} : fan (setFan f.val d' (setFan f.val d s)) f.val = d' := fan_setFan (tblSet_wf hw _ _)
  exact answers_of_inner _ hrule rfl (fun _ => rfl) ⟨by rw [hset], by rw [hset], by rw [hset]⟩

end

/-! ### Sounders -/

theorem alarmPatternInterval_moves {at_ : Nat} (hc : s.pads.cycleStart = some at_)
    (ht : at_ + intervalEnd s.pads.interval < (tickNo s + 1) * tickLen) : Answers .alarmPatternInterval s fun t =>
      t.pads.interval = (s.pads.interval + 1) % 6 ∧
      t.pads.cycleStart = some (if (s.pads.interval + 1) % 6 = 0 then at_ + 4 * sec else at_) ∧
      t.time.easel = (moveTo s (at_ + intervalEnd s.pads.interval)).time.easel := by
  have hrule : exec .alarmPatternInterval s = execAlarmPatternInterval s := rfl
  unfold execAlarmPatternInterval at hrule
  rw [hc] at hrule
  dsimp only at hrule
  rw [if_pos ht] at hrule
  generalize moveTo s (at_ + intervalEnd s.pads.interval) = y at hrule ⊢
  refine answers_of_bare hrule fun t hb _ => ?_
  have hk : bare t = bare { y with pads := { y.pads with
      interval := (s.pads.interval + 1) % 6
      cycleStart := some (if (s.pads.interval + 1) % 6 = 0 then at_ + 4 * sec else at_) } } := by
    refine hb.trans ((apply_ite bare _ _ _).trans ?_)
    rw [foldl_kept bare (fun x k => by split <;> simp only [bare_evt]), bare_noteSwitches, ite_self]
  exact ⟨(kept_of_bare (·.pads.interval) (fun _ => rfl) hk :), (kept_of_bare (·.pads.cycleStart) (fun _ => rfl) hk :),
    (kept_of_bare (·.time.easel) (fun _ => rfl) hk :)⟩

theorem chirpEnd_ends {k : Fin 4} {e : Nat} (hs : Settled s) (hc : (sounder s k.val).chirpEnd = some e)
    (ht : e < (tickNo s + 1) * tickLen) : Answers (.chirpEnd k) s fun t =>
      t.pads.snd = tblSet (fun _ => Sounder.blank) s.pads.snd k.val { sounder s k.val with chirpEnd := none } ∧
      t.time.easel = (moveTo s e).time.easel := by
  have hrule : exec (.chirpEnd k) s = execChirpEnd k s := rfl
  unfold execChirpEnd at hrule
  dsimp only at hrule
  rw [hc] at hrule
  dsimp only at hrule
  rw [if_pos ht] at hrule
  obtain ⟨T, hT, hm⟩ := moveTo_moved s e
  rw [hT] at hrule ⊢
  refine answers_of_settled hrule (settled_reports (s := { s with time := T }) (sansReports_noteSwitches _ _) (settled_moved hm hs))
    ⟨noteSwitches_snd _ _, ?_⟩
  exact (kept_of_inner (·.time.easel) (fun _ => rfl) (inner_noteSwitches _ _) :)

theorem proofChirpMeasure_probes {k : Fin 4} {e ua : Nat} (hs : Settled s) (hc : (sounder s k.val).chirpEnd = some e)
    (hp : (sounder s k.val).chirpProof = true) (ht : e - 20 * ms < (tickNo s + 1) * tickLen) :
    Answers (.proofChirpMeasure k ua) s fun t =>
      t.pads.snd = tblSet (fun _ => Sounder.blank) s.pads.snd k.val { sounder s k.val with
        probeI := BitVec.ofNat 16 (min ua 65535), probeValid := true } := by
  have hrule : exec (.proofChirpMeasure k ua) s = execProofChirpMeasure k ua s := rfl
  unfold execProofChirpMeasure at hrule
  dsimp only at hrule
  rw [hc] at hrule
  dsimp only at hrule
  rw [if_pos (by simp [hp, ht])] at hrule
  obtain ⟨T, hT, hm⟩ := moveTo_moved s (e - 20 * ms)
  rw [hT] at hrule
  exact answers_of_settled hrule (settled_reports (s := { s with time := T }) rfl (settled_moved hm hs)) (by rw [← hc]; rfl)

/-! ### Loads -/

theorem loadFlagSet_flags {n : Fin 36} {flag : Fin 4} {i : Byte} (hs : Settled s) (hsup : loadSup s n.val = true)
    (hseen : loadSeen s n.val = true) (hst : loadState s n.val flag.val = true)
    (hf : (loadDiag s n.val).flags.getLsbD flag.val = false) (htm : loadTimed s n.val flag.val = true)
    (ht : tblGet (fun _ => 0) s.pads.lastSwitch n.val + (20 * ms + loadTime flag.val) ≤ now s) :
    Answers (.loadFlagSet n flag i) s fun t =>
      t.fans.loads = tblSet (fun _ => LoadDiag.blank) s.fans.loads n.val { loadDiag s n.val with
        flags := setBit (loadDiag s n.val).flags flag.val true, flt := (loadDiag s n.val).flt + 1, current := i } ∧
      codePresent t.safety.causes (704 + n.val) = true := by
  have hpass : passed s (tblGet (fun _ => 0) s.pads.lastSwitch n.val) (20 * ms + loadTime flag.val) = true := decide_eq_true ht
  have hrule : exec (.loadFlagSet n flag i) s = execLoadFlagSet n flag i s := rfl
  unfold execLoadFlagSet at hrule
  dsimp only at hrule
  rw [hsup, hseen, hst, hf, htm, hpass, if_pos (by decide)] at hrule
  refine answers_of_settled hrule (settled_reports ?_ hs) ⟨?_, raiseCause_present ..⟩
  · rw [sansReports_raiseCause, sansReports_logPush]
    rfl
  · rw [raiseCause_fans, logPush_fans]
    rfl

theorem loadFlagClear_clears {n : Fin 36} {flag : Fin 4} {i : Byte} (hs : Settled s) (hseen : loadSeen s n.val = true)
    (hst : loadState s n.val flag.val = true) (hf : (loadDiag s n.val).flags.getLsbD flag.val = true)
    (ht : tblGet (fun _ => 0) s.pads.lastSwitch n.val + sec ≤ now s) : Answers (.loadFlagClear n flag i) s fun t =>
      t.fans.loads = tblSet (fun _ => LoadDiag.blank) s.fans.loads n.val { loadDiag s n.val with
        flags := setBit (loadDiag s n.val).flags flag.val false, current := i } := by
  have hpass : passed s (tblGet (fun _ => 0) s.pads.lastSwitch n.val) sec = true := decide_eq_true ht
  have hrule : exec (.loadFlagClear n flag i) s = execLoadFlagClear n flag i s := rfl
  unfold execLoadFlagClear at hrule
  dsimp only at hrule
  rw [if_pos (by simp [hseen, hst, hf, hpass])] at hrule
  refine answers_of_settled hrule (settled_reports ?_ hs) ?_
  · rw [sansReports_dropCause, sansReports_logPush]
    rfl
  · rw [dropCause_fans, logPush_fans]
    rfl

end

/-- Settles O55, rule by rule of chapter 15. -/
theorem fansAndLoads : Obligations.FansAndLoads := fun _ =>
  ⟨fun _ => ⟨tachEdge_times, fun _ _ => tachLineTestPhase_lowers, fanWaitEnd_starts, fanAttemptReset_clears, fanBlockedExit_idles,
      fun hw hn hm hd => ⟨fanStartTimeout_tests hw hn hm hd, fanStallTimeout_tests hw hn hm hd⟩⟩,
    fun _ => alarmPatternInterval_moves, fun _ _ => chirpEnd_ends, fun _ _ _ => proofChirpMeasure_probes,
    fun _ _ _ => loadFlagSet_flags, fun _ _ _ => loadFlagClear_clears⟩

end Sys2Proof.Machine
end

section
/-!
PROOFS. The memory of the retained store: what programming, erasing and the journal leave (16_retained_store.md).
-/

namespace Sys2Proof.Machine

/-! ### What stays outside some spans -/

theorem memKept_refl (l : List (Nat × Nat)) (s : State) : MemKept l s s := fun _ _ => rfl

theorem MemKept.trans {l : List (Nat × Nat)} {s t u : State} (h1 : MemKept l s t) (h2 : MemKept l t u) : MemKept l s u :=
  fun a ha => (h2 a ha).trans (h1 a ha)

theorem MemKept.mono {l l' : List (Nat × Nat)} {s t : State} (h : MemKept l s t) (hl : l ⊆ l') : MemKept l' s t :=
  fun a ha => h a fun p hp => ha p (hl hp)

theorem memKept_of_mem {l : List (Nat × Nat)} {s t : State} (h : t.mem = s.mem) : MemKept l s t :=
  fun a _ => congrArg (memRead · a) h

/-- The same of states that agree in their memory. -/
theorem MemKept.congr {l : List (Nat × Nat)} {s t u : State} (h : MemKept l s t) (e : u.mem = t.mem) : MemKept l s u :=
  h.trans (memKept_of_mem e)

/-- Words programmed within one of the spans. -/
theorem memKept_progWords {l : List (Nat × Nat)} {p : Nat × Nat} (hp : p ∈ l) {a : Nat} {ws : List Word} (ha : p.1 ≤ a)
    (hw : a + 4 * ws.length ≤ p.1 + p.2) (s : State) : MemKept l s (progWords a ws s) := fun c hc => by
  have h := hc p hp
  exact memRead_memWriteWords_other ws s.mem a (by omega)

theorem memKept_foldl {α : Type} {l : List (Nat × Nat)} {g : State → α → State} (h : ∀ s a, MemKept l s (g s a)) :
    ∀ (as : List α) (s : State), MemKept l s (as.foldl g s)
  | [], s => memKept_refl l s
  | a :: r, s => (h s a).trans (memKept_foldl h r (g s a))

/-! ### Erases and their journal -/

/-- What a journalled erase leaves of the store: all but the journal, the counts of erases and what waits for the parameter log. -/
def restOfStore (u : State) : Store := { (inner u).store with
  erases := [], ueLogged := [], wear := false, parQ := [], flaws := [], jAct := false, jPos := 0, jSeq := 0, rollSeq := 0 }

theorem restOfStore_inner {u v : State} (h : inner u = inner v) : restOfStore u = restOfStore v := by
  unfold restOfStore
  rw [h]

/-- The erase itself, beside reports. -/
theorem eraseRaw_inner (k : Nat) (u : State) : ∃ e q w, inner (eraseRaw k u) = inner { u with
    mem := memErase u.mem (sectorBase k) 4096
    store := { u.store with
      erases := e, ueLogged := tblSet (fun _ => false) u.store.ueLogged k false, wear := w, parQ := q
      flaws := u.store.flaws.filter fun p => decide (p.1 < 512 * k) || decide (512 * k + 512 ≤ p.1) } } := by
  unfold eraseRaw
  dsimp only
  split
  · exact ⟨_, _, _, (inner_raiseCause ..).trans ((inner_evt ..).trans rfl)⟩
  · exact ⟨_, _, _, (inner_evt ..).trans rfl⟩

theorem eraseRaw_mem (k : Nat) (u : State) : (eraseRaw k u).mem = memErase u.mem (sectorBase k) 4096 := by
  obtain ⟨_, _, _, h⟩ := eraseRaw_inner k u
  exact (kept_of_inner (·.mem) (fun _ => rfl) h :)

theorem eraseRaw_jPos (k : Nat) (u : State) : (eraseRaw k u).store.jPos = u.store.jPos := by
  obtain ⟨_, _, _, h⟩ := eraseRaw_inner k u
  exact (kept_of_inner (·.store.jPos) (fun _ => rfl) h :)

theorem eraseRaw_rest (k : Nat) (u : State) : restOfStore (eraseRaw k u) = restOfStore u := by
  obtain ⟨_, _, _, h⟩ := eraseRaw_inner k u
  exact (restOfStore_inner h).trans rfl

theorem memKept_eraseRaw {l : List (Nat × Nat)} {p : Nat × Nat} (hp : p ∈ l) {k : Nat} (h1 : p.1 ≤ sectorBase k)
    (h2 : sectorBase k + 4096 ≤ p.1 + p.2) (s : State) : MemKept l s (eraseRaw k s) := fun a ha => by
  have h := ha p hp
  rw [eraseRaw_mem]
  exact memRead_memErase_other s.mem _ _ (by omega)

theorem jWrite_jPos (v : DWord) (u : State) : (jWrite v u).store.jPos = u.store.jPos + 1 := rfl

theorem jWrite_rest (v : DWord) (u : State) : restOfStore (jWrite v u) = restOfStore u := rfl

theorem jIntent_jPos (k c : Nat) (u : State) : (jIntent k c u).store.jPos = u.store.jPos + 1 := jWrite_jPos _ u

theorem jIntent_rest (k c : Nat) (u : State) : restOfStore (jIntent k c u) = restOfStore u := jWrite_rest _ u

theorem jDone_jPos (k c : Nat) (u : State) : (jDone k c u).store.jPos = u.store.jPos + 1 := rfl

theorem jDone_rest (k c : Nat) (u : State) : restOfStore (jDone k c u) = restOfStore u := rfl

theorem jDone_mem (k c : Nat) (u : State) : (jDone k c u).mem = (jWrite (jRec 0x2D k c u.store.jSeq.toNat) u).mem := rfl

theorem memKept_jWrite {l : List (Nat × Nat)} (hl : journalSpan ∈ l) {v : DWord} {s : State} (hj : s.store.jPos ≤ 511) :
    MemKept l s (jWrite v s) := by
  have h : jAddr s s.store.jPos + 4 * 2 ≤ journalSpan.1 + journalSpan.2 := by
    simp only [jAddr, sectorBase, journalSpan]
    split <;> omega
  exact memKept_progWords (ws := [v.extractLsb' 0 32, v.extractLsb' 32 32]) hl (Nat.zero_le _) h s

theorem memKept_jIntent {l : List (Nat × Nat)} (hl : journalSpan ∈ l) {k c : Nat} {s : State} (hj : s.store.jPos ≤ 511) :
    MemKept l s (jIntent k c s) := memKept_jWrite hl hj

theorem memKept_jDone {l : List (Nat × Nat)} (hl : journalSpan ∈ l) {k c : Nat} {s : State} (hj : s.store.jPos ≤ 511) :
    MemKept l s (jDone k c s) := (memKept_jWrite hl hj).congr (jDone_mem k c s)

/-- A journalled erase takes two records. -/
theorem eraseJournalled_jPos (k c : Nat) (u : State) : (eraseJournalled k c u).store.jPos = u.store.jPos + 2 := by
  rw [eraseJournalled, jDone_jPos, eraseRaw_jPos, jIntent_jPos]

theorem eraseJournalled_rest (k c : Nat) (u : State) : restOfStore (eraseJournalled k c u) = restOfStore u := by
  rw [eraseJournalled, jDone_rest, eraseRaw_rest, jIntent_rest]

theorem memKept_eraseJournalled {l : List (Nat × Nat)} (hl : journalSpan ∈ l) {p : Nat × Nat} (hp : p ∈ l) {k c : Nat} {s : State}
    (h1 : p.1 ≤ sectorBase k) (h2 : sectorBase k + 4096 ≤ p.1 + p.2) (hj : s.store.jPos ≤ 510) :
    MemKept l s (eraseJournalled k c s) := by
  have hmid : (eraseRaw k (jIntent k c s)).store.jPos ≤ 511 := by
    rw [eraseRaw_jPos, jIntent_jPos]
    omega
  exact (memKept_jIntent hl (hj.trans (by decide))).trans ((memKept_eraseRaw hp h1 h2 _).trans (memKept_jDone hl hmid))

/-- What takes the other sector of the journal into use. -/
def rolled (u : State) : State :=
  { u with store := { u.store with jAct := !u.store.jAct, jPos := 0, rollSeq := u.store.rollSeq + 1 } }

theorem rolled_rest (u : State) : restOfStore (rolled u) = restOfStore u := rfl

theorem jRoll_of_full {u : State} (h : 496 < u.store.jPos) : ∃ v, jRoll u =
    jWrite v (rolled (eraseJournalled (if u.store.jAct then 0 else 1) 8 u)) := ⟨_, if_pos h⟩

/-- The journal rolls within its two sectors, and has room then. -/
theorem jRoll_kept {l : List (Nat × Nat)} (hl : journalSpan ∈ l) {s : State} (hj : s.store.jPos ≤ 510) :
    MemKept l s (jRoll s) ∧ (jRoll s).store.jPos ≤ 496 ∧ restOfStore (jRoll s) = restOfStore s := by
  by_cases hfull : 496 < s.store.jPos
  · obtain ⟨v, hv⟩ := jRoll_of_full hfull
    have hin (b : Bool) : sectorBase (if b then 0 else 1) + 4096 ≤ journalSpan.1 + journalSpan.2 := by cases b <;> decide
    have he := memKept_eraseJournalled (c := 8) hl hl (Nat.zero_le _) (hin s.store.jAct) hj
    have hr := eraseJournalled_rest (if s.store.jAct then 0 else 1) 8 s
    generalize eraseJournalled (if s.store.jAct then 0 else 1) 8 s = y at hv he hr
    have h0 : (rolled y).store.jPos = 0 := rfl
    rw [hv, jWrite_jPos, jWrite_rest, rolled_rest, h0, hr]
    exact ⟨(he.congr rfl).trans (memKept_jWrite (s := rolled y) hl (by rw [h0]; decide)), by decide, rfl⟩
  · rw [show jRoll s = s from if_neg hfull]
    exact ⟨memKept_refl l s, Nat.le_of_not_lt hfull, rfl⟩

/-- A sector erased under its cause, with the journal. -/
theorem eraseSector_kept {l : List (Nat × Nat)} (hl : journalSpan ∈ l) {p : Nat × Nat} (hp : p ∈ l) {k c : Nat} {s : State}
    (h1 : p.1 ≤ sectorBase k) (h2 : sectorBase k + 4096 ≤ p.1 + p.2) (hj : s.store.jPos ≤ 508) :
    MemKept l s (eraseSector k c s) ∧ (eraseSector k c s).store.jPos ≤ 496 ∧ restOfStore (eraseSector k c s) = restOfStore s := by
  obtain ⟨hm, hpos, hrest⟩ := jRoll_kept hl (s := eraseJournalled k c s) (by rw [eraseJournalled_jPos]; omega)
  exact ⟨(memKept_eraseJournalled hl hp h1 h2 (by omega)).trans hm, hpos, hrest.trans (eraseJournalled_rest ..)⟩

/-- Sectors erased one after the other. -/
theorem eraseSectors_kept {l : List (Nat × Nat)} (hl : journalSpan ∈ l) {k c : Nat} (n : Nat)
    (hn : ∀ i < n, sectorSpan (k + i) ∈ l) {s : State} (hj : s.store.jPos ≤ 508) :
    MemKept l s (eraseSectors k n c s) ∧ (eraseSectors k n c s).store.jPos ≤ 508 ∧
      restOfStore (eraseSectors k n c s) = restOfStore s := by
  induction n with
  | zero => exact ⟨memKept_refl l s, hj, rfl⟩
  | succ n ih =>
    obtain ⟨hm, hpos, hrest⟩ := ih fun i hi => hn i (Nat.lt_succ_of_lt hi)
    have hstep : eraseSectors k (n + 1) c s = eraseSector (k + n) c (eraseSectors k n c s) := by
      simp [eraseSectors, List.range_succ]
    obtain ⟨hm', hpos', hrest'⟩ := eraseSector_kept hl (hn n (Nat.lt_succ_self n)) (c := c) (k := k + n) (le_refl _) (le_refl _) hpos
    rw [hstep]
    exact ⟨hm.trans hm', hpos'.trans (by decide), hrest'.trans hrest⟩

end Sys2Proof.Machine
end

section
/-!
PROOFS. Host pages, counters, background work, the refresh scan and the restart of the store (16_retained_store.md).
-/

namespace Sys2Proof.Machine

section
variable {s : State}

/-! ### STORE.DCTL -/

/-- STORE.DCTL's row. -/
def dctlRow : PRow :=
  { first := 26634, last := 26634, staged := false, reset := 0
    fields := [{ lo := 0, w := 13, acc := .rw, min := 0, max := 8191 }, { lo := 13, w := 2, acc := .rw, min := 0, max := 3 },
      { lo := 15, w := 2, acc := .rw, min := 0, max := 3 }] }

theorem dctlWord_toNat (page : BitVec 13) (reg : BitVec 2) {op : Nat} (h : op < 4) :
    (dctlWord page reg op).toNat = 2 ^ 15 * op + (2 ^ 13 * reg.toNat + page.toNat) := by
  have hp := page.isLt
  have hr := reg.isLt
  have hlow : page.toNat ||| 2 ^ 13 * reg.toNat = 2 ^ 13 * reg.toNat + page.toNat := by
    rw [Nat.or_comm]
    exact (Nat.two_pow_add_eq_or_of_lt hp _).symm
  have hall : (2 ^ 13 * reg.toNat + page.toNat) ||| 2 ^ 15 * op = 2 ^ 15 * op + (2 ^ 13 * reg.toNat + page.toNat) := by
    rw [Nat.or_comm]
    exact (Nat.two_pow_add_eq_or_of_lt (by omega) _).symm
  have hput (lo v : Nat) (hv : 2 ^ lo * v < 2 ^ 32) : (put 32 lo v).toNat = 2 ^ lo * v := by
    have hlt : v < 2 ^ 32 := lt_of_le_of_lt (Nat.le_mul_of_pos_left v (by positivity)) hv
    rw [put, BitVec.toNat_shiftLeft, BitVec.toNat_ofNat, Nat.mod_eq_of_lt hlt, Nat.shiftLeft_eq, Nat.mul_comm,
      Nat.mod_eq_of_lt hv]
  rw [dctlWord, BitVec.toNat_or, BitVec.toNat_or, hput _ _ (by omega), hput _ _ (by omega), hput _ _ (by omega),
    Nat.pow_zero, Nat.one_mul, hlow, hall]

theorem dctlWord_mask (page : BitVec 13) (reg : BitVec 2) {op : Nat} (h : op < 4) :
    dctlWord page reg op &&& rowMask dctlRow = dctlWord page reg op := by
  have hm : (rowMask dctlRow).toNat = 2 ^ 17 - 1 := by decide
  have hp := page.isLt
  have hr := reg.isLt
  refine BitVec.eq_of_toNat_eq ?_
  rw [BitVec.toNat_and, hm, Nat.and_two_pow_sub_one_eq_mod, dctlWord_toNat page reg h]
  exact Nat.mod_eq_of_lt (by omega)

theorem dctlWord_fields (page : BitVec 13) (reg : BitVec 2) {op : Nat} (h : op < 4) :
    (dctlWord page reg op).setWidth 13 = page ∧ (dctlWord page reg op).extractLsb' 13 2 = reg ∧
      fld (dctlWord page reg op) 15 2 = op := by
  have hp := page.isLt
  have hr := reg.isLt
  refine ⟨BitVec.eq_of_toNat_eq ?_, BitVec.eq_of_toNat_eq ?_, ?_⟩
  · rw [BitVec.toNat_setWidth, dctlWord_toNat page reg h]
    omega
  · rw [BitVec.extractLsb'_toNat, dctlWord_toNat page reg h, Nat.shiftRight_eq_div_pow]
    omega
  · rw [fld, dctlWord_toNat page reg h, Nat.shiftRight_eq_div_pow]
    omega

/-- What each op does to the page it names. -/
def dctlOp (op : Nat) (ok : Bool) : Nat → State → State :=
  match op with
  | 1 => dctlProg 1 ok
  | 2 => dctlShadow ok
  | _ => dctlSector

/-- The state whose page a write of DCTL finds: its value taken. -/
def dctlTaken (v : Word) (u : State) : State := evt 283 (pctlOut 0 (setPar (parAddr 13 0x0A) v (evt 280 u)))

theorem progWords_mem (a : Nat) (ws : List Word) (u : State) : (progWords a ws u).mem = memWriteWords u.mem a ws := rfl

theorem progPage_mem (pg : Nat) (ws : List Word) (u : State) : (progPage pg ws u).mem = memWriteWords u.mem (64 * pg) ws := rfl

theorem dctlHold_holds (n : Nat) (u : State) : ∃ f h, dctlHold n u = { u with free := f, host := h } ∧ h.nWaitLow = true :=
  ⟨_, _, rfl, rfl⟩

/-- A blank page takes DBUF, and nWAIT is held. -/
theorem dctlProg_programs {c : Instr} {pg : Nat} {y : State} {ws : List Word} (e : exec c s = finish s (dctlProg 1 true pg y))
    (hd : dbuf y = ws) (hb : pageBlank y.mem pg = true) : Answers c s fun t =>
      t.store.dres = 1 ∧ t.host.nWaitLow = true ∧ t.mem = memWriteWords y.mem (64 * pg) ws := by
  obtain ⟨f, h, hheld, hw⟩ := dctlHold_holds 64 (dstat 1 (progPage pg ws y))
  have heff : dctlProg 1 true pg y = dctlHold 64 (dstat 1 (progPage pg ws y)) := by
    rw [dctlProg, hb, hd]
    rfl
  rw [heff, hheld] at e
  exact answers_of_inner _ e rfl (fun _ => rfl) ⟨rfl, hw, rfl⟩

section
variable {page : BitVec 13} {reg : BitVec 2} {pg : Nat} (ho : BusOpen s) (hm : s.legacy.mode = false) (hs : isStandby s = false)
  (hk : keyOk s (writeKey reg.toNat) = true) (hop : storeOp s = false) (hpg : pageOf reg.toNat page.toNat = some pg)
  (hh : hostSector (pg / 64) = true) (ht : isTorn s (pg / 64) = false)
include ho hm hs hk hop hpg hh ht

/-- A write of DCTL with its key acts on the page it names. -/
theorem exec_of_dctlWrite {c : Instr} {op : Nat} {ok : Bool} (h0 : 0 < op) (h4 : op < 4)
    (e : exec c s = finish s (onBus (parWr 0x680A (dctlWord page reg op) ok) s)) :
    exec c s = finish s (dctlOp op ok pg (dctlTaken (dctlWord page reg op) s)) := by
  obtain ⟨hpage, hreg, hfld⟩ := dctlWord_fields page reg h4
  have hpar : paramWrite 0x680A (dctlWord page reg op) ok (evt 280 s) = dctlAny (dctlWord page reg op) ok (evt 280 s) := by
    rw [paramWrite, show isDefined 0x680A = true from by decide, show rowOf 0x680A = some dctlRow from by decide]
    dsimp only
    rw [dctlWord_mask page reg h4, show isStandby (evt 280 s) = false from hs]
    rfl
  have hwrite (f : Nat → State → State) : dctlWrite page reg op f (evt 280 s) = f pg (dctlTaken (dctlWord page reg op) s) := by
    have hfree : dctlPage page reg (dctlTaken (dctlWord page reg op) s) = .ok pg := by
      have hop' : storeOp (dctlTaken (dctlWord page reg op) s) = false := hop
      have ht' : isTorn (dctlTaken (dctlWord page reg op) s) (pg / 64) = false := ht
      rw [dctlPage, hop', hpg]
      dsimp only
      rw [hh, ht']
      rfl
    rw [dctlTaken] at hfree
    rw [dctlWrite]
    dsimp only
    rw [show keyOk (evt 280 s) (writeKey reg.toNat) = true from hk, Bool.or_true, if_pos rfl, hfree]
    rfl
  rw [exec_of_parWrite ho hm e, hpar, dctlAny, hpage, hreg, hfld]
  have hcases : op = 1 ∨ op = 2 ∨ op = 3 := by omega
  rcases hcases with rfl | rfl | rfl
  · exact congrArg (finish s) (hwrite _)
  · exact congrArg (finish s) (hwrite _)
  · exact congrArg (finish s) (hwrite _)

omit ho hm hs hk hop hpg hh ht in
theorem dbuf_dctlTaken (v : Word) : dbuf (dctlTaken v s) = dbuf s := by
  have h (i : Nat) : par (dctlTaken v s) (parAddr 13 (0x0C + i)) = par s (parAddr 13 (0x0C + i)) :=
    tblGet_tblSet_other v (by unfold parAddr; omega) s.params
  simp only [dbuf, h]

theorem dctlProgram_programs (hb : pageBlank s.mem pg = true) : Answers (.dctlProgram page reg true) s fun t =>
    t.store.dres = 1 ∧ t.host.nWaitLow = true ∧ t.mem = (progWords (64 * pg) (dbuf s) s).mem := by
  have hrule : exec (.dctlProgram page reg true) s = finish s (dctlProg 1 true pg (dctlTaken (dctlWord page reg 1) s)) :=
    exec_of_dctlWrite ho hm hs hk hop hpg hh ht (op := 1) (by decide) (by decide) rfl
  have hmem : (dctlTaken (dctlWord page reg 1) s).mem = s.mem := rfl
  have hgoal := dctlProg_programs hrule (dbuf_dctlTaken _) (by rw [hmem]; exact hb)
  rw [hmem] at hgoal
  simp only [progWords_mem]
  exact hgoal

theorem dctlShadowProgram_queues (hb : pageBlank s.mem pg = true) (hl : s.power.holdLow = false) (hp : s.store.pages = []) :
    Answers (.dctlShadowProgram page reg true) s fun t =>
      t.store.dres = 2 ∧ t.mem = s.mem ∧ ∃ o, t.store.pages = [{ ord := o, page := pg, data := dbuf s }] := by
  have hrule := exec_of_dctlWrite ho hm hs hk hop hpg hh ht (c := .dctlShadowProgram page reg true) (op := 2) (by decide) (by decide) rfl
  have hdbuf := dbuf_dctlTaken (s := s) (dctlWord page reg 2)
  have hblank : pageBlank (dctlTaken (dctlWord page reg 2) s).mem pg = true := hb
  have hlow : (dctlTaken (dctlWord page reg 2) s).power.holdLow = false := hl
  have hpages : (dctlTaken (dctlWord page reg 2) s).store.pages = [] := hp
  have hmem : (dctlTaken (dctlWord page reg 2) s).mem = s.mem := rfl
  generalize dctlTaken (dctlWord page reg 2) s = y at hrule hdbuf hblank hlow hpages hmem
  have heff : dctlOp 2 true pg y = evt 304 (dstat 2 { y with store := { y.store with
      ord := y.store.ord + 1, pages := [{ ord := y.store.ord, page := pg, data := dbuf s }] } }) := by
    change dctlShadow true pg y = _
    unfold dctlShadow shadowPage
    rw [hlow, hblank, hpages, hdbuf]
    rfl
  rw [heff] at hrule
  exact answers_of_inner _ hrule rfl (fun _ => rfl) ⟨rfl, hmem, _, rfl⟩

theorem dctlErase_begins (hj : s.store.jPos ≤ 496) : Answers (.dctlErase page reg) s fun t =>
    t.store.erasing = some (pg / 64) ∧ t.host.nWaitLow = true ∧ t.host.dctlUntil.isSome = true ∧ MemKept [journalSpan] s t := by
  have hrule := exec_of_dctlWrite ho hm hs hk hop hpg hh ht (c := .dctlErase page reg) (op := 3) (ok := true) (by decide) (by decide) rfl
  have hmem : (dctlTaken (dctlWord page reg 3) s).mem = s.mem := rfl
  have hpos : (dctlTaken (dctlWord page reg 3) s).store.jPos ≤ 511 := hj.trans (by decide)
  generalize dctlTaken (dctlWord page reg 3) s = y at hrule hmem hpos
  obtain ⟨f, u, heff⟩ : ∃ f u, dctlOp 3 true pg y = { jIntent (pg / 64) 1 y with
      free := f, store := { (jIntent (pg / 64) 1 y).store with erasing := some (pg / 64) }
      host := { (jIntent (pg / 64) 1 y).host with dctlUntil := some u, nWaitLow := true } } := ⟨_, _, rfl⟩
  rw [heff] at hrule
  exact answers_of_inner _ hrule rfl (fun _ => rfl) ⟨rfl, rfl, rfl,
    (memKept_of_mem hmem).trans ((memKept_jIntent List.mem_cons_self hpos).congr rfl)⟩

end

/-! ### The erase that nWAIT waits for -/

/-- The erase of a host sector ends: DONE, and the journal rolls when it is full. -/
def eraseEnded (k : Nat) (u : State) : State := jRoll (jDone k 1 (eraseRaw k u))

theorem eraseEnded_kept {l : List (Nat × Nat)} (hl : journalSpan ∈ l) {k : Nat} {u : State} (hj : u.store.jPos ≤ 496) :
    MemKept l (eraseRaw k u) (eraseEnded k u) := by
  have h1 : (eraseRaw k u).store.jPos ≤ 511 := by rw [eraseRaw_jPos]; omega
  have h2 : (jDone k 1 (eraseRaw k u)).store.jPos ≤ 510 := by rw [jDone_jPos, eraseRaw_jPos]; omega
  obtain ⟨h, -, -⟩ := jRoll_kept hl h2
  exact (memKept_jDone hl h1).trans h

theorem tickDctl_erases {k u : Nat} (he : s.store.erasing = some k) (h2 : 2 ≤ k) (hj : s.store.jPos ≤ 496)
    (hu : s.host.dctlUntil = some u) (ht : u ≤ tickNo s) :
    (tickDctl s).store.dres = 1 ∧ (tickDctl s).store.erasing = none ∧ (tickDctl s).host.nWaitLow = false ∧
      (tickDctl s).host.dctlUntil = none ∧ MemKept [journalSpan, sectorSpan k] s (tickDctl s) ∧
      ∀ a, sectorBase k ≤ a → a < sectorBase k + 4096 → memRead (tickDctl s).mem a = 0xFF := by
  obtain ⟨st, h, heff⟩ : ∃ st h, tickDctl s = { eraseEnded k s with store := st, host := h } ∧ st.dres = 1 ∧ st.erasing = none ∧
      h.nWaitLow = false ∧ h.dctlUntil = none := by
    have hsome : s.store.erasing.isSome = true := by rw [he]; rfl
    unfold tickDctl
    rw [hu]
    dsimp only
    rw [if_pos ht, if_pos hsome, workOne, he]
    exact ⟨_, _, rfl, rfl, rfl, rfl, rfl⟩
  obtain ⟨heff, hres, hera, hw, hd⟩ := heff
  rw [heff]
  have hraw : MemKept [journalSpan, sectorSpan k] s (eraseRaw k s) :=
    memKept_eraseRaw (p := sectorSpan k) (by simp) (le_refl _) (le_refl _) s
  refine ⟨hres, hera, hw, hd, hraw.trans ((eraseEnded_kept (by simp) hj).congr rfl), fun a h1 h3 => ?_⟩
  have hout : Outside [journalSpan] a := by
    have h4 : 4096 * 2 ≤ a := (Nat.mul_le_mul_left 4096 h2).trans h1
    simpa [Outside, journalSpan] using h4
  refine (eraseEnded_kept (by simp) hj a hout).trans ?_
  rw [eraseRaw_mem]
  exact memRead_memErase_span s.mem _ _ h1 h3

/-! ### DBUF and the counters -/

/-- STORE.DBUF's row. -/
def dbufRow : PRow :=
  { first := 26636, last := 26651, staged := false, reset := 0xFFFFFFFF
    fields := [{ lo := 0, w := 32, acc := .rw, min := 0, max := 4294967295 }] }

theorem inRange_dbuf (v : Word) : inRange dbufRow v = true := by
  have h := fld_le v 0 32
  norm_num at h
  simp [inRange, inShape, dbufRow, parAddr, h]

theorem rowOf_dbuf : ∀ i : Fin 16, isDefined (0x680C + i.val) = true ∧ rowOf (0x680C + i.val) = some dbufRow := by decide

theorem dbufWrite_sets (i : Fin 16) (v : Word) (ho : BusOpen s) (hm : s.legacy.mode = false) (hs : isStandby s = false) :
    Answers (.dbufWrite i v) s fun t =>
      t.params = (setPar (parAddr 13 (0x0C + i.val)) v s).params ∧ t.host.pctlRes = 0 ∧ t.mem = s.mem := by
  obtain ⟨hdef, hrow⟩ := rowOf_dbuf i
  have hmask : v &&& rowMask dbufRow = v := by
    rw [show rowMask dbufRow = BitVec.allOnes 32 from by decide, BitVec.and_allOnes]
  have hrule := exec_of_immWrite (c := .dbufWrite i v) (v := v) ho hm rfl hdef hrow hs (by omega) (by simp [dbufRow]) hmask
    (inRange_dbuf v) rfl
  rw [immWrite, if_neg (by omega), if_pos (by omega)] at hrule
  have ha : parAddr 13 (0x0C + i.val) = 0x680C + i.val := by unfold parAddr; omega
  rw [ha]
  exact answers_of_inner _ hrule rfl (fun _ => rfl) ⟨rfl, rfl, rfl⟩

theorem cntClr_clears {at_ : Nat} {v : Word} (hi : s.host.imm = [(at_, parAddr 13 0x1E, v)]) (ht : tickPast s at_ = true)
    (hgo : v.getLsbD 31 = true) : Answers .cntClr s fun t =>
      t.store.cnt = tblSet (fun _ => (0 : Word)) s.store.cnt (fld v 0 12) 0 ∧ t.host.imm = [] ∧ t.mem = s.mem := by
  have hmine : (tickPast s at_ && parAddr 13 0x1E == parAddr 13 0x1E) = true := by rw [ht]; rfl
  have hrule : exec .cntClr s = finish s (cntClear v { s with host := { s.host with imm := [] } }) := by
    change execCntClr s = _
    simp only [execCntClr, hi, List.filter_cons, List.filter_nil, hmine, Bool.not_true, Bool.false_eq_true, if_true, if_false,
      List.foldl_cons, List.foldl_nil]
  rw [cntClear, if_pos hgo] at hrule
  exact answers_of_inner _ hrule rfl (fun _ => rfl) ⟨rfl, rfl, rfl⟩

/-! ### Background work -/

theorem exec_shadowWriteback {n : Nat} (ha : arrayFree s = true) (hq : firstQueue s = some n) : exec .shadowWriteback s = finish s
    (if n = 0 then (if logFree s then writeOneLog s else s) else if n = 1 then (if parFree s then writeOnePar s else s)
     else writeOnePage s) := by
  have hrule : exec .shadowWriteback s = execShadowWriteback s := rfl
  rw [execShadowWriteback, if_pos ha, hq] at hrule
  rw [hrule]
  rcases n with _ | _ | n <;> rfl

theorem shadowWriteback_page {p : HostPage} {rest : List HostPage} (ha : arrayFree s = true) (hl : s.store.logQ = [])
    (hq : s.store.parQ = []) (hp : s.store.pages = p :: rest) (ht : isTorn s (p.page / 64) = false) :
    Answers .shadowWriteback s fun t =>
      t.store.pages = rest ∧ t.mem = (progWords (64 * p.page) p.data s).mem ∧ t.store.parPos = s.store.parPos := by
  have hfirst : firstQueue s = some 2 := by
    simp only [firstQueue, headOrd, hl, hq, hp]
    rfl
  have hrule := exec_shadowWriteback ha hfirst
  rw [if_neg (by decide), if_neg (by decide), writeOnePage, hp] at hrule
  dsimp only at hrule
  rw [if_neg (by rw [ht]; decide)] at hrule
  exact answers_of_inner _ hrule rfl (fun _ => rfl) ⟨rfl, rfl, rfl⟩

/-- A record appended takes the next place of the log. -/
theorem parAppend_mem (key : Nat) (v : Word) (u : State) : ∃ ws, ws.length = 4 ∧ (parAppend key v u).mem =
    memWriteWords u.mem (halfBase u.store.half + 16 * u.store.parPos) ws := ⟨_, rfl, rfl⟩

theorem parAppend_store (key : Nat) (v : Word) (u : State) : (parAppend key v u).store.parQ = u.store.parQ ∧
    (parAppend key v u).store.parPos = u.store.parPos + 1 ∧ (parAppend key v u).store.parSeq = u.store.parSeq + 1 := ⟨rfl, rfl, rfl⟩

theorem shadowWriteback_par {r : ParRec} {rest : List ParRec} (ha : arrayFree s = true) (hl : s.store.logQ = [])
    (hq : s.store.parQ = r :: rest) (hp : s.store.pages = []) (hfull : parFull s = false) (hfree : parFree s = true) :
    Answers .shadowWriteback s fun t =>
      t.store.parQ = rest ∧ t.store.parPos = s.store.parPos + 1 ∧ t.store.parSeq = s.store.parSeq + 1 ∧
      MemKept [(halfBase s.store.half + 16 * s.store.parPos, 16)] s t := by
  have hfirst : firstQueue s = some 1 := by
    simp only [firstQueue, headOrd, hl, hq, hp]
    rfl
  have hrule := exec_shadowWriteback ha hfirst
  rw [if_neg (by decide), if_pos rfl, if_pos hfree, writeOnePar, hq] at hrule
  dsimp only at hrule
  have hcompact : parCompact { s with store := { s.store with parQ := rest } } = { s with store := { s.store with parQ := rest } } :=
    if_neg (by rw [show parFull { s with store := { s.store with parQ := rest } } = false from hfull]; decide)
  rw [hcompact] at hrule
  obtain ⟨ws, hlen, hmem⟩ := parAppend_mem (r.item + 65536 * r.cls) r.value { s with store := { s.store with parQ := rest } }
  obtain ⟨h1, h2, h3⟩ := parAppend_store (r.item + 65536 * r.cls) r.value { s with store := { s.store with parQ := rest } }
  have hkept : MemKept [(halfBase s.store.half + 16 * s.store.parPos, 16)] s
      (progWords (halfBase s.store.half + 16 * s.store.parPos) ws s) :=
    memKept_progWords List.mem_cons_self (le_refl _) (by rw [hlen]) s
  exact answers_of_inner _ hrule rfl (fun _ => rfl) ⟨h1, h2, h3, hkept.congr hmem⟩

/-- Outside some sectors in a row lies before the first or behind the last. -/
theorem outside_sectors {l : List (Nat × Nat)} {k c : Nat} (hc : Outside l c) :
    ∀ n : Nat, (∀ i < n, sectorSpan (k + i) ∈ l) → c < sectorBase k ∨ sectorBase (k + n) ≤ c
  | 0, _ => lt_or_ge c (sectorBase k)
  | n + 1, hn => by
    have ih := outside_sectors hc n fun i hi => hn i (Nat.lt_succ_of_lt hi)
    have hlast := hc _ (hn n (Nat.lt_succ_self n))
    simp only [sectorSpan, sectorBase] at *
    omega

/-- Words programmed within some sectors in a row. -/
theorem memKept_sectors {l : List (Nat × Nat)} {k n : Nat} (hn : ∀ i < n, sectorSpan (k + i) ∈ l) {a : Nat} {ws : List Word}
    (h1 : sectorBase k ≤ a) (h2 : a + 4 * ws.length ≤ sectorBase (k + n)) (u : State) : MemKept l u (progWords a ws u) :=
  fun c hc => by
    have h := outside_sectors hc n hn
    exact memRead_memWriteWords_other ws u.mem a (by omega)

/-- The words of a checkpoint in the copy that begins at sector `k`. -/
def ckptWords (k : Nat) (head img : List Word) (u : State) : State :=
  progWords (sectorBase k + 64) img (progWords (sectorBase k) head (eraseSectors k 5 4 u))

theorem writeCheckpoint_effect (u : State) : ∃ st, ∃ head : List Word, head.length = 3 ∧ inner (writeCheckpoint u) =
    inner { ckptWords (if u.store.ckCopy then 91 else 96) head (cntImage u) u with store := st } ∧
    st.ckCopy = !u.store.ckCopy ∧ st.ckSeq = u.store.ckSeq + 1 ∧ st.ckAt = now u ∧ st.dirtyCnt = 0 := by
  have hbase : (if !u.store.ckCopy then 96 else 91) = if u.store.ckCopy then 91 else 96 := by cases u.store.ckCopy <;> rfl
  unfold writeCheckpoint
  dsimp only
  rw [inner_evt, inner_evtN, hbase]
  generalize cntImage u = img
  generalize (if u.store.ckCopy then 91 else 96) = k
  exact ⟨_, _, rfl, rfl, rfl, rfl, rfl, rfl⟩

theorem memKept_ckptWords {k : Nat} {head img : List Word} {u : State} (hh : head.length = 3) (hi : img.length = 4096)
    (hj : u.store.jPos ≤ 496) :
    MemKept (journalSpan :: (List.range 5).map fun i => sectorSpan (k + i)) u (ckptWords k head img u) := by
  have hspan : ∀ i < 5, sectorSpan (k + i) ∈ journalSpan :: (List.range 5).map fun i => sectorSpan (k + i) := fun i hi =>
    List.mem_cons_of_mem _ (List.mem_map_of_mem (List.mem_range.2 hi))
  obtain ⟨he, -, -⟩ := eraseSectors_kept (c := 4) List.mem_cons_self 5 hspan (hj.trans (by decide))
  have hb : sectorBase (k + 5) = sectorBase k + 20480 := by unfold sectorBase; omega
  exact he.trans ((memKept_sectors hspan (le_refl _) (by rw [hh, hb]; omega) _).trans
    (memKept_sectors hspan (Nat.le_add_right _ _) (by rw [hi, hb]; omega) _))

theorem checkpoint_writes (ha : arrayFree s = true) (htorn : ∀ i < 10, isTorn s (91 + i) = false) (hj : s.store.jPos ≤ 496)
    (ht : s.store.ckAt + fld (par s (parAddr 13 6)) 0 5 * 3600 * sec ≤ now s) : Answers .checkpoint s fun t =>
      t.store.ckCopy = !s.store.ckCopy ∧ t.store.ckSeq = s.store.ckSeq + 1 ∧ t.store.ckAt = now s ∧ t.store.dirtyCnt = 0 ∧
      MemKept (journalSpan :: (List.range 5).map fun i => sectorSpan ((if s.store.ckCopy then 91 else 96) + i)) s t := by
  have hnone : ((List.range 10).any fun i => isTorn s (91 + i)) = false := by
    simpa [List.any_eq_false] using htorn
  have hpass : passed s s.store.ckAt (fld (par s (parAddr 13 6)) 0 5 * 3600 * sec) = true := decide_eq_true ht
  have hrule : exec .checkpoint s = finish s (writeCheckpoint s) :=
    congrArg (finish s) (if_pos (by rw [ha, hnone, hpass, Bool.or_true]; rfl))
  obtain ⟨st, head, hlen, hin, h1, h2, h3, h4⟩ := writeCheckpoint_effect s
  have hkept := memKept_ckptWords (k := if s.store.ckCopy then 91 else 96) hlen (show (cntImage s).length = 4096 by simp [cntImage]) hj
  generalize (if s.store.ckCopy then 91 else 96) = k at hin hkept ⊢
  generalize ckptWords k head (cntImage s) s = y at hin hkept
  exact answers_of_inner _ hrule hin (fun _ => rfl) ⟨h1, h2, h3, h4, hkept.congr rfl⟩

theorem restOfStore_dumps {u v : State} (h : restOfStore u = restOfStore v) : u.store.dumps = v.store.dumps :=
  (congrArg Store.dumps h :)

theorem dumpConsumed_clears {d : Dump} (hd : s.store.dumps.find? (dumpUsedUp s) = some d) (ha : arrayFree s = true)
    (hj : s.store.jPos ≤ 496) : Answers .dumpConsumed s fun t =>
      t.store.dumps = s.store.dumps.filter (fun x => x.area != d.area) ∧ t.params = s.params ∧
      MemKept (journalSpan :: (List.range 8).map fun i => sectorSpan (dumpBase d.area + i)) s t := by
  have hrule : exec .dumpConsumed s = execDumpConsumed s := rfl
  rw [execDumpConsumed, hd] at hrule
  dsimp only at hrule
  rw [if_pos ha] at hrule
  have hw := jWrite_rest (jRec 0x5A d.area.toNat 0 0) s
  have hk : MemKept (journalSpan :: (List.range 8).map fun i => sectorSpan (dumpBase d.area + i)) s
      (jWrite (jRec 0x5A d.area.toNat 0 0) s) := memKept_jWrite List.mem_cons_self (hj.trans (by decide))
  have hpar : (jWrite (jRec 0x5A d.area.toNat 0 0) s).params = s.params := rfl
  have hpos : (jWrite (jRec 0x5A d.area.toNat 0 0) s).store.jPos ≤ 508 := by rw [jWrite_jPos]; omega
  generalize jWrite (jRec 0x5A d.area.toNat 0 0) s = y at hrule hw hk hpar hpos
  have hspan : ∀ i < 8, sectorSpan (dumpBase d.area + i) ∈
      journalSpan :: (List.range 8).map fun i => sectorSpan (dumpBase d.area + i) := fun i hi =>
    List.mem_cons_of_mem _ (List.mem_map_of_mem (List.mem_range.2 hi))
  obtain ⟨he, -, hrest⟩ := eraseSectors_kept (c := 6) List.mem_cons_self 8 hspan hpos
  have hpars : (eraseSectors (dumpBase d.area) 8 6 y).params = y.params :=
    kept_of_keep (w := parts [.mem, .store]) (·.params) (fun _ => rfl) (by simp)
  have hdumps : (eraseSectors (dumpBase d.area) 8 6 y).store.dumps = s.store.dumps := restOfStore_dumps (hrest.trans hw)
  generalize eraseSectors (dumpBase d.area) 8 6 y = z at hrule he hpars hdumps
  exact answers_of_inner _ hrule rfl (fun _ => rfl) ⟨congrArg (List.filter _) hdumps, hpars.trans hpar, (hk.trans he).congr rfl⟩

/-! ### The refresh scan -/

/-- What decay and reads of the array leave of the store. -/
def scanRest (u : State) : Store := { restOfStore u with ce := 0, ue := 0 }

theorem scanRest_of_inner {u v : State} (h : inner u = inner v) : scanRest u = scanRest v := by
  rw [scanRest, restOfStore_inner h, scanRest]

theorem field_of_scanRest {α : Type} (f : Store → α) (hf : ∀ x, f (scanRest x) = f x.store) {u v : State}
    (h : scanRest u = scanRest v) : f u.store = f v.store := by rw [← hf, h, hf]

/-- A read of a flawed group counts it; the rest is reports. -/
theorem readFlaw_inner (u : State) (p : Nat × Nat) : ∃ l, inner (readFlaw u p) = inner { u with store := { u.store with
    ce := if p.2 = 1 then u.store.ce + 1 else u.store.ce
    ue := if p.2 = 3 ∨ p.2 = 1 then u.store.ue else u.store.ue + 1, ueLogged := l } } := by
  unfold readFlaw
  by_cases h3 : p.2 = 3
  · rw [if_pos h3, if_neg (by omega), if_pos (Or.inl h3)]
    exact ⟨_, rfl⟩
  · rw [if_neg h3]
    by_cases h1 : p.2 = 1
    · rw [if_pos h1, if_pos h1, if_pos (Or.inr h1)]
      exact ⟨_, rfl⟩
    · rw [if_neg h1, if_neg h1, if_neg (not_or.2 ⟨h3, h1⟩)]
      dsimp only
      have hr (y : State) : inner (raiseCause 896 0 true (evt 299 y)) = inner y := (inner_raiseCause ..).trans (inner_evt ..)
      split
      · exact ⟨_, (hr _).trans rfl⟩
      · rw [inner_logPush]
        have hs := hr { u with store := { u.store with ue := u.store.ue + 1 } }
        have hset (l : Tbl Bool) (x : State) : inner { x with store := { x.store with ueLogged := l } } =
            { inner x with store := { (inner x).store with ueLogged := l } } := rfl
        generalize raiseCause 896 0 true _ = y at hs ⊢
        generalize tblSet (fun _ => false) y.store.ueLogged _ true = l
        refine ⟨l, (hset l y).trans ?_⟩
        rw [hs]
        rfl

theorem readFlaw_scanRest (u : State) (p : Nat × Nat) : scanRest (readFlaw u p) = scanRest u := by
  obtain ⟨l, h⟩ := readFlaw_inner u p
  exact (scanRest_of_inner h).trans rfl

theorem readGroups_scanRest (g n : Nat) (u : State) : scanRest (readGroups g n u) = scanRest u :=
  foldl_kept scanRest readFlaw_scanRest _ _

theorem readGroups_mem (g n : Nat) (u : State) : (readGroups g n u).mem = u.mem :=
  kept_of_keep (w := parts [.store]) (·.mem) (fun _ => rfl) (by simp)

/-- One group decays. -/
def decayOne (st : State) (p : Nat × Fin 3) : State := decay [p] st

theorem decay_eq_foldl (found : List (Nat × Fin 3)) (u : State) : decay found u = found.foldl decayOne u := rfl

theorem decayOne_leaves (u : State) (p : Nat × Fin 3) : scanRest (decayOne u p) = scanRest u ∧ MemKept [(8 * p.1, 8)] u (decayOne u p) := by
  change scanRest (decay [p] u) = scanRest u ∧ MemKept _ u (decay [p] u)
  unfold decay
  rw [List.foldl_cons, List.foldl_nil]
  have hkept (v w : Word) : MemKept [(8 * p.1, 8)] u (progWords (8 * p.1) [v, w] u) :=
    memKept_progWords List.mem_cons_self (le_refl _) (le_refl _) u
  split
  · exact ⟨rfl, memKept_refl _ u⟩
  · split
    · split
      · exact ⟨rfl, memKept_of_mem rfl⟩
      · exact ⟨rfl, memKept_refl _ u⟩
    · split
      · exact ⟨rfl, (hkept _ _).congr rfl⟩
      · split
        · exact ⟨rfl, memKept_of_mem rfl⟩
        · exact ⟨rfl, memKept_refl _ u⟩

theorem decay_scanRest (found : List (Nat × Fin 3)) (u : State) : scanRest (decay found u) = scanRest u :=
  foldl_kept scanRest (fun x p => (decayOne_leaves x p).1) found u

theorem memKept_decay : ∀ (found : List (Nat × Fin 3)) (u : State), MemKept (found.map fun p => (8 * p.1, 8)) u (decay found u)
  | [], u => memKept_refl _ u
  | p :: r, u => by
    have hone : MemKept ((p :: r).map fun p => (8 * p.1, 8)) u (decayOne u p) :=
      (decayOne_leaves u p).2.mono fun q hq => by
        rw [List.mem_singleton.1 hq]
        exact List.mem_cons_self
    exact hone.trans ((memKept_decay r (decayOne u p)).mono (List.subset_cons_self _ _))

/-- A scan that has begun. -/
def scanBegun (u : State) : State := { u with store := { u.store with
  scan := true, scanRef := 0, scanUe := 0, scanDone := false, scanTs := u.time.calSec, scanAt := now u, scanProof := false } }

/-- Groups found weak, counted and read. -/
def scanned (found : List (Nat × Fin 3)) (u : State) : State :=
  readGroups 0 65536 { decay found u with store := { (decay found u).store with
    scanUe := BitVec.ofNat 8 ((decay found u).store.flaws.filter fun p => p.2 == 2).length } }

/-- The scan's own fields but the count of uncorrectable groups. -/
def scanOwn (f : Store) : Bool × Byte × Bool × Word × Nat × Bool := (f.scan, f.scanRef, f.scanDone, f.scanTs, f.scanAt, f.scanProof)

theorem scanned_own (found : List (Nat × Fin 3)) (u : State) : scanOwn (scanned found u).store = scanOwn u.store :=
  (field_of_scanRest scanOwn (fun _ => rfl) (readGroups_scanRest 0 65536 _)).trans
    (field_of_scanRest scanOwn (fun _ => rfl) (decay_scanRest found u) :)

theorem memKept_scanned (found : List (Nat × Fin 3)) (u : State) :
    MemKept (found.map fun p => (8 * p.1, 8)) u (scanned found u) := (memKept_decay found u).congr (readGroups_mem 0 65536 _)

/-- With no flaw in the array a scan that finds none counts none. -/
theorem scanned_nothing {u : State} (h : u.store.flaws = []) : scanned [] u = { u with store := { u.store with scanUe := 0 } } := by
  have hd : decay [] u = u := rfl
  rw [scanned, hd, h]
  unfold readGroups
  rw [show ({ u with store := { u.store with scanUe := _ } } : State).store.flaws = [] from h]
  rfl

/-- With one flaw, it is the one that the scan reads. -/
theorem scanned_one {found : List (Nat × Fin 3)} {u y : State} {g v : Nat} (hg : g < 65536) (hd : decay found u = y)
    (hy : y.store.flaws = [(g, v)]) : scanned found u = readFlaw { y with store := { y.store with
      scanUe := if v = 2 then 1 else 0 } } (g, v) := by
  have hin : [(g, v)].filter (fun p => decide (0 ≤ p.1) && decide (p.1 < 0 + 65536)) = [(g, v)] := by simp [hg]
  have hcount : BitVec.ofNat 8 ([(g, v)].filter fun p => p.2 == 2).length = if v = 2 then 1 else 0 := by
    by_cases h2 : v = 2
    · simp [h2]
    · simp [h2]
  rw [scanned, hd, hy, hcount]
  unfold readGroups
  rw [show ({ y with store := { y.store with scanUe := _ } } : State).store.flaws = [(g, v)] from hy, hin]
  rfl

theorem decay_one {u : State} {g : Nat} (hg : g < 65536) (h : u.store.flaws = []) :
    decay [(g, 0)] u = { u with store := { u.store with flaws := [(g, 1)] } } ∧
    (∃ m f, decay [(g, 1)] u = { u with mem := m, free := f, store := { u.store with flaws := [(g, 2)] } }) ∧
    decay [(g, 2)] u = { u with store := { u.store with flaws := [(g, 3)] } } := by
  have hnot : ¬65536 ≤ g := Nat.not_le.2 hg
  have hf : flawOf u g = 0 := by rw [flawOf, h]; rfl
  have hset (v : Nat) (hv : v ≠ 0) : tblSet (fun _ => 0) u.store.flaws g v = [(g, v)] := by rw [h]; simp [tblSet, hv]
  refine ⟨?_, ⟨(progWords (8 * g) [Config.freeWord u.free, Config.freeWord (u.free + 1)] u).mem, u.free + 2, ?_⟩, ?_⟩
  · simp only [decay, List.foldl_cons, List.foldl_nil]
    rw [if_neg hnot, if_neg (by decide), if_neg (by decide), if_pos (by rw [hf]; decide), hset 1 (by decide)]
  · simp only [decay, List.foldl_cons, List.foldl_nil]
    rw [if_neg hnot, if_neg (by decide), if_pos trivial]
    simp only [progWords, hset 2 (by decide)]
  · simp only [decay, List.foldl_cons, List.foldl_nil]
    rw [if_neg hnot, if_pos trivial, if_pos hf, hset 3 (by decide)]

theorem refreshScanStart_scans (hs : scanGoes s = true) (h0 : s.store.scan = false) (hp : s.proof.running = false)
    (ht : s.store.scanAt + 8 * 86400 * sec ≤ now s) (found : List (Nat × Fin 3)) : Answers (.refreshScanStart found) s fun t =>
      t.store.scan = true ∧ t.store.scanRef = 0 ∧ t.store.scanDone = false ∧ t.store.scanTs = s.time.calSec ∧
      t.store.scanAt = now s ∧ t.store.scanProof = false ∧ MemKept (found.map fun p => (8 * p.1, 8)) s t ∧
      (found = [] → s.store.flaws = [] → t.store.scanUe = 0 ∧ t.store.ce = s.store.ce ∧ t.store.ue = s.store.ue) ∧
      (∀ g < 65536, found = [(g, 0)] → s.store.flaws = [] → t.store.ce = s.store.ce + 1 ∧ t.mem = s.mem) ∧
      (∀ g < 65536, found = [(g, 1)] → s.store.flaws = [] →
        t.store.ue = s.store.ue + 1 ∧ t.store.scanUe = 1 ∧ t.store.ce = s.store.ce) ∧
      (∀ g < 65536, found = [(g, 2)] → s.store.flaws = [] →
        t.store.ue = s.store.ue ∧ t.store.ce = s.store.ce ∧ t.mem = s.mem ∧ weakSector t (g / 512) = true) := by
  have hpass : passed s s.store.scanAt (8 * 86400 * sec) = true := decide_eq_true ht
  have hrule : exec (.refreshScanStart found) s = finish s (scanned found (scanBegun s)) := by
    change execRefreshScanStart found s = _
    unfold execRefreshScanStart
    dsimp only
    rw [hp, hpass, hs, h0, if_pos (by simp)]
    rfl
  have hown := scanned_own found (scanBegun s)
  simp only [scanOwn, Prod.mk.injEq] at hown
  obtain ⟨h1, h2, h3, h4, h5, h6⟩ := hown
  refine answers_of_inner _ hrule rfl (fun _ => rfl) ⟨h1, h2, h3, h4, h5, h6, (memKept_scanned found (scanBegun s) :), ?_⟩
  refine ⟨fun hf h => ?_, fun g hg hf h => ?_, fun g hg hf h => ?_, fun g hg hf h => ?_⟩
  · subst hf
    rw [scanned_nothing (show (scanBegun s).store.flaws = [] from h)]
    exact ⟨rfl, rfl, rfl⟩
  · subst hf
    obtain ⟨hd, -, -⟩ := decay_one (u := scanBegun s) hg h
    rw [scanned_one hg hd rfl]
    exact ⟨rfl, rfl⟩
  · subst hf
    obtain ⟨-, ⟨m, f, hd⟩, -⟩ := decay_one (u := scanBegun s) hg h
    rw [scanned_one hg hd rfl]
    obtain ⟨l, hin⟩ := readFlaw_inner { scanBegun s with mem := m, free := f, store := { (scanBegun s).store with
      flaws := [(g, 2)], scanUe := if 2 = 2 then 1 else 0 } } (g, 2)
    exact ⟨(kept_of_inner (·.store.ue) (fun _ => rfl) hin :), (kept_of_inner (·.store.scanUe) (fun _ => rfl) hin :),
      (kept_of_inner (·.store.ce) (fun _ => rfl) hin :)⟩
  · subst hf
    obtain ⟨-, -, hd⟩ := decay_one (u := scanBegun s) hg h
    rw [scanned_one hg hd rfl]
    exact ⟨rfl, rfl, rfl, by simp [weakSector, readFlaw]⟩

theorem refreshScanDone_ends (hg : scanGoes s = true) (hs : s.store.scan = true) : Answers .refreshScanDone s fun t =>
    bare t = bare { s with store := { s.store with scan := false, scanDone := true } } :=
  answers_of_bare (congrArg (finish s) (if_pos (by rw [hg, hs]; rfl))) fun _ hb _ => hb

/-! ### Refresh of a sector -/

/-- A sector's words come back, over sector 2. -/
def sectorCopied (k : Nat) (data : List Word) (u : State) : State :=
  let s2 := progWords (sectorBase 2) data u
  if k < 2 then clearFlaws (512 * k) 512 { s2 with store := { s2.store with ueLogged := tblSet (fun _ => false) s2.store.ueLogged k false } }
  else progWords (sectorBase k) data (eraseSector k 5 s2)

/-- The spans that work on a sector writes: the journal, sector 2 and the sector. -/
def workSpans (k : Nat) : List (Nat × Nat) := [journalSpan, sectorSpan 2, sectorSpan k]

theorem memKept_sectorWords {k n : Nat} (hn : sectorSpan n ∈ workSpans k) {data : List Word} (hd : data.length = 1024) (u : State) :
    MemKept (workSpans k) u (progWords (sectorBase n) data u) :=
  memKept_progWords hn (le_refl _) (by rw [hd]; exact le_refl _) u

theorem sectorCopied_kept {k : Nat} {data : List Word} (hd : data.length = 1024) {u : State} (hj : u.store.jPos ≤ 496) :
    MemKept (workSpans k) u (sectorCopied k data u) ∧ (sectorCopied k data u).store.jPos ≤ 496 ∧
      restOfStore (sectorCopied k data u) = restOfStore u := by
  have h2 := memKept_sectorWords (k := k) (n := 2) (by simp [workSpans]) hd u
  unfold sectorCopied
  dsimp only
  split
  · exact ⟨h2.congr rfl, hj, rfl⟩
  · have hpos : (progWords (sectorBase 2) data u).store.jPos ≤ 508 := hj.trans (by decide)
    have hrest2 : restOfStore (progWords (sectorBase 2) data u) = restOfStore u := rfl
    generalize progWords (sectorBase 2) data u = y at h2 hpos hrest2 ⊢
    obtain ⟨he, hpos', hrest⟩ := eraseSector_kept (l := workSpans k) (k := k) (c := 5) (p := sectorSpan k) (by simp [workSpans])
      (by simp [workSpans]) (le_refl _) (le_refl _) hpos
    have h3 := memKept_sectorWords (k := k) (n := k) (by simp [workSpans]) hd (eraseSector k 5 y)
    exact ⟨h2.trans (he.trans h3), hpos', hrest.trans hrest2⟩

theorem restOfStore_field {α : Type} (f : Store → α) (hf : ∀ x, f (restOfStore x) = f x.store) {u v : State}
    (h : restOfStore u = restOfStore v) : f u.store = f v.store := by rw [← hf, h, hf]

theorem sectorRefresh_refreshes {k : Fin 128} (hg : scanGoes s = true) (hs : s.store.scan = true) (h2 : k.val ≠ 2)
    (hw : weakSector s k.val = true) (ht : isTorn s k.val = false) (hj : s.store.jPos ≤ 496) : Answers (.sectorRefresh k) s fun t =>
      t.store.refresh = s.store.refresh + 1 ∧ t.store.scanRef = s.store.scanRef + 1 ∧ t.store.scan = true ∧
      MemKept [journalSpan, sectorSpan 2, sectorSpan k.val] s t := by
  have hdata : (memWords s.mem (sectorBase k.val) 1024).length = 1024 := by simp [memWords]
  have hrule : exec (.sectorRefresh k) s = execSectorRefresh k s := rfl
  unfold execSectorRefresh at hrule
  rw [hg, hs, hw, ht, if_pos (by simp [h2])] at hrule
  generalize memWords s.mem (sectorBase k.val) 1024 = data at hrule hdata
  obtain ⟨hm, hpos, hrest⟩ := sectorCopied_kept (k := k.val) hdata hj
  have hrule' : exec (.sectorRefresh k) s = finish s (let s4 := eraseSector 2 5 (evtN 296 128 (sectorCopied k.val data s))
      evt 300 (logPush 0x060 (BitVec.ofNat 32 (k.val + 2 * 256)) { s4 with store := { s4.store with
        refresh := s4.store.refresh + 1, scanRef := s4.store.scanRef + 1 } })) := by
    unfold sectorCopied
    dsimp only at hrule ⊢
    exact hrule
  generalize sectorCopied k.val data s = y at hrule' hm hpos hrest
  have hmem : (evtN 296 128 y).mem = y.mem := kept_of_inner (·.mem) (fun _ => rfl) (inner_evtN ..)
  have hpos' : (evtN 296 128 y).store.jPos ≤ 508 := hpos.trans (by decide)
  have hrest' : restOfStore (evtN 296 128 y) = restOfStore y := restOfStore_inner (inner_evtN ..)
  generalize evtN 296 128 y = z at hrule' hmem hpos' hrest'
  obtain ⟨he, -, hez⟩ := eraseSector_kept (l := workSpans k.val) (k := 2) (c := 5) (p := sectorSpan 2) (by simp [workSpans])
    (by simp [workSpans]) (le_refl _) (le_refl _) hpos'
  have hall := hez.trans (hrest'.trans hrest)
  generalize eraseSector 2 5 z = x at hrule' he hall
  exact answers_of_inner _ hrule' ((inner_evt ..).trans (inner_logPush ..)) (fun _ => rfl)
    ⟨congrArg (· + 1) (restOfStore_field (·.refresh) (fun _ => rfl) hall),
      congrArg (· + 1) (restOfStore_field (·.scanRef) (fun _ => rfl) hall),
      (restOfStore_field (·.scan) (fun _ => rfl) hall).trans hs, ((hm.congr hmem).trans he).congr rfl⟩

/-- What a repair puts back into the erased sector. -/
def tornRestored (k c : Nat) (d2 d7 : List Word) (u : State) : State :=
  if c = 5 ∧ k ≠ 2 then eraseSector 2 5 (progWords (sectorBase k) d2 u)
  else if c = 7 then progWords (sectorBase k) d7 u
  else u

theorem tornRestored_kept {k c : Nat} {d2 d7 : List Word} (h2 : d2.length = 1024) (h7 : d7.length = 1024) {u : State}
    (hj : u.store.jPos ≤ 496) : MemKept (workSpans k) u (tornRestored k c d2 d7 u) ∧
      restOfStore (tornRestored k c d2 d7 u) = restOfStore u := by
  have hk {d : List Word} (h : d.length = 1024) := memKept_sectorWords (k := k) (n := k) (by simp [workSpans]) h u
  have hrest (d : List Word) : restOfStore (progWords (sectorBase k) d u) = restOfStore u := rfl
  unfold tornRestored
  split
  · obtain ⟨he, -, hez⟩ := eraseSector_kept (l := workSpans k) (k := 2) (c := 5) (p := sectorSpan 2) (by simp [workSpans])
      (by simp [workSpans]) (le_refl _) (le_refl _) (s := progWords (sectorBase k) d2 u) (hj.trans (by decide))
    exact ⟨(hk h2).trans he, hez.trans (hrest d2)⟩
  · split
    · exact ⟨hk h7, hrest d7⟩
    · exact ⟨memKept_refl _ u, rfl⟩

theorem tornSectorRepair_repairs {k : Fin 128} (hr : s.store.ready = true) (ht : isTorn s k.val = true)
    (hd : (domAvail s).getLsbD 9 = true) (hj : s.store.jPos ≤ 496) : Answers (.tornSectorRepair k) s fun t =>
      t.store.torn = s.store.torn.filter (fun p => p.1 != k.val) ∧ t.store.ready = true ∧
      MemKept [journalSpan, sectorSpan 2, sectorSpan k.val] s t := by
  have hrule : exec (.tornSectorRepair k) s = execTornSectorRepair k s := rfl
  unfold execTornSectorRepair at hrule
  rw [hr, ht, hd, if_pos (by decide)] at hrule
  obtain ⟨c, d2, d7, h2, h7, he⟩ : ∃ (c : Nat) (d2 d7 : List Word), d2.length = 1024 ∧ d7.length = 1024 ∧
      exec (.tornSectorRepair k) s = finish s { tornRestored k.val c d2 d7 (eraseSector k.val c s) with store :=
        { (tornRestored k.val c d2 d7 (eraseSector k.val c s)).store with
          torn := (tornRestored k.val c d2 d7 (eraseSector k.val c s)).store.torn.filter fun p => p.1 != k.val } } :=
    ⟨_, _, _, by simp [memWords], by simp [memWords], hrule⟩
  obtain ⟨hm, hpos, hrest⟩ := eraseSector_kept (l := workSpans k.val) (k := k.val) (c := c) (p := sectorSpan k.val)
    (by simp [workSpans]) (by simp [workSpans]) (le_refl _) (le_refl _) (hj.trans (by decide))
  generalize eraseSector k.val c s = y at he hm hpos hrest
  obtain ⟨hm', hrest'⟩ := tornRestored_kept (k := k.val) (c := c) h2 h7 hpos
  have hall := hrest'.trans hrest
  generalize tornRestored k.val c d2 d7 y = z at he hm' hall
  exact answers_of_inner _ he rfl (fun _ => rfl) ⟨congrArg (List.filter _) (restOfStore_field (·.torn) (fun _ => rfl) hall),
    (restOfStore_field (·.ready) (fun _ => rfl) hall).trans hr, (hm.trans hm').congr rfl⟩

/-! ### Restart -/

theorem memKept_readJournal (u : State) : MemKept [journalSpan] u (readJournal u) := by
  have hraise (y : State) (c : Nat) (v : Word) : (logPush c v (raiseCause 897 0 false y)).mem = y.mem :=
    (kept_of_inner (·.mem) (fun _ => rfl) ((inner_logPush ..).trans (inner_raiseCause ..)) :)
  unfold readJournal
  dsimp only
  split
  · split <;> exact memKept_of_mem rfl
  · exact memKept_of_mem rfl
  · exact memKept_of_mem rfl
  · refine MemKept.congr ?_ (hraise _ _ _)
    generalize eraseRaw 1 (eraseRaw 0 u) = y
    have hblank : MemKept [journalSpan] u { y with
        mem := memErase u.mem 0 8192
        store := { y.store with jAct := false, jPos := 0, jSeq := 0, rollSeq := 1, jrnlFault := true } } := fun a ha =>
      memRead_memErase_other u.mem 0 8192 (ha journalSpan List.mem_cons_self)
    exact hblank.trans (memKept_jWrite List.mem_cons_self (Nat.zero_le 511))

/-- The parts that a rebuild of the shadow writes. -/
def rebuiltParts : List Part := [.params, .glaze, .clients, .conv, .store]

/-- A shadow that survived stays; else it is rebuilt. -/
def shadowKept (kept : Bool) (u : State) : State :=
  if kept then { u with store := { u.store with dumpUsed := false, dumpPart := false } } else rebuildShadow u

theorem keep_shadowKept (kept : Bool) (u : State) : keep (parts rebuiltParts) (shadowKept kept u) = keep (parts rebuiltParts) u := by
  unfold shadowKept
  split
  · rfl
  · exact keep_rebuildShadow u (by simp [rebuiltParts])

/-- The store is ready. -/
def storeReady (at_ : Nat) (u : State) : State := { u with
  store := { u.store with ready := true, kept := true, ckAt := at_ }
  mirror := { u.mirror with pair := (par u 0x7800).getLsbD 0 } }

theorem storeRestartRebuild_rebuilds (hr : s.store.ready = false) (h9 : (domAvail s).getLsbD 9 = true)
    (h1 : (domAvail s).getLsbD 1 = true) (hv : s.power.vmain = true) (hn : s.power.inReset = false) (hf : s.power.flushing = false)
    (found : List (Nat × Fin 3)) : Answers (.storeRestartRebuild found) s fun t =>
      t.store.ready = true ∧ t.store.kept = true ∧ t.store.ckAt = now s ∧ t.gesso.trip = s.gesso.trip ∧
      MemKept (journalSpan :: found.map fun p => (8 * p.1, 8)) s t := by
  have hrule : exec (.storeRestartRebuild found) s = execStoreRestartRebuild found s := rfl
  unfold execStoreRestartRebuild at hrule
  rw [hr, hf, h9, h1, hv, hn, if_pos (by decide)] at hrule
  have hmem : MemKept (journalSpan :: found.map fun p => (8 * p.1, 8)) s (readJournal (decay found s)) :=
    ((memKept_decay found s).mono (List.subset_cons_self _ _)).trans ((memKept_readJournal _).mono (by simp))
  have htrip : (readJournal (decay found s)).gesso.trip = s.gesso.trip :=
    kept_of_keep (w := parts [.mem, .store]) (·.gesso.trip) (fun _ => rfl) (by simp)
  have hreads : keep (parts rebuiltParts) (readLogEnd (restartCells (markTorn (readJournal (decay found s))))) =
      keep (parts rebuiltParts) (readJournal (decay found s)) := by simp [rebuiltParts]
  generalize readJournal (decay found s) = x at hrule hmem htrip hreads
  generalize readLogEnd (restartCells (markTorn x)) = y at hrule hreads
  have he : exec (.storeRestartRebuild found) s = finish s
      (let s4 := logPush 0x001 (s.power.restartKind.setWidth 32) (refsPower (storeReady (now s) (shadowKept s.store.kept y)))
       if s.time.calValid then logPush 0x005 s.time.calSec s4 else s4) := hrule
  have hall := (keep_shadowKept s.store.kept y).trans hreads
  generalize shadowKept s.store.kept y = z at he hall
  refine answers_of_keep (parts [.conv]) (storeReady (now s) z) he ?_ (fun _ => rfl) ⟨rfl, rfl, rfl, ?_, ?_⟩
  · generalize storeReady (now s) z = r
    dsimp only
    split <;> simp
  · exact (kept_of_keep (w := parts rebuiltParts) (·.gesso.trip) (fun _ => rfl) hall).trans htrip
  · exact hmem.congr (kept_of_keep (w := parts rebuiltParts) (·.mem) (fun _ => rfl) hall :)

end

/-- Settles O56, rule by rule of chapter 16; the groups that a rebuild finds are the model's operands (log 122). -/
theorem storeEvents : Obligations.StoreEvents := fun _ =>
  ⟨fun _ _ _ ho hm hs hk hop hpg hh ht => ⟨dctlProgram_programs ho hm hs hk hop hpg hh ht,
      dctlShadowProgram_queues ho hm hs hk hop hpg hh ht, dctlErase_begins ho hm hs hk hop hpg hh ht⟩,
    fun _ _ he _ => tickDctl_erases he, dbufWrite_sets, fun _ _ => cntClr_clears, fun _ _ => shadowWriteback_page,
    fun _ _ => shadowWriteback_par, checkpoint_writes, fun _ => dumpConsumed_clears, refreshScanStart_scans,
    fun _ => sectorRefresh_refreshes, refreshScanDone_ends, storeRestartRebuild_rebuilds, fun _ => tornSectorRepair_repairs⟩

end Sys2Proof.Machine
end

section
/-!
PROOFS. What records do on the standby of a mirror pair, and lanes, resends and status (17_mirror_pair.md).
-/

namespace Sys2Proof.Machine

/-! ### Records -/

/-- A valid record shows that records flow; the rest is reports. -/
theorem inner_recordIn (u : State) : inner (recordIn u) =
    inner { u with mirror := { u.mirror with lastRec := tickNo u, linkUp := true, linkLoss := false } } :=
  (inner_mirrorNote ..).trans ((inner_setCause ..).trans (inner_evt ..))

/-- What a status record does not decide by the partner's divergence and trigger. -/
def statusSeen (u : State) : Nat × Nat × Half × Bool × Bool × Role :=
  (u.mirror.pRole, u.mirror.pTier, u.mirror.pAlarm, u.mirror.pFault, u.mirror.linkUp, u.mirror.role)

theorem statusSeen_inner {u v : State} (h : inner u = inner v) : statusSeen u = statusSeen v :=
  kept_of_inner statusSeen (fun _ => rfl) h

theorem statusSeen_mirrorTrigger (c : Nat) (force : Bool) (u : State) : statusSeen (mirrorTrigger c force u) = statusSeen u := by
  unfold mirrorTrigger
  split
  · rfl
  · exact (statusSeen_inner (inner_mirrorNote ..)).trans rfl

theorem askTransfer_eq (u : State) : ∃ a, askTransfer u = { u with mirror := { u.mirror with xferReq := true, askedAt := a } } := by
  unfold askTransfer
  split
  · next h => exact ⟨u.mirror.askedAt, by rw [← h]⟩
  · exact ⟨_, rfl⟩

theorem inner_cntMirror_congr {i : Nat} {u v : State} (h : inner u = inner v) : inner (cntMirror i u) = inner (cntMirror i v) := by
  have hc (x : State) : inner (cntMirror i x) = { inner x with mirror := { (inner x).mirror with
      cnt := tblSet (fun _ => (0 : Word)) (inner x).mirror.cnt i (tblGet (fun _ => (0 : Word)) (inner x).mirror.cnt i + 1) } } := rfl
  rw [hc, hc, h]

/-- A divergence: its marks; the rest is reports. -/
theorem inner_mirrorDiverge (f item blame : Nat) (u : State) : ∃ times fault a cnt, inner (mirrorDiverge f item blame u) =
    inner { u with mirror := { u.mirror with
      div := true, inStep := false, divFrame := f, divItem := item, divBlame := blame, divTimes := times, divFault := fault
      xferCheck := false, xferReq := true, askedAt := a, cnt := cnt } } := by
  obtain ⟨times, fault, he⟩ : ∃ times fault, inner (mirrorDiverge f item blame u) = inner (cntMirror 0 (logPush 0x090
      (BitVec.ofNat 32 (2 + item * 256)) (askTransfer { u with mirror := { u.mirror with
        div := true, inStep := false, divFrame := f, divItem := item, divBlame := blame, divTimes := times
        divFault := fault, xferCheck := false } }))) := by
    unfold mirrorDiverge
    dsimp only
    rw [inner_mirrorNote]
    generalize (if (_ || _ : Bool) then _ else u.mirror.divTimes : List Nat) = times
    generalize (u.mirror.divFault || _ : Bool) = fault
    refine ⟨times, fault, ?_⟩
    split
    · exact inner_raiseCause ..
    · rfl
  obtain ⟨a, ha⟩ := askTransfer_eq { u with mirror := { u.mirror with
    div := true, inStep := false, divFrame := f, divItem := item, divBlame := blame, divTimes := times
    divFault := fault, xferCheck := false } }
  exact ⟨times, fault, a, _, he.trans ((inner_cntMirror_congr (inner_logPush ..)).trans (by rw [ha]; rfl))⟩

theorem statusSeen_mirrorDiverge (f item blame : Nat) (u : State) : statusSeen (mirrorDiverge f item blame u) = statusSeen u := by
  obtain ⟨times, fault, a, cnt, h⟩ := inner_mirrorDiverge f item blame u
  exact (statusSeen_inner h).trans rfl

/-- The partner's divergence, which a primary takes over. -/
def statusDiverged (primary : Bool) (m : MirrorStatus) (u : State) : State :=
  match m.div with
  | some (f, item, blame) => if primary then mirrorDiverge f item blame u else u
  | none => u

/-- The partner's trigger, or its fault. -/
def statusTriggered (primary : Bool) (m : MirrorStatus) (u : State) : State :=
  match m.trig with
  | some (c, force) => mirrorTrigger c force u
  | none => if m.fault && !primary && u.mirror.inStep then mirrorTrigger 2 false u else u

theorem statusSeen_statusDiverged (primary : Bool) (m : MirrorStatus) (u : State) :
    statusSeen (statusDiverged primary m u) = statusSeen u := by
  unfold statusDiverged
  split
  · split
    · exact statusSeen_mirrorDiverge ..
    · rfl
  · rfl

theorem statusSeen_statusTriggered (primary : Bool) (m : MirrorStatus) (u : State) :
    statusSeen (statusTriggered primary m u) = statusSeen u := by
  unfold statusTriggered
  split
  · exact statusSeen_mirrorTrigger ..
  · split
    · exact statusSeen_mirrorTrigger ..
    · rfl

theorem statusSeen_statusIn (m : MirrorStatus) (u : State) :
    statusSeen (statusIn m u) = (m.role, m.tier, m.alarm, m.fault, u.mirror.linkUp, u.mirror.role) := by
  obtain ⟨p, c, x, he, hx⟩ : ∃ p c x, statusIn m u = statusTriggered p m (statusDiverged p m (mirrorCause 5 c x)) ∧
      statusSeen x = (m.role, m.tier, m.alarm, m.fault, u.mirror.linkUp, u.mirror.role) := ⟨_, _, _, rfl, rfl⟩
  rw [he, statusSeen_statusTriggered, statusSeen_statusDiverged, ← hx]
  exact statusSeen_inner (inner_setCause ..)

section
variable {s : State}

theorem inputRecord_kept {k : Nat} {ws : List Word} (hs : isStandby s = true) : Answers (.inputRecord k ws) s fun t =>
    t.mirror.inputs = tblSet (fun _ => []) s.mirror.inputs k (ws ++ [1]) ∧ t.mirror.lastRec = tickNo s ∧
    t.mirror.linkUp = true ∧ t.canvas.signals = s.canvas.signals := by
  have hrule : exec (.inputRecord k ws) s = finish s (let s1 := recordIn s
      { s1 with mirror := { s1.mirror with inputs := tblSet (fun _ => []) s1.mirror.inputs k (ws ++ [1]) } }) :=
    congrArg (finish s) (if_pos hs)
  have hin := inner_recordIn s
  generalize tickNo s = n at hin ⊢
  generalize recordIn s = y at hrule hin
  have hinputs : y.mirror.inputs = s.mirror.inputs := (kept_of_inner (·.mirror.inputs) (fun _ => rfl) hin :)
  refine answers_of_inner _ hrule rfl (fun _ => rfl) ⟨?_, ?_, ?_, ?_⟩
  · exact congrArg (tblSet _ · k _) hinputs
  · exact (kept_of_inner (·.mirror.lastRec) (fun _ => rfl) hin :)
  · exact (kept_of_inner (·.mirror.linkUp) (fun _ => rfl) hin :)
  · exact (kept_of_inner (·.canvas.signals) (fun _ => rfl) hin :)

theorem summaryRecord_kept {f : Nat} {digest : Word} {state : List Word} {err : Bool} (hs : isStandby s = true) :
    Answers (.summaryRecord f digest state err) s fun t =>
      t.mirror.summaries = { frame := f, digest := digest, state := state, err := err } ::
        (s.mirror.summaries.filter fun x => x.frame != f).take 3 ∧ t.mirror.inputs = s.mirror.inputs := by
  have hrule : exec (.summaryRecord f digest state err) s = finish s (let s1 := recordIn s
      { s1 with mirror := { s1.mirror with summaries := { frame := f, digest := digest, state := state, err := err } ::
          (s1.mirror.summaries.filter fun x => x.frame != f).take 3 } }) := congrArg (finish s) (if_pos hs)
  have hin := inner_recordIn s
  generalize recordIn s = y at hrule hin
  have hsum : y.mirror.summaries = s.mirror.summaries := (kept_of_inner (·.mirror.summaries) (fun _ => rfl) hin :)
  refine answers_of_inner _ hrule rfl (fun _ => rfl) ⟨?_, (kept_of_inner (·.mirror.inputs) (fun _ => rfl) hin :)⟩
  exact congrArg (fun q => _ :: (q.filter fun x : Summary => x.frame != f).take 3) hsum

theorem forwardRecord_decision {g r : Nat} (hs : isStandby s = true) : Answers (.forwardRecord (.decision g r)) s fun t =>
    t.mirror.fwdSet = s.mirror.fwdSet ++ [(g, r)] ∧ t.params = s.params := by
  have hrule : exec (.forwardRecord (.decision g r)) s = finish s (let s1 := recordIn s
      { s1 with mirror := { s1.mirror with fwdSet := s1.mirror.fwdSet ++ [(g, r)] } }) := congrArg (finish s) (if_pos hs)
  have hin := inner_recordIn s
  generalize recordIn s = y at hrule hin
  refine answers_of_inner _ hrule rfl (fun _ => rfl) ⟨?_, (kept_of_inner (·.params) (fun _ => rfl) hin :)⟩
  exact congrArg (· ++ [(g, r)]) (kept_of_inner (·.mirror.fwdSet) (fun _ => rfl) hin :)

theorem forwardRecord_ack {op token : Byte} (hs : isStandby s = true) : Answers (.forwardRecord (.ack op token)) s fun t =>
    t.safety.ackPending = some (op ++ token, tickNo s) ∧ t.safety.alarms = s.safety.alarms := by
  have hrule : exec (.forwardRecord (.ack op token)) s = finish s (let s1 := recordIn s
      { s1 with safety := { s1.safety with ackPending := some (op ++ token, tickNo s1) } }) := congrArg (finish s) (if_pos hs)
  have hin := inner_recordIn s
  have ht : (recordIn s).time = s.time := (kept_of_inner (·.time) (fun _ => rfl) hin :)
  have hn : tickNo (recordIn s) = tickNo s := congrArg (fun q : Time => q.easel / tickLen) ht
  dsimp only at hrule
  rw [hn] at hrule
  generalize tickNo s = n at hrule hin ⊢
  generalize recordIn s = y at hrule hin
  exact answers_of_inner _ hrule rfl (fun _ => rfl) ⟨rfl, (kept_of_inner (·.safety.alarms) (fun _ => rfl) hin :)⟩

theorem stateRecord_kept {x : StateItem} (hs : isStandby s = true) (hx : s.mirror.xfer = true) :
    Answers (.stateRecord x) s fun t =>
      t.mirror.xferState = x :: s.mirror.xferState ∧ t.params = s.params ∧ t.clients.words = s.clients.words := by
  have hrule : exec (.stateRecord x) s = finish s (let s1 := recordIn s
      { s1 with mirror := { s1.mirror with xferState := x :: s1.mirror.xferState } }) :=
    congrArg (finish s) (if_pos (by rw [hs, hx]; rfl))
  have hin := inner_recordIn s
  generalize recordIn s = y at hrule hin
  refine answers_of_inner _ hrule rfl (fun _ => rfl) ⟨?_, (kept_of_inner (·.params) (fun _ => rfl) hin :),
    (kept_of_inner (·.clients.words) (fun _ => rfl) hin :)⟩
  exact congrArg (x :: ·) (kept_of_inner (·.mirror.xferState) (fun _ => rfl) hin :)

/-! ### Status, resends, lanes -/

theorem statusRecord_states {m : MirrorStatus} (hp : s.mirror.pair = true) : Answers (.statusRecord m) s fun t =>
    t.mirror.pRole = m.role ∧ t.mirror.pTier = m.tier ∧ t.mirror.pAlarm = m.alarm ∧ t.mirror.pFault = m.fault ∧
    t.mirror.linkUp = true ∧ t.mirror.role = s.mirror.role := by
  have hrule : exec (.statusRecord m) s = finish s (mirrorNote s (statusIn m (alignPair m (recordIn s)))) :=
    congrArg (finish s) (if_pos hp)
  have halign : (alignPair m (recordIn s)).mirror.linkUp = true ∧ (alignPair m (recordIn s)).mirror.role = s.mirror.role := by
    have hin := inner_recordIn s
    have hl : (recordIn s).mirror.linkUp = true := (kept_of_inner (·.mirror.linkUp) (fun _ => rfl) hin :)
    have hr : (recordIn s).mirror.role = s.mirror.role := (kept_of_inner (·.mirror.role) (fun _ => rfl) hin :)
    unfold alignPair
    split <;> exact ⟨hl, hr⟩
  have hseen := statusSeen_statusIn m (alignPair m (recordIn s))
  rw [halign.1, halign.2] at hseen
  generalize statusIn m (alignPair m (recordIn s)) = y at hrule hseen
  simp only [statusSeen, Prod.mk.injEq] at hseen
  exact answers_of_inner _ hrule (inner_mirrorNote ..) (fun _ => rfl) hseen

theorem recordResend_resends {seq : Byte} {r : LinkRec} (hf : (s.mirror.unacked.find? fun r => r.seq == seq) = some r)
    (hr : r.resends < 3) : Answers (.recordResend seq) s fun t =>
      t.mirror.unacked = { r with resends := r.resends + 1 } :: s.mirror.unacked.filter (fun x => x.seq != seq) ∧
      t.mirror.cnt = tblSet (fun _ => (0 : Word)) s.mirror.cnt 4 (tblGet (fun _ => (0 : Word)) s.mirror.cnt 4 + 1) := by
  have hrule : exec (.recordResend seq) s = execRecordResend seq s := rfl
  rw [execRecordResend, hf] at hrule
  dsimp only at hrule
  rw [if_pos hr] at hrule
  exact answers_of_inner _ hrule rfl (fun _ => rfl) ⟨rfl, rfl⟩

theorem mirrorLaneFail_marks (hp : s.mirror.pair = true) : Answers .mirrorLaneFail s fun t =>
    bare t = bare { s with mirror := { s.mirror with laneFault := true } } :=
  answers_of_bare (congrArg (finish s) (if_pos hp)) fun _ hb _ => hb.trans (bare_setCause ..)

end

/-- Settles O57: what each record writes, beside what shows that records flow. -/
theorem mirrorRecords : Obligations.MirrorRecords := fun _ =>
  ⟨fun hs => ⟨fun _ _ => inputRecord_kept hs, fun _ _ _ _ => summaryRecord_kept hs, fun _ _ => forwardRecord_decision hs,
      fun _ _ => forwardRecord_ack hs, fun _ => stateRecord_kept hs⟩,
    fun _ => statusRecord_states, fun _ _ => recordResend_resends, mirrorLaneFail_marks⟩

end Sys2Proof.Machine
end

section
/-!
PROOFS. Transfer, replay, comparison, roles and switchover of a mirror pair (17_mirror_pair.md).
-/

namespace Sys2Proof.Machine

/-- A trigger where none is pending; the rest is reports. -/
theorem inner_mirrorTrigger {c : Nat} {force : Bool} {u : State} (h : u.mirror.trig = none) :
    inner (mirrorTrigger c force u) = inner { u with mirror := { u.mirror with
      trig := some (c, force, u.mirror.inStep), trigAt := now u, xfer := false, xferState := [], xferCheck := false } } := by
  unfold mirrorTrigger
  rw [if_neg (by rw [h]; decide)]
  exact inner_mirrorNote ..

theorem bare_mirrorNote (old u : State) : bare (mirrorNote old u) = bare u := by
  unfold mirrorNote
  split
  · rfl
  · exact bare_setIrq ..

section
variable {s : State}

/-! ### State transfer -/

theorem stateTransferStart_starts {m : Image} (hi : s.canvas.image = some m) (hc : m.crc = s.mirror.pImgCrc)
    (hh : atHyper s = true) (hp : s.mirror.pair = true) (hr : s.mirror.role = .primary) (hx : s.mirror.xferReq = true)
    (ha : s.mirror.askedAt < now s) (ht : s.mirror.tlock = true) (hl : s.mirror.linkUp = true) (hf : s.mirror.xfer = false) :
    Answers .stateTransferStart s fun t => t.mirror.xfer = true ∧ t.mirror.xferReq = false ∧ t.mirror.xferStart = frameNo s ∧
      t.mirror.imgMis = false ∧ t.mirror.role = .primary := by
  have hrule : exec .stateTransferStart s = execStateTransferStart s := rfl
  unfold execStateTransferStart at hrule
  dsimp only at hrule
  rw [hi, hr, hx, hp, ht, hl, hf, hh, if_pos rfl, if_pos (by simp [ha])] at hrule
  dsimp only at hrule
  rw [if_pos hc] at hrule
  exact answers_of_inner _ hrule ((inner_mirrorNote ..).trans (inner_setCause ..)) (fun _ => rfl) ⟨rfl, rfl, rfl, rfl, rfl⟩

section
variable (hs : isStandby s = true)
include hs

theorem stateTransferDone_inStep (hc : s.mirror.xferCheck = true) : Answers .stateTransferDone s fun t =>
    t.mirror.inStep = true ∧ t.mirror.xferReq = false ∧ t.mirror.xferCheck = false := by
  have hrule : exec .stateTransferDone s = _ := congrArg (finish s) (if_pos (by rw [hs, hc]; rfl))
  exact answers_of_inner _ hrule ((inner_mirrorNote ..).trans (inner_cntMirror_congr (inner_logPush ..))) (fun _ => rfl)
    ⟨rfl, rfl, rfl⟩

/-! ### Replay and comparison -/

omit hs in
theorem endReplay_leaves (u : State) : ∃ m : Mirror, endReplay u = { u with mirror := m } ∧ m.xfer = u.mirror.xfer ∧
    m.inputs = u.mirror.inputs ∧ m.inStep = u.mirror.inStep ∧ m.div = u.mirror.div := by
  unfold endReplay
  split
  · exact ⟨_, rfl, rfl, rfl, rfl, rfl⟩
  · exact ⟨u.mirror, rfl, rfl, rfl, rfl, rfl⟩

theorem frameReplay_begins (ha : atFrame s = true) (hx : s.mirror.xfer = false) (hi : inputsAll s (frameNo s - 1) = true) :
    Answers .frameReplay s fun t => t.mirror.replaying = some (frameNo s - 1) ∧ t.mirror.inStep = s.mirror.inStep ∧
      t.mirror.div = s.mirror.div := by
  have hrule : exec .frameReplay s = execFrameReplay s := rfl
  unfold execFrameReplay at hrule
  rw [if_pos (by rw [hs, ha]; rfl)] at hrule
  obtain ⟨m, he, hmx, hmi, hms, hmd⟩ := endReplay_leaves s
  rw [he] at hrule
  generalize frameNo s - 1 = f at hrule hi ⊢
  have hall : inputsAll { s with mirror := m } f = true := by
    unfold inputsAll at hi ⊢
    rw [show ({ s with mirror := m } : State).mirror.inputs = s.mirror.inputs from hmi]
    exact hi
  have hno : ({ s with mirror := m } : State).mirror.xfer = false := hmx.trans hx
  dsimp only at hrule hno
  rw [hno, Bool.false_and, if_neg Bool.false_ne_true, hall] at hrule
  simp only [Bool.not_true, Bool.false_and, Bool.false_eq_true, if_false, if_true] at hrule
  exact answers_of_inner _ hrule rfl (fun _ => rfl) ⟨rfl, hms, hmd⟩

theorem digestCompare_diverges {x : Summary} {r : Nat × Word × List Word × Bool} (ha : atTick s = true)
    (hf : (s.mirror.summaries.findSome? fun x => (s.mirror.results.find? fun r => r.1 == x.frame).map fun r => (x, r)) = some (x, r))
    (hj : judged s x.frame = true) (hd : x.digest ≠ r.2.1) : Answers .digestCompare s fun t =>
      t.mirror.div = true ∧ t.mirror.divFrame = x.frame ∧ t.mirror.divItem = 1 ∧ t.mirror.inStep = false ∧
      t.mirror.xferReq = true := by
  have hrule : exec .digestCompare s = execDigestCompare s := rfl
  rw [execDigestCompare, hf] at hrule
  dsimp only at hrule
  rw [if_pos (by rw [hs, ha]; rfl), hj, if_neg (by decide), if_pos hd] at hrule
  obtain ⟨times, fault, a, cnt, hin⟩ := inner_mirrorDiverge x.frame 1 (if x.err == r.2.2.2 then 0 else if x.err then 1 else 2)
    { s with mirror := { s.mirror with
      summaries := s.mirror.summaries.filter fun y => y.frame != x.frame
      results := s.mirror.results.filter fun q => q.1 != x.frame } }
  exact answers_of_inner _ hrule hin (fun _ => rfl) ⟨rfl, rfl, rfl, rfl, rfl⟩

theorem summaryTimeout_diverges {r : Nat × Word × List Word × Bool}
    (hf : (s.mirror.results.find? fun r => decide (r.1 + 3 ≤ frameNo s)) = some r) (hj : judged s r.1 = true) :
    Answers .summaryTimeout s fun t =>
      t.mirror.div = true ∧ t.mirror.divFrame = r.1 ∧ t.mirror.divItem = 3 ∧ t.mirror.inStep = false := by
  have hrule : exec .summaryTimeout s = execSummaryTimeout s := rfl
  rw [execSummaryTimeout, hf] at hrule
  dsimp only at hrule
  rw [if_pos hs, if_pos hj] at hrule
  obtain ⟨times, fault, a, cnt, hin⟩ := inner_mirrorDiverge r.1 3 0 { s with mirror := { s.mirror with
    results := s.mirror.results.filter fun q => q.1 != r.1 } }
  exact answers_of_inner _ hrule hin (fun _ => rfl) ⟨rfl, rfl, rfl, rfl⟩

theorem mirrorHeartbeatLoss_triggers (hl : s.mirror.lastRec + 256 ≤ tickNo s) (h2 : s.sys.tier = 2) (ht : s.mirror.trig = none) :
    Answers (.mirrorHeartbeatLoss true) s fun t =>
      t.mirror.linkUp = false ∧ t.mirror.nmactP = true ∧ t.mirror.trig = some (1, false, s.mirror.inStep) := by
  have hrule : exec (.mirrorHeartbeatLoss true) s = execMirrorHeartbeatLoss true s := rfl
  unfold execMirrorHeartbeatLoss at hrule
  rw [if_pos (by simp [hs, hl])] at hrule
  dsimp only at hrule
  rw [if_neg (by decide)] at hrule
  obtain ⟨y, hy, he⟩ : ∃ y, (if s.mirror.linkUp then cntMirror 3 { s with mirror := { s.mirror with
        nmactP := true, linkUp := false, pOut := none } } else { s with mirror := { s.mirror with
        nmactP := true, linkUp := false, pOut := none } }) = y ∧ exec (.mirrorHeartbeatLoss true) s =
      finish s (mirrorNote s (if y.sys.tier = 2 then mirrorTrigger 1 false y else y)) := ⟨_, rfl, hrule⟩
  have hkept : y.mirror.linkUp = false ∧ y.mirror.nmactP = true ∧ y.mirror.trig = none ∧ y.mirror.inStep = s.mirror.inStep ∧
      y.sys.tier = 2 := by
    rw [← hy]
    split <;> exact ⟨rfl, rfl, ht, rfl, h2⟩
  obtain ⟨h1, h3, h4, h5, h6⟩ := hkept
  rw [if_pos h6] at he
  exact answers_of_inner _ he ((inner_mirrorNote ..).trans (inner_mirrorTrigger h4)) (fun _ => rfl)
    ⟨h1, h3, congrArg (fun b => some (1, false, b)) h5⟩

/-! ### Pair time -/

theorem tlockSet_locks {phase pull : Int} (hp : phase.natAbs ≤ 1000) : Answers (.tlockSet phase pull) s fun t =>
    bare t = bare { s with mirror := { s.mirror with
      tlock := true, phase := BitVec.ofInt 16 phase, pull := BitVec.ofInt 16 (clampI (-15000) 15000 pull) } } :=
  answers_of_bare (congrArg (finish s) (if_pos (by simp [hs, hp]))) fun _ hb _ =>
    hb.trans ((bare_mirrorNote ..).trans (bare_setCause ..))

theorem tlockClear_unlocks {phase pull : Int} (hp : 5000 < phase.natAbs) : Answers (.tlockClear phase pull) s fun t =>
    bare t = bare { s with mirror := { s.mirror with
      tlock := false, phase := BitVec.ofInt 16 phase, pull := BitVec.ofInt 16 (clampI (-15000) 15000 pull) } } :=
  answers_of_bare (congrArg (finish s) (if_pos (by simp [hs, hp]))) fun _ hb _ =>
    hb.trans ((bare_mirrorNote ..).trans (bare_setCause ..))

/-! ### Switchover -/

theorem switchoverB1_takes {trig : Nat × Bool × Bool} (ha : atFrame s = true) (hodd : frameNo s % 2 = 1)
    (hp : s.mirror.pair = true) (ht : s.mirror.trig = some trig) (hat : s.mirror.trigAt < now s) (h2 : s.sys.tier = 2) :
    Answers .switchoverB1 s fun t =>
      t.mirror.role = .taking ∧ t.mirror.b1 = some (frameNo s) ∧ t.mirror.xfer = false := by
  have hr : s.mirror.role = .standby := by
    unfold isStandby at hs
    rw [hp] at hs
    simpa using hs
  have hrule : exec .switchoverB1 s = execSwitchoverB1 s := rfl
  unfold execSwitchoverB1 at hrule
  rw [if_pos (by simp [ha, hodd, hp, ht, hat]), if_neg (by rw [hr]; decide), if_pos ⟨hr, h2⟩] at hrule
  generalize frameNo s = f at hrule ⊢
  generalize endReplay s = y at hrule
  exact answers_of_inner _ hrule (inner_mirrorNote ..) (fun _ => rfl) ⟨rfl, rfl, rfl⟩

end

/-- A drain of the result ring leaves the host's heartbeat. -/
theorem ringDrain_beatAt (u : State) : (ringDrain u).host.beatAt = u.host.beatAt := by
  have hfill : ∀ (l : List (Nat × List Word)) (x : State), (ringFill x l).host.beatAt = x.host.beatAt := by
    intro l
    induction l with
    | nil => exact fun _ => rfl
    | cons p r ih =>
      intro x
      unfold ringFill
      split
      · exact (ih _).trans rfl
      · rfl
  unfold ringDrain
  split
  · rfl
  · exact hfill _ _

theorem enterRun_beatAt (r : RunState) (u : State) : (enterRun r u).host.beatAt = u.host.beatAt := by
  have hout (x : State) : (noteSwitches u (settleOuts x)).host.beatAt = x.host.beatAt :=
    kept_of_keep (w := parts [.drive, .fans]) (·.host.beatAt) (fun _ => rfl) (by simp)
  have hin (is was : List Entry) (x : State) :
      (orphanRelays was is (returnNew instOp is was (dropDelays x))).host.beatAt = x.host.beatAt :=
    kept_of_keep (w := parts [.pads, .loop]) (·.host.beatAt) (fun _ => rfl) (by simp)
  have hem (x : State) : (refuseC3 (noteSwitches u (settleOuts (dispose (dropDelays x))))).host.beatAt = x.host.beatAt :=
    kept_of_keep (w := parts [.pads, .canvas, .clients, .loop, .drive, .fans, .store]) (·.host.beatAt) (fun _ => rfl) (by simp)
  cases r with
  | comfort =>
    change (toComfort u).host.beatAt = _
    unfold toComfort
    dsimp only
    rw [hout, ringDrain_beatAt, hin]
  | emergency =>
    change (toEmergency u).host.beatAt = _
    unfold toEmergency
    dsimp only
    split <;> exact hem _
  | stopped => rfl
  | runIn => rfl

theorem newRun_beatAt (u : State) : (newRun u).host.beatAt = u.host.beatAt := by
  unfold newRun
  dsimp only
  generalize (if coreHolds u || _ then RunState.emergency else .comfort) = r
  split
  · rfl
  · exact enterRun_beatAt ..

theorem noteSwitchover_leaves (b : Nat) (u : State) : ∃ m : Mirror, inner (noteSwitchover b u) = inner { u with mirror := m } ∧
    m.role = u.mirror.role ∧ m.b1 = u.mirror.b1 ∧ m.handLeft = u.mirror.handLeft :=
  ⟨_, (inner_cntMirror_congr (inner_logPush ..)).trans rfl, rfl, rfl, rfl⟩

/-- The parts that the run state of a new primary writes. -/
def takeoverParts : List Part := [.pads, .canvas, .host, .clients, .loop, .drive, .fans, .store]

theorem switchoverB2_primary {b : Nat} (hb1 : s.mirror.b1 = some b) (ha : atFrame s = true) (hr : s.mirror.role = .taking)
    (hf : frameNo s = b + 1) : Answers .switchoverB2 s fun t =>
      t.mirror.role = .primary ∧ t.mirror.b1 = none ∧ t.bb.coord = true ∧ t.mirror.handLeft = 64 ∧ t.host.beatAt = now s := by
  have hrule : exec .switchoverB2 s = execSwitchoverB2 s := rfl
  rw [execSwitchoverB2, hb1] at hrule
  dsimp only at hrule
  rw [if_pos (by simp [ha, hr, hf])] at hrule
  generalize now s = n at hrule ⊢
  obtain ⟨m, hin, hrole, hb, hleft⟩ := noteSwitchover_leaves (b + 1) { s with
    mirror := { s.mirror with role := .primary, b1 := none, handLeft := 64, xferReq := false, inStep := false }
    bb := { s.bb with coord := true }
    host := { s.host with beatAt := n, beatNew := false } }
  generalize noteSwitchover (b + 1) _ = y at hrule hin
  have hnew : keep (parts [.loop]) (if s.mirror.inStep then y else returnNew id (entries y) [] y) = keep (parts [.loop]) y := by
    split
    · rfl
    · exact keep_returnNew _ _ _ _ (by simp)
  generalize (if s.mirror.inStep then y else returnNew id (entries y) [] y) = z at hrule hnew
  have hz := hnew.trans (keep_of_inner hin)
  have hrun := newRun_beatAt (noteSwitches s z)
  have hsw : (noteSwitches s z).host.beatAt = z.host.beatAt := (kept_of_inner (·.host.beatAt) (fun _ => rfl) (inner_noteSwitches ..) :)
  have hall : keep (parts takeoverParts) (newRun (noteSwitches s z)) = keep (parts takeoverParts) z := by simp [takeoverParts]
  generalize newRun (noteSwitches s z) = x at hrule hrun hall
  refine answers_of_keep (parts [.drive]) x hrule ((keep_mirrorNote ..).trans (keep_catchDrives _ (by simp))) (fun _ => rfl) ?_
  have hm : x.mirror = m := (kept_of_keep (·.mirror) (fun _ => rfl) hall).trans (kept_of_keep (·.mirror) (fun _ => rfl) hz)
  have hbb : x.bb.coord = true := (kept_of_keep (·.bb.coord) (fun _ => rfl) hall).trans (kept_of_keep (·.bb.coord) (fun _ => rfl) hz)
  have hbeat : x.host.beatAt = n := hrun.trans (hsw.trans (kept_of_keep (·.host.beatAt) (fun _ => rfl) hz))
  rw [hm]
  exact ⟨hrole, hb, hbb, hleft, hbeat⟩

/-! ### The host's commands -/

/-- A write of MIRROR_CTL that passes its checks. -/
theorem mirrorCtl_accepts {v : Half} {u : State} (h : (v.getLsbD 0 || v.getLsbD 2) = true) (hk : keyOk u 6 = true)
    (hp : partnerSeen u = true) (hr : u.mirror.role = .primary ∨ u.mirror.role = .standby)
    (hs : (v.getLsbD 0 && !v.getLsbD 1 && !(u.mirror.inStep && u.mirror.tlock)) = false) :
    mirrorCtl v u = mirrorRes 1 (if v.getLsbD 0 then mirrorTrigger 3 (v.getLsbD 1) (if v.getLsbD 2 then askTransfer u else u)
      else if v.getLsbD 2 then askTransfer u else u) := by
  have hno : (!v.getLsbD 0 && !v.getLsbD 2) = false := by rw [← Bool.not_or, h]; rfl
  unfold mirrorCtl
  rw [hno, hk, hp, hs, if_neg Bool.false_ne_true, if_neg (by decide), if_neg (by decide), if_neg (by tauto),
    if_neg Bool.false_ne_true]

section
variable (ho : BusOpen s) (hm : s.legacy.mode = false) (hk : keyOk s 6 = true) (hp : partnerSeen s = true)
  (hr : s.mirror.role = .primary ∨ s.mirror.role = .standby)
include ho hm hk hp hr

theorem mirrorSwitch_triggers {force : Bool} (hi : s.mirror.inStep = true) (ht : s.mirror.tlock = true) (hn : s.mirror.trig = none) :
    Answers (.mirrorSwitch force) s fun t => t.mirror.trig = some (3, force, true) ∧ t.mirror.ctlRes = 1 := by
  have hrule : exec (.mirrorSwitch force) s = finish s (mirrorCtl (if force then 3 else 1) (evt 280 s)) :=
    exec_of_regWrite ho hm (off := 0x27) (ok := true) rfl
  obtain ⟨h0, h1, h2⟩ : (if force then 3 else 1 : Half).getLsbD 0 = true ∧ (if force then 3 else 1 : Half).getLsbD 1 = force ∧
      (if force then 3 else 1 : Half).getLsbD 2 = false := by cases force <;> decide
  rw [mirrorCtl_accepts (u := evt 280 s) (by rw [h0]; rfl) hk hp hr (by
    rw [show (evt 280 s).mirror.inStep = true from hi, show (evt 280 s).mirror.tlock = true from ht]; simp), h0, h1, h2] at hrule
  simp only [if_true, Bool.false_eq_true, if_false] at hrule
  have hin := inner_mirrorTrigger (c := 3) (force := force) (show (evt 280 s).mirror.trig = none from hn)
  generalize mirrorTrigger 3 force (evt 280 s) = y at hrule hin
  refine answers_of_inner _ hrule rfl (fun _ => rfl) ⟨(kept_of_inner (·.mirror.trig) (fun _ => rfl) hin :).trans ?_, rfl⟩
  exact congrArg (fun b => some (3, force, b)) hi

theorem mirrorXferReq_asks : Answers .mirrorXferReq s fun t =>
    t.mirror.xferReq = true ∧ t.mirror.ctlRes = 1 ∧ t.mirror.trig = s.mirror.trig := by
  have hrule : exec .mirrorXferReq s = finish s (mirrorCtl 4 (evt 280 s)) := exec_of_regWrite ho hm (off := 0x27) (ok := true) rfl
  obtain ⟨a, ha⟩ := askTransfer_eq (evt 280 s)
  rw [mirrorCtl_accepts (u := evt 280 s) (by decide) hk hp hr (by simp), if_neg (by decide), if_pos (by decide), ha] at hrule
  exact answers_of_inner _ hrule rfl (fun _ => rfl) ⟨rfl, rfl, rfl⟩

end

/-! ### Roles -/

section
variable {started : Nat} (hp : s.mirror.pair = true) (hr : s.mirror.role = .none_) (hm : s.mirror.mside = false)
  (hst : s.power.canvasStarted = some started) (ht : s.power.origin + 400 * ms ≤ now s)
include hp hr hm hst ht

theorem mirrorRoleDecision_primary : Answers (.mirrorRoleDecision true) s fun t =>
    t.mirror.role = .primary ∧ t.bb.coord = true ∧ t.mirror.offset = 0 := by
  have hpass : passed s s.power.origin (400 * ms) = true := decide_eq_true ht
  have hrule : exec (.mirrorRoleDecision true) s = execMirrorRoleDecision true s := rfl
  unfold execMirrorRoleDecision at hrule
  dsimp only at hrule
  rw [hst, hp, hr, hm] at hrule
  dsimp only at hrule
  rw [if_pos (show (true && decide (Role.none_ = Role.none_) && if false = true then _ else _) = true by
    rw [if_neg Bool.false_ne_true, hpass]; rfl), if_pos (by simp)] at hrule
  exact answers_of_inner _ hrule (inner_mirrorNote ..) (fun _ => rfl) ⟨rfl, rfl, rfl⟩

theorem mirrorRoleDecision_standby : Answers (.mirrorRoleDecision false) s fun t =>
    t.mirror.role = .standby ∧ t.bb.coord = false ∧ t.mirror.xferReq = true := by
  have hpass : passed s s.power.origin (400 * ms) = true := decide_eq_true ht
  have hrule : exec (.mirrorRoleDecision false) s = execMirrorRoleDecision false s := rfl
  unfold execMirrorRoleDecision at hrule
  dsimp only at hrule
  rw [hst, hp, hr, hm] at hrule
  dsimp only at hrule
  rw [if_pos (show (true && decide (Role.none_ = Role.none_) && if false = true then _ else _) = true by
    rw [if_neg Bool.false_ne_true, hpass]; rfl), if_neg (by simp)] at hrule
  exact answers_of_inner _ hrule (inner_mirrorNote ..) (fun _ => rfl) ⟨rfl, rfl, rfl⟩

end

theorem sideConflictResolve_stays {nmactP : Bool} (ha : atFrame s = true) (hodd : frameNo s % 2 = 1) (hr : s.mirror.role = .primary)
    (hp : s.mirror.pRole = 1) : Answers (.sideConflictResolve false nmactP) s fun t =>
      t.mirror.sideConf = true ∧ t.mirror.role = .primary := by
  have hrule : exec (.sideConflictResolve false nmactP) s = execSideConflictResolve false nmactP s := rfl
  unfold execSideConflictResolve at hrule
  rw [if_pos (by simp [ha, hodd, hr, hp])] at hrule
  dsimp only at hrule
  rw [if_neg Bool.false_ne_true] at hrule
  exact answers_of_inner _ hrule ((inner_mirrorNote ..).trans ((inner_setCause ..).trans (inner_logPush ..))) (fun _ => rfl) ⟨rfl, hr⟩

theorem msyncIRise_restarts {lowFor : Nat} (hm : s.mirror.mside = true) (hl : sec ≤ lowFor) (hc : s.pads.cycleStart.isSome = true) :
    Answers (.msyncIRise lowFor) s fun t => t.pads.cycleStart = some (now s) ∧ t.pads.interval = 0 := by
  have hrule : exec (.msyncIRise lowFor) s = _ := congrArg (finish s) (if_pos (by simp [hm, hl, hc]))
  refine answers_of_bare hrule fun _ hb _ => ?_
  have hk := hb.trans (bare_noteSwitches _ _)
  exact ⟨(kept_of_bare (·.pads.cycleStart) (fun _ => rfl) hk :), (kept_of_bare (·.pads.interval) (fun _ => rfl) hk :)⟩

end

/-- Settles O58, rule by rule of chapter 17. -/
theorem mirrorEvents : Obligations.MirrorEvents := fun _ =>
  ⟨fun _ => stateTransferStart_starts,
    fun hs => ⟨stateTransferDone_inStep hs, frameReplay_begins hs, fun _ _ => digestCompare_diverges hs,
      fun _ => summaryTimeout_diverges hs, mirrorHeartbeatLoss_triggers hs, fun _ _ => tlockSet_locks hs,
      fun _ _ => tlockClear_unlocks hs, fun _ => switchoverB1_takes hs⟩,
    fun _ => switchoverB2_primary,
    fun ho hm hk hp hr => ⟨fun _ => mirrorSwitch_triggers ho hm hk hp hr, mirrorXferReq_asks ho hm hk hp hr⟩,
    fun _ hp hr hm hst ht => ⟨mirrorRoleDecision_primary hp hr hm hst ht, mirrorRoleDecision_standby hp hr hm hst ht⟩,
    fun ha hodd hr hp _ => sideConflictResolve_stays ha hodd hr hp, fun _ => msyncIRise_restarts⟩

end Sys2Proof.Machine
end

section
/-!
PROOFS. Proof runs, the event counters and the field ring.
-/

namespace Sys2Proof.Machine

/-! ### What a scheduled run keeps as it takes its first step -/

/-- Whether a run is under way, whether it is a scheduled one, and when the next is due. -/
def runKind (s : State) : Bool × Bool × Option Nat := (s.proof.running, s.proof.sched, s.proof.due)

theorem runKind_feedConv : ∀ (l : List Nat) (s : State), runKind (feedConv l s) = runKind s
  | [], _ => rfl
  | ch :: r, s => by
    unfold feedConv
    split
    · rfl
    · have h : keep (parts [.conv]) (useReserve 3 0 2 (arbRequest (tickNo s) ch none s)) = keep (parts [.conv]) s := by simp
      have hk := kept_of_keep runKind (fun _ => rfl) h
      dsimp only
      generalize useReserve 3 0 2 (arbRequest (tickNo s) ch none s) = y at hk ⊢
      exact (runKind_feedConv r _).trans hk

theorem runKind_feedHeads : ∀ (l : List Nat) (s : State), runKind (feedHeads l s) = runKind s
  | [], _ => rfl
  | id :: r, s => by
    have h : keep (parts [.clients, .store]) (submitCmd id 1 (!admitted s id) [0, 0, 0, 0] s).1 =
        keep (parts [.clients, .store]) s := by simp
    have hk := kept_of_keep runKind (fun _ => rfl) h
    unfold feedHeads
    split
    · rfl
    · split
      next hu =>
        rw [hu] at hk
        split
        · exact hk
        · exact (runKind_feedHeads r _).trans hk

theorem runKind_feedChirps (l : List Nat) (s : State) : runKind (feedChirps l s) = runKind s := by
  fun_cases feedChirps l s with
  | case2 k r s t ht hd =>
    have h (u : State) : keep (parts []) (chirp k true u) = keep (parts []) u := by simp
    exact (kept_of_keep (w := parts []) runKind (fun _ => rfl) (h _)).trans rfl
  | case1 | case3 | case4 => rfl

theorem runKind_proofFeed (s : State) : runKind (proofFeed s) = runKind s := by
  unfold proofFeed
  split
  · split
    · exact runKind_feedChirps _ _
    · exact runKind_feedConv _ _
    · exact runKind_feedHeads _ _
    · rfl
  · rfl

theorem runKind_beginStep (k : Nat) (s : State) : runKind (beginStep k s) = runKind s := by
  unfold beginStep
  dsimp only
  split
  · rfl
  · exact runKind_proofFeed _
  · rfl
  · exact runKind_proofFeed _
  · rfl

/-- The record of the runs as a step's end leaves it. -/
def endedProof (s : State) (k out tested : Nat) (fails : List (Nat × Half)) : Proof :=
  let p := s.proof
  { p with
    step := k, stepAt := none, mask := setBit p.mask k false
    pass := setBit p.pass k (out == 0), fail := setBit p.fail k (out == 1), skip := setBit p.skip k (out == 2)
    res := tblSet (fun _ => StepRes.blank) p.res k { out := out, tested := tested, failed := fails.length }
    dur := tblSet (fun _ => (0 : Word)) p.dur k (BitVec.ofNat 32 (match p.stepAt with | some t => (now s - t) / ms | none => 0))
    tested := 0, fails := [], inj := [], injIn := [], injDone := [], heads := [], headsLeft := [] }

/-- A step's end writes the record of the runs; the rest is reports and the operation's records. -/
theorem keep_endStep_ended (k out tested : Nat) (fails : List (Nat × Half)) (s : State) :
    keep (parts [.host]) (endStep k out tested fails s) =
      keep (parts [.host]) { s with proof := endedProof s k out tested fails } := by
  have hf (g : State → Nat × Half → State) (hg : ∀ u a, keep (parts [.host]) (g u a) = keep (parts [.host]) u)
      (u : State) : keep (parts [.host]) (fails.foldl g u) = keep (parts [.host]) u := foldl_kept _ hg fails u
  unfold endStep
  extract_lets p dur s1 s2 s3 s4
  rw [hf _ (fun u a => by simp)]
  have h3 : keep (parts [.host]) s3 = keep (parts [.host]) s2 := by
    simp only [s3]
    split <;> simp
  have h2 : keep (parts [.host]) s2 = keep (parts [.host]) s1 := hf _ (fun u a => by simp) _
  have h4 : keep (parts [.host]) s4 = keep (parts [.host]) s3 := by simp [s4]
  rw [h4, h3, h2]
  rfl

/-- An absent step of a scheduled run makes no record: it leaves the operation alone. -/
theorem endStep_absent_op {s : State} (hs : s.proof.sched = true) (k : Nat) : (endStep k 2 0 [] s).host.op = s.host.op := by
  unfold endStep
  extract_lets p dur s1 s2 s3 s4
  have h4 : s4 = s1 := if_pos (by
    change (s.proof.sched || _) = true
    rw [hs, Bool.true_or])
  change s4.host.op = _
  rw [h4]

theorem runKind_proofGo : ∀ (l : List Nat) (s : State), s.proof.sched = true →
    runKind (proofGo l s) = runKind s ∧ (proofGo l s).host.op = s.host.op
  | [], _, _ => ⟨rfl, rfl⟩
  | k :: r, s, hs => by
    unfold proofGo
    split
    · exact runKind_proofGo r s hs
    · split
      · have hk : runKind (endStep k 2 0 [] s) = runKind s :=
          (kept_of_keep (w := parts [.host]) runKind (fun _ => rfl) (keep_endStep_ended k 2 0 [] s)).trans rfl
        obtain ⟨h1, h2⟩ := runKind_proofGo r (endStep k 2 0 [] s) ((congrArg (·.2.1) hk).trans hs)
        exact ⟨h1.trans hk, h2.trans (endStep_absent_op hs k)⟩
      · have h : keep (parts [.clients, .conv, .store, .proof]) (beginStep k s) =
            keep (parts [.clients, .conv, .store, .proof]) s := by simp
        exact ⟨runKind_beginStep k s, kept_of_keep (·.host.op) (fun _ => rfl) h⟩

/-- A scheduled run, started, is under way whatever its mask: it ends by a command of its own. -/
theorem proofStart_scheduled (mask : Nat) (s : State) : runKind (proofStart true mask s) = (true, true, s.proof.due) ∧
    (proofStart true mask s).host.op = s.host.op :=
  runKind_proofGo (List.range 8) _ rfl

theorem opAccept_proof (n : Nat) (a : List Half) (b : Bool) (u : State) : (opAccept n a b u).proof = u.proof := by
  unfold opAccept
  generalize tickNo u = k
  dsimp only
  split <;> rfl

theorem step_of_underWay {u : State} {k : Nat} (h : stepUnderWay u k = true) : u.proof.step = k := by
  simp only [stepUnderWay, Bool.and_eq_true, beq_iff_eq] at h
  obtain ⟨⟨⟨-, hk⟩, -⟩, -⟩ := h
  exact hk

section
variable {s : State}

/-! ### Starting -/

theorem proofScheduledStart_starts (hd : s.proof.due.isSome = true) (hr : s.proof.running = false) (ht : s.sys.tier = 2)
    (ha : anyAlarm s = false) (ho : s.host.op.st ≠ .running) (hb : isStandby s = false) :
    Answers .proofScheduledStart s fun t => t.proof.running = true ∧ t.proof.sched = true ∧ t.proof.due = none ∧
      t.host.op.st = .running ∧ t.host.op.code = 7 := by
  have hrule : exec .proofScheduledStart s = execProofScheduledStart s := rfl
  unfold execProofScheduledStart at hrule
  dsimp only at hrule
  rw [if_pos (by rw [hd, hr]; rfl), if_pos ⟨ht, ha, ho, hb⟩] at hrule
  generalize fld (par s 0x8000) 14 8 = mask at hrule
  have hop := opAccept_spec 7 [BitVec.ofNat 16 mask] false { s with proof := { s.proof with
    due := none, postponed := false, ranAt := some (now s, s.proof.dueT) } }
  have hpr := opAccept_proof 7 [BitVec.ofNat 16 mask] false { s with proof := { s.proof with
    due := none, postponed := false, ranAt := some (now s, s.proof.dueT) } }
  generalize opAccept 7 [BitVec.ofNat 16 mask] false _ = a at hrule hop hpr
  obtain ⟨hst, hcode, -⟩ := hop
  generalize hv : ({ a with host := { a.host with op := { a.host.op with
    worked := true, cmdRes := s.host.op.cmdRes } } } : State) = v at hrule
  have hin : inner (opAsks (dropCause (64 * 18 + 8) 0 v)) = inner v := (inner_opAsks _).trans (inner_dropCause ..)
  obtain ⟨hk, ho'⟩ := proofStart_scheduled mask (opAsks (dropCause (64 * 18 + 8) 0 v))
  rw [kept_of_inner (·.proof.due) (fun _ => rfl) hin] at hk
  rw [kept_of_inner (·.host.op) (fun _ => rfl) hin] at ho'
  refine answers_of_inner _ hrule rfl (fun _ => rfl) ⟨congrArg (·.1) hk, congrArg (·.2.1) hk, ?_, ?_, ?_⟩
  · subst hv
    exact (congrArg (·.2.2) hk).trans (congrArg (·.due) hpr)
  · subst hv
    exact (congrArg (·.st) ho').trans hst
  · subst hv
    exact (congrArg (·.code) ho').trans hcode

theorem proofPostpone24h_warns {at_ : Nat} (hs : Settled s) (hd : s.proof.due = some at_) (hp : s.proof.postponed = true)
    (hl : at_ + 86400 * sec ≤ now s) :
    Answers .proofPostpone24h s fun t => bare t = bare s ∧ codePresent t.safety.causes (64 * 18 + 8) = true := by
  have hrule : exec .proofPostpone24h s = finish s (raiseCause (64 * 18 + 8) 0 false s) := by
    change execProofPostpone24h s = _
    unfold execProofPostpone24h
    rw [hd]
    exact congrArg (finish s) (if_pos (by simp [hp, passed, hl]))
  exact answers_of_settled hrule (settled_reports (sansReports_raiseCause ..) hs) ⟨bare_raiseCause .., raiseCause_present ..⟩

/-! ### SAFETY -/

theorem gessoSample_keepsTrip (n mv : Nat) (u : State) : (gessoSample n mv u).gesso.trip = u.gesso.trip := by
  cases ha : u.gesso.armed with
  | true =>
    obtain ⟨d, he, -, -⟩ := gessoSample_effect n mv ha
    refine (kept_of_bare (·.gesso.trip) (fun _ => rfl) he).trans ?_
    unfold setSen swapTakes
    split <;> rfl
  | false => rw [gessoSample, if_neg (by simp [ha])]

theorem monitorSample_keepsAlarms (n mv : Nat) (u : State) : (monitorSample n mv u).safety.alarms = u.safety.alarms := by
  cases hr : u.safety.run with
  | true =>
    obtain ⟨d, he, -, -⟩ := monitorSample_effect n mv hr
    exact (kept_of_bare (·.safety.alarms) (fun _ => rfl) he :)
  | false => rw [monitorSample, if_neg (by simp [hr])]

/-- Both sides' samples of a sentinel leave the runs, the trips and the alarms. -/
theorem samples_keep (n mv : Nat) (u : State) : (monitorSample n mv (gessoSample n mv u)).proof = u.proof ∧
    (monitorSample n mv (gessoSample n mv u)).gesso.trip = u.gesso.trip ∧
    (monitorSample n mv (gessoSample n mv u)).safety.alarms = u.safety.alarms := by
  have hg : keep (parts [.gesso, .field]) (gessoSample n mv u) = keep (parts [.gesso, .field]) u := by simp
  have hm : keep (parts [.safety]) (monitorSample n mv (gessoSample n mv u)) = keep (parts [.safety]) (gessoSample n mv u) := by
    simp
  exact ⟨(kept_of_keep (·.proof) (fun _ => rfl) hm).trans (kept_of_keep (·.proof) (fun _ => rfl) hg),
    (kept_of_keep (·.gesso.trip) (fun _ => rfl) hm).trans (gessoSample_keepsTrip n mv u),
    (monitorSample_keepsAlarms n mv _).trans (kept_of_keep (·.safety.alarms) (fun _ => rfl) hg)⟩

theorem sentinelInjection_injects {n : Fin 16} {mv : Nat} (hw : stepUnderWay s 0 = true)
    (he : recEn s.gesso.record n.val = true) (hb : (gSen s n.val).band = .normal) (ha : 5 ≤ recAdw s.gesso.record n.val)
    (hm : 120 ≤ minorOf (now s)) (hi : s.proof.inj = []) (hn : s.proof.injDone.contains n.val = false) :
    Answers (.sentinelInjection n mv) s fun t => t.proof.inj = [(n.val, false)] ∧ t.proof.tested = s.proof.tested + 1 ∧
      t.gesso.trip = s.gesso.trip ∧ t.safety.alarms = s.safety.alarms := by
  have hrule : exec (.sentinelInjection n mv) s = _ :=
    congrArg (finish s) (if_pos (by rw [hw, eligible, he, hb, hn]; simp [ha, hm]))
  rw [hi, List.nil_append] at hrule
  obtain ⟨hp, ht, hal⟩ := samples_keep n.val mv { s with proof := { s.proof with
    tested := s.proof.tested + 1, inj := [(n.val, false)], injDone := n.val :: s.proof.injDone } }
  generalize monitorSample n.val mv _ = u at hrule hp ht hal
  exact answers_of_inner u hrule rfl (fun _ => rfl) ⟨congrArg (·.inj) hp, congrArg (·.tested) hp, ht, hal⟩

theorem frameType_makeFrame (pre typ : BitVec 3) (a : BitVec 11) (st : BitVec 3) :
    frameType (makeFrame pre typ a st) = typ.toNat := by
  unfold makeFrame frameType fld
  generalize crc4 _ = c
  rw [← BitVec.extractLsb'_toNat]
  congr 1
  ext i hi
  rw [BitVec.getElem_extractLsb']
  simp only [BitVec.getLsbD_append]
  interval_cases i <;> simp

theorem frameState_makeFrame (pre typ : BitVec 3) (a : BitVec 11) (st : BitVec 3) :
    frameState (makeFrame pre typ a st) = st.toNat := by
  unfold makeFrame frameState fld
  generalize crc4 _ = c
  rw [← BitVec.extractLsb'_toNat]
  congr 1
  ext i hi
  rw [BitVec.getElem_extractLsb']
  simp only [BitVec.getLsbD_append]
  interval_cases i <;> simp

/-- What a frame may not move as it is fed to both sides: the runs, the trips and the alarms. -/
def runsAndAlarms (u : State) : Proof × BitVec 19 × BitVec 86 := (u.proof, u.gesso.trip, u.safety.alarms)

/-- State 5 is no alarm class: Gesso takes the copy and confirms nothing. -/
theorem gessoHeeds_noClass {slot fe : Nat} {bits : BitVec 24} (h : frameState bits = 5) (comb : Bool)
    (before : Option (Nat × Bool)) (u : State) : runsAndAlarms (gessoHeeds slot fe bits comb before u) = runsAndAlarms u := by
  unfold gessoHeeds gessoTakes
  rw [h]
  cases comb <;> rfl

theorem gessoZcFrame_noClass {bits : BitVec 24} (h : frameState bits = 5) (fe slot singles : Nat) (comb : Combine) (u : State) :
    runsAndAlarms (gessoZcFrame fe slot bits singles comb u) = runsAndAlarms u := by
  unfold gessoZcFrame gessoTakes
  split
  · rfl
  · split
    · rfl
    · dsimp only
      split
      · split <;> rfl
      · rfl
      · exact gessoHeeds_noClass h ..
      · exact gessoHeeds_noClass h ..
      · exact gessoHeeds_noClass h ..

/-- The safety core takes the copy too, and latches nothing. -/
theorem coreHeeds_noClass {slot fe : Nat} {bits : BitVec 24} (h : frameState bits = 5) (comb : Bool)
    (before : Option (Nat × Bool)) (u : State) : runsAndAlarms (coreHeeds slot fe bits comb before u) = runsAndAlarms u := by
  unfold coreHeeds coreTakes
  rw [h]
  cases comb <;> rfl

theorem coreZcAlarm_noClass {bits : BitVec 24} (h : frameState bits = 5) (fe slot : Nat) (comb : Bool) (u : State) :
    runsAndAlarms (coreZcAlarm fe slot bits comb u) = runsAndAlarms u := by
  unfold coreZcAlarm coreTakes
  split
  · rfl
  · dsimp only
    split
    · split <;> rfl
    · rfl
    · exact coreHeeds_noClass h ..
    · exact coreHeeds_noClass h ..
    · exact coreHeeds_noClass h ..

/-- The record of an injected frame: no head answers while another step than HEADS is in progress. -/
theorem zcRecordFrame_injected {u : State} (hs : u.proof.step = 0) (t a : Nat) :
    runsAndAlarms (zcRecordFrame t 0 a 5 u) = runsAndAlarms u := by
  have hr : keep (parts [.clients]) (zcRecord t 0 a 5 u) = keep (parts [.clients]) u := by simp
  have hstep : (zcRecord t 0 a 5 u).proof.step = 0 := (kept_of_keep (·.proof.step) (fun _ => rfl) hr).trans hs
  have he : zcRecordFrame t 0 a 5 u = zcRecord t 0 a 5 u := by
    change proofHeadAnswer a true 0 (zcRecord t 0 a 5 u) = _
    rw [proofHeadAnswer, if_neg (by simp [hstep])]
  rw [he]
  exact kept_of_keep runsAndAlarms (fun _ => rfl) hr

theorem zcDeliver_injected {u : State} {bits : BitVec 24} (ht : frameType bits = 0) (h : frameState bits = 5)
    (hs : u.proof.step = 0) (t slot : Nat) (comb : Combine) :
    runsAndAlarms (zcDeliver t slot bits comb u) = runsAndAlarms u := by
  have hk := coreZcAlarm_noClass h t slot (decide (comb ≠ .x1)) u
  unfold zcDeliver
  rw [ht, h]
  dsimp only
  rw [if_pos rfl, if_neg (by decide)]
  generalize coreZcAlarm t slot bits (decide (comb ≠ .x1)) u = v at hk
  split
  · exact hk
  · generalize hw : ({ v with zc := _ } : State) = w
    have hwk : runsAndAlarms w = runsAndAlarms u := by
      subst hw
      exact hk
    have hstep : w.proof.step = 0 := (congrArg (·.1.step) hwk).trans hs
    exact (zcRecordFrame_injected hstep t (frameAddr bits)).trans hwk

theorem zcAccept_injected {u : State} {bits : BitVec 24} (ht : frameType bits = 0) (h : frameState bits = 5)
    (hs : u.proof.step = 0) (t slot singles : Nat) (comb : Combine) (syn : Bool) :
    runsAndAlarms (zcAccept t slot bits singles comb syn u) = runsAndAlarms u := by
  unfold zcAccept
  dsimp only
  generalize hv : evtN (54 + t) singles (evt (48 + t) (setZc t _ u)) = v
  have hb : inner v = inner u := by
    subst hv
    exact (inner_evtN ..).trans ((inner_evt ..).trans (inner_of_bare (bare_setZc ..)))
  exact (zcDeliver_injected ht h ((kept_of_inner (·.proof.step) (fun _ => rfl) hb).trans hs) t slot comb).trans
    (kept_of_inner runsAndAlarms (fun _ => rfl) hb)

/-- What both sides do with an injected frame leaves the runs, the trips and the alarms. -/
theorem feedFrame_keeps {u : State} (hs : u.proof.step = 0) (t singles : Nat) :
    runsAndAlarms (feedFrame t singles u) = runsAndAlarms u := by
  unfold feedFrame
  dsimp only
  have ht := frameType_makeFrame 5 0 (BitVec.ofNat 11 (fld (par u 0x8002) 0 11)) 5
  have h := frameState_makeFrame 5 0 (BitVec.ofNat 11 (fld (par u 0x8002) 0 11)) 5
  generalize makeFrame 5 0 (BitVec.ofNat 11 (fld (par u 0x8002) 0 11)) 5 = bits at ht h ⊢
  generalize zcSlot u t = slot
  have hk := gessoZcFrame_noClass h t slot singles .x1 u
  generalize gessoZcFrame t slot bits singles .x1 u = v at hk ⊢
  split
  · exact hk
  · split
    · exact (zcAccept_injected ht h ((congrArg (·.1.step) hk).trans hs) t slot singles .x1 false).trans hk
    · exact hk

theorem injectedFrame_feeds {fe : Fin 3} {second : Bool} (hw : stepUnderWay s 0 = true) (hd : frameDue s fe.val second = true)
    (hh : hubWon s fe.val = true) : Answers (.injectedFrame fe second) s fun t =>
      t.proof.tested = s.proof.tested + 1 ∧ t.gesso.trip = s.gesso.trip ∧ t.safety.alarms = s.safety.alarms := by
  have hst : s.proof.step = 0 := step_of_underWay hw
  have hrule : exec (.injectedFrame fe second) s = _ := congrArg (finish s) (if_pos (by rw [hw, hd, hh]; rfl))
  have hk := feedFrame_keeps hst fe.val (if second then 3 else 0)
  dsimp only at hrule
  generalize feedFrame fe.val (if second then 3 else 0) s = u at hrule hk
  simp only [runsAndAlarms, Prod.mk.injEq] at hk
  obtain ⟨hp, ht, ha⟩ := hk
  exact answers_of_inner _ hrule rfl (fun _ => rfl) ⟨congrArg (·.tested + 1) hp, ht, ha⟩

/-! ### HEADS -/

theorem headTimeout_marks {id : Fin 2048} {at_ : Nat} (ha : s.proof.stepAt = some at_) (hw : stepUnderWay s 7 = true)
    (hi : id.val ∈ s.proof.heads) (hp : at_ + fld (par s 0x8001) 4 12 * sec ≤ now s) : Answers (.headTimeout id) s fun t =>
      t.proof.heads = s.proof.heads.filter (fun i => i != id.val) ∧ t.proof.fails = s.proof.fails ++ [(id.val, 0)] ∧
      t.proof.step = 7 := by
  have hst : s.proof.step = 7 := step_of_underWay hw
  have hrule : exec (.headTimeout id) s = execHeadTimeout id s := rfl
  unfold execHeadTimeout at hrule
  dsimp only at hrule
  rw [ha] at hrule
  dsimp only at hrule
  rw [if_pos (by simp [hw, hi, passed, hp])] at hrule
  have hm : keep (parts [.clients, .store]) (markHead id.val 3 0 s) = keep (parts [.clients, .store]) s := by simp
  have hpr : (markHead id.val 3 0 s).proof = s.proof := kept_of_keep (·.proof) (fun _ => rfl) hm
  generalize markHead id.val 3 0 s = u at hrule hpr
  refine answers_of_inner _ hrule rfl (fun _ => rfl) ⟨?_, ?_, ?_⟩
  · exact congrArg (fun p : Proof => p.heads.filter fun i => i != id.val) hpr
  · exact congrArg (fun p : Proof => p.fails ++ [(id.val, (0 : Half))]) hpr
  · exact (congrArg (·.step) hpr).trans hst

/-! ### Ends -/

/-- With no step selected there is none to begin. -/
theorem proofGo_none {u : State} (h : u.proof.mask = 0) : ∀ l : List Nat, proofGo l u = u
  | [] => rfl
  | k :: r => by
    rw [proofGo, if_pos (by rw [h]; simp)]
    exact proofGo_none h r

theorem proofStepEnd_ends {m : ProofMeas} (hk : s.proof.step < 7) (hw : stepUnderWay s s.proof.step = true)
    (hc : stepComplete s = true) (hm : s.proof.mask = BitVec.ofNat 8 (2 ^ s.proof.step)) :
    Answers (.proofStepEnd m) s fun t =>
      t.proof.res = tblSet (fun _ => StepRes.blank) s.proof.res s.proof.step
        { out := if (stepItems s s.proof.step m).2.isEmpty then 0 else 1, tested := (stepItems s s.proof.step m).1
          failed := (stepItems s s.proof.step m).2.length } ∧
      t.proof.mask = 0 ∧ t.proof.stepAt = none ∧ t.proof.running = true := by
  have hrun : s.proof.running = true := by
    simp only [stepUnderWay, Bool.and_eq_true] at hw
    exact hw.1.1.1
  have hrule : exec (.proofStepEnd m) s = execProofStepEnd m s := rfl
  unfold execProofStepEnd at hrule
  dsimp only at hrule
  generalize hst : s.proof.step = k at *
  rw [if_pos (by rw [hw, hc, decide_eq_true (by omega)]; rfl), if_neg (by omega)] at hrule
  generalize (stepItems s k m).1 = tested at *
  generalize (stepItems s k m).2 = fails at *
  have hsw : keep (parts [.pads, .host]) (stepWork k m s) = keep (parts [.pads, .host]) s := by simp
  have hp : (stepWork k m s).proof = s.proof := kept_of_keep (·.proof) (fun _ => rfl) hsw
  generalize stepWork k m s = v at hrule hp
  have he := kept_of_keep (·.proof) (fun _ => rfl)
    (keep_endStep_ended k (if fails.isEmpty then 0 else 1) tested fails v)
  generalize endStep k (if fails.isEmpty then 0 else 1) tested fails v = u at hrule he
  have hmask : u.proof.mask = 0 := by
    refine (congrArg (·.mask) he).trans ?_
    change setBit v.proof.mask k false = 0
    rw [hp, hm]
    clear * - hk
    interval_cases k <;> decide
  rw [proofNext, proofGo_none hmask] at hrule
  refine answers_of_inner u hrule rfl (fun _ => rfl) ⟨?_, hmask, congrArg (·.stepAt) he, ?_⟩
  · refine (congrArg (·.res) he).trans ?_
    change tblSet _ v.proof.res k _ = _
    rw [hp]
  · exact (congrArg (·.running) he).trans ((congrArg (·.running) hp).trans hrun)

theorem proofClose_spec (a : Bool) (u : State) : (proofClose a u).proof.running = false ∧
    (proofClose a u).proof.runs = u.proof.runs + 1 ∧ (proofClose a u).host.op = u.host.op := by
  unfold proofClose
  exact ⟨(kept_of_inner (·.proof.running) (fun _ => rfl) (inner_logPush ..)).trans rfl,
    (kept_of_inner (·.proof.runs) (fun _ => rfl) (inner_logPush ..)).trans rfl,
    (kept_of_inner (·.host.op) (fun _ => rfl) (inner_logPush ..)).trans rfl⟩

theorem proofRunEnd_ends (hr : s.proof.running = true) (hm : s.proof.mask = 0) (ho : s.host.op.out = [])
    (hp : s.host.op.paused = false) (hs : opServed s = true) : Answers .proofRunEnd s fun t =>
      t.proof.running = false ∧ t.proof.runs = s.proof.runs + 1 ∧
      t.host.op.st = (if s.proof.fail = 0 then .done else .failed) ∧
      t.host.op.err = (if s.proof.fail = 0 then 0 else 0x0B) := by
  have hrule : exec .proofRunEnd s = finish s (runEnds s) := rfl
  unfold runEnds at hrule
  rw [if_pos (by simp [hr, hm, ho, hp, hs])] at hrule
  dsimp only at hrule
  obtain ⟨hrunning, hruns, hop⟩ := proofClose_spec false (opRes (proofRes s) s)
  generalize proofClose false (opRes (proofRes s) s) = u at hrule hrunning hruns hop
  by_cases hf : s.proof.fail = 0
  · rw [if_pos hf] at hrule ⊢
    rw [if_pos hf]
    exact answers_of_inner _ hrule (inner_of_bare (bare_opEnd ..)) (fun _ => rfl) ⟨hrunning, hruns, rfl, rfl⟩
  · rw [if_neg hf] at hrule ⊢
    rw [if_neg hf]
    exact answers_of_inner _ hrule (inner_of_bare (bare_opEnd ..)) (fun _ => rfl) ⟨hrunning, hruns, rfl, rfl⟩

/-! ### Event counters -/

theorem evtCfgApply_applies {c : Nat} (hs : Settled s) (hf : atFrame s = true) (hc : s.evt.changed = [c]) :
    Answers .evtCfgApply s fun t =>
      t.evt.cfg = tblSet (fun _ => parReset 0x8800) s.evt.cfg c (par s (0x8800 + c)) ∧
      t.evt.live = tblSet (fun _ => (0 : Word)) s.evt.live c 0 ∧ t.evt.changed = [] ∧ t.evt.last = BitVec.ofNat 6 c := by
  have hrule : exec .evtCfgApply s = _ := congrArg (finish s) (if_pos hf)
  rw [hc] at hrule
  exact answers_of_settled hrule hs ⟨rfl, rfl, rfl, rfl⟩

theorem evtClr_clears {at_ : Nat} {v : BitVec 64} (hs : Settled s) (hc : s.evt.clr = [(at_, v)]) (ht : tickPast s at_ = true) :
    Answers .evtClr s fun t =>
      t = { s with evt := { s.evt with clr := [], live := s.evt.live.filter fun q => !v.getLsbD q.1 } } := by
  have hrule : exec .evtClr s = execEvtClr s := rfl
  unfold execEvtClr at hrule
  dsimp only at hrule
  have h1 : (s.evt.clr.filter fun p => tickPast s p.1) = [(at_, v)] := by simp [hc, ht]
  have h2 : (s.evt.clr.filter fun p => !tickPast s p.1) = [] := by simp [hc, ht]
  rw [h1, h2] at hrule
  exact answers_of_settled hrule hs rfl

/-! ### The field ring -/

/-- A ball's record as it is taken, and a state's change in the ring's own record; the rest is reports. -/
theorem ballTakes_effect (b st : Nat) (d : Ball) (u : State) : ∃ f : Field,
    inner (ballTakes b st d u) = inner { u with field := f } ∧
    f.balls = tblSet (fun _ => Ball.blank) u.field.balls b { d with state := st } ∧ f.vfieldMv = u.field.vfieldMv ∧
    f.tjNow = u.field.tjNow ∧ f.tjPeak = u.field.tjPeak := by
  unfold ballTakes
  dsimp only
  split
  · exact ⟨_, rfl, rfl, rfl, rfl, rfl⟩
  · exact ⟨_, inner_setCause .., rfl, rfl, rfl, rfl⟩

theorem ballTakes_answers {c : Instr} {b st : Nat} {d : Ball} (e : exec c s = finish s (ballTakes b st d s)) :
    Answers c s fun t => t.field.balls = tblSet (fun _ => Ball.blank) s.field.balls b { d with state := st } := by
  obtain ⟨f, hf, hb, -⟩ := ballTakes_effect b st d s
  exact answers_of_inner _ e hf (fun _ => rfl) hb

theorem ballStateSet_holds {b : Fin 444} {c : Fin 8} (hp : tblGet (fun _ => 0) (ball s b.val).pres c.val = 100)
    (hh : (ball s b.val).holds.getLsbD c.val = false) : Answers (.ballStateSet b c) s fun t =>
      t.field.balls = tblSet (fun _ => Ball.blank) s.field.balls b.val { ball s b.val with
        holds := setBit (ball s b.val).holds c.val true
        state := lowestHeld (setBit (ball s b.val).holds c.val true) } :=
  have hrule : exec (.ballStateSet b c) s = _ := congrArg (finish s) (if_pos (by rw [hp, hh]; rfl))
  ballTakes_answers hrule

theorem ballStateClear_drops {b : Fin 444} {c : Fin 8} (ha : tblGet (fun _ => 0) (ball s b.val).abs_ c.val = 1000)
    (hh : (ball s b.val).holds.getLsbD c.val = true) : Answers (.ballStateClear b c) s fun t =>
      t.field.balls = tblSet (fun _ => Ball.blank) s.field.balls b.val { ball s b.val with
        holds := setBit (ball s b.val).holds c.val false
        state := lowestHeld (setBit (ball s b.val).holds c.val false) } :=
  have hrule : exec (.ballStateClear b c) s = _ := congrArg (finish s) (if_pos (by rw [ha, hh]; rfl))
  ballTakes_answers hrule

/-- The readings of the scan. -/
def scanReadings (u : State) : BitVec 16 × Half × Half := (u.field.vfieldMv, u.field.tjNow, u.field.tjPeak)

theorem scanReadings_ballTakes (b st : Nat) (d : Ball) (u : State) : scanReadings (ballTakes b st d u) = scanReadings u := by
  obtain ⟨f, hf, -, h1, h2, h3⟩ := ballTakes_effect b st d u
  refine (kept_of_inner scanReadings (fun _ => rfl) hf).trans ?_
  change (f.vfieldMv, f.tjNow, f.tjPeak) = _
  rw [h1, h2, h3]
  rfl

/-- A ball's part of the scan writes no reading of the scan. -/
theorem scanReadings_scanBall (vana : Nat) (scan : List (Nat × BallScan)) (u : State) (b : Nat) :
    scanReadings (scanBall vana scan u b) = scanReadings u := by
  unfold scanBall
  extract_lets d x d0 d1
  split
  · exact scanReadings_ballTakes ..
  · split
    · exact scanReadings_ballTakes ..
    · rfl

theorem ringScan_reads {scan : List (Nat × BallScan)} {vana vf : Nat} {tj : Half} (hv : s.power.vmain = true)
    (hr : ringScans s = true) : Answers (.ringScan scan vana vf tj) s fun t =>
      t.field.vfieldMv = BitVec.ofNat 16 vf ∧ t.field.tjNow = tj ∧
      t.field.tjPeak = (if s.field.tjPeak.toInt < tj.toInt then tj else s.field.tjPeak) := by
  have hrule : exec (.ringScan scan vana vf tj) s = execRingScan scan vana vf tj s := rfl
  unfold execRingScan at hrule
  rw [if_pos (by rw [hv, hr]; rfl)] at hrule
  have hk := foldl_kept scanReadings (scanReadings_scanBall vana scan) (List.range 444) { s with field := { s.field with
    vfieldMv := BitVec.ofNat 16 vf, tjNow := tj
    tjPeak := if s.field.tjPeak.toInt < tj.toInt then tj else s.field.tjPeak } }
  generalize (List.range 444).foldl (scanBall vana scan) _ = u at hrule hk
  simp only [scanReadings, Prod.mk.injEq] at hk
  exact answers_of_inner u hrule rfl (fun _ => rfl) hk

/-! ### Reversed pairs -/

section
variable {n : Fin 16} {mv : Nat} (hp : (par s 0xA800).getLsbD 1 = true) (ha : s.gesso.armed = true)
  (hr : s.gesso.rlBusy = false) (hv : s.power.st ≠ .vigil) (he : recEn s.gesso.record n.val = true)
  (hb : (gSen s n.val).band = .opened) (hi : s.proof.inj = []) (hd : probeDue s n.val = true)
  (hm : bandAt (countTh s.gesso.record n.val fun t => decide (t ≤ mv)) = .normal)
include hp ha hr hv he hb hi hd hm

/-- A probe that reads the swapped pair as NORMAL counts it. -/
theorem exec_reverseProbe : exec (.reverseProbe n mv) s = finish s
    (if tblGet (fun _ => 0) s.field.probeRun n.val + 1 = 3 then { s with field := { s.field with
        probeRun := tblSet (fun _ => 0) s.field.probeRun n.val 0
        probeAt := tblSet (fun _ => 0) s.field.probeAt n.val (now s)
        swapDue := setBit s.field.swapDue n.val true } }
    else { s with field := { s.field with
        probeRun := tblSet (fun _ => 0) s.field.probeRun n.val (tblGet (fun _ => 0) s.field.probeRun n.val + 1)
        probeAt := tblSet (fun _ => 0) s.field.probeAt n.val (now s) } }) := by
  have hrule : exec (.reverseProbe n mv) s = execReverseProbe n mv s := rfl
  unfold execReverseProbe at hrule
  dsimp only at hrule
  rw [hm, if_pos (Or.inl rfl), if_pos (by rw [hp, ha, hr, he, hb, hi, hd, decide_eq_true hv]; rfl)] at hrule
  rw [hrule]
  generalize tblGet (fun _ => 0) s.field.probeRun n.val + 1 = r
  generalize now s = at_
  split <;> rfl

theorem reverseProbe_swaps (h2 : tblGet (fun _ => 0) s.field.probeRun n.val = 2) : Answers (.reverseProbe n mv) s fun t =>
    t.field.swapDue = setBit s.field.swapDue n.val true ∧ t.gesso.swapped = s.gesso.swapped ∧
    t.field.probeRun = tblSet (fun _ => 0) s.field.probeRun n.val 0 ∧ t.gesso.trip = s.gesso.trip := by
  have hrule := exec_reverseProbe hp ha hr hv he hb hi hd hm
  rw [if_pos (by rw [h2])] at hrule
  exact answers_of_inner _ hrule rfl (fun _ => rfl) ⟨rfl, rfl, rfl, rfl⟩

theorem reverseProbe_counts (h2 : tblGet (fun _ => 0) s.field.probeRun n.val < 2) : Answers (.reverseProbe n mv) s fun t =>
    t.gesso.swapped = s.gesso.swapped ∧ t.field.swapDue = s.field.swapDue ∧
    t.field.probeRun = tblSet (fun _ => 0) s.field.probeRun n.val (tblGet (fun _ => 0) s.field.probeRun n.val + 1) := by
  have hrule := exec_reverseProbe hp ha hr hv he hb hi hd hm
  rw [if_neg (by omega)] at hrule
  exact answers_of_inner _ hrule rfl (fun _ => rfl) ⟨rfl, rfl, rfl⟩

end

end

/-- Settles O59, the model's own choices in logs 54, 57, 102 and 138 among its clauses: one lemma for each. -/
theorem proofAndField : Obligations.ProofAndField := fun _ =>
  ⟨proofScheduledStart_starts, fun _ => proofPostpone24h_warns, fun _ _ => sentinelInjection_injects,
    fun _ _ => injectedFrame_feeds, fun _ _ => headTimeout_marks, fun _ => proofStepEnd_ends, proofRunEnd_ends,
    fun _ => evtCfgApply_applies, fun _ _ => evtClr_clears, fun _ _ _ _ => ringScan_reads,
    fun _ _ => ⟨ballStateSet_holds, ballStateClear_drops⟩,
    fun _ _ hp ha hr hv he hb hi hd hm =>
      ⟨reverseProbe_swaps hp ha hr hv he hb hi hd hm, reverseProbe_counts hp ha hr hv he hb hi hd hm⟩⟩

end Sys2Proof.Machine
end

section
/-!
PROOFS. Accesses of the legacy bus and the events of the Plovul window.
-/

namespace Sys2Proof.Machine

theorem setWidth_half_byte (b : Byte) : (b.setWidth 16).setWidth 8 = b := by
  ext i hi
  simp

section
variable {s : State} {c : Instr} {off : Nat}

/-- On an open bus in the legacy mode a write is carried out at once. -/
theorem onLegacy_write (ho : BusOpen s) (hm : s.legacy.mode = true) (off : Nat) (b : Byte) :
    onLegacy (legacyWr off b) s = legacyWrite off b (evt 280 s) := by
  rw [onLegacy, if_pos hm, onBus_of_open ho (by simp [awaitsCopy, hm])]
  change (if s.legacy.mode = true then legacyWrite off ((b.setWidth 16).setWidth 8) (evt 280 s) else _) = _
  rw [if_pos hm, setWidth_half_byte]

/-- A read too. -/
theorem onLegacy_read (ho : BusOpen s) (hm : s.legacy.mode = true) (off : Nat) :
    onLegacy (legacyRd off) s = legacyRead off (evt 280 s) := by
  rw [onLegacy, if_pos hm, onBus_of_open ho (by simp [awaitsCopy, hm])]
  exact if_pos hm

/-- A write takes its row's effect on a state that agrees but for the count of accesses. -/
theorem exec_of_legacyWrite (ho : BusOpen s) (hm : s.legacy.mode = true) {b : Byte}
    (e : exec c s = finish s (onLegacy (legacyWr off b) s)) : exec c s = finish s (legacyWrite off b (evt 280 s)) := by
  rw [e, onLegacy_write ho hm]

theorem exec_of_legacyRead (ho : BusOpen s) (hm : s.legacy.mode = true)
    (e : exec c s = finish s (onLegacy (legacyRd off) s)) : exec c s = finish s (legacyRead off (evt 280 s)) := by
  rw [e, onLegacy_read ho hm]

section
variable (ho : BusOpen s) (hm : s.legacy.mode = true)
include ho hm

theorem legacyBadAddress_errs (write : Bool) (a : Fin 32) (b : Byte) : Answers (.legacyBadAddress write a b) s fun t =>
    t.host.busErr = true ∧ t.host.busErrCnt = s.host.busErrCnt + 1 ∧ (write = false → t.host.dOut = 0) ∧
    t.legacy.wlatch = s.legacy.wlatch ∧ t.params = s.params := by
  cases write with
  | true =>
    have hrule : exec (.legacyBadAddress true a b) s = _ := exec_of_legacyWrite ho hm rfl
    unfold legacyWrite at hrule
    dsimp only at hrule
    rw [if_pos (Nat.le_add_right 32 a.val)] at hrule
    exact answers_of_inner _ hrule (inner_setLstat ..) (fun _ => rfl) ⟨rfl, rfl, nofun, rfl, rfl⟩
  | false =>
    have hrule : exec (.legacyBadAddress false a b) s = _ := exec_of_legacyRead ho hm rfl
    rw [legacyRead, if_pos (Nat.le_add_right 32 a.val)] at hrule
    exact answers_of_inner _ hrule (inner_setLstat ..) (fun _ => rfl) ⟨rfl, rfl, fun _ => rfl, rfl, rfl⟩

/-! ### The shared byte latches -/

theorem legacyLoWrite_latches (a : Fin 32) (b : Byte) (p : Nat × Nat)
    (hp : p ∈ [(0x0E, 0), (0x12, 0), (0x14, 0), (0x15, 1), (0x16, 2)]) (ha : a.val = p.1) :
    Answers (.legacyLoWrite a b) s fun t => bare t = bare (latchByte p.2 b s) := by
  have hrule : exec (.legacyLoWrite a b) s = execLegacyLoWrite a b s := rfl
  unfold execLegacyLoWrite at hrule
  rw [onLegacy_write ho hm, ha] at hrule
  fin_cases hp <;> exact answers_of_bare hrule fun _ hb _ => hb

omit ho hm in
/-- A byte that takes the latch uses it, stale or not. -/
theorem inner_latchUsed (u : State) : inner (latchUsed u) = inner { u with legacy := { u.legacy with
    wfresh := false, cntStale := if u.legacy.wfresh then u.legacy.cntStale else u.legacy.cntStale + 1 } } := by
  unfold latchUsed
  cases u.legacy.wfresh
  · exact inner_setLstat ..
  · rfl

theorem legacyHiWrite_arg (b : Byte) : Answers (.legacyHiWrite 0x0F b) s fun t =>
    t.legacy.arg = b ++ s.legacy.wlatch.setWidth 8 ∧ t.legacy.wfresh = false ∧ t.legacy.paddr = s.legacy.paddr := by
  have hrule : exec (.legacyHiWrite 0x0F b) s = _ := exec_of_legacyWrite (off := 0x0F) ho hm (congrArg (finish s) (if_pos rfl))
  have hl := kept_of_inner (fun x => (x.legacy.wfresh, x.legacy.paddr)) (fun _ => rfl) (inner_latchUsed (evt 280 s))
  unfold legacyWrite at hrule
  dsimp only at hrule
  rw [if_neg (by decide)] at hrule
  generalize latchUsed (evt 280 s) = u at hrule hl
  exact answers_of_inner _ hrule rfl (fun _ => rfl) ⟨rfl, congrArg (·.1) hl, congrArg (·.2) hl⟩

theorem legacyHiWrite_paddr (b : Byte) : Answers (.legacyHiWrite 0x13 b) s fun t =>
    t.legacy.paddr = b ++ s.legacy.wlatch.setWidth 8 ∧ t.legacy.wfresh = false ∧ t.legacy.arg = s.legacy.arg := by
  have hrule : exec (.legacyHiWrite 0x13 b) s = _ := exec_of_legacyWrite (off := 0x13) ho hm (congrArg (finish s) (if_pos rfl))
  have hl := kept_of_inner (fun x => (x.legacy.wfresh, x.legacy.arg)) (fun _ => rfl) (inner_latchUsed (evt 280 s))
  unfold legacyWrite at hrule
  dsimp only at hrule
  rw [if_neg (by decide)] at hrule
  generalize latchUsed (evt 280 s) = u at hrule hl
  exact answers_of_inner _ hrule rfl (fun _ => rfl) ⟨rfl, congrArg (·.1) hl, congrArg (·.2) hl⟩

theorem legacyLoRead_arg : Answers (.legacyLoRead 0x0E) s fun t =>
    t.legacy.rlatch = s.legacy.arg.setWidth 32 ∧ t.host.dOut = (s.legacy.arg.setWidth 8).setWidth 16 := by
  have hrule : exec (.legacyLoRead 0x0E) s = _ := exec_of_legacyRead (off := 0x0E) ho hm (congrArg (finish s) (if_pos rfl))
  have hw : (s.legacy.arg.setWidth 32).setWidth 8 = s.legacy.arg.setWidth 8 := by
    ext i hi
    simp
  exact answers_of_inner _ hrule rfl (fun _ => rfl) ⟨rfl, congrArg (·.setWidth 16) hw⟩

theorem legacyHiRead_arg : Answers (.legacyHiRead 0x0F) s fun t =>
    t.host.dOut = (s.legacy.rlatch.extractLsb' 8 8).setWidth 16 ∧ t.legacy.rlatch = s.legacy.rlatch := by
  have hrule : exec (.legacyHiRead 0x0F) s = _ := exec_of_legacyRead (off := 0x0F) ho hm (congrArg (finish s) (if_pos rfl))
  exact answers_of_inner _ hrule rfl (fun _ => rfl) ⟨rfl, rfl⟩

/-! ### Fans -/

theorem lfanSpdWrite_queues (b : Byte) (hq : s.legacy.queue.length < 8) : Answers (.lfanSpdWrite b) s fun t =>
    t.legacy.queue = s.legacy.queue ++ [.fan s.legacy.fanSel (b.toNat * fld (fPar s 0x060 s.legacy.fanSel) 0 16 / 255)] ∧
    t.legacy.fanTgt = s.legacy.fanTgt := by
  have hrule : exec (.lfanSpdWrite b) s = _ := exec_of_legacyWrite ho hm rfl
  have hw : legacyWrite 0x09 b (evt 280 s) = _ := if_pos (c := (breakAck (evt 280 s)).legacy.queue.length < 8) hq
  rw [hw] at hrule
  exact answers_of_inner _ hrule rfl (fun _ => rfl) ⟨rfl, rfl⟩

theorem legacyQueueFullWait_waits (b : Byte) (hq : 8 ≤ s.legacy.queue.length) : Answers (.legacyQueueFullWait true b) s fun t =>
    t.legacy.waiting = some (.fan s.legacy.fanSel (b.toNat * fld (fPar s 0x060 s.legacy.fanSel) 0 16 / 255)) ∧
    t.host.nWaitLow = true ∧ t.legacy.queue = s.legacy.queue := by
  have hrule : exec (.legacyQueueFullWait true b) s = _ := exec_of_legacyWrite (off := 0x09) ho hm (congrArg (finish s) (if_pos hq))
  have hw : legacyWrite 0x09 b (evt 280 s) = _ := if_neg (c := (breakAck (evt 280 s)).legacy.queue.length < 8) (Nat.not_lt.mpr hq)
  rw [hw] at hrule
  exact answers_of_inner _ hrule (inner_evt ..) (fun _ => rfl) ⟨rfl, rfl, rfl⟩

/-! ### Alarms -/

theorem lalarmRead_takes : Answers .lalarmRead s fun t =>
    t.host.dOut = ((alarmStat s).setWidth 8).setWidth 16 ∧ t.legacy.token = s.safety.token ∧
    t.safety.alarms = s.safety.alarms := by
  have hrule : exec .lalarmRead s = _ := exec_of_legacyRead (off := 0x04) ho hm rfl
  exact answers_of_inner _ hrule rfl (fun _ => rfl) ⟨rfl, rfl, rfl⟩

theorem lackWrite_begins (ha : s.legacy.ackAt = none) : Answers (.lackWrite 0x5A) s fun t =>
    bare t = bare { s with legacy := { s.legacy with ackAt := some (now s, false) } } := by
  have hrule : exec (.lackWrite 0x5A) s = _ := exec_of_legacyWrite ho hm rfl
  have hw : legacyWrite 0x06 0x5A (evt 280 s) = { evt 280 s with legacy := { s.legacy with ackAt := some (now s, false) } } := by
    change legacyAck 0x5A (evt 280 s) = _
    unfold legacyAck
    rw [show (evt 280 s).legacy.ackAt = none from ha]
    exact if_pos rfl
  rw [hw] at hrule
  exact answers_of_bare hrule fun _ hb _ => hb

theorem lackWrite_completes (b : Byte) (at_ : Nat) (ha : s.legacy.ackAt = some (at_, false)) (ht : now s ≤ at_ + ms)
    (hb : b ∈ [0xA5, 0xC3, 0x96]) (hs : isStandby s = false) : Answers (.lackWrite b) s fun t =>
      t.safety.ackPending = some (b ++ s.legacy.token, tickNo s) ∧ t.legacy.ackAt = none := by
  have hrule : exec (.lackWrite b) s = _ := exec_of_legacyWrite ho hm rfl
  have hb' : (b == 0xA5 || b == 0xC3 || b == 0x96) = true := by simpa [or_assoc] using hb
  have hw : legacyWrite 0x06 b (evt 280 s) = { evt 280 s with
      legacy := { s.legacy with ackAt := none }
      safety := { s.safety with ackPending := some (b ++ s.legacy.token, tickNo s) } } := by
    change legacyAck b (evt 280 s) = _
    unfold legacyAck
    rw [show (evt 280 s).legacy.ackAt = some (at_, false) from ha]
    have hc : (!false && decide (now (evt 280 s) ≤ at_ + ms) && (b == 0xA5 || b == 0xC3 || b == 0x96)) = true := by
      rw [hb', show now (evt 280 s) = now s from rfl, decide_eq_true ht]
      rfl
    exact (if_pos hc).trans (if_neg (by rw [show isStandby (evt 280 s) = false from hs]; exact Bool.false_ne_true))
  rw [hw] at hrule
  exact answers_of_inner _ hrule rfl (fun _ => rfl) ⟨rfl, rfl⟩

/-! ### Clients -/

theorem lclCmd_queues (b : Byte)
    (hr : cmdReason s.legacy.client.toNat b.toNat (!admitted s s.legacy.client.toNat) s = 0) (hb : b.toNat ≠ 8)
    (hl : s.clients.queue.length < 512) : Answers (.lclCmd b) s fun t =>
      ∃ q : QCmd, t.clients.queue = s.clients.queue ++ [q] ∧ q.id = s.legacy.client.toNat ∧ q.code = b.toNat ∧
        q.zc = (!admitted s s.legacy.client.toNat) ∧ q.args = [s.legacy.arg.setWidth 32, 0, 0, 0] := by
  have hrule : exec (.lclCmd b) s = _ := exec_of_legacyWrite ho hm rfl
  have hw : legacyWrite 0x0D b (evt 280 s) = (cmdQueue s.legacy.client.toNat b.toNat ((cmdClass b.toNat).getD 0)
      (!admitted s s.legacy.client.toNat) [s.legacy.arg.setWidth 32, 0, 0, 0] (evt 280 s)).1 := by
    change (submitCmd s.legacy.client.toNat b.toNat (!admitted s s.legacy.client.toNat) [s.legacy.arg.setWidth 32, 0, 0, 0]
      (evt 280 s)).1 = _
    unfold submitCmd
    dsimp only
    rw [show cmdReason s.legacy.client.toNat b.toNat (!admitted s s.legacy.client.toNat) (evt 280 s) = 0 from hr]
    exact congrArg Prod.fst (if_pos hl)
  rw [hw] at hrule
  generalize hq : cmdQueue _ _ _ _ _ _ = p at hrule
  obtain ⟨x, ans, n⟩ := p
  obtain ⟨-, -, hqueued⟩ := cmdQueue_spec hb hq
  exact answers_of_inner _ hrule rfl (fun _ => rfl) hqueued

/-! ### Long operations -/

omit ho hm in
/-- An operation that the window asks for and that can start is accepted in its native form. -/
theorem legacyOpcmd_accepts {b : Byte} {n : Nat} {a : List Half} {u : State} (hb : b ≠ 0xFF) (hop : legacyOp b u = some (n, a))
    (hf : legacyOpFree n u = true) : legacyOpcmd b u =
      opAccept n a true { u with legacy := { u.legacy with opErr := false, opData := [] } } := by
  unfold legacyOpcmd
  rw [if_neg hb, hop]
  exact if_pos hf

omit ho hm in
theorem opAccept_legacy (n : Nat) (a : List Half) (b : Bool) (u : State) :
    (opAccept n a b u).host.op.legacy = b ∧ (opAccept n a b u).legacy.opErr = u.legacy.opErr := by
  unfold opAccept
  generalize tickNo u = k
  dsimp only
  split <;> exact ⟨rfl, rfl⟩

theorem legacyOp_starts {c : Instr} {b : Byte} {n : Nat} {a : List Half} (e : exec c s = finish s (onLegacy (legacyWr 0x19 b) s))
    (hb : b ≠ 0xFF) (hop : legacyOp b (evt 280 s) = some (n, a)) (hf : legacyOpFree n s = true) : Answers c s fun t =>
      t.host.op.st = .running ∧ t.host.op.code = n ∧ t.host.op.legacy = true ∧ t.legacy.opErr = false := by
  have hrule := exec_of_legacyWrite ho hm e
  have hw : legacyWrite 0x19 b (evt 280 s) = legacyOpcmd b (evt 280 s) := rfl
  rw [hw, legacyOpcmd_accepts hb hop hf] at hrule
  obtain ⟨hst, hcode, -⟩ := opAccept_spec n a true { evt 280 s with legacy := { s.legacy with opErr := false, opData := [] } }
  obtain ⟨hleg, herr⟩ := opAccept_legacy n a true { evt 280 s with legacy := { s.legacy with opErr := false, opData := [] } }
  exact answers_of_inner _ hrule rfl (fun _ => rfl) ⟨hst, hcode, hleg, herr⟩

theorem legacyOps_start : ∀ c ∈ [(Instr.legacyLogRead, 8), (.legacyProof, 7), (.clientScan, 9)], legacyOpFree c.2 s = true →
    Answers c.1 s fun t =>
      t.host.op.st = .running ∧ t.host.op.code = c.2 ∧ t.host.op.legacy = true ∧ t.legacy.opErr = false := by
  intro c hc hf
  simp only [List.mem_cons, List.not_mem_nil, or_false] at hc
  obtain rfl | rfl | rfl := hc
  · exact legacyOp_starts (b := 0x01) ho hm rfl (by decide) rfl hf
  · exact legacyOp_starts (b := 0x02) ho hm rfl (by decide) rfl hf
  · exact legacyOp_starts (b := 0x03) ho hm rfl (by decide) rfl hf

theorem legacyAbort_asks (hr : s.host.op.st = .running) (hs : isStandby s = false) : Answers .legacyAbort s fun t =>
    t.host.op.abortReq = true ∧ t.host.op.st = .running := by
  have hrule : exec .legacyAbort s = _ := exec_of_legacyWrite ho hm rfl
  have hw : legacyWrite 0x19 0xFF (evt 280 s) = opAbort (evt 280 s) := rfl
  rw [hw, opAbort, show isStandby (evt 280 s) = false from hs, if_neg (by decide)] at hrule
  dsimp only at hrule
  rw [if_pos (show (evt 280 s).host.op.st = .running from hr)] at hrule
  exact answers_of_inner _ hrule rfl (fun _ => rfl) ⟨rfl, hr⟩

theorem lopDataRead_takes : Answers .lopDataRead s fun t =>
    t.host.dOut = (s.legacy.opData.headD 0).setWidth 16 ∧ t.legacy.opData = s.legacy.opData.drop 1 := by
  have hrule : exec .lopDataRead s = _ := exec_of_legacyRead (off := 0x1B) ho hm rfl
  exact answers_of_inner _ hrule rfl (fun _ => rfl) ⟨rfl, rfl⟩

/-! ### Flags and causes -/

theorem lstatRead_clears (hs : Settled s) : Answers .lstatRead s fun t =>
    t.host.dOut = (lstatShown s).setWidth 16 ∧ t.legacy.stat = s.legacy.stat &&& ~~~lstatShown s ∧
    t.legacy.irqEn = s.legacy.irqEn := by
  have hrule : exec .lstatRead s = _ := exec_of_legacyRead (off := 0x02) ho hm rfl
  have hset : Settled (legacyRead 0x02 (evt 280 s)) := by
    obtain ⟨h, l, hx⟩ : ∃ h l, legacyRead 0x02 (evt 280 s) = { evt 280 s with host := h, legacy := l } := ⟨_, _, rfl⟩
    rw [hx]
    exact hs
  exact answers_of_settled hrule hset ⟨rfl, rfl, rfl⟩

theorem lwakeRead_takes (hs : Settled s) : Answers .lwakeRead s fun t =>
    t.host.dOut = ((wakeShown s).setWidth 8).setWidth 16 ∧ t.power.wake = s.power.wake &&& wakeFresh s := by
  have hrule : exec .lwakeRead s = _ := exec_of_legacyRead (off := 0x1E) ho hm rfl
  have hset : Settled (legacyRead 0x1E (evt 280 s)) := by
    obtain ⟨h, w, t, f, hx⟩ : ∃ h w t f, legacyRead 0x1E (evt 280 s) = { evt 280 s with
        host := h, power := { s.power with wake := w, wakeTimed := t, wakeFirst := f } } := ⟨_, _, _, _, rfl⟩
    rw [hx]
    exact hs
  exact answers_of_settled hrule hset ⟨rfl, rfl⟩

end

/-! ### Application and the acknowledge's time -/

theorem legacyRoom_of_none {u : State} (h : u.legacy.waiting = none) : legacyRoom u = u := by
  unfold legacyRoom
  rw [h]

/-- A fan's target that neither a standby nor the emergency refuses is applied and posted. -/
theorem inner_legacyPost_fan {f rpm : Nat} {u : State} (hs : isStandby u = false) (he : emergencyHolds u 2 f = false) :
    inner (legacyPost (.fan f rpm) u) = inner { u with legacy := { u.legacy with
      fanTgt := tblSet (fun _ => 0) u.legacy.fanTgt f rpm, lastApply := 1, cntApply := u.legacy.cntApply + 1 } } := by
  have hout : legacyOutcome (.fan f rpm) u = 1 := (if_neg (ne_true_of_eq_false hs)).trans (if_neg (ne_true_of_eq_false he))
  unfold legacyPost
  dsimp only
  rw [hout]
  exact inner_setLstat ..

theorem legacyApply_applies {f rpm : Nat} {rest : List LegWrite} (hm : s.legacy.mode = true) (hf : atFrame s = true)
    (hp : s.power.origin + 400 * ms ≤ now s) (hv : s.power.vmain = true) (hr : s.power.inReset = false)
    (hl : s.legacy.lastFrame ≠ some (frameNo s)) (hd : runDue s = s.canvas.run) (hsw : swapDue s = false)
    (hw : s.legacy.waiting = none) (hq : s.legacy.queue = .fan f rpm :: rest) (hs : isStandby s = false)
    (he : emergencyHolds s 2 f = false) : Answers .legacyApply s fun t =>
      t.legacy.fanTgt = tblSet (fun _ => 0) s.legacy.fanTgt f rpm ∧ t.legacy.queue = rest ∧ t.legacy.lastApply = 1 ∧
      t.legacy.cntApply = s.legacy.cntApply + 1 ∧ t.params = s.params := by
  have hframe : settleFrame s = s := by
    unfold settleFrame
    rw [settleRun_of_due hd]
    exact if_neg (by simp [hsw])
  have hrule : exec .legacyApply s = _ := congrArg (finish s) (if_pos (by simp [hm, hf, passed, hp, hv, hr, hl]))
  dsimp only at hrule
  rw [hframe] at hrule
  generalize hu : ({ s with legacy := { s.legacy with lastFrame := some (frameNo s) } } : State) = u at hrule
  have happ : legacyApply u = legacyRoom (legacyPost (.fan f rpm) { u with legacy := { u.legacy with queue := rest } }) := by
    subst hu
    unfold legacyApply
    dsimp only
    rw [hq]
  have hv' : ({ u with legacy := { u.legacy with queue := rest } } : State) = { s with legacy := { s.legacy with
      lastFrame := some (frameNo s), queue := rest } } := by
    subst hu
    rfl
  rw [happ, hv'] at hrule
  have hpost := inner_legacyPost_fan (f := f) (rpm := rpm) (u := { s with legacy := { s.legacy with
    lastFrame := some (frameNo s), queue := rest } }) hs he
  rw [legacyRoom_of_none ((kept_of_inner (·.legacy.waiting) (fun _ => rfl) hpost).trans hw)] at hrule
  exact answers_of_inner _ hrule hpost (fun _ => rfl) ⟨rfl, rfl, rfl, rfl, rfl⟩

theorem lackTimeout_fails {at_ : Nat} {broken : Bool} (ha : s.legacy.ackAt = some (at_, broken)) (ht : at_ + ms < now s) :
    Answers .lackTimeout s fun t =>
      bare t = bare { s with legacy := { s.legacy with ackAt := none, cntAckfail := s.legacy.cntAckfail + 1 } } := by
  have hrule : exec .lackTimeout s = execLackTimeout s := rfl
  unfold execLackTimeout at hrule
  rw [ha] at hrule
  dsimp only at hrule
  rw [if_pos ht] at hrule
  exact answers_of_bare hrule fun _ hb _ => hb.trans (bare_setLstat ..)

end

/-- Settles O60: one lemma for each access of the window, and one for each of its two events. -/
theorem legacyWindow : Obligations.LegacyWindow := fun _ =>
  ⟨fun ho hm => ⟨legacyBadAddress_errs ho hm, legacyLoWrite_latches ho hm,
      fun b => ⟨legacyHiWrite_arg ho hm b, legacyHiWrite_paddr ho hm b⟩, legacyLoRead_arg ho hm, legacyHiRead_arg ho hm,
      lfanSpdWrite_queues ho hm, legacyQueueFullWait_waits ho hm, lalarmRead_takes ho hm, lackWrite_begins ho hm,
      lackWrite_completes ho hm, lclCmd_queues ho hm, legacyOps_start ho hm, legacyAbort_asks ho hm, lopDataRead_takes ho hm,
      lstatRead_clears ho hm, lwakeRead_takes ho hm⟩,
    fun _ _ _ => legacyApply_applies, fun _ _ => lackTimeout_fails⟩

end Sys2Proof.Machine
end
